-- ==== Sys2Proof/Word.lean ====
section
/-! DEFINITION. The word types of the module: bytes, 32-bit lanes, digests, and the plainest helpers over lists of bytes. -/

namespace Sys2Proof

/-- One byte. -/
abbrev Byte := BitVec 8

/-- One 32-bit lane or register word. -/
abbrev Word := BitVec 32

end Sys2Proof
end

