-- ==== Sys2Proof/Frames.lean ====
section
/-! DEFINITION. The records that commands carry as operands: who asks over a dictionary path, what a sensor pass or a rail
check read, and the headers of frames and units. Each field names the spec's field; none of these records is state. -/

namespace Sys2Proof

/-- Who sends a dictionary request (R503): path code 1 CAN FD, 2 management Ethernet, 3 PCIe window; `id` is the node-ID,
the `SESSION` or the function number; `addr` and `port` are an Ethernet partner's source address and UDP port, else 0. -/
structure Requester where
  path : Nat
  id   : Nat
  addr : Nat
  port : Nat
  deriving DecidableEq, Repr

/-- What the window checks of R549 read: the 32 voltage monitors in mV, whether the score PLL has locked, and the event
that met the running sequence under R550, if any: 0 none, 1 `RESET`, 2 an undervoltage before step 1's check, 3 an
undervoltage after it, 4 a leak. `arg` is the lowest `INPUT_MV` of an undervoltage or the leak sensors of a leak, and
`step` the last step begun before the event. -/
structure RailCheck where
  monitors  : List Nat
  pllLocked : Bool
  event     : Nat
  arg       : Nat
  step      : Nat
  deriving DecidableEq, Repr

/-- What a dictionary write by any path meets outside the module: whether a persistent value reached flash (R504), and what the window
checks read where the write is a `POWER_UP`. -/
structure DictEnv where
  written : Bool
  check   : RailCheck
  deriving DecidableEq, Repr

/-- A PTP message as received on a port (R317): version fields, domain, type (0 Sync, 1 Delay_Req, 2 Pdelay_Req, 3 Pdelay_Resp,
8 Follow_Up, 9 Delay_Resp, 10 Pdelay_Resp_Follow_Up, 11 Announce), its transport (6 or 4 for UDP over IPv6 or IPv4), the
dataset of an Announce in comparison order (priority1, clockClass, accuracy, variance, priority2, identity), the offset that
a completed Sync gives in ps, and whether the exchange is complete and usable. -/
structure PtpMessage where
  port         : Nat
  version      : Nat
  minorVersion : Nat
  transport    : Nat
  domain       : Nat
  kind         : Nat
  dataset      : List Nat
  offset       : Int
  usable       : Bool
  deriving DecidableEq, Repr

/-- A word that met an error when an operation read it (R92, R93, R220, R571). `place`: 0 a bank row (`block`, `unit` the bank,
`row` 0 to 767 or 768 + i for spare row Si), 1 a Mica section (`unit` the quarter, `row` the section), 2 the head entry of a
block queue (`unit` the queue), 3 an accumulator row (`row`), 4 a 64 B word of a Square buffer or Bedrock (`row` its address).
`sensed`: none where one symbol was corrected, else the bytes as sensed, of places 0 to 3 with the three check bytes after them,
which the code of R91 judges. -/
structure ReadError where
  place  : Nat
  block  : Nat
  unit   : Nat
  row    : Nat
  sensed : Option (List Byte)
  deriving DecidableEq, Repr

/-- What an operation's accesses met: the errors of the words it read, and the program writes committed to a row in the same
cycle as one of its own (R101): the row's device address and the mask of the bytes those wrote. -/
structure Touch where
  errors : List ReadError
  met    : List (Nat × Nat)
  deriving DecidableEq, Repr

/-- A received frame (R352, R353): its port (8: inside the Square), its IP source address and UDP destination port (0: it is no
UDP frame), its Boulevard header as a number, its body, whether FCS and CRC-32C pass, whether it carries a CE mark, and whether
a `REJECT` for the flow it names has left within the last ms (R357). -/
structure FrameIn where
  port     : Nat
  source   : Nat
  dport    : Nat
  header   : Nat
  body     : List Byte
  crcOk    : Bool
  ce       : Bool
  rejected : Bool
  deriving DecidableEq, Repr

/-- A beat control frame (R321): the port it came by, its IP source address, and its 64 B body as a number (R322, R323). -/
structure BeatFrame where
  port   : Nat
  source : Nat
  body   : Nat
  deriving DecidableEq, Repr

/-- A unit that has landed on an engine's receive flow: the flow, its 64 B header as a number, the bytes after it, and the poison
map of the whole unit (R354, R403, R433). -/
structure EngineUnit where
  flow   : Nat
  header : Nat
  body   : List Byte
  map    : Nat
  deriving DecidableEq, Repr

end Sys2Proof
end

