-- ==== Sys2Proof/Syntax.lean ====
section
/-! DEFINITION. The commands of the block: one constructor per row of spec/opcode_table.json, in the table's order, with the
row's operands. A row's rule stands in its docstring. -/

namespace Sys2Proof

/-- The commands (spec/opcode_table.json; spec/95_what_each_step_holds.md: each whole and indivisible). -/
inductive Instr where
  /-- POWER_GOOD (R541): Garnet's supply has held its range for 10 ms; the straps are sampled, the boot ROM starts the committed slot and the module reaches STANDBY. -/
  | powerGood (samples : List (List Nat)) (committedOk otherOk regionOk : Bool)
  /-- PRESENCE_ASSERT (R600): The presence contact mates; after 100 ms of voltage qualification the input switch closes and charges the bulk capacitance. -/
  | presenceAssert (bus400 bus12 : Nat)
  /-- PRESENCE_DEASSERT (R604): The presence contact breaks; the input switch and the 12 V path open before any power contact separates. -/
  | presenceDeassert
  /-- INPUT_SWITCH_TRIP (R600): The input switch opens on overvoltage or overcurrent and the module sees an input undervoltage. -/
  | inputSwitchTrip (cause : Nat)
  /-- SUPPLY_LOSS (R43): Both supplies are absent and the module goes to OFF. -/
  | supplyLoss
  /-- INPUT_UNDERVOLTAGE (R43): 400 V stays below 360 V for 1 ms; the module takes the fatal actions, switches off its rails and reaches STANDBY. -/
  | inputUndervoltage (lowest : Nat)
  /-- AUTO_SURVEY (R44): 100 ms after STANDBY is entered with AUTO_SURVEY 1 and its conditions met, the module requests POWER_UP by itself. -/
  | autoSurvey (check : RailCheck)
  /-- POWER_UP (R548): The STATE_REQUEST command enables the rails in eight steps and enters SURVEY. -/
  | powerUp (r : Requester) (check : RailCheck)
  /-- MICROCODE_LOADED (R554): The engine microcode finishes loading, which starts port bring-up and beat acquisition. -/
  | microcodeLoaded
  /-- BLOCK_CHECK (R555): Once microcode and health map are ready, the Zoning engine powers, zeroes and reads every treated block, district by district. -/
  | blockCheck (bad : List Nat) (touch : Touch)
  /-- SURVEY_DONE (R556): All waited survey items are done, or 6 s have passed, and the module enters READY. -/
  | surveyDone (limit : Bool)
  /-- BOOT_SUBMIT (R560): The host submits a PCIe microcode image; Garnet verifies it and loads it. -/
  | bootSubmit
  /-- BOOT_IMAGE_TIMEOUT (R560): No image has been accepted 2.5 s after SURVEY began, so the committed slot's microcode is loaded. -/
  | bootImageTimeout
  /-- PCIE_LINK_UP (R561): The PCIe endpoint completes link training and serves BAR0 within 100 ms. -/
  | pcieLinkUp
  /-- LOAD (R134): The STATE_REQUEST command checks the stream image in eight steps, binds it through Zoning and enters LOADED or stays in READY. -/
  | loadImage (r : Requester)
  /-- START (R36): The START request is accepted and waits for START_BEAT. -/
  | start (r : Requester)
  /-- START_AT_BEAT (R147): START_BEAT arrives; the context latches BEAT_ORIGIN, resets its run state and issues its first bundle. -/
  | startAtBeat
  /-- HOLD (R40): The HOLD request is accepted and waits for HOLD_BEAT. -/
  | hold (r : Requester)
  /-- HOLD_AT_BEAT (R40): At HOLD_BEAT the sequencer stops at the first bundle boundary and the module enters HELD once issued operations complete. -/
  | holdAtBeat
  /-- RESUME (R151): The RESUME request continues the stream at START_BEAT and adds the held beats to BEAT_SKIP. -/
  | resume (r : Requester)
  /-- UNLOAD (R41): The program, bank contents, queues and bindings are discarded and every flow of the program is closed. -/
  | unload (r : Requester)
  /-- POWER_DOWN (R552): The rails are switched off in reverse order and the module reaches STANDBY. -/
  | powerDown (r : Requester)
  /-- RESET (R38): Any pending request is cancelled, both slabs are reset and the module passes to STANDBY. -/
  | resetRequest (r : Requester)
  /-- FATAL_FAULT (R567): A fatal cause stops every context, resets both slabs, records the cause, closes flows and enters FAULTED. -/
  | fatalFault (causes : List (Nat × Nat))
  /-- FAULT_FOLLOWUP_RESET (R565): 100 ms after a leak, rail or overtemperature fault, Garnet performs RESET itself. -/
  | faultFollowupReset
  /-- FAULT_CAUSE_CLEAR (R569): A write of 0 to FAULT_CAUSE clears the fault record and leaves the state unchanged. -/
  | faultCauseClear (r : Requester)
  /-- NOP (R142): The control operation does nothing and may offer fill slots. -/
  | nop (c cls slots : Nat) (touch : Touch)
  /-- DELAY (R142): The bundle is followed by n empty cycles, which may form a fillable run. -/
  | delay (c n cls slots : Nat) (touch : Touch)
  /-- WAIT_BEAT (R149): The bundle issues in its target cycle of the named beat plus BEAT_SKIP. -/
  | waitBeat (c mode key delta offset since : Nat)
  /-- LATE_BEAT (R150): A WAIT_BEAT misses its target cycle; under the hold policy BEAT_SKIP rises, and under the fault policy the module faults. -/
  | lateBeat (c mode delta missed : Nat)
  /-- LOOP (R143): The body up to end is run n times. -/
  | loopOp (c n last : Nat)
  /-- JUMP (R142): The next bundle issued is the target. -/
  | jump (c target : Nat)
  /-- BRANCH (R144): Control goes to the target when the condition holds. -/
  | branch (c negate cond target : Nat)
  /-- FENCE (R146): Issue is held until every earlier fixed-latency operation completes. -/
  | fence (c : Nat)
  /-- OVERLAY_LOAD (R130): An overlay page is copied from Bedrock into a program store page, issuable 544 cycles later. -/
  | overlayLoad (c page store : Nat)
  /-- BACKLOG_PUSH (R163): A fill record is appended to the context's backlog. -/
  | backlogPush (c cls length address : Nat)
  /-- CHECKPOINT_AT (R418): A SERVICE request asks Cairn for a checkpoint at the named beat. -/
  | checkpointAt (c delta arg : Nat)
  /-- EVAC_WINDOW (R293): A SERVICE request declares an evacuation window of SERVICE_ARG units. -/
  | evacWindow (c delta arg : Nat)
  /-- DEADLINE_ARM (R466): A SERVICE request arms or disarms the deadline monitor at the named beat. -/
  | deadlineArm (c delta arg : Nat)
  /-- END_STREAM (R147): The program ends, the module enters LOADED and the STREAM_END notice is posted. -/
  | endStream (c : Nat)
  /-- MM_ACC (R182): An array operation multiplies B steps against H rows of A into the accumulators. -/
  | mmAcc (c sel pred fmtA fmtB steps h start transA aSel aOffset bSel bRow scale acc postinc : Nat) (touch : Touch)
  /-- ACC_STORE (R110): An accumulator half-row is written as FP32 to two banks. -/
  | accStore (c sel pred acc half bank row postinc : Nat) (touch : Touch)
  /-- MICA_FILL (R186): A region operation loads a Mica quarter from the block's own banks. -/
  | micaFill (c sel pred quarter mode fmt reads dest row postinc : Nat) (touch : Touch)
  /-- SET_BASE (R192): A base register or SR_INDEX is set or advanced. -/
  | setBase (c sel pred target mode va imm : Nat)
  /-- VADD (R188): Vector FP32 add. -/
  | vadd (c sel pred vd va vb : Nat)
  /-- VSUB (R188): Vector FP32 subtract. -/
  | vsub (c sel pred vd va vb : Nat)
  /-- VMUL (R188): Vector FP32 multiply. -/
  | vmul (c sel pred vd va vb : Nat)
  /-- VFMA (R188): Vector fused multiply-add with one rounding. -/
  | vfma (c sel pred vd va vb vc : Nat)
  /-- VMIN (R79): Vector minimum. -/
  | vmin (c sel pred vd va vb : Nat)
  /-- VMAX (R79): Vector maximum. -/
  | vmax (c sel pred vd va vb : Nat)
  /-- VCMP (R188): Vector compare writing 1.0 or 0.0. -/
  | vcmp (c sel pred vd va vb kind : Nat)
  /-- VSEL (R188): Vector select by the VC lane. -/
  | vsel (c sel pred vd va vb vc : Nat)
  /-- VIADD (R188): Vector INT32 add. -/
  | viadd (c sel pred vd va vb : Nat)
  /-- VAND (R188): Vector bitwise AND. -/
  | vand (c sel pred vd va vb : Nat)
  /-- VOR (R188): Vector bitwise OR. -/
  | vor (c sel pred vd va vb : Nat)
  /-- VXOR (R188): Vector bitwise XOR. -/
  | vxor (c sel pred vd va vb : Nat)
  /-- VSHIFT (R188): Vector INT32 shift. -/
  | vshift (c sel pred vd va vb kind imm amount : Nat)
  /-- VCVT (R189): Vector format conversion with the named rounding and overflow modes. -/
  | vcvt (c sel pred vd va src dst round ovf adv tensor : Nat)
  /-- VQUANT (R58): Quantises FP32 lanes into MX blocks or a tile row with scales. -/
  | vquant (c sel pred vd va vb dst round adv tensor : Nat)
  /-- VPERM (R188): Vector lane permutation. -/
  | vperm (c sel pred vd va kind arg : Nat)
  /-- VEXP2 (R80): Vector base-2 exponential. -/
  | vexp2 (c sel pred vd va : Nat)
  /-- VLOG2 (R80): Vector base-2 logarithm. -/
  | vlog2 (c sel pred vd va : Nat)
  /-- VRCP (R80): Vector reciprocal. -/
  | vrcp (c sel pred vd va : Nat)
  /-- VRSQRT (R80): Vector reciprocal square root. -/
  | vrsqrt (c sel pred vd va : Nat)
  /-- VSQRT (R80): Vector square root. -/
  | vsqrt (c sel pred vd va : Nat)
  /-- VTANH (R80): Vector hyperbolic tangent. -/
  | vtanh (c sel pred vd va : Nat)
  /-- VREDUCE_SUM (R117): The 64 lanes are summed in a fixed tree into lane 0. -/
  | vreduceSum (c sel pred vd va : Nat)
  /-- VREDUCE_MAX (R117): The maximum of the 64 lanes is taken into lane 0. -/
  | vreduceMax (c sel pred vd va : Nat)
  /-- VLOAD (R191): A bank row is loaded into a vector register. -/
  | vload (c sel pred vd width bank half row postinc : Nat) (touch : Touch)
  /-- VSTORE (R191): A vector register is stored to a bank, optionally with scale bytes. -/
  | vstore (c sel pred vd size bank offset row scales sbank srow sbyte postinc : Nat) (touch : Touch)
  /-- VACC_READ (R191): An accumulator row is read into a vector register. -/
  | vaccRead (c sel pred vd row half : Nat) (touch : Touch)
  /-- VPRED (R192): A predicate bit is set from any or all lanes of a register. -/
  | vpred (c sel pred dest va mode invert : Nat)
  /-- FLAGS_READ (R82): The block copy of the arithmetic flags is read into a register. -/
  | flagsRead (c sel pred vd : Nat)
  /-- FLAGS_CLEAR (R82): The masked bits of the block flag copy are cleared. -/
  | flagsClear (c sel pred mask : Nat)
  /-- MICA_LOAD (R186): A mover loads a Mica quarter from banks. -/
  | micaLoad (c slot standby sel pred quarter mode fmt reads dest row postinc : Nat) (touch : Touch)
  /-- COPY_BANK (R199): Rows are copied between banks of one block. -/
  | copyBank (c slot standby sel pred sbank srow dbank drow rows postinc : Nat) (touch : Touch)
  /-- COPY_AVENUE (R200): 64 B beats are pushed to or pulled from a remote block within a fixed budget. -/
  | copyAvenue (c slot standby sel pred dir delta lbank lrow rbank rrow beats lat postinc : Nat) (touch : Touch)
  /-- COPY_SQUARE (R199): Rows move between banks and a Square buffer. -/
  | copySquare (c slot standby sel pred dir bank row buffer offset rows postinc : Nat) (touch : Touch)
  /-- COPY_BEDROCK (R199): Rows move between banks and Bedrock. -/
  | copyBedrock (c slot standby sel pred dir bank row buffer offset rows postinc : Nat) (touch : Touch)
  /-- COPY_SB (R199): Data moves between a Square buffer and Bedrock. -/
  | copySb (c slot standby dir sq sqOffset br brOffset length : Nat) (touch : Touch)
  /-- STASH_PAGE_RELEASE (R257): An overflow page whose read count is reached is released after the completion of the reading operation. -/
  | stashPageRelease (c : Nat)
  /-- NET_SEND (R202): Once its flow holds credit, a chunk is read and sent on the flow. -/
  | netSend (c f buffer offset length last : Nat) (touch : Touch)
  /-- NET_RECV (R202): Issues once every unit of the chunk has landed. -/
  | netRecv (c f buffer offset length last : Nat)
  /-- PLAZA_SEND (R228): Contributions from the selected blocks are reserved and accepted into Plaza slots. -/
  | plazaSend (c plaza sel pred slotBase bank row half sum : Nat) (touch : Touch)
  /-- PLAZA_DRAIN (R230): The present slots are combined in slot order and the result is written to the bank. -/
  | plazaDrain (c plaza sel pred bank row half sum : Nat) (touch : Touch)
  /-- Q_SEND (R218): An entry is reserved in each target queue and the payload sent. -/
  | qSend (c sel pred q delta vreg part fmt last : Nat)
  /-- Q_RECV (R220): The head entry is taken into lanes of a register. -/
  | qRecv (c sel pred q vreg part : Nat) (touch : Touch)
  /-- Q_CLOSE (R221): The queue is closed to further sends. -/
  | qClose (c sel pred q : Nat)
  /-- ADMIT_FWD (R244): The forward queue's head record is admitted into a descriptor slot, mapping its overflow pages. -/
  | admitFwd (c d : Nat) (sels : List Nat)
  /-- ADMIT_GRAD (R245): The gradient queue's head record is admitted after its ids are compared with the slot. -/
  | admitGrad (c d : Nat) (sels : List Nat)
  /-- WAIT_TIMEOUT (R159): A named wait has lasted more than WAIT_LIMIT_BEATS beats and is recorded. -/
  | waitTimeout (c : Nat)
  /-- ROW_MIGRATION (R97): A row that reaches the threshold or senses uncorrectable is copied to a spare row, which becomes IN_USE. -/
  | rowMigration (p bank spare : Nat) (touch : Touch)
  /-- PATROL_SCRUB (R99): The scrubber reads every row once per pass and writes corrected rows back. -/
  | patrolScrub (touch : Touch)
  /-- EVAC_REQUEST (R303): A write queues a bound block for evacuation. -/
  | evacRequest (r : Requester) (value : Nat)
  /-- EVAC_PREPARE (R296): The spare is powered, the source is mirrored into it with dual commits, and the block becomes armed. -/
  | evacPrepare (touch : Touch)
  /-- EVAC_SWITCH (R297): In an open window, transient state is copied and the binding is switched to the spare. -/
  | evacSwitch (c : Nat)
  /-- MAP_OUT (R300): A write sets the block MAPPED_OUT. -/
  | mapOut (r : Requester) (value : Nat)
  /-- RETURN_TO_SERVICE (R300): A write sets the block HEALTHY. -/
  | returnToService (r : Requester) (value : Nat)
  /-- ADMIT_PUSH_FWD (R241): The host pushes the forward staging record into the forward queue. -/
  | admitPushFwd (c : Nat)
  /-- ADMIT_PUSH_GRAD (R241): The host pushes the gradient staging record into the gradient queue. -/
  | admitPushGrad (c : Nat)
  /-- BEAT_EDGE (R308): At each edge Quartz advances the beat number, and the beat-sampled entries are copied. -/
  | beatEdge (cycles : Nat)
  /-- BEAT_SOURCE_WRITE (R314): A write in READY discards the schedule and restarts acquisition under the new source. -/
  | beatSourceWrite (r : Requester) (value : Nat)
  /-- ACQUISITION_START (R316): Once the microcode is loaded and the source is present, Quartz enters ACQUIRING; a master or free-run module starts its schedule. -/
  | acquisitionStart (now : Nat) (present settled near : Bool)
  /-- BEAT_LOCK (R314): After 16 measurements within ±10 ns, a module holding a schedule enters LOCKED. -/
  | beatLock
  /-- PTP_MESSAGE (R317): A PTP message is received and used for time transfer. -/
  | ptpMessage (m : PtpMessage)
  /-- TIME_SOURCE_LOST (R314): The time source is lost while LOCKED and the module enters HOLDOVER. -/
  | timeSourceLost
  /-- HOLDOVER_EXPIRY (R314): After 1 s in HOLDOVER the module enters UNALIGNED. -/
  | holdoverExpiry
  /-- STRETCH_REQUEST_FRAME (R325): A valid stretch request is received from a child. -/
  | stretchRequestFrame (body : BeatFrame) (now : Nat)
  /-- STRETCH_REQUEST_SEND (R325): The forwarded request is sent to the parent every 100 ms or on a change. -/
  | stretchRequestSend (now : Nat)
  /-- SCHEDULE_ISSUE (R326): The master's target period changes and it issues a new schedule. -/
  | scheduleIssue (now : Nat) (stayedLow : Bool)
  /-- SCHEDULE_ANNOUNCE (R328): A newer announce is validated and applied from beat M. -/
  | scheduleAnnounce (body : BeatFrame) (now : Nat)
  /-- ANNOUNCE_FORWARD (R327): Announces are resent to children three times 20 µs apart, and the held schedule every 100 ms. -/
  | announceForward
  /-- THERMAL_EVALUATION (R330): Every 10 ms Garnet raises or lowers the thermal stretch step. -/
  | thermalEvaluation
  /-- MASTER_LOST (R332): After 1 s without an announce the follower sets MASTER_LOST. -/
  | masterLost
  /-- PROMOTE_MASTER (R332): A write of 1 makes the follower continue its schedule as master. -/
  | promoteMaster (r : Requester) (value : Nat)
  /-- CAGE_INSERT (R345): A cage reports a module; its declared power is read before it leaves low power. -/
  | cageInsert (p media phy declared : Nat) (usable : Bool)
  /-- CAGE_REMOVE (R345): The cage's presence shows a removal. -/
  | cageRemove (p : Nat)
  /-- CAGE_POWER_SAMPLE (R345): Each 1 ms sample of the cage supply; over budget, the cage loses power. -/
  | cagePowerSample (p average : Nat)
  /-- CAGE_OVERCURRENT (R608): The cage switch opens on 7 A for 50 µs. -/
  | cageOvercurrent (p : Nat)
  /-- LINK_UP (R348): The PCS aligns and FEC locks; delay is measured, then capability and identity are exchanged. -/
  | linkUp (p : Nat) (delay : Option (List Nat)) (rx : Nat)
  /-- IDENTITY_RECHECK (R591): A port held for no answer repeats its identity check every 1 s. -/
  | identityRecheck (p : Nat)
  /-- LINK_DOWN (R373): A port loses its link; its unacknowledged frames are retransmitted on other paths and bring-up restarts. -/
  | linkDown (p : Nat)
  /-- CAPABILITY_FRAME (R350): A partner's capability frame is received and the agreed set is formed. -/
  | capabilityFrame (p body : Nat)
  /-- CAPABILITY_TIMEOUT (R351): No capability frame arrives within 100 ms and the port enters SWITCHED. -/
  | capabilityTimeout (p : Nat)
  /-- DATA_FRAME (R355): A DATA frame is checked and its unit landed by index. -/
  | dataFrame (frame : FrameIn)
  /-- ACK_FRAME (R366): An ACK frame frees store units, updates the credit limit and may trigger retransmission. -/
  | ackFrame (frame : FrameIn)
  /-- ACK_SEND (R369): The receiver sends an ACK on landing counts, gaps, credit rises or its 1 µs and 100 µs timers. -/
  | ackSend (f : Nat)
  /-- RETRANSMIT_TIMEOUT (R370): RTO_US passes without acknowledgement and the unit is retransmitted. -/
  | retransmitTimeout (f u : Nat)
  /-- FLOW_BREAK (R371): A unit stays unacknowledged for FLOW_BREAK_US and the flow becomes BROKEN. -/
  | flowBreak (f : Nat)
  /-- OPEN_FRAME (R363): An OPEN frame is received and answered with the first ACK or with a REJECT. -/
  | openFrame (frame : FrameIn)
  /-- OPEN_RETRY (R363): An OPENING send flow resends OPEN every 1 ms. -/
  | openRetry (f : Nat)
  /-- REJECT_FRAME (R363): A REJECT frame is received and counted. -/
  | rejectFrame (frame : FrameIn)
  /-- CLOSE_FRAME (R365): A CLOSE frame puts an open flow into PEER_CLOSED. -/
  | closeFrame (frame : FrameIn)
  /-- PARK_FRAME (R372): A PARK frame puts the flow into PARKED. -/
  | parkFrame (frame : FrameIn)
  /-- RESUME_FRAME (R372): A RESUME frame returns the flow to OPEN and retransmission starts from SEQ. -/
  | resumeFrame (frame : FrameIn)
  /-- ADDRESS_RESOLUTION (R357): ARP or IPv6 Neighbor Solicitation for the module's addresses is answered. -/
  | addressResolution (p address : Nat)
  /-- FLOW_READ (R362): The selected flow entry is copied into the data registers. -/
  | flowRead (fn : Nat)
  /-- FLOW_WRITE (R362): The data registers are copied into the flow entry's RW fields. -/
  | flowWrite (fn : Nat)
  /-- FLOW_OPEN (R363): A receive flow opens at once, and a send flow enters OPENING. -/
  | flowOpen (fn : Nat)
  /-- FLOW_CLOSE (R365): The flow is closed or begins closing. -/
  | flowClose (fn : Nat)
  /-- PEER_READ (R362): The selected peer entry is copied into the data registers. -/
  | peerRead (fn : Nat)
  /-- PEER_WRITE (R358): The data registers are written into the peer entry. -/
  | peerWrite (fn : Nat)
  /-- RDMA_CREDIT_POLL (R377): Every 2 µs the host count is read with RDMA READ to refresh credit. -/
  | rdmaCreditPoll (f : Nat)
  /-- RDMA_RESPONSE (R378): An RDMA acknowledgement or READ response completes units. -/
  | rdmaResponse (f kind seq value : Nat) (bytes : List Byte)
  /-- CONGESTION_NOTIFICATION (R376): A CNP halves the queue pair's rate, which recovers over time. -/
  | congestionNotification (f : Nat)
  /-- FORM (R389): The set is checked locally and enters FORMING, gathering formation records. -/
  | form (r : Requester) (n : Nat)
  /-- DISBAND (R390): The set returns to UNFORMED, aborting any step and closing its flows. -/
  | disband (r : Requester) (n : Nat)
  /-- FORMATION_RECORD (R389): A member's formation record arrives and is compared; the set is formed or refused. -/
  | formationRecord (n m generation digest members algorithm group policy veto headroom : Nat)
  /-- FORMATION_RETRY (R389): Missing members are asked again every 1 s. -/
  | formationRetry (n : Nat)
  /-- REDUCE (R393): A REDUCE request arrives, is checked and starts the step. -/
  | reduce (f record : Nat)
  /-- GATHER (R414): A GATHER request distributes updated shards to every member. -/
  | gather (f record : Nat)
  /-- PARTIAL_UNIT (R403): A partner's partial-data unit is checked and combined. -/
  | partialUnit (unit : EngineUnit)
  /-- RECORDS_UNIT (R411): Shard records are received and totalled. -/
  | recordsUnit (unit : EngineUnit)
  /-- SCALES_UNIT (R413): Next-step scales are received and written. -/
  | scalesUnit (unit : EngineUnit)
  /-- TAKEOVER_NOTICE (R407): A takeover notice tells members that a backup performs a role. -/
  | takeoverNotice (unit : EngineUnit)
  /-- ABORT_NOTICE (R409): An abort notice ends the step on the member. -/
  | abortNotice (unit : EngineUnit)
  /-- GATHER_UNIT (R414): A gather unit is copied into the tensor. -/
  | gatherUnit (unit : EngineUnit)
  /-- LATE_SHARD_UNIT (R408): The backup's final shard is received by the late member, which then delivers its summary. -/
  | lateShardUnit (unit : EngineUnit)
  /-- REDUCTION_DEADLINE (R406): At the deadline beat an unready role is taken over by its backup, or the step aborts. -/
  | reductionDeadline (n k : Nat) (granted : List Nat)
  /-- SUMMARY_DELIVERY (R396): At the step's end the summary is sent on the delivery flow. -/
  | summaryDelivery (n : Nat)
  /-- TAKE (R420): A checkpoint is taken at the held boundary. -/
  | takeCheckpoint (r : Requester) (c : Nat)
  /-- RESTORE (R438): The manifest is checked and shards are fetched, verified and written. -/
  | restoreGeneration (r : Requester) (c : Nat)
  /-- FAST_COPY_GRANULE (R424): Cairn copies the next granule into the reserve slot. -/
  | fastCopyGranule (c : Nat) (touch : Touch)
  /-- FAST_COPY_END (R424): The last granule is copied and shard digests are computed. -/
  | fastCopyEnd (c cycles : Nat)
  /-- GRANULE_WAIT (R425): A write into an uncopied granule waits and demands the granule. -/
  | granuleWait (c : Nat) (addresses : List Nat)
  /-- DRAIN (R435): A fast-copied generation is written to storage in three ordered steps. -/
  | drainGeneration (c : Nat)
  /-- DURABLE (R435): A target's DURABLE answer lets the drain take its next step. -/
  | durableAnswer (unit : EngineUnit)
  /-- CLAIM_RESULT (R436): A claim answer names the writer of a shared shard. -/
  | claimResult (unit : EngineUnit)
  /-- VERIFY_RESULT (R436): A verify answer tells whether a shared shard is present. -/
  | verifyResult (unit : EngineUnit)
  /-- DATA_LAST (R438): Object pieces arrive for a restore or fetch. -/
  | dataLast (unit : EngineUnit)
  /-- ABSENT (R438): A target answers that the object is absent. -/
  | absentAnswer (unit : EngineUnit)
  /-- CKPT_TIMEOUT (R435): An operation stays unanswered for CKPT_TIMEOUT_MS and the drain or restore fails. -/
  | ckptTimeout (c : Nat)
  /-- PEER_GET (R440): A peer's GET is served from a fast-copied slot. -/
  | peerGet (unit : EngineUnit)
  /-- HOST_DRAIN_ANSWER (R490): The host's DURABLE record advances the host drain. -/
  | hostDrainAnswer (ch : Nat)
  /-- TENANT_LOAD (R452): The tenant is loaded into its home partition. -/
  | tenantLoad (r : Requester) (t : Nat)
  /-- TENANT_START (R452): The tenant starts at REQUEST_BEAT. -/
  | tenantStart (r : Requester) (t : Nat)
  /-- PREEMPT (R457): The tenant is stopped at beat P and saved to Bedrock. -/
  | preempt (r : Requester) (t : Nat)
  /-- RELEASE (R452): HOST_PARKED is cleared. -/
  | releaseTenant (r : Requester) (t : Nat)
  /-- TENANT_UNLOAD (R452): The tenant becomes EMPTY and its flows close. -/
  | tenantUnload (r : Requester) (t : Nat)
  /-- TENANT_HOLD (R452): The tenant is held at REQUEST_BEAT. -/
  | tenantHold (r : Requester) (t : Nat)
  /-- TENANT_RESUME (R452): The tenant resumes at REQUEST_BEAT and parked flows resume. -/
  | tenantResume (r : Requester) (t : Nat)
  /-- PREEMPT_GRACE_EXPIRY (R458): The grace for a network wait runs out and its flows are parked. -/
  | preemptGraceExpiry (t : Nat)
  /-- SCHEDULER_DECISION (R463): At each beat the scheduler reloads into empty partitions or switches when all residents are blocked. -/
  | schedulerDecision (charges : List (Nat × Nat))
  /-- SAVE (R454): A resident tenant's state is copied to its save area. -/
  | saveTenant (t : Nat)
  /-- RELOAD (R456): A parked tenant is checked and copied back into its partition, or set STUCK. -/
  | reloadTenant (t : Nat)
  /-- DEADLINE_CHECK (R467): At each beat armed slots are checked for missed or predicted deadlines, triggering a fallback. -/
  | deadlineCheck
  /-- LOCK (R480): A read acquires the mailbox lock or returns the owner; a write by the owner releases it. -/
  | lockAccess (ident ch dir : Nat) (write : Bool)
  /-- PRODUCER (R481): The sender advances PRODUCER, which posts records. -/
  | producer (ident ch dir value : Nat)
  /-- CONSUMER (R481): The receiver advances CONSUMER. -/
  | consumer (ident ch dir value : Nat)
  /-- RING_SET (R481): The receiver writes RING_BASE or RING_SIZE while the ring is empty. -/
  | ringSet (ident ch dir : Nat) (size : Bool) (value : Nat)
  /-- DOORBELL_SET (R484): The sender sets doorbell bits, which may notify or wake the receiver. -/
  | doorbellSet (ident ch dir value : Nat)
  /-- DOORBELL_STATUS (R486): The receiver clears pending doorbell bits. -/
  | doorbellStatus (ident ch dir value : Nat)
  /-- DOORBELL_MASK (R484): The receiver changes the mask, which may make the direction pending. -/
  | doorbellMask (ident ch dir value : Nat)
  /-- IDENTITY_RESET (R487): A mailbox identity is reset and releases its locks. -/
  | identityReset (ident : Nat)
  /-- NOTICE_POST (R489): An engine posts a notice record and rings doorbell 0. -/
  | noticePost (ch : Nat)
  /-- HARDWARE_RECEIVER_TAKE (R483): A hardware receiver consumes posted records, discarding invalid ones. -/
  | hardwareReceiverTake (ch dir : Nat)
  /-- WATCHDOG_RESTART (R494): No controller heartbeat for 500 ms restarts Garnet. -/
  | watchdogRestart
  /-- SENSOR_SAMPLE (R495): Every 1 ms every sensor is sampled and failed sensors are detected. -/
  | sensorSample (readings : List (Nat × Option Int)) (mv ma watts ripple : Nat) (corners : List (Nat × Nat))
  /-- CAP_EVALUATION (R499): EFFECTIVE_CAP_W is computed every 10 ms. -/
  | capEvaluation
  /-- LEAK (R500): A leak sensor detects liquid and the module enters FAULTED. -/
  | leak (sensors : Nat)
  /-- SUPPLY_WARNING_LOG (R602): An overvoltage or ripple is logged once per minute. -/
  | supplyWarningLog
  /-- LOG_WINDOW (R502): At a 10 ms window's end any dropped-entry count is logged. -/
  | logWindow
  /-- DICTIONARY_WRITE (R505): A write to an entry without its own row is checked and applied. -/
  | dictionaryWrite (r : Requester) (idx sub len value : Nat) (env : DictEnv)
  /-- USDO_TRANSFER (R506): A CAN FD USDO upload or download is served. -/
  | usdoTransfer (node op idx sub count : Nat) (bytes : List Byte) (env : DictEnv)
  /-- USDO_IDLE_TIMEOUT (R506): A segmented transfer idle for 1 s is aborted. -/
  | usdoIdleTimeout (node : Nat)
  /-- NMT_COMMAND (R506): An NMT command changes the CANopen FD state. -/
  | nmtCommand (command node : Nat)
  /-- HEARTBEAT (R506): The heartbeat period expires and a heartbeat is sent. -/
  | heartbeat
  /-- READ (R507): A management read datagram is answered. -/
  | datagramRead (addr port header : Nat)
  /-- WRITE (R507): A management write segment is applied, taking effect on LAST. -/
  | datagramWrite (addr port header : Nat) (data : List Byte) (env : DictEnv)
  /-- PARTIAL_WRITE_TIMEOUT (R507): A partial datagram write idle for 1 s is discarded. -/
  | partialWriteTimeout (addr port session : Nat)
  /-- DICT_COMMAND_READ (R508): The PCIe window reads an entry. -/
  | dictCommandRead (f : Nat)
  /-- DICT_COMMAND_WRITE_SEGMENT (R508): The PCIe window writes a segment with more to follow. -/
  | dictCommandWriteSegment (f : Nat)
  /-- DICT_COMMAND_WRITE (R508): The PCIe window writes the completing segment. -/
  | dictCommandWrite (f : Nat) (env : DictEnv)
  /-- LEASE_ACQUIRE (R509): A read takes or renews the lease, or returns the holder. -/
  | leaseAcquire (r : Requester)
  /-- LEASE_RELEASE (R509): A read by the holder releases the lease. -/
  | leaseRelease (r : Requester)
  /-- LEASE_EXPIRY (R510): The lease ends after LEASE_IDLE_MS or a holder path loss. -/
  | leaseExpiry
  /-- BEGIN (R514): The inactive slot is erased for an update. -/
  | beginUpdate (r : Requester)
  /-- FW_DATA (R516): Bytes are appended to the inactive slot. -/
  | fwData (r : Requester) (bytes : List Byte) (written : Bool)
  /-- FW_FETCH (R514): Image bytes are copied from a device address. -/
  | fwFetch (r : Requester)
  /-- VERIFY (R513): The image is checked for digest, signature and version. -/
  | verifyImage (r : Requester)
  /-- ACTIVATE (R514): The verified slot becomes trial and Garnet restarts on it. -/
  | activateSlot (r : Requester)
  /-- COMMIT (R514): The trial slot becomes committed. -/
  | commitTrial (r : Requester)
  /-- ABORT (R514): The update returns to IDLE. -/
  | abortUpdate (r : Requester)
  /-- TRIAL_TIMEOUT (R515): A trial without COMMIT ends and the committed slot is restarted. -/
  | trialTimeout
  /-- RESTORE_ALL_DEFAULTS (R528): Persistent entries are marked for return to default. -/
  | restoreAllDefaults (r : Requester)
  /-- ADMIT_PORT (R595): The quarantined partner on a port is admitted. -/
  | admitPort (r : Requester) (value : Nat)
  /-- ADMIT_PEER (R595): A quarantined peer entry is admitted. -/
  | admitPeer (r : Requester) (value : Nat)
  /-- LOADER_FETCH (R536): A GET for the named image is sent to a storage target. -/
  | loaderFetch (r : Requester)
  /-- LOADER_NO_ANSWER (R536): No unit lands within 1 s of the GET. -/
  | loaderNoAnswer
  /-- GET_VERSION (R587): An SPDM GET_VERSION request is answered. -/
  | getVersion (medium target : Nat)
  /-- GET_CAPABILITIES (R587): An SPDM GET_CAPABILITIES request is answered. -/
  | getCapabilities (medium target version : Nat)
  /-- NEGOTIATE_ALGORITHMS (R587): An SPDM NEGOTIATE_ALGORITHMS request is answered. -/
  | negotiateAlgorithms (medium target version : Nat) (offered : Bool)
  /-- GET_DIGESTS (R587): An SPDM GET_DIGESTS request is answered. -/
  | getDigests (medium target version : Nat)
  /-- GET_CERTIFICATE (R587): An SPDM GET_CERTIFICATE request is answered. -/
  | getCertificate (medium target version slot offset length : Nat)
  /-- CHALLENGE (R587): An SPDM CHALLENGE is signed with the Alias key. -/
  | challenge (medium target version slot nonce second : Nat)
  /-- GET_MEASUREMENTS (R588): An SPDM GET_MEASUREMENTS request returns the measurement blocks. -/
  | getMeasurements (medium target version index : Nat) (signed : Bool) (nonce second : Nat)
  /-- PCIE_ACCESS (R26): A PCIe read or write through BAR2 or BAR0 is served, discarded or answered unsupported. -/
  | pcieAccess (f bar off n : Nat) (write ep : Bool) (bytes : List Byte) (errors : List ReadError) (env : DictEnv)
  /-- FUNCTION_LEVEL_RESET (R562): One PCIe function is reset. -/
  | functionLevelReset (f : Nat)
  /-- PCIE_HOT_RESET (R562): A PCIe hot or conventional reset resets the endpoint. -/
  | pcieHotReset
  /-- PPS_EDGE (R318): A 1PPS rising edge marks a second of the timescale; in external mode it gives the offset measurement and slewing, and for a master it counts towards reference qualification. -/
  | ppsEdge (now : Nat) (offset : Int)
  /-- INPUT_SWITCH_CLOSE (R600): The electronic input switch closes again once the connector voltage has held 360 V to 420 V for 100 ms, and charges the bulk capacitance. -/
  | inputSwitchClose (bus400 : Nat)
  /-- LINK_TRAINING_LIMIT (R348): A port's step 2 limit (3 s copper, 1 s optical) runs out without a link; the port counts as settled for the survey and retries every 1 s. -/
  | linkTrainingLimit (p : Nat)
  /-- LANDING_ENTRY_FREE (R248): A landing entry becomes free, and its data credit is granted, when the next admission from the same queue has completed with every earlier operation. -/
  | landingEntryFree (c q : Nat)
  /-- RECEIVE_UNITS_FREED (R367): The units covered by receive k are freed, raising the flow's credit limit, when receive k+1 has issued and every earlier operation of the context has completed. -/
  | receiveUnitsFreed (f : Nat)
  /-- PEER_EXCHANGE_TIMEOUT (R351): A peer reached through a switched port does not answer its end-to-end exchange within 100 ms and becomes UNREACHABLE. -/
  | peerExchangeTimeout (peer : Nat)
  /-- SPDM_RESPONSE (R591): A partner's SPDM response arrives in LINK frames and advances this module's identity check as requester. -/
  | spdmResponse (target code chain device : Nat) (valid : Bool)
  /-- IDENTITY_CHECK_TIMEOUT (R591): The partner does not answer the identity check within 500 ms and the port is QUARANTINED for reason 5. -/
  | identityCheckTimeout (target : Nat)
  /-- PATH_USABLE_AGAIN (R373): The 1 ms during which a path is unusable after three consecutive timeouts runs out and the path returns to the usable set. -/
  | pathUsableAgain (f path : Nat)
  /-- QP_RATE_RECOVERY (R376): Every 55 µs a queue pair whose rate a CNP halved recovers by 1/16 of the full rate. -/
  | qpRateRecovery (f : Nat)
  /-- RECEIVER_WAKE (R485): A sleeping mailbox receiver becomes awake, and the pending doorbell notice of R484 is then delivered. -/
  | receiverWake (ident : Nat)
  /-- RECORD_COPY_TO_FLASH (R521): Within 1 s of a change, Garnet copies record entries, the health map and RAM log entries into flash, after which they survive a loss of power. -/
  | recordCopyToFlash
  deriving DecidableEq, Repr

end Sys2Proof
end

