-- ==== Sys2Proof/Decode.lean ====
section
/-! DEFINITION. Decoding a word of spec/opcode_table.json: no row of the table gives bits, so no word spells a command. -/

namespace Sys2Proof

/-- The command that a word spells by the table's bits: none, as no row gives bits. -/
def decodeTableWord (_nbits _w : Nat) : Option Instr := none

end Sys2Proof
end

