-- ==== Sys2Proof/Config.lean ====
section
/-! DEFINITION. What the spec leaves open or fixes at manufacture: constants without a body, so that nothing can be proved
about their values. Each is named in the assumption log. -/

namespace Sys2Proof.Config

/-- Garnet's time stamp of the log entry with the given count (R501: the PTP timescale or ns since power-up; the model has
no clock). Assumption 3. -/
opaque logTime : Nat → Nat

/-- `DETAIL_A` of a log entry for which no rule names the first parameter (R501), by the log's count. Assumption 3. -/
opaque logDetail : Nat → BitVec 32

/-- SHA-384 (FIPS 180-4) of a byte string, as a 384-bit number whose byte 0 is digest byte 0. Assumption 4. -/
opaque sha384Bits : List Byte → BitVec 384
def sha384 (bs : List Byte) : Nat := (sha384Bits bs).toNat

/-- Whether an ECDSA P-384 signature verifies (FIPS 186-5): key digest, message digest, signature. Assumption 4. -/
opaque ecdsaValid : Nat → Nat → Nat → Bool

/-- The two key digests fused into the Garnet die (R513). Assumption 5. -/
opaque fusedKeyBits : Bool → BitVec 384
def fusedKey (second : Bool) : Nat := (fusedKeyBits second).toNat

/-- The digest of the DeviceID public key (R586). Assumption 5. -/
opaque identityDigest : Nat

/-- The board revision less 1, 0 to 25 for "A" to "Z" (R527). Assumption 5. -/
opaque boardRevision : Fin 26

/-- The serial number (R527). Assumption 5. -/
opaque serialNumber : BitVec 32

/-- The boot ROM's digest (R588 block 1). Assumption 5. -/
opaque bootRomDigest : Nat

/-- The certificate chain of slot 0 (R584): the Alias certificate follows the running slot's body digest and security version. Assumption 5. -/
opaque certificateChain : Nat → Nat → List Byte

/-- An ECDSA P-384 signature of the Alias key over an SPDM exchange: the running slot's body digest and security version, and the digest
of what is signed. Assumption 4. -/
opaque aliasSignature : Nat → Nat → Nat → BitVec 768

/-- The results of the module's fixed tables and polynomials for finite, non-special inputs, within the bounds of R116 that the
operations apply. Assumption 7. -/
opaque exp2 : Word → Word
opaque log2 : Word → Word
opaque tanh : Word → Word
opaque rcp : Word → Word
opaque rsqrt : Word → Word

/-- What a read of a word with three or more bytes in error gives (R91: no promise is made): detected, or the bytes that it is
miscorrected to, from the stored and the sensed bytes. Assumption 61. -/
opaque manyErrors : List Byte → List Byte → Option (List Byte)

/-- The MAC address of a port, fixed at manufacture (R349): its first octet in the lowest byte. Assumption 5. -/
opaque portMac : Nat → BitVec 48

/-- What the spec does not give of the module's own PTP dataset (R317): clock accuracy and variance. Assumption 68. -/
opaque clockQuality : Nat × Nat

/-- The nonce of a CHALLENGE (R591), by the count of free values. Assumption 6. -/
opaque nonce : Nat → BitVec 256

/-- Units that Cairn grants ahead of the landed ones on its receive flows: the spec leaves it open (R360, R432). Assumption 8. -/
opaque cairnCredit : BitVec 12

/-- The bytes of a formation record (R389), whose layout the spec leaves open, from its fields packed in R389's order: generation,
digest, members, algorithm, group size, policy, veto, headroom. Assumption 9. -/
opaque formationBody : List Nat → Nat

end Sys2Proof.Config
end

