-- ==== Sys2Proof/Machine/KMap.lean ====
section
/-! DEFINITION. Sparse tables as sorted lists of key and value pairs, the bit-field helpers, and little-endian byte lists
(spec/00_scope.md R6: bit ranges [msb:lsb], little-endian records). -/

namespace Sys2Proof.Machine

/-- The value held under key `k`, if any. -/
def kfind {α : Type} : List (Nat × α) → Nat → Option α
  | [], _ => none
  | (j, v) :: r, k => if j = k then some v else kfind r k

/-- The value held under key `k`, or `d` where the table lists none. -/
def kget {α : Type} (d : α) (m : List (Nat × α)) (k : Nat) : α := (kfind m k).getD d

/-- The table with `v` under `k`; keys stay strictly rising. -/
def kset {α : Type} : List (Nat × α) → Nat → α → List (Nat × α)
  | [], k, v => [(k, v)]
  | (j, w) :: r, k, v =>
    if k < j then (k, v) :: (j, w) :: r
    else if k = j then (k, v) :: r
    else (j, w) :: kset r k v

/-- The table without key `k`. -/
def kerase {α : Type} (m : List (Nat × α)) (k : Nat) : List (Nat × α) := m.filter fun e => e.1 != k

/-- The canonical update: an entry equal to what an unlisted key reads as is not listed. -/
def kput {α : Type} [DecidableEq α] (d : α) (m : List (Nat × α)) (k : Nat) (v : α) : List (Nat × α) :=
  if v = d then kerase m k else kset m k v

/-- Keys strictly rising. -/
def ksorted {α : Type} : List (Nat × α) → Bool
  | [] => true
  | [_] => true
  | (j, _) :: (k, w) :: r => decide (j < k) && ksorted ((k, w) :: r)

/-- Bits [`lo` + `w` − 1 : `lo`] of `v`. -/
def bits (v lo w : Nat) : Nat := v / 2 ^ lo % 2 ^ w

/-- Bit `i` of `v`. -/
def bit (v i : Nat) : Bool := v.testBit i

/-- `v` with bits [`lo` + `w` − 1 : `lo`] replaced by the low `w` bits of `x`. -/
def putBits (v lo w x : Nat) : Nat := v - bits v lo w * 2 ^ lo + x % 2 ^ w * 2 ^ lo

/-- `v` with bit `i` set. -/
def setBit (v i : Nat) : Nat := v ||| 2 ^ i

/-- `v` with every bit of `m` cleared. -/
def clearBits (v m : Nat) : Nat := v ^^^ (v &&& m)

/-- The value of 1 for true, 0 for false. -/
def b2n (b : Bool) : Nat := if b then 1 else 0

/-- The `n` least significant bytes of `v`, least significant first. -/
def leBytes : Nat → Nat → List Byte
  | 0, _ => []
  | n + 1, v => BitVec.ofNat 8 v :: leBytes n (v / 256)

/-- The number whose bytes, least significant first, are given. -/
def ofLe : List Byte → Nat
  | [] => 0
  | b :: r => b.toNat + 256 * ofLe r

/-- `v` read as a two's complement number of `w` bits. -/
def sext (w v : Nat) : Int := if bit v (w - 1) then (v % 2 ^ w : Int) - 2 ^ w else ((v % 2 ^ w : Nat) : Int)

/-- The two's complement encoding of `x` in `w` bits. -/
def encInt (w : Nat) (x : Int) : Nat := (x % (2 ^ w : Int)).toNat

/-- All ones in `w` bits. -/
def ones (w : Nat) : Nat := 2 ^ w - 1

/-- A counter of `bytes` bytes that stops at its largest value (R583). -/
def countUp (bytes v n : Nat) : Nat := min (v + n) (ones (8 * bytes))

/-- The first `n` numbers from `lo` upwards. -/
def rangeFrom (lo n : Nat) : List Nat := (List.range n).map (lo + ·)

/-- The `i`-th element, or `d` beyond the end. -/
def nth {α : Type} (d : α) (l : List α) (i : Nat) : α := l.getD i d

/-- Insert `k` into a strictly rising list of numbers. -/
def sinsert : List Nat → Nat → List Nat
  | [], k => [k]
  | j :: r, k => if k < j then k :: j :: r else if k = j then j :: r else j :: sinsert r k

/-- The list without `k`. -/
def serase (l : List Nat) (k : Nat) : List Nat := l.filter (· != k)

/-- Smallest element satisfying a test among 0 to `n` − 1. -/
def firstBelow (n : Nat) (p : Nat → Bool) : Option Nat := (List.range n).find? p

end Sys2Proof.Machine
end

