-- ==== Sys2Proof/Machine/Code.lean ====
section
/-! DEFINITION. The Reed-Solomon code of bank rows, Mica, queue and accumulator words (spec/03_blocks.md R86, R91). -/

namespace Sys2Proof.Machine

/-! ## GF(2⁸) by x⁸ + x⁴ + x³ + x² + 1 (R91) -/

/-- α times an element. -/
def gfDouble (a : Nat) : Nat := if bit a 7 then (2 * a) ^^^ 0x11D else 2 * a

/-- A product. -/
def gfMul (a b : Nat) : Nat := (List.range 8).foldl (fun r i => gfDouble r ^^^ (if bit b (7 - i) then a else 0)) 0

/-- αⁿ. -/
def gfPow (n : Nat) : Nat := (List.range n).foldl (fun a _ => gfDouble a) 1

/-! ## The code (R91) -/

/-- The two address symbols: bank and row, or 768 + i for spare row Si. The order of the symbols and the packing of the address
are the model's (assumption 61). -/
def addressSymbols (bank row : Nat) : List Nat := [(bank * 1024 + row) / 256 % 256, (bank * 1024 + row) % 256]

/-- The three check symbols: the remainder by (x − α⁰)(x − α¹)(x − α²) = x³ + 7x² + 14x + 8. -/
def checkSymbols (word : List Nat) : List Nat :=
  let r := word.foldl (fun (r : Nat × Nat × Nat) c =>
    let f := c ^^^ r.1
    (r.2.1 ^^^ gfMul f 7, r.2.2 ^^^ gfMul f 14, gfMul f 8)) (0, 0, 0)
  [r.1, r.2.1, r.2.2]

/-- Syndrome `j` of a codeword, first symbol first. -/
def syndrome (j : Nat) (word : List Nat) : Nat := word.foldl (fun r c => gfMul r (gfPow j) ^^^ c) 0

/-- The three check bytes that are stored with a row's data (R86): never addressable. -/
def checkBytes (bank row : Nat) (data : List Byte) : List Byte :=
  (checkSymbols (data.map (·.toNat) ++ addressSymbols bank row)).map (BitVec.ofNat 8)

/-- What the Correct stage finds (R89, R92, R93). -/
inductive Verdict where
  /-- No bad symbol. -/
  | clean
  /-- One bad symbol: the row is delivered as stored. -/
  | corrected
  /-- More errors than the code promises to tell: the bytes are delivered as if corrected (R91). -/
  | miscorrected (data : List Byte)
  /-- The bytes are delivered as sensed, poisoned. -/
  | uncorrectable
  deriving DecidableEq, Repr

/-- The symbol that three nonzero syndromes locate, counted from the first of `n`. -/
def locate (n s0 s1 s2 : Nat) : Option Nat :=
  if s0 = 0 ∨ s1 = 0 ∨ s2 = 0 then none
  else (List.range n).find? fun i => gfMul s0 (gfPow (n - 1 - i)) == s1 && gfMul s1 (gfPow (n - 1 - i)) == s2

/-- The Correct stage's own verdict on a sensed codeword of `d` data symbols, two address symbols and three check symbols: an error
located in the address is a wrong row. -/
def decodeWord (d : Nat) (word : List Nat) : Verdict :=
  let s0 := syndrome 0 word
  let s1 := syndrome 1 word
  let s2 := syndrome 2 word
  if s0 = 0 ∧ s1 = 0 ∧ s2 = 0 then .clean
  else match locate (d + 5) s0 s1 s2 with
    | some i => if i = d ∨ i = d + 1 then .uncorrectable else .corrected
    | none => .uncorrectable

/-- Bytes in which two lists differ. -/
def differing (a b : List Byte) : Nat := ((a.zip b).filter fun x => x.1 != x.2).length + (a.length - b.length) + (b.length - a.length)

/-- Whether sensed data and check bytes are the codeword of some other row of the bank. -/
def wrongRow (data check : List Nat) : Bool :=
  (List.range 16384).any fun k => decodeWord data.length (data ++ addressSymbols (k / 1024) (k % 1024) ++ check) == .clean

/-- The verdict on a word that stores `stored` and is sensed as `sensed`, data before check bytes (R91): up to two bytes in error, and
a wrong row, as the code tells; beyond, no promise is made (assumption 61). -/
def judgeWord (bank row : Nat) (stored sensed : List Byte) : Verdict :=
  let n := stored.length
  let data := (sensed.take n).map (·.toNat)
  let check := (sensed.drop n).map (·.toNat)
  if differing (stored ++ checkBytes bank row stored) sensed ≤ 2 ∨ wrongRow data check = true then
    decodeWord n (data ++ addressSymbols bank row ++ check)
  else match Config.manyErrors stored sensed with
    | none => .uncorrectable
    | some bs => .miscorrected (bs.take n)

end Sys2Proof.Machine
end

