-- ==== Sys2Proof/Machine/Fp.lean ====
section
/-! DEFINITION. Number formats, exact values, rounding and the arithmetic of spec/02_arithmetic.md (R49 to R80). -/

namespace Sys2Proof.Machine

/-! ## Formats (R49 to R53) -/

/-- A floating-point element format: exponent and fraction widths, bias, and whether it encodes infinities and NaNs. -/
structure Format where
  ebits : Nat
  mbits : Nat
  bias  : Nat
  inf   : Bool
  nan   : Bool
  deriving DecidableEq, Repr

def fp32 : Format := ⟨8, 23, 127, true, true⟩
def bf16 : Format := ⟨8, 7, 127, true, true⟩
def e4m3 : Format := ⟨4, 3, 7, false, true⟩
def e5m2 : Format := ⟨5, 2, 15, true, true⟩
def e3m2 : Format := ⟨3, 2, 3, false, false⟩
def e2m3 : Format := ⟨2, 3, 1, false, false⟩
def e2m1 : Format := ⟨2, 1, 1, false, false⟩

/-- The element format of a format code (R49): FP32 for codes without a floating-point element. -/
def formatOf (code : Nat) : Format :=
  if code = 1 then bf16 else if code = 2 ∨ code = 4 then e4m3 else if code = 3 ∨ code = 5 then e5m2
  else if code = 6 then e3m2 else if code = 7 then e2m3 else if code = 8 ∨ code = 9 then e2m1 else fp32

/-- Bits of an element (R49). -/
def elementBits (code : Nat) : Nat :=
  if code = 0 ∨ code = 11 then 32 else if code = 1 then 16 else if code = 6 ∨ code = 7 then 6
  else if code = 8 ∨ code = 9 then 4 else 8

/-- A code that carries scales (R49). -/
def scaled (code : Nat) : Bool := decide (4 ≤ code) && decide (code ≤ 9)

/-! ## Exact values -/

/-- A value: NaN, an infinity, or ± `m` × 2^`e`. -/
inductive FpVal where
  | nan
  | inf (neg : Bool)
  | num (neg : Bool) (m : Nat) (e : Int)
  deriving DecidableEq, Repr

def FpVal.isNan : FpVal → Bool
  | .nan => true
  | _ => false

def FpVal.isInf : FpVal → Bool
  | .inf _ => true
  | _ => false

def FpVal.isZero : FpVal → Bool
  | .num _ m _ => m == 0
  | _ => false

def FpVal.neg : FpVal → Bool
  | .nan => false
  | .inf n => n
  | .num n _ _ => n

/-- The magnitude. -/
def FpVal.abs : FpVal → FpVal
  | .nan => .nan
  | .inf _ => .inf false
  | .num _ m e => .num false m e

/-- The integer ± `m` × 2^(`e` − `q`), for `q` ≤ `e`. -/
def FpVal.scaledInt (n : Bool) (m : Nat) (e q : Int) : Int :=
  let x : Int := (m * 2 ^ (e - q).toNat : Nat)
  if n then -x else x

/-- Exact sum under IEEE 754: the sum of two zeros is −0 only when both are −0, and an exact cancellation is +0 (R79). -/
def FpVal.add : FpVal → FpVal → FpVal
  | .nan, _ => .nan
  | _, .nan => .nan
  | .inf a, .inf b => if a = b then .inf a else .nan
  | .inf a, .num _ _ _ => .inf a
  | .num _ _ _, .inf b => .inf b
  | .num a m e, .num b n f =>
    let q := min e f
    let x := FpVal.scaledInt a m e q + FpVal.scaledInt b n f q
    if x = 0 then .num (a && b) 0 q else .num (decide (x < 0)) x.natAbs q

/-- Exact product under IEEE 754. -/
def FpVal.mul : FpVal → FpVal → FpVal
  | .nan, _ => .nan
  | _, .nan => .nan
  | .inf a, .inf b => .inf (a != b)
  | .inf a, .num b n _ => if n = 0 then .nan else .inf (a != b)
  | .num a m _, .inf b => if m = 0 then .nan else .inf (a != b)
  | .num a m e, .num b n f => .num (a != b) (m * n) (e + f)

/-- The negated value. -/
def FpVal.negate : FpVal → FpVal
  | .nan => .nan
  | .inf n => .inf !n
  | .num n m e => .num (!n) m e

/-- `a` < `b`, false where either is NaN; zeros are equal. -/
def FpVal.lt : FpVal → FpVal → Bool
  | .nan, _ => false
  | _, .nan => false
  | .inf a, .inf b => a && !b
  | .inf a, .num _ _ _ => a
  | .num _ _ _, .inf b => !b
  | .num a m e, .num b n f =>
    let q := min e f
    decide (FpVal.scaledInt a m e q < FpVal.scaledInt b n f q)

/-- `a` = `b` as numbers, false where either is NaN. -/
def FpVal.eq (a b : FpVal) : Bool := !a.isNan && !b.isNan && !a.lt b && !b.lt a

/-- Maximum (R79): NaN if either is NaN; max(−0, +0) = +0. -/
def FpVal.max (a b : FpVal) : FpVal :=
  if a.isNan || b.isNan then .nan
  else if a.lt b then b else if b.lt a then a
  else if a.neg then b else a

/-- Minimum (R79): NaN if either is NaN; min(−0, +0) = −0. -/
def FpVal.min (a b : FpVal) : FpVal :=
  if a.isNan || b.isNan then .nan
  else if a.lt b then a else if b.lt a then b
  else if a.neg then a else b


/-! ## Decoding (R50 to R52) -/

/-- The value of an element. -/
def decodeFp (f : Format) (x : Nat) : FpVal :=
  let m := bits x 0 f.mbits
  let e := bits x f.mbits f.ebits
  let n := bit x (f.mbits + f.ebits)
  let top := ones f.ebits
  if f.inf && e == top then if m = 0 then .inf n else .nan
  else if f.nan && e == top && m == ones f.mbits then .nan
  else if e = 0 then .num n m (1 - (f.bias : Int) - f.mbits)
  else .num n (2 ^ f.mbits + m) ((e : Int) - f.bias - f.mbits)

/-- The canonical NaN of a format (R52). -/
def canonicalNan (f : Format) : Nat :=
  if f = fp32 then 0x7FC00000 else if f = bf16 then 0x7FC0 else 0x7F

/-- An infinity of a format that has one. -/
def infCode (f : Format) (n : Bool) : Nat := b2n n * 2 ^ (f.mbits + f.ebits) + ones f.ebits * 2 ^ f.mbits

/-! ## Rounding (R71, R73) -/

/-- Nearest even, or stochastic with 16 random bits. -/
inductive Rounding where
  | nearest
  | stochastic (r : Nat)
  deriving DecidableEq, Repr

/-- `m` × 2^`e` in units of 2^`q`, rounded. -/
def roundUnits (r : Rounding) (m : Nat) (e q : Int) : Nat :=
  if q ≤ e then m * 2 ^ (e - q).toNat
  else
    let k := (q - e).toNat
    let n := m / 2 ^ k
    let rem := m % 2 ^ k
    match r with
    | .nearest => if 2 ^ k < 2 * rem ∨ (2 * rem = 2 ^ k ∧ n % 2 = 1) then n + 1 else n
    | .stochastic b =>
      let d := rem * 2 ^ 16 / 2 ^ k
      if d ≠ 0 ∧ 2 ^ 16 ≤ d + b then n + 1 else n

/-- Exponent of a format's unit in the last place at `m` × 2^`e`, its exponent range unbounded above. -/
def ulpExp (f : Format) (m : Nat) (e : Int) : Int :=
  max ((Nat.log2 m : Int) + e - f.mbits) (1 - (f.bias : Int) - f.mbits)

/-- The largest finite magnitude as significand and exponent. -/
def largest (f : Format) : Nat × Int :=
  if f.inf then (2 ^ (f.mbits + 1) - 1, (2 ^ f.ebits - 2 : Int) - f.bias - f.mbits)
  else if f.nan then (2 ^ (f.mbits + 1) - 2, (2 ^ f.ebits - 1 : Int) - f.bias - f.mbits)
  else (2 ^ (f.mbits + 1) - 1, (2 ^ f.ebits - 1 : Int) - f.bias - f.mbits)

/-- A rounded magnitude of `n` units 2^`q` exceeds the largest finite value (R72). -/
def exceeds (f : Format) (n : Nat) (q : Int) : Bool :=
  decide ((largest f).2 < q) || (decide (q = (largest f).2) && decide ((largest f).1 < n))

/-- The code of ± `n` × 2^`q`, for a magnitude on the format's grid. -/
def encodeUnits (f : Format) (neg : Bool) (n : Nat) (q : Int) : Nat :=
  let (n, q) := if n = 2 ^ (f.mbits + 1) then (2 ^ f.mbits, q + 1) else (n, q)
  let s := b2n neg * 2 ^ (f.mbits + f.ebits)
  if n < 2 ^ f.mbits then s + n
  else s + (q + f.mbits + f.bias).toNat * 2 ^ f.mbits + (n - 2 ^ f.mbits)

/-- A magnitude rounded to a format, and whether it exceeds the largest finite value. -/
def fit (f : Format) (r : Rounding) (neg : Bool) (m : Nat) (e : Int) : Nat × Bool :=
  if m = 0 then (b2n neg * 2 ^ (f.mbits + f.ebits), false)
  else
    let q := ulpExp f m e
    let n := roundUnits r m e q
    if exceeds f n q then (encodeUnits f neg (largest f).1 (largest f).2, true) else (encodeUnits f neg n q, false)

/-! ## Arithmetic flags (R81) -/

def flagQuantNonfinite : Nat := 2 ^ 0
def flagNonfiniteStored : Nat := 2 ^ 1
def flagInfInput : Nat := 2 ^ 2
def flagNanInput : Nat := 2 ^ 3
def flagNanGenerated : Nat := 2 ^ 4
def flagFpOverflow : Nat := 2 ^ 5
def flagSatDownconv : Nat := 2 ^ 6
def flagInfDownconv : Nat := 2 ^ 7
def flagScaleNanIn : Nat := 2 ^ 8
def flagScaleClamp : Nat := 2 ^ 9
def flagInt32Wrap : Nat := 2 ^ 10

/-- What an operation reports: flag bits of R81, and elements saturated (R83). -/
structure Events where
  flags : Nat
  sats  : Nat
  deriving DecidableEq, Repr

def Events.none : Events := ⟨0, 0⟩
def Events.of (f : Nat) : Events := ⟨f, 0⟩
def Events.join (a b : Events) : Events := ⟨a.flags ||| b.flags, a.sats + b.sats⟩
def Events.all (l : List Events) : Events := l.foldl Events.join .none

def flagIf (c : Bool) (f : Nat) : Nat := if c then f else 0

/-- The flags of consumed elements. -/
def inputFlags (l : List FpVal) : Nat :=
  flagIf (l.any FpVal.isNan) flagNanInput ||| flagIf (l.any FpVal.isInf) flagInfInput

/-- A result in FP32, rounded to nearest even, with the flags that its making sets: a NaN from inputs that are none, or an
overflow of a finite exact result (R52, R61, R81). -/
def pack32 (anyNan : Bool) (v : FpVal) : Nat × Nat :=
  match v with
  | .nan => (0x7FC00000, flagIf (!anyNan) flagNanGenerated)
  | .inf n => (infCode fp32 n, 0)
  | .num n m e =>
    let r := fit fp32 .nearest n m e
    if r.2 then (infCode fp32 n, flagFpOverflow) else (r.1, 0)

def dec32 (x : Nat) : FpVal := decodeFp fp32 x

/-- FP32 operations on encodings, with generated flags only. -/
def fadd (a b : Nat) : Nat × Nat :=
  let x := dec32 a
  let y := dec32 b
  pack32 (x.isNan || y.isNan) (x.add y)

/-- The pairwise tree of R62: leaves left to right, `n` levels. -/
def treeSum (add : Nat × Nat → Nat × Nat → Nat × Nat) : Nat → List (Nat × Nat) → Nat × Nat
  | 0, l => l.headD (0, 0)
  | n + 1, l => treeSum add n ((List.range (l.length / 2)).map fun i => add (l.getD (2 * i) (0, 0)) (l.getD (2 * i + 1) (0, 0)))

/-! ## Stochastic rounding (R74) -/

def mix64 (z : Nat) : Nat :=
  let z := (z ^^^ (z >>> 30)) * 0xBF58476D1CE4E5B9 % 2 ^ 64
  let z := (z ^^^ (z >>> 27)) * 0x94D049BB133111EB % 2 ^ 64
  z ^^^ (z >>> 31)

/-- The 16 random bits of an element. -/
def srBits (seed keyBeat microbatch tensor element : Nat) : Nat :=
  let k := mix64 (seed ^^^ keyBeat)
  let k := mix64 (k ^^^ (microbatch <<< 16 ||| tensor))
  let k := mix64 (k ^^^ (element >>> 2))
  (k >>> (16 * (element % 4))) % 2 ^ 16

/-! ## Conversions (R71, R72) -/

/-- FP32 to BF16, E4M3 or E5M2. -/
def downFp (f : Format) (r : Rounding) (infMode : Bool) (x : Nat) : Nat × Events :=
  match dec32 x with
  | .nan => (canonicalNan f, .of flagNanInput)
  | .inf n =>
    if f.inf then (infCode f n, .of flagInfInput)
    else if infMode then (canonicalNan f, .of (flagInfInput ||| flagNanGenerated))
    else (encodeUnits f n (largest f).1 (largest f).2, ⟨flagInfInput ||| flagSatDownconv, 1⟩)
  | .num n m e =>
    let p := fit f r n m e
    if !p.2 then (p.1, .none)
    else if infMode then (if f.inf then infCode f n else canonicalNan f, .of flagInfDownconv)
    else (p.1, ⟨flagSatDownconv, 1⟩)

/-- FP32 to INT8 or INT32 of `w` bits. -/
def downInt (w : Nat) (r : Rounding) (x : Nat) : Nat × Events :=
  let hi : Int := 2 ^ (w - 1) - 1
  let lo : Int := -(2 ^ (w - 1))
  match dec32 x with
  | .nan => (0, .of flagNanInput)
  | .inf n => (encInt w (if n then lo else hi), ⟨flagInfInput ||| flagSatDownconv, 1⟩)
  | .num n m e =>
    let k : Int := roundUnits r m e 0
    let v := if n then -k else k
    if hi < v then (encInt w hi, ⟨flagSatDownconv, 1⟩)
    else if v < lo then (encInt w lo, ⟨flagSatDownconv, 1⟩)
    else (encInt w v, .none)

/-- A value from code `c` in FP32: exact, but for INT32, which rounds to nearest even (R71). -/
def upConvert (c x : Nat) : Nat × Events :=
  if c = 10 ∨ c = 11 then
    let v := sext (elementBits c) x
    ((pack32 false (.num (decide (v < 0)) v.natAbs 0)).1, .none)
  else
    let v := decodeFp (formatOf c) x
    ((pack32 true v).1, .of (inputFlags [v]))

/-! ## Quantisation (R58) -/

/-- The largest magnitude of a list. -/
def amax (l : List FpVal) : FpVal := l.foldl (fun a v => FpVal.max a v.abs) (.num false 0 0)

/-- Exponent of a format's largest finite value (R58). -/
def emaxOf (f : Format) : Int := (largest f).2 + f.mbits

/-- The elements and the scale of inputs that share one scale, its *amax* given: elements, scale, events. -/
def quantise (f : Format) (round : Nat → Rounding) (vals : List Nat) (top : FpVal) : List Nat × Nat × Events :=
  let vs := vals.map dec32
  let bad := top :: vs
  if bad.any fun v => v.isNan || v.isInf then
    (vals.map fun _ => 0, 0xFF, .of (flagQuantNonfinite ||| inputFlags bad))
  else
    match top with
    | .num _ 0 _ => (vs.map fun v => (fit f .nearest v.neg 0 0).1, 0x7F, .none)
    | .num _ m e =>
      let x0 := (Nat.log2 m : Int) + e - emaxOf f
      let x := max (-127) (min 127 x0)
      let out := vs.zipIdx.map fun (v, i) => match v with
        | .num n k g => fit f (round i) n k (g - x)
        | _ => (0, false)
      let sats := (out.filter (·.2)).length
      (out.map (·.1), (x + 127).toNat,
        ⟨flagIf (decide (x0 < -127)) flagScaleClamp ||| flagIf (decide (0 < sats)) flagSatDownconv, sats⟩)
    | _ => (vals.map fun _ => 0, 0xFF, .none)

/-! ## Square root, reciprocal and the transcendental operations (R80, R116) -/

/-- Integer square root, from bit `k` − 1 downwards. -/
def isqrtFrom (n : Nat) : Nat → Nat → Nat
  | 0, r => r
  | k + 1, r => isqrtFrom n k (if (r + 2 ^ k) * (r + 2 ^ k) ≤ n then r + 2 ^ k else r)

def isqrt (n : Nat) : Nat := isqrtFrom n 64 0

/-- The square root of `m` × 2^`e`, `m` > 0, as a value that rounds as the exact one does. -/
def sqrtVal (m : Nat) (e : Int) : FpVal :=
  let s : Int := if (e - 64) % 2 = 0 then 64 else 65
  let n := m * 2 ^ s.toNat
  let r := isqrt n
  .num false (2 * r + (if r * r = n then 0 else 1)) ((e - s) / 2 - 1)

/-- 1 / (`m` × 2^`e`), truncated to many more bits than FP32 holds, with a sticky last bit. -/
def rcpVal (m : Nat) (e : Int) : Nat × Int :=
  let k := Nat.log2 m + 64
  let q := 2 ^ k / m
  (2 * q + (if q * m = 2 ^ k then 0 else 1), -e - k - 1)

/-- 1 / √(`m` × 2^`e`) likewise. -/
def rsqrtVal (m : Nat) (e : Int) : Nat × Int :=
  let k0 := Nat.log2 m + 188
  let k := if (-e - (k0 : Int)) % 2 = 0 then k0 else k0 + 1
  let r := isqrtFrom (2 ^ k / m) 96 0
  (2 * r + (if r * r * m = 2 ^ k then 0 else 1), (-e - k) / 2 - 1)

/-! Fixed-point values of the functions, in units of 2⁻¹⁶⁰: far finer than the bounds of R116. -/

def fixBits : Nat := 160
def fixOne : Nat := 2 ^ fixBits

/-- A magnitude `m` × 2^`e` in fixed point. -/
def toFix (m : Nat) (e : Int) : Nat := roundUnits .nearest m e (-(fixBits : Int))

/-- 2 artanh(z) for z up to 1/3: twice the sum of z^(2j + 1) / (2j + 1). -/
def artanh2Fix (z : Nat) : Nat :=
  let z2 := z * z / fixOne
  2 * ((List.range 52).foldl (fun (a : Nat × Nat) j => (a.1 + a.2 / (2 * j + 1), a.2 * z2 / fixOne)) (0, z)).1

/-- ln 2. -/
def ln2Fix : Nat := artanh2Fix (fixOne / 3)

/-- e^t for t below ln 2: the sum of t^k / k!. -/
def expFix (t : Nat) : Nat :=
  ((List.range 48).foldl (fun (a : Nat × Nat) k => (a.1 + a.2, a.2 * t / fixOne / (k + 1))) (0, fixOne)).1

/-- 2^x for a finite x (R80). -/
def exp2Val (neg : Bool) (m : Nat) (e : Int) : FpVal :=
  let x : Int := if neg then -(toFix m e : Int) else toFix m e
  .num false (expFix ((x % (fixOne : Int)).toNat * ln2Fix / fixOne)) (x / (fixOne : Int) - fixBits)

/-- log2 of `m` × 2^`e`, `m` > 0. -/
def log2Val (m : Nat) (e : Int) : FpVal :=
  let k := Nat.log2 m
  let z := (m - 2 ^ k) * fixOne / (m + 2 ^ k)
  let y : Int := ((k : Int) + e) * fixOne + (artanh2Fix z * fixOne / ln2Fix : Nat)
  .num (decide (y < 0)) y.natAbs (-(fixBits : Int))

/-- tanh of ± `m` × 2^`e`: (e^2x − 1) / (e^2x + 1), which is 1 to this precision from 64 on. -/
def tanhVal (neg : Bool) (m : Nat) (e : Int) : FpVal :=
  if !(FpVal.lt (.num false m e) (.num false 64 0)) then .num neg 1 0
  else
    let t := 2 * toFix m e
    let y := expFix (t % ln2Fix) * 2 ^ (t / ln2Fix)
    .num neg ((y - fixOne) * fixOne / (y + fixOne)) (-(fixBits : Int))

/-- `n` units in the last place of FP32 at a value's magnitude. -/
def ulps (n : Nat) (v : FpVal) : FpVal :=
  match v with
  | .num _ m e => .num false n (ulpExp fp32 m e)
  | _ => .num false 0 0

/-- The module's own result, which the manual leaves open, wherever it lies within the bound of R116, and else the nearest value
(assumption 7). -/
def boundedResult (own : Word) (tolerance exact : FpVal) : Nat :=
  let v := dec32 own.toNat
  if v.isNan || v.isInf || tolerance.lt (v.add exact.negate).abs then (pack32 false exact).1 else own.toNat

/-- A result within 1 ulp of an exact value, or infinite beyond the largest one (R80, R116). -/
def withinUlp (own : Word) (neg : Bool) (m : Nat) (e : Int) : Nat × Nat :=
  let q := ulpExp fp32 m e
  if exceeds fp32 (m / 2 ^ (q - e).toNat) q then (infCode fp32 neg, flagFpOverflow)
  else (boundedResult own (ulps 1 (.num neg m e)) (.num neg m e), 0)

/-- exp2 (R80, R116): within 2 ulp, or within 2⁻¹⁴⁹ where the result is subnormal. -/
def opExp2 (x : Nat) : Nat × Nat :=
  match dec32 x with
  | .nan => (0x7FC00000, flagNanInput)
  | .inf n => (if n then 0 else infCode fp32 false, flagInfInput)
  | .num n m e =>
    if m = 0 then (0x3F800000, 0)
    else if !n && !(FpVal.lt (.num n m e) (.num false 128 0)) then (infCode fp32 false, flagFpOverflow)
    else if n && FpVal.lt (.num n m e) (.num true 149 0) then (0, 0)
    else
      let v := exp2Val n m e
      let tolerance := if v.lt (.num false 1 (-126)) then .num false 1 (-149) else ulps 2 v
      (boundedResult (Config.exp2 (BitVec.ofNat 32 x)) tolerance v, 0)

/-- log2 (R80, R116): within 2 ulp, or within 2⁻²² for inputs in [0.5, 2] where that is larger. -/
def opLog2 (x : Nat) : Nat × Nat :=
  match dec32 x with
  | .nan => (0x7FC00000, flagNanInput)
  | .inf n => if n then (0x7FC00000, flagInfInput ||| flagNanGenerated) else (infCode fp32 false, flagInfInput)
  | .num n m e =>
    if m = 0 then (infCode fp32 true, 0)
    else if n then (0x7FC00000, flagNanGenerated)
    else if x = 0x3F800000 then (0, 0)
    else
      let v := log2Val m e
      let near := !(FpVal.lt (.num false m e) (.num false 1 (-1))) && !(FpVal.lt (.num false 2 0) (.num false m e))
      let tolerance := if near then FpVal.max (ulps 2 v) (.num false 1 (-22)) else ulps 2 v
      (boundedResult (Config.log2 (BitVec.ofNat 32 x)) tolerance v, 0)

/-- Reciprocal (R80). -/
def opRcp (x : Nat) : Nat × Nat :=
  match dec32 x with
  | .nan => (0x7FC00000, flagNanInput)
  | .inf n => (b2n n * 2 ^ 31, flagInfInput)
  | .num n m e =>
    if m = 0 then (infCode fp32 n, 0)
    else
      let r := rcpVal m e
      withinUlp (Config.rcp (BitVec.ofNat 32 x)) n r.1 r.2

/-- Reciprocal square root (R80). -/
def opRsqrt (x : Nat) : Nat × Nat :=
  match dec32 x with
  | .nan => (0x7FC00000, flagNanInput)
  | .inf n => if n then (0x7FC00000, flagInfInput ||| flagNanGenerated) else (0, flagInfInput)
  | .num n m e =>
    if m = 0 then (infCode fp32 n, 0)
    else if n then (0x7FC00000, flagNanGenerated)
    else
      let r := rsqrtVal m e
      withinUlp (Config.rsqrt (BitVec.ofNat 32 x)) false r.1 r.2

/-- Square root, correctly rounded (R80, R116). -/
def opSqrt (x : Nat) : Nat × Nat :=
  match dec32 x with
  | .nan => (0x7FC00000, flagNanInput)
  | .inf n => if n then (0x7FC00000, flagInfInput ||| flagNanGenerated) else (infCode fp32 false, flagInfInput)
  | .num n m e =>
    if m = 0 then (x % 2 ^ 32, 0)
    else if n then (0x7FC00000, flagNanGenerated)
    else pack32 false (sqrtVal m e)

/-- tanh (R80, R116): within 2 ulp, or within 2⁻²⁴ where that is larger. -/
def opTanh (x : Nat) : Nat × Nat :=
  match dec32 x with
  | .nan => (0x7FC00000, flagNanInput)
  | .inf n => (if n then 0xBF800000 else 0x3F800000, flagInfInput)
  | .num n m e =>
    if m = 0 then (x % 2 ^ 32, 0)
    else
      let v := tanhVal n m e
      (boundedResult (Config.tanh (BitVec.ofNat 32 x)) (FpVal.max (ulps 2 v) (.num false 1 (-24))) v, 0)

/-! ## Packed elements (R56) -/

/-- Element `i` of a little-endian bit stream of elements of `w` bits. -/
def packedElement (w : Nat) (bs : List Byte) (i : Nat) : Nat :=
  bits (ofLe ((bs.drop (w * i / 8)).take 5)) (w * i % 8) w

/-- The elements packed into bytes. -/
def packElements (w : Nat) (es : List Nat) : List Byte :=
  leBytes ((w * es.length + 7) / 8) (es.foldr (fun e a => a * 2 ^ w + e % 2 ^ w) 0)

end Sys2Proof.Machine
end

