-- ==== Sys2Proof/Machine/DictTable.lean ====
section
/-! DEFINITION. The object dictionary's table of implemented entries (spec/16_dictionary.md R519 to R540 and the entry
tables of the chapters it names): index, subindices, members of the family, size, access, persistence, running-writable,
default and the values a write accepts. -/

namespace Sys2Proof.Machine

/-- The access codes of R8. -/
inductive Access where
  | ro | rw | wo | w1c | rl
  deriving DecidableEq, Repr

/-- The persistence codes of R521. -/
inductive Persist where
  | flash | record | square | program | measured | fixed
  deriving DecidableEq, Repr

/-- One line of the table: `members` consecutive indices from `index` (a family, R523) and the subindices `lo` to `hi`.
`accept` lists the closed ranges of values a write may carry; an empty list means every value of the type. -/
structure DictEntry where
  index   : Nat
  lo      : Nat
  hi      : Nat
  members : Nat
  bytes   : Nat
  access  : Access
  persist : Persist
  running : Bool
  default : Nat
  accept  : List (Nat × Nat)
  deriving DecidableEq, Repr

/-- Entries 0x1000 onwards, part 1. -/
def dictArea1a : List DictEntry := [
   ⟨0x1000, 0x00, 0x00, 1, 4, .ro, .fixed, false, 0, []⟩ /- DEVICE_TYPE, R527 -/,
   ⟨0x1001, 0x00, 0x00, 1, 1, .ro, .measured, false, 0, []⟩ /- ERROR_REGISTER, R527 -/,
   ⟨0x1008, 0x00, 0x00, 1, 8, .ro, .fixed, false, 0x4d4c2d3034375a46, []⟩ /- DEVICE_NAME, R527 -/,
   ⟨0x1009, 0x00, 0x00, 1, 4, .ro, .fixed, false, 0, []⟩ /- HARDWARE_VERSION, R527 -/,
   ⟨0x100A, 0x00, 0x00, 1, 8, .ro, .measured, false, 0, []⟩ /- SOFTWARE_VERSION, R527 -/,
   ⟨0x1011, 0x01, 0x01, 1, 4, .rw, .measured, false, 1, [(1684107116, 1684107116)]⟩ /- RESTORE_ALL_DEFAULTS, R527 -/,
   ⟨0x1017, 0x00, 0x00, 1, 2, .rw, .flash, false, 0x3e8, []⟩ /- HEARTBEAT_TIME_MS, R527 -/,
   ⟨0x1018, 0x01, 0x01, 1, 4, .ro, .fixed, false, 0xa57, []⟩ /- VENDOR_ID, R527 -/,
   ⟨0x1018, 0x02, 0x02, 1, 4, .ro, .fixed, false, 0x740, []⟩ /- PRODUCT_CODE, R527 -/,
   ⟨0x1018, 0x03, 0x03, 1, 4, .ro, .fixed, false, 0, []⟩ /- REVISION, R527 -/,
   ⟨0x1018, 0x04, 0x04, 1, 4, .ro, .fixed, false, 0, []⟩ /- SERIAL_NUMBER, R527 -/]

/-- Entries 0x2000 onwards, part 1. -/
def dictArea2a : List DictEntry := [
   ⟨0x2001, 0x00, 0x00, 1, 4, .ro, .measured, false, 0, []⟩ /- STRAP_SNAPSHOT, R530 -/,
   ⟨0x2010, 0x00, 0x00, 1, 1, .rw, .flash, false, 1, [(0, 1)]⟩ /- AUTO_SURVEY, R44 -/,
   ⟨0x2020, 0x00, 0x00, 1, 1, .rw, .flash, false, 0, [(0, 1)]⟩ /- BOOT_SOURCE, R531 -/,
   ⟨0x2030, 0x01, 0x01, 1, 1, .rw, .flash, false, 0, [(0, 3)]⟩ /- BEAT_SOURCE, R337 -/,
   ⟨0x2030, 0x02, 0x02, 1, 1, .rw, .flash, false, 0, [(0, 127)]⟩ /- PTP_DOMAIN, R337 -/,
   ⟨0x2030, 0x03, 0x03, 1, 1, .rw, .flash, false, 0x80, []⟩ /- PTP_PRIORITY1, R337 -/,
   ⟨0x2030, 0x04, 0x04, 1, 1, .rw, .flash, false, 0x80, []⟩ /- PTP_PRIORITY2, R337 -/,
   ⟨0x2030, 0x05, 0x05, 1, 1, .rw, .flash, false, 0xfc, [(249, 253)]⟩ /- LOG_SYNC_INTERVAL, R337 -/,
   ⟨0x2030, 0x06, 0x06, 1, 4, .rw, .flash, false, 0, [(0, 1000000)]⟩ /- REF_DELAY_PS, R337 -/,
   ⟨0x2030, 0x08, 0x08, 1, 1, .rw, .flash, false, 0x5a, [(0, 125)]⟩ /- STRETCH_TEMP_C, R337 -/,
   ⟨0x2031, 0x01, 0x10, 1, 16, .rw, .flash, false, 0, []⟩ /- BEAT_CHILD_0–_15, R337 -/,
   ⟨0x2031, 0x11, 0x11, 1, 16, .rw, .flash, false, 0, []⟩ /- BEAT_PARENT, R337 -/,
   ⟨0x2040, 0x01, 0x01, 1, 16, .rw, .flash, false, 0, []⟩ /- MODULE_ADDRESS, R382 -/,
   ⟨0x2040, 0x02, 0x02, 1, 4, .rw, .flash, false, 0, []⟩ /- MODULE_IPV4, R382 -/,
   ⟨0x2040, 0x03, 0x03, 1, 2, .rw, .flash, false, 0xb1e0, [(1024, 4790), (4792, 65535)]⟩ /- BOULEVARD_UDP_PORT, R382 -/,
   ⟨0x2040, 0x04, 0x04, 1, 1, .rw, .flash, false, 0xff, []⟩ /- PORT_ENABLE, R382 -/,
   ⟨0x2040, 0x05, 0x05, 1, 2, .rw, .flash, false, 0x4650, [(1000, 18000)]⟩ /- CAGE_BUDGET_MW, R382 -/,
   ⟨0x2040, 0x06, 0x06, 1, 2, .rw, .flash, false, 0x10, [(4, 1000)]⟩ /- RTO_US, R382 -/,
   ⟨0x2040, 0x07, 0x07, 1, 4, .rw, .flash, false, 0x3e8, [(100, 1000000)]⟩ /- FLOW_BREAK_US, R382 -/,
   ⟨0x2040, 0x08, 0x08, 1, 1, .rw, .flash, false, 1, [(0, 1)]⟩ /- ECN_ENABLE, R382 -/,
   ⟨0x2050, 0x01, 0x10, 1, 1, .rw, .flash, false, 0, []⟩ /- CHANNEL_BINDING_0–_15, R477 -/,
   ⟨0x2060, 0x01, 0x01, 1, 4, .rl, .square, false, 0, []⟩ /- LEASE_ACQUIRE, R509 -/,
   ⟨0x2060, 0x02, 0x02, 1, 4, .rl, .square, false, 0, []⟩ /- LEASE_RELEASE, R509 -/,
   ⟨0x2060, 0x03, 0x03, 1, 4, .rw, .flash, false, 0x7530, [(100, 3600000)]⟩ /- LEASE_IDLE_MS, R509 -/,
   ⟨0x2060, 0x04, 0x04, 1, 4, .ro, .square, false, 0, []⟩ /- LEASE_HOLDER, R509 -/,
   ⟨0x2060, 0x05, 0x05, 1, 16, .ro, .square, false, 0, []⟩ /- LEASE_HOLDER_ADDRESS, R509 -/,
   ⟨0x2061, 0x01, 0x01, 1, 1, .rw, .flash, false, 0, [(0, 1)]⟩ /- MGMT_ETH_ENABLE, R517 -/,
   ⟨0x2061, 0x02, 0x02, 1, 16, .rw, .flash, false, 0, []⟩ /- MGMT_IPV6, R517 -/]

/-- Entries 0x2000 onwards, part 2. -/
def dictArea2b : List DictEntry := [
   ⟨0x2061, 0x03, 0x03, 1, 4, .rw, .flash, false, 0, []⟩ /- MGMT_IPV4, R517 -/,
   ⟨0x2061, 0x04, 0x04, 1, 2, .rw, .flash, false, 0xb1e1, [(1024, 65535)]⟩ /- DICT_UDP_PORT, R517 -/,
   ⟨0x2062, 0x01, 0x01, 1, 1, .rw, .flash, false, 0, [(1, 127)]⟩ /- CAN_NODE_ID, R517 -/,
   ⟨0x2070, 0x01, 0x01, 1, 1, .rw, .flash, false, 0, [(0, 3)]⟩ /- POWER_CLASS, R517 -/,
   ⟨0x2070, 0x02, 0x02, 1, 1, .rw, .flash, false, 0x28, [(0, 0), (20, 60)]⟩ /- INLET_DERATE_C, R517 -/,
   ⟨0x2080, 0x01, 0x01, 1, 1, .wo, .square, false, 0, [(0, 7), (255, 255)]⟩ /- ADMIT_PORT, R531 -/,
   ⟨0x2080, 0x02, 0x02, 1, 2, .wo, .square, false, 0, [(0, 4095), (65535, 65535)]⟩ /- ADMIT_PEER, R531 -/,
   ⟨0x2080, 0x03, 0x03, 1, 1, .rw, .flash, false, 0, [(0, 1)]⟩ /- ADMISSION_POLICY, R531 -/]

/-- Entries 0x3000 onwards, part 1. -/
def dictArea3a : List DictEntry := [
   ⟨0x3000, 0x01, 0x01, 1, 4, .ro, .measured, false, 0, []⟩ /- INPUT_MV, R497 -/,
   ⟨0x3000, 0x02, 0x02, 1, 4, .ro, .measured, false, 0, []⟩ /- INPUT_MA, R497 -/,
   ⟨0x3000, 0x03, 0x03, 1, 2, .ro, .measured, false, 0, []⟩ /- INPUT_POWER_W, R497 -/,
   ⟨0x3000, 0x04, 0x04, 1, 2, .ro, .measured, false, 0, []⟩ /- INPUT_RIPPLE_MV, R497 -/,
   ⟨0x3000, 0x05, 0x05, 1, 2, .ro, .measured, false, 0x7fff, []⟩ /- INLET_TEMP_DC, R497 -/,
   ⟨0x3000, 0x06, 0x06, 1, 4, .ro, .measured, false, 0, []⟩ /- COOLANT_FLOW_ML_MIN, R497 -/,
   ⟨0x3000, 0x07, 0x07, 1, 1, .ro, .measured, false, 0, []⟩ /- LEAK, R497 -/,
   ⟨0x3000, 0x08, 0x08, 1, 2, .ro, .measured, false, 0, []⟩ /- EFFECTIVE_CAP_W, R497 -/,
   ⟨0x3000, 0x09, 0x09, 1, 2, .ro, .measured, false, 0, []⟩ /- HEADROOM_W, R497 -/,
   ⟨0x3010, 0x01, 0x01, 1, 1, .rw, .square, true, 0, [(0, 63)]⟩ /- TEMP_SELECT, R497 -/,
   ⟨0x3010, 0x02, 0x02, 1, 2, .ro, .measured, false, 0x7fff, []⟩ /- TEMP_DC, R497 -/,
   ⟨0x3020, 0x01, 0x01, 1, 1, .rw, .square, true, 0, [(0, 31)]⟩ /- VOLT_SELECT, R497 -/,
   ⟨0x3020, 0x02, 0x02, 1, 2, .ro, .measured, false, 0xffff, []⟩ /- VOLT_MV, R497 -/,
   ⟨0x3030, 0x01, 0x08, 1, 4, .ro, .measured, false, 0xffffffff, []⟩ /- PORT_DELAY_PS_0–_7, R338 -/,
   ⟨0x3040, 0x01, 0x01, 8, 1, .ro, .measured, false, 0, []⟩ /- PORT_STATE, R383 -/,
   ⟨0x3040, 0x02, 0x02, 8, 1, .ro, .measured, false, 0, []⟩ /- PHY_TYPE, R383 -/,
   ⟨0x3040, 0x03, 0x03, 8, 1, .ro, .measured, false, 0, []⟩ /- MEDIA, R383 -/,
   ⟨0x3040, 0x04, 0x04, 8, 2, .ro, .measured, false, 0xffff, []⟩ /- CABLE_LENGTH_DM, R383 -/,
   ⟨0x3040, 0x05, 0x05, 8, 2, .ro, .measured, false, 0, []⟩ /- CAGE_POWER_MW, R383 -/,
   ⟨0x3040, 0x06, 0x06, 8, 2, .ro, .measured, false, 0, []⟩ /- DECLARED_POWER_MW, R383 -/,
   ⟨0x3040, 0x07, 0x07, 8, 2, .ro, .measured, false, 0xffff, []⟩ /- RX_POWER_MIN_UW, R383 -/,
   ⟨0x3040, 0x08, 0x08, 8, 1, .ro, .measured, false, 0, []⟩ /- PARTNER_GENERATION, R383 -/,
   ⟨0x3040, 0x09, 0x09, 8, 1, .ro, .measured, false, 0, []⟩ /- AGREED_BOULEVARD, R383 -/,
   ⟨0x3040, 0x0A, 0x0A, 8, 2, .ro, .measured, false, 0, []⟩ /- AGREED_FORMATS, R383 -/,
   ⟨0x3040, 0x0B, 0x0B, 8, 2, .ro, .measured, false, 0, []⟩ /- AGREED_FEATURES, R383 -/,
   ⟨0x3040, 0x0C, 0x0C, 8, 16, .ro, .measured, false, 0, []⟩ /- PARTNER_ADDRESS, R383 -/,
   ⟨0x3040, 0x0D, 0x0D, 8, 4, .ro, .measured, false, 0, []⟩ /- LINK_UP_COUNT, R383 -/,
   ⟨0x3050, 0x01, 0x01, 1, 4, .rw, .square, true, 0, []⟩ /- LOG_SELECT, R502 -/]

/-- Entries 0x3000 onwards, part 2. -/
def dictArea3b : List DictEntry := [
   ⟨0x3050, 0x02, 0x02, 1, 32, .ro, .measured, false, 0, []⟩ /- LOG_ENTRY, R502 -/,
   ⟨0x3050, 0x03, 0x03, 1, 4, .ro, .measured, false, 0, []⟩ /- LOG_NEWEST, R502 -/,
   ⟨0x3060, 0x00, 0x00, 1, 48, .ro, .fixed, false, 0, []⟩ /- IDENTITY_DIGEST, R532 -/,
   ⟨0x3061, 0x01, 0x08, 1, 48, .ro, .flash, false, 0, []⟩ /- PORT_SEEN_DIGEST_0–_7, R532 -/]

/-- Entries 0x4000 onwards, part 1. -/
def dictArea4a : List DictEntry := [
   ⟨0x4000, 0x01, 0x01, 1, 1, .ro, .square, false, 1, []⟩ /- MODULE_STATE, R534 -/,
   ⟨0x4000, 0x02, 0x02, 1, 1, .rw, .square, true, 0, [(0, 8)]⟩ /- STATE_REQUEST, R534 -/,
   ⟨0x4000, 0x03, 0x03, 1, 8, .rw, .square, false, 0, []⟩ /- START_BEAT, R534 -/,
   ⟨0x4000, 0x04, 0x04, 1, 8, .rw, .square, true, 0, []⟩ /- HOLD_BEAT, R534 -/,
   ⟨0x4000, 0x05, 0x05, 1, 1, .ro, .square, false, 0, []⟩ /- TRANSITION_STATUS, R534 -/,
   ⟨0x4001, 0x01, 0x01, 1, 8, .rw, .square, false, 0x1000000000, []⟩ /- IMAGE_ADDRESS, R534 -/,
   ⟨0x4001, 0x02, 0x02, 1, 4, .rw, .square, false, 0x3ffff, [(0, 262143)]⟩ /- LOADER_FLOW, R534 -/,
   ⟨0x4001, 0x03, 0x03, 1, 4, .ro, .square, false, 0, []⟩ /- LOADER_UNITS, R534 -/,
   ⟨0x4001, 0x04, 0x04, 1, 48, .rw, .square, false, 0, []⟩ /- IMAGE_NAME, R534 -/,
   ⟨0x4001, 0x05, 0x05, 1, 4, .rw, .square, false, 0x3ffff, [(0, 262143)]⟩ /- LOADER_REQUEST_FLOW, R534 -/,
   ⟨0x4001, 0x06, 0x06, 1, 1, .wo, .square, false, 0, [(0, 1)]⟩ /- LOADER_COMMAND, R534 -/,
   ⟨0x4001, 0x07, 0x07, 1, 1, .ro, .square, false, 0, []⟩ /- LOADER_STATUS, R534 -/,
   ⟨0x4020, 0x01, 0x01, 1, 8, .rw, .square, false, 0, []⟩ /- SR_JOB_SEED, R76 -/,
   ⟨0x4030, 0x01, 0x01, 4, 2, .ro, .program, false, 0, []⟩ /- PROGRAM_COUNTER, R166 -/,
   ⟨0x4030, 0x02, 0x02, 4, 1, .ro, .program, false, 0, []⟩ /- WAIT_CLASS, R166 -/,
   ⟨0x4030, 0x03, 0x03, 4, 8, .ro, .program, false, 0, []⟩ /- BEAT_ORIGIN, R166 -/,
   ⟨0x4030, 0x04, 0x04, 4, 8, .ro, .program, false, 0, []⟩ /- LAST_NAMED_BEAT, R166 -/,
   ⟨0x4030, 0x05, 0x05, 4, 8, .ro, .program, false, 0, []⟩ /- BEAT_SKIP, R166 -/,
   ⟨0x4030, 0x06, 0x06, 4, 8, .ro, .program, false, 0, []⟩ /- ISSUED_BUNDLES, R166 -/,
   ⟨0x4030, 0x07, 0x07, 4, 8, .ro, .program, false, 0, []⟩ /- FILL_BUNDLES, R166 -/,
   ⟨0x4030, 0x08, 0x08, 4, 1, .rw, .program, true, 0, []⟩ /- STREAM_FLAGS, R166 -/,
   ⟨0x4030, 0x09, 0x09, 4, 4, .rw, .program, true, 0, []⟩ /- WAIT_LIMIT_BEATS, R166 -/,
   ⟨0x4030, 0x0A, 0x0A, 4, 2, .ro, .program, false, 0, []⟩ /- BACKLOG_DEPTH, R166 -/,
   ⟨0x4030, 0x11, 0x18, 4, 8, .ro, .program, false, 0, []⟩ /- STALL_CYCLES_1–_8, R166 -/,
   ⟨0x4040, 0x01, 0x10, 1, 1, .ro, .measured, false, 0, []⟩ /- PLAZA_SLACK_USED_0–_15, R233 -/,
   ⟨0x4050, 0x01, 0x01, 4, 1, .rw, .square, false, 0, [(0, 3)]⟩ /- STAGE_ROLE, R235 -/,
   ⟨0x4050, 0x02, 0x02, 4, 1, .rw, .square, false, 0, [(0, 63)]⟩ /- STAGE_INDEX, R235 -/,
   ⟨0x4050, 0x03, 0x03, 4, 1, .rw, .square, false, 4, [(0, 11)]⟩ /- IN_FORMAT, R235 -/]

/-- Entries 0x4000 onwards, part 2. -/
def dictArea4b : List DictEntry := [
   ⟨0x4050, 0x04, 0x04, 4, 1, .rw, .square, false, 4, [(0, 11)]⟩ /- OUT_FORMAT, R235 -/,
   ⟨0x4050, 0x05, 0x05, 4, 1, .rw, .square, false, 0, [(0, 128)]⟩ /- BANK_STASH_SLOTS, R235 -/,
   ⟨0x4050, 0x06, 0x06, 4, 4, .rw, .square, false, 0, []⟩ /- STASH_RECORD_KIB, R235 -/,
   ⟨0x4050, 0x07, 0x07, 4, 1, .rw, .square, false, 2, [(0, 3)]⟩ /- STASH_READS, R235 -/,
   ⟨0x4050, 0x08, 0x08, 4, 4, .rw, .square, false, 0, []⟩ /- STASH_QUOTA_MIB, R235 -/,
   ⟨0x4050, 0x09, 0x09, 4, 1, .rw, .square, false, 0, [(0, 16)]⟩ /- FWD_LANDING_ENTRIES, R235 -/,
   ⟨0x4050, 0x0A, 0x0A, 4, 1, .rw, .square, false, 0, [(0, 16)]⟩ /- GRAD_LANDING_ENTRIES, R235 -/,
   ⟨0x4050, 0x0B, 0x0B, 4, 8, .rw, .square, true, 0xffffffffffffffff, []⟩ /- TRAIN_MASK, R235 -/,
   ⟨0x4060, 0x01, 0x01, 4, 1, .ro, .program, false, 0, []⟩ /- FWD_QUEUE_COUNT, R264 -/,
   ⟨0x4060, 0x02, 0x02, 4, 1, .ro, .program, false, 0, []⟩ /- GRAD_QUEUE_COUNT, R264 -/,
   ⟨0x4060, 0x03, 0x03, 4, 1, .ro, .program, false, 0, []⟩ /- SLOTS_IN_USE, R264 -/,
   ⟨0x4060, 0x04, 0x04, 4, 4, .ro, .program, false, 0, []⟩ /- STASH_PAGES_HELD, R264 -/,
   ⟨0x4060, 0x05, 0x05, 4, 1, .ro, .program, false, 0, []⟩ /- STASH_HOLD_ACTIVE, R264 -/,
   ⟨0x4060, 0x06, 0x06, 4, 4, .ro, .program, false, 0, []⟩ /- STASH_HOLD_COUNT, R264 -/,
   ⟨0x4060, 0x07, 0x07, 4, 8, .ro, .program, false, 0, []⟩ /- STASH_HOLD_CYCLES, R264 -/,
   ⟨0x4060, 0x08, 0x08, 4, 8, .ro, .program, false, 0, []⟩ /- ADMITTED_FWD, R264 -/,
   ⟨0x4060, 0x09, 0x09, 4, 8, .ro, .program, false, 0, []⟩ /- ADMITTED_GRAD, R264 -/,
   ⟨0x4070, 0x01, 0x01, 1, 4, .rw, .square, true, 0xf4240, [(1000, 100000000)]⟩ /- BASE_PERIOD_NS, R339 -/,
   ⟨0x4070, 0x02, 0x02, 1, 4, .rw, .square, true, 0x1f4, [(50, 100000)]⟩ /- STRETCH_LEAD_US, R339 -/,
   ⟨0x4070, 0x03, 0x03, 1, 8, .rw, .square, false, 0, []⟩ /- INITIAL_BEAT, R339 -/,
   ⟨0x4070, 0x04, 0x04, 1, 1, .ro, .square, false, 0, []⟩ /- BEAT_STATUS, R339 -/,
   ⟨0x4070, 0x05, 0x05, 1, 8, .ro, .square, false, 0, []⟩ /- CURRENT_BEAT, R339 -/,
   ⟨0x4070, 0x06, 0x06, 1, 4, .ro, .square, false, 0, []⟩ /- CURRENT_PERIOD_NS, R339 -/,
   ⟨0x4070, 0x07, 0x07, 1, 4, .ro, .square, false, 0, []⟩ /- THERMAL_REQUEST_NS, R339 -/,
   ⟨0x4070, 0x08, 0x08, 1, 4, .ro, .square, false, 0, []⟩ /- FLOOR_PERIOD_NS, R339 -/,
   ⟨0x4070, 0x09, 0x09, 1, 4, .ro, .square, false, 0, []⟩ /- CLUSTER_REQUEST_NS, R339 -/,
   ⟨0x4070, 0x0B, 0x0B, 1, 4, .ro, .square, false, 0, []⟩ /- SCHEDULE_SEQ, R339 -/,
   ⟨0x4070, 0x0C, 0x0C, 1, 8, .ro, .square, false, 0xffffffffffffffff, []⟩ /- PENDING_BEAT, R339 -/]

/-- Entries 0x4000 onwards, part 3. -/
def dictArea4c : List DictEntry := [
   ⟨0x4070, 0x0D, 0x0D, 1, 4, .ro, .square, false, 0, []⟩ /- PENDING_PERIOD_NS, R339 -/,
   ⟨0x4070, 0x0E, 0x0E, 1, 4, .ro, .square, false, 0, []⟩ /- OFFSET_PS, R339 -/,
   ⟨0x4070, 0x0F, 0x0F, 1, 4, .ro, .square, false, 0, []⟩ /- CYCLES_LAST_BEAT, R339 -/,
   ⟨0x4070, 0x10, 0x10, 1, 1, .rw, .square, true, 0, [(0, 1)]⟩ /- PROMOTE_MASTER, R339 -/,
   ⟨0x4080, 0x01, 0x01, 4, 4, .ro, .program, false, 0, []⟩ /- LATE_BEAT_COUNT, R340 -/,
   ⟨0x4080, 0x02, 0x02, 4, 8, .ro, .program, false, 0, []⟩ /- LAST_LATE_BEAT, R340 -/,
   ⟨0x4080, 0x03, 0x03, 4, 4, .ro, .program, false, 0, []⟩ /- LATE_BY_CYCLES_MAX, R340 -/]

/-- Entries 0x5000 onwards, part 1. -/
def dictArea5a : List DictEntry := [
   ⟨0x5000, 0x01, 0x01, 1, 4, .rw, .record, false, 0, [(0, 0)]⟩ /- FAULT_CAUSE, R538 -/,
   ⟨0x5000, 0x02, 0x02, 1, 8, .rw, .record, false, 0, [(0, 0)]⟩ /- FAULT_DETAIL, R538 -/,
   ⟨0x5000, 0x03, 0x03, 1, 8, .rw, .record, false, 0xffffffffffffffff, [(18446744073709551615, 18446744073709551615)]⟩ /- FAULT_BEAT, R538 -/,
   ⟨0x5000, 0x04, 0x04, 1, 4, .rw, .record, false, 0, [(0, 0)]⟩ /- FAULT_COUNT, R538 -/,
   ⟨0x5001, 0x01, 0x01, 1, 1, .w1c, .record, false, 0, []⟩ /- UNMAPPED_FLAGS, R538 -/,
   ⟨0x5001, 0x02, 0x02, 1, 4, .rw, .record, false, 0, [(0, 0)]⟩ /- UNMAPPED_COUNT, R538 -/,
   ⟨0x5001, 0x03, 0x03, 1, 8, .rw, .record, false, 0xffffffffffffffff, [(18446744073709551615, 18446744073709551615)]⟩ /- UNMAPPED_ADDRESS, R538 -/,
   ⟨0x5010, 0x01, 0x01, 1, 4, .w1c, .record, false, 0, []⟩ /- ARITH_FLAGS, R81 -/,
   ⟨0x5010, 0x02, 0x02, 1, 2, .ro, .record, false, 0xffff, []⟩ /- ARITH_FIRST_BLOCK, R83 -/,
   ⟨0x5010, 0x03, 0x03, 1, 4, .rw, .record, false, 0, [(0, 0)]⟩ /- SATURATION_COUNT, R83 -/,
   ⟨0x5010, 0x04, 0x04, 1, 4, .rw, .record, false, 0, [(0, 0)]⟩ /- NONFINITE_STORE_COUNT, R83 -/,
   ⟨0x5020, 0x01, 0x01, 1, 4, .w1c, .record, false, 0, []⟩ /- BANK_RECORD_FLAGS, R125 -/,
   ⟨0x5020, 0x02, 0x02, 1, 4, .rw, .record, false, 0, [(0, 0)]⟩ /- BANK_CE_COUNT, R125 -/,
   ⟨0x5020, 0x03, 0x03, 1, 4, .rw, .record, false, 0, [(0, 0)]⟩ /- BANK_UE_COUNT, R125 -/,
   ⟨0x5020, 0x04, 0x04, 1, 4, .rw, .record, false, 0xffffffff, [(4294967295, 4294967295)]⟩ /- BANK_UE_FIRST, R125 -/,
   ⟨0x5020, 0x05, 0x05, 1, 4, .rw, .record, false, 0, [(0, 0)]⟩ /- ROW_MIGRATION_COUNT, R125 -/,
   ⟨0x5020, 0x06, 0x06, 1, 4, .rw, .record, false, 0, [(0, 0)]⟩ /- ROW_RANGE_COUNT, R125 -/,
   ⟨0x5021, 0x01, 0x01, 1, 1, .w1c, .record, false, 0, []⟩ /- WRITE_MERGE_FLAGS, R125 -/,
   ⟨0x5021, 0x02, 0x02, 1, 4, .rw, .record, false, 0, [(0, 0)]⟩ /- WRITE_OVERLAP_COUNT, R125 -/,
   ⟨0x5021, 0x03, 0x03, 1, 4, .rw, .record, false, 0xffffffff, [(4294967295, 4294967295)]⟩ /- WRITE_OVERLAP_FIRST, R125 -/,
   ⟨0x5021, 0x04, 0x04, 1, 4, .rw, .record, false, 0, [(0, 0)]⟩ /- ENGINE_SUPPRESS_COUNT, R125 -/,
   ⟨0x5030, 0x01, 0x01, 1, 1, .w1c, .record, false, 0, []⟩ /- STREAM_RECORD_FLAGS, R166 -/,
   ⟨0x5030, 0x02, 0x02, 1, 4, .rw, .record, false, 0, [(0, 0)]⟩ /- WAIT_TIMEOUT_COUNT, R166 -/,
   ⟨0x5030, 0x03, 0x03, 1, 4, .rw, .record, false, 0xffffffff, [(4294967295, 4294967295)]⟩ /- WAIT_TIMEOUT_FIRST, R167 -/,
   ⟨0x5040, 0x01, 0x01, 1, 1, .w1c, .record, false, 0, []⟩ /- QUEUE_PLAZA_FLAGS, R233 -/,
   ⟨0x5040, 0x02, 0x02, 1, 4, .rw, .record, false, 0, [(0, 0)]⟩ /- QUEUE_CLOSED_SEND_COUNT, R233 -/,
   ⟨0x5040, 0x03, 0x03, 1, 4, .rw, .record, false, 0, [(0, 0)]⟩ /- QUEUE_CLOSED_READ_COUNT, R233 -/,
   ⟨0x5040, 0x04, 0x04, 1, 8, .rw, .record, false, 0xffffffffffffffff, [(18446744073709551615, 18446744073709551615)]⟩ /- QUEUE_CLOSED_FIRST, R233 -/]

/-- Entries 0x5000 onwards, part 2. -/
def dictArea5b : List DictEntry := [
   ⟨0x5040, 0x05, 0x05, 1, 4, .rw, .record, false, 0, [(0, 0)]⟩ /- PLAZA_EMPTY_DRAIN_COUNT, R233 -/,
   ⟨0x5040, 0x06, 0x06, 1, 4, .rw, .record, false, 0, [(0, 0)]⟩ /- PLAZA_POISON_COUNT, R233 -/,
   ⟨0x5050, 0x01, 0x01, 1, 1, .w1c, .record, false, 0, []⟩ /- STAGE_RECORD_FLAGS, R265 -/,
   ⟨0x5050, 0x02, 0x02, 1, 4, .rw, .record, false, 0, [(0, 0)]⟩ /- ADMIT_INVALID_COUNT, R265 -/,
   ⟨0x5050, 0x03, 0x03, 1, 4, .rw, .record, false, 0, [(0, 0)]⟩ /- STASH_UNMAPPED_COUNT, R265 -/,
   ⟨0x5050, 0x04, 0x04, 1, 4, .rw, .record, false, 0, [(0, 0)]⟩ /- POISONED_ADMIT_COUNT, R265 -/,
   ⟨0x5050, 0x05, 0x05, 1, 4, .rw, .record, false, 0, [(0, 0)]⟩ /- ADMIT_PUSH_FULL_COUNT, R265 -/,
   ⟨0x5050, 0x07, 0x07, 1, 8, .rw, .record, false, 0xffffffffffffffff, [(18446744073709551615, 18446744073709551615)]⟩ /- STAGE_RECORD_FIRST, R265 -/,
   ⟨0x5060, 0x01, 0x01, 1, 1, .w1c, .record, false, 0, []⟩ /- ZONING_RECORD_FLAGS, R306 -/,
   ⟨0x5060, 0x02, 0x02, 1, 4, .rw, .record, false, 0, [(0, 0)]⟩ /- EVACUATION_COUNT, R306 -/,
   ⟨0x5060, 0x03, 0x03, 1, 4, .rw, .record, false, 0, [(0, 0)]⟩ /- EVAC_ABANDON_COUNT, R306 -/,
   ⟨0x5060, 0x04, 0x04, 1, 4, .rw, .record, false, 0xffffffff, [(4294967295, 4294967295)]⟩ /- EVAC_PROBLEM_FIRST, R306 -/,
   ⟨0x5060, 0x05, 0x05, 1, 4, .rw, .record, false, 0, [(0, 0)]⟩ /- LOAD_REFUSAL_COUNT, R306 -/,
   ⟨0x5070, 0x01, 0x01, 1, 1, .w1c, .record, false, 0, []⟩ /- BEAT_RECORD_FLAGS, R341 -/,
   ⟨0x5070, 0x02, 0x02, 1, 4, .rw, .record, false, 0, [(0, 0)]⟩ /- LATE_BEAT_TOTAL, R341 -/,
   ⟨0x5070, 0x03, 0x03, 1, 8, .rw, .record, false, 0xffffffffffffffff, [(18446744073709551615, 18446744073709551615)]⟩ /- LATE_BEAT_FIRST, R341 -/,
   ⟨0x5070, 0x04, 0x04, 1, 4, .rw, .record, false, 0, [(0, 0)]⟩ /- ANNOUNCE_LATE_COUNT, R341 -/,
   ⟨0x5070, 0x05, 0x05, 1, 4, .rw, .record, false, 0, [(0, 0)]⟩ /- UNALIGNED_COUNT, R341 -/,
   ⟨0x5070, 0x06, 0x06, 1, 4, .rw, .record, false, 0, [(0, 0)]⟩ /- BEAT_FRAME_INVALID_COUNT, R341 -/,
   ⟨0x5070, 0x07, 0x07, 1, 4, .rw, .record, false, 0, [(0, 0)]⟩ /- PORT_DELAY_FAIL_COUNT, R341 -/,
   ⟨0x5080, 0x01, 0x01, 1, 2, .w1c, .record, false, 0, []⟩ /- NET_RECORD_FLAGS, R384 -/,
   ⟨0x5080, 0x02, 0x02, 1, 4, .rw, .record, false, 0, [(0, 0)]⟩ /- FRAME_INVALID_COUNT, R384 -/,
   ⟨0x5080, 0x03, 0x03, 1, 4, .rw, .record, false, 0, [(0, 0)]⟩ /- OVER_CREDIT_COUNT, R384 -/,
   ⟨0x5080, 0x04, 0x04, 1, 4, .rw, .record, false, 0, [(0, 0)]⟩ /- RETRANSMIT_COUNT, R384 -/,
   ⟨0x5080, 0x05, 0x05, 1, 4, .rw, .record, false, 0, [(0, 0)]⟩ /- FLOW_BROKEN_COUNT, R384 -/,
   ⟨0x5080, 0x06, 0x06, 1, 4, .rw, .record, false, 0, [(0, 0)]⟩ /- PEER_CLOSED_COUNT, R384 -/,
   ⟨0x5080, 0x07, 0x07, 1, 4, .rw, .record, false, 0, [(0, 0)]⟩ /- RECV_MISMATCH_COUNT, R384 -/,
   ⟨0x5080, 0x08, 0x08, 1, 4, .rw, .record, false, 0, [(0, 0)]⟩ /- POISON_UNITS_RX, R384 -/]

/-- Entries 0x5000 onwards, part 3. -/
def dictArea5c : List DictEntry := [
   ⟨0x5080, 0x09, 0x09, 1, 4, .rw, .record, false, 0, [(0, 0)]⟩ /- CE_MARK_COUNT, R384 -/,
   ⟨0x5080, 0x0A, 0x0A, 1, 4, .rw, .record, false, 0, [(0, 0)]⟩ /- DUPLICATE_COUNT, R384 -/,
   ⟨0x5080, 0x0B, 0x0B, 1, 4, .rw, .record, false, 0, [(0, 0)]⟩ /- OPEN_REJECT_COUNT, R384 -/,
   ⟨0x5080, 0x0C, 0x0C, 1, 4, .rw, .record, false, 0, [(0, 0)]⟩ /- PORT_OVER_BUDGET_COUNT, R384 -/,
   ⟨0x5080, 0x0D, 0x0D, 1, 4, .rw, .record, false, 0, [(0, 0)]⟩ /- RDMA_POISON_COUNT, R384 -/,
   ⟨0x5080, 0x0E, 0x0E, 1, 8, .rw, .record, false, 0xffffffffffffffff, [(18446744073709551615, 18446744073709551615)]⟩ /- NET_RECORD_FIRST, R384 -/,
   ⟨0x5090, 0x01, 0x01, 1, 1, .w1c, .record, false, 0, []⟩ /- REDUCTION_RECORD_FLAGS, R416 -/,
   ⟨0x5090, 0x02, 0x02, 1, 4, .rw, .record, false, 0, [(0, 0)]⟩ /- STEPS_INCOMPLETE_COUNT, R416 -/,
   ⟨0x5090, 0x03, 0x03, 1, 4, .rw, .record, false, 0, [(0, 0)]⟩ /- SUBSTITUTION_COUNT, R416 -/,
   ⟨0x5090, 0x04, 0x04, 1, 4, .rw, .record, false, 0, [(0, 0)]⟩ /- VETO_COUNT, R416 -/,
   ⟨0x5090, 0x05, 0x05, 1, 4, .rw, .record, false, 0, [(0, 0)]⟩ /- SET_REFUSAL_COUNT, R416 -/,
   ⟨0x5090, 0x06, 0x06, 1, 4, .rw, .record, false, 0, [(0, 0)]⟩ /- REQUEST_INVALID_COUNT, R416 -/,
   ⟨0x5090, 0x07, 0x07, 1, 8, .rw, .record, false, 0, [(0, 0)]⟩ /- BUMP_TOTAL, R416 -/,
   ⟨0x5090, 0x08, 0x08, 1, 8, .rw, .record, false, 0xffffffffffffffff, [(18446744073709551615, 18446744073709551615)]⟩ /- REDUCTION_RECORD_FIRST, R416 -/,
   ⟨0x50A0, 0x01, 0x01, 1, 2, .w1c, .record, false, 0, []⟩ /- CAIRN_RECORD_FLAGS, R445 -/,
   ⟨0x50A0, 0x02, 0x02, 1, 4, .rw, .record, false, 0, [(0, 0)]⟩ /- CKPT_REFUSED_COUNT, R445 -/,
   ⟨0x50A0, 0x03, 0x03, 1, 4, .rw, .record, false, 0, [(0, 0)]⟩ /- CKPT_ABANDONED_COUNT, R445 -/,
   ⟨0x50A0, 0x04, 0x04, 1, 4, .rw, .record, false, 0, [(0, 0)]⟩ /- GRANULE_WAIT_COUNT, R445 -/,
   ⟨0x50A0, 0x05, 0x05, 1, 4, .rw, .record, false, 0, [(0, 0)]⟩ /- DRAIN_FAIL_COUNT, R445 -/,
   ⟨0x50A0, 0x06, 0x06, 1, 4, .rw, .record, false, 0, [(0, 0)]⟩ /- RESTORE_FAIL_COUNT, R445 -/,
   ⟨0x50A0, 0x07, 0x07, 1, 8, .rw, .record, false, 0xffffffffffffffff, [(18446744073709551615, 18446744073709551615)]⟩ /- CAIRN_RECORD_FIRST, R445 -/,
   ⟨0x50B0, 0x01, 0x01, 1, 1, .w1c, .record, false, 0, []⟩ /- TENANCY_RECORD_FLAGS, R472 -/,
   ⟨0x50B0, 0x02, 0x02, 1, 4, .rw, .record, false, 0, [(0, 0)]⟩ /- SWITCH_COUNT, R472 -/,
   ⟨0x50B0, 0x03, 0x03, 1, 4, .rw, .record, false, 0, [(0, 0)]⟩ /- PARKED_FLOW_COUNT, R472 -/,
   ⟨0x50B0, 0x04, 0x04, 1, 4, .rw, .record, false, 0, [(0, 0)]⟩ /- FALLBACK_COUNT, R472 -/,
   ⟨0x50B0, 0x05, 0x05, 1, 4, .rw, .record, false, 0, [(0, 0)]⟩ /- FALLBACK_LOST_COUNT, R472 -/,
   ⟨0x50B0, 0x06, 0x06, 1, 4, .rw, .record, false, 0, [(0, 0)]⟩ /- FALLBACK_UNAVAILABLE_COUNT, R472 -/,
   ⟨0x50B0, 0x07, 0x07, 1, 4, .rw, .record, false, 0, [(0, 0)]⟩ /- SWAP_IN_REFUSED_COUNT, R472 -/]

/-- Entries 0x5000 onwards, part 4. -/
def dictArea5d : List DictEntry := [
   ⟨0x50B0, 0x08, 0x08, 1, 8, .rw, .record, false, 0xffffffffffffffff, [(18446744073709551615, 18446744073709551615)]⟩ /- TENANCY_RECORD_FIRST, R472 -/,
   ⟨0x50C0, 0x01, 0x01, 1, 1, .w1c, .record, false, 0, []⟩ /- MAILBOX_RECORD_FLAGS, R491 -/,
   ⟨0x50C0, 0x02, 0x02, 1, 4, .rw, .record, false, 0, [(0, 0)]⟩ /- MAILBOX_VIOLATION_COUNT, R491 -/,
   ⟨0x50C0, 0x03, 0x03, 1, 4, .rw, .record, false, 0, [(0, 0)]⟩ /- LOCK_MISUSE_COUNT, R491 -/,
   ⟨0x50C0, 0x04, 0x04, 1, 4, .rw, .record, false, 0, [(0, 0)]⟩ /- RING_INDEX_INVALID_COUNT, R491 -/,
   ⟨0x50C0, 0x05, 0x05, 1, 4, .rw, .record, false, 0, [(0, 0)]⟩ /- RECORD_INVALID_COUNT, R491 -/,
   ⟨0x50C0, 0x06, 0x06, 1, 4, .rw, .record, false, 0, [(0, 0)]⟩ /- NOTICE_DROPPED_COUNT, R491 -/,
   ⟨0x50C0, 0x07, 0x07, 1, 4, .rw, .record, false, 0xffffffff, [(4294967295, 4294967295)]⟩ /- MAILBOX_RECORD_FIRST, R491 -/,
   ⟨0x50D0, 0x01, 0x01, 1, 1, .w1c, .record, false, 0, []⟩ /- GARNET_RECORD_FLAGS, R518 -/,
   ⟨0x50D0, 0x02, 0x02, 1, 4, .rw, .record, false, 0, [(0, 0)]⟩ /- GARNET_RESTART_COUNT, R518 -/,
   ⟨0x50D0, 0x03, 0x03, 1, 4, .rw, .record, false, 0, [(0, 0)]⟩ /- LOG_DROPPED_COUNT, R518 -/,
   ⟨0x50D0, 0x04, 0x04, 1, 4, .rw, .record, false, 0, [(0, 0)]⟩ /- DATAGRAM_INVALID_COUNT, R518 -/,
   ⟨0x50D0, 0x05, 0x05, 1, 4, .rw, .record, false, 0, [(0, 0)]⟩ /- LEASE_EXPIRED_COUNT, R518 -/,
   ⟨0x50D0, 0x06, 0x06, 1, 4, .rw, .record, false, 0, [(0, 0)]⟩ /- FW_FAIL_COUNT, R518 -/,
   ⟨0x50D0, 0x07, 0x07, 1, 4, .rw, .record, false, 0xffffffff, [(4294967295, 4294967295)]⟩ /- GARNET_RECORD_FIRST, R518 -/,
   ⟨0x50E0, 0x01, 0x01, 1, 1, .w1c, .record, false, 0, []⟩ /- POISON_RECORD_FLAGS, R538 -/,
   ⟨0x50E0, 0x02, 0x02, 1, 4, .rw, .record, false, 0, [(0, 0)]⟩ /- POISON_CONSUMED_COUNT, R538 -/,
   ⟨0x50E0, 0x03, 0x03, 1, 8, .rw, .record, false, 0xffffffffffffffff, [(18446744073709551615, 18446744073709551615)]⟩ /- POISON_RECORD_FIRST, R538 -/]

/-- Entries 0x6000 onwards, part 1. -/
def dictArea6a : List DictEntry := [
   ⟨0x6000, 0x01, 0x01, 1, 4, .rw, .flash, false, 0x2000, [(0, 32768)]⟩ /- CKPT_RESERVE_MIB, R444 -/,
   ⟨0x6010, 0x01, 0x01, 8, 1, .wo, .square, true, 0, [(0, 2)]⟩ /- SET_COMMAND, R386 -/,
   ⟨0x6010, 0x02, 0x02, 8, 2, .rw, .square, false, 0, [(0, 1024)]⟩ /- SET_MEMBERS, R386 -/,
   ⟨0x6010, 0x03, 0x03, 8, 2, .rw, .square, false, 0, []⟩ /- OWN_INDEX, R386 -/,
   ⟨0x6010, 0x04, 0x04, 8, 1, .rw, .square, false, 0, [(0, 3)]⟩ /- SET_CONTEXT, R386 -/,
   ⟨0x6010, 0x05, 0x05, 8, 1, .rw, .square, false, 0, [(0, 2)]⟩ /- ALGORITHM, R386 -/,
   ⟨0x6010, 0x06, 0x06, 8, 2, .rw, .square, false, 0x20, [(0, 1024)]⟩ /- GROUP_SIZE, R386 -/,
   ⟨0x6010, 0x07, 0x07, 8, 4, .rw, .square, false, 0, []⟩ /- FLOW_BASE, R386 -/,
   ⟨0x6010, 0x08, 0x08, 8, 4, .rw, .square, false, 0, []⟩ /- REQUEST_FLOW, R386 -/,
   ⟨0x6010, 0x09, 0x09, 8, 4, .rw, .square, false, 0, []⟩ /- DELIVERY_FLOW, R386 -/,
   ⟨0x6010, 0x0A, 0x0A, 8, 1, .rw, .square, false, 0, [(0, 1)]⟩ /- INCOMPLETE_POLICY, R386 -/,
   ⟨0x6010, 0x0B, 0x0B, 8, 1, .rw, .square, false, 1, [(0, 1)]⟩ /- NONFINITE_VETO, R386 -/,
   ⟨0x6010, 0x0C, 0x0C, 8, 1, .rw, .square, false, 1, [(0, 7)]⟩ /- SCALE_HEADROOM, R386 -/,
   ⟨0x6010, 0x0D, 0x0D, 8, 1, .ro, .square, false, 0, []⟩ /- SET_STATE, R386 -/,
   ⟨0x6010, 0x0E, 0x0E, 8, 1, .ro, .square, false, 0, []⟩ /- SET_STATUS, R386 -/,
   ⟨0x6010, 0x0F, 0x0F, 8, 48, .ro, .square, false, 0, []⟩ /- MEMBER_DIGEST, R386 -/,
   ⟨0x6020, 0x01, 0x01, 1, 4, .rw, .square, true, 0, []⟩ /- MEMBER_SELECT, R387 -/,
   ⟨0x6020, 0x02, 0x02, 1, 16, .rw, .square, false, 0, []⟩ /- MEMBER_ADDRESS, R387 -/,
   ⟨0x6020, 0x03, 0x03, 1, 2, .rw, .square, false, 0xffff, []⟩ /- MEMBER_BACKUP, R387 -/,
   ⟨0x6020, 0x04, 0x04, 1, 1, .ro, .square, false, 0, []⟩ /- MEMBER_LAST_ROLE, R387 -/,
   ⟨0x6030, 0x01, 0x01, 8, 4, .ro, .square, false, 0, []⟩ /- LAST_STEP, R415 -/,
   ⟨0x6030, 0x02, 0x02, 8, 8, .ro, .square, false, 0, []⟩ /- STEPS_DONE, R415 -/,
   ⟨0x6030, 0x03, 0x03, 8, 4, .ro, .square, false, 0, []⟩ /- LAST_BUMPS, R415 -/,
   ⟨0x6030, 0x04, 0x04, 8, 8, .ro, .square, false, 0, []⟩ /- LAST_NONFINITE, R415 -/,
   ⟨0x6030, 0x05, 0x05, 8, 8, .ro, .square, false, 0xffffffffffffffff, []⟩ /- LAST_FIRST_NONFINITE, R415 -/,
   ⟨0x6030, 0x06, 0x06, 8, 2, .ro, .square, false, 0, []⟩ /- LAST_SUBSTITUTED, R415 -/,
   ⟨0x6030, 0x07, 0x07, 8, 1, .ro, .square, false, 0, []⟩ /- LAST_STATUS, R415 -/,
   ⟨0x6030, 0x08, 0x08, 8, 2, .ro, .square, false, 0, []⟩ /- FORM_MISSING, R415 -/]

/-- Entries 0x6000 onwards, part 2. -/
def dictArea6b : List DictEntry := [
   ⟨0x6040, 0x01, 0x01, 4, 1, .wo, .square, false, 0, [(0, 2)]⟩ /- CKPT_COMMAND, R444 -/,
   ⟨0x6040, 0x02, 0x02, 4, 1, .rw, .square, false, 0, [(0, 1)]⟩ /- CKPT_DEFAULT_MODE, R444 -/,
   ⟨0x6040, 0x03, 0x03, 4, 1, .rw, .square, false, 0, [(0, 1)]⟩ /- DRAIN_PATH, R444 -/,
   ⟨0x6040, 0x04, 0x04, 4, 2, .rw, .square, false, 0x32, [(0, 800)]⟩ /- DRAIN_RATE_GBS, R444 -/,
   ⟨0x6040, 0x05, 0x05, 4, 4, .rw, .square, false, 0, []⟩ /- DRAIN_FLOW_BASE, R444 -/,
   ⟨0x6040, 0x06, 0x06, 4, 1, .rw, .square, false, 0, [(0, 16)]⟩ /- TARGET_COUNT, R444 -/,
   ⟨0x6040, 0x07, 0x07, 4, 8, .rw, .square, false, 0, []⟩ /- CKPT_JOB_ID, R444 -/,
   ⟨0x6040, 0x08, 0x08, 4, 1, .rw, .square, false, 0xff, [(0, 7), (255, 255)]⟩ /- CKPT_SET, R444 -/,
   ⟨0x6040, 0x09, 0x09, 4, 2, .rw, .square, false, 0xc8, [(10, 10000)]⟩ /- CKPT_CLAIM_US, R444 -/,
   ⟨0x6040, 0x0A, 0x0A, 4, 2, .rw, .square, false, 0x3e8, [(10, 60000)]⟩ /- CKPT_TIMEOUT_MS, R444 -/,
   ⟨0x6040, 0x0B, 0x0B, 4, 1, .rw, .square, false, 0, [(0, 2)]⟩ /- RESTORE_SOURCE, R444 -/,
   ⟨0x6040, 0x0C, 0x0C, 4, 4, .rw, .square, false, 0, []⟩ /- RESTORE_FLOW, R444 -/,
   ⟨0x6040, 0x0D, 0x0D, 4, 4, .rw, .square, false, 0, []⟩ /- RESTORE_GENERATION, R444 -/,
   ⟨0x6040, 0x0E, 0x0E, 4, 4, .rw, .square, false, 1, [(1, 4294967295)]⟩ /- NEXT_GENERATION, R444 -/,
   ⟨0x6040, 0x0F, 0x0F, 4, 2, .rw, .square, false, 0, []⟩ /- POLICY_SELECT, R444 -/,
   ⟨0x6040, 0x10, 0x10, 4, 1, .rw, .square, false, 0, []⟩ /- BUFFER_POLICY, R444 -/,
   ⟨0x6040, 0x11, 0x11, 4, 1, .ro, .square, false, 0, []⟩ /- CKPT_STATE, R444 -/,
   ⟨0x6040, 0x12, 0x12, 4, 4, .ro, .square, false, 0, []⟩ /- LAST_GENERATION, R444 -/,
   ⟨0x6040, 0x13, 0x13, 4, 8, .ro, .square, false, 0, []⟩ /- LAST_CUT_BEAT, R444 -/,
   ⟨0x6040, 0x14, 0x14, 4, 4, .ro, .square, false, 0, []⟩ /- FAST_COPY_CYCLES, R444 -/,
   ⟨0x6050, 0x01, 0x01, 1, 1, .rw, .square, false, 1, [(1, 4)]⟩ /- PARTITION_COUNT, R471 -/,
   ⟨0x6050, 0x02, 0x02, 1, 1, .rw, .square, true, 0, [(0, 1)]⟩ /- ACCOUNTING_MODE, R471 -/,
   ⟨0x6050, 0x03, 0x03, 1, 1, .rw, .square, true, 0x40, [(0, 64)]⟩ /- PREEMPT_GRACE_US, R471 -/,
   ⟨0x6050, 0x04, 0x04, 1, 2, .rw, .square, true, 2, [(0, 4096)]⟩ /- BLOCK_MIN_BEATS, R471 -/,
   ⟨0x6050, 0x05, 0x05, 1, 2, .rw, .square, true, 4, [(1, 4096)]⟩ /- REMOTE_RETRY_BEATS, R471 -/,
   ⟨0x6050, 0x06, 0x06, 1, 1, .rw, .square, false, 0xff, [(0, 3), (255, 255)]⟩ /- FALLBACK_PARTITION, R471 -/,
   ⟨0x6050, 0x07, 0x07, 1, 1, .rw, .square, true, 1, [(0, 1)]⟩ /- SWAP_ENABLE, R471 -/,
   ⟨0x6060, 0x01, 0x01, 4, 8, .rw, .square, false, 0, []⟩ /- DISTRICT_MAP, R447 -/]

/-- Entries 0x6000 onwards, part 3. -/
def dictArea6c : List DictEntry := [
   ⟨0x6060, 0x02, 0x02, 4, 1, .rw, .square, false, 0, [(0, 64)]⟩ /- PROGRAM_PAGES, R447 -/,
   ⟨0x6060, 0x03, 0x03, 4, 1, .rw, .square, false, 0, [(0, 128)]⟩ /- DESC_SLOTS, R447 -/,
   ⟨0x6060, 0x04, 0x04, 4, 2, .rw, .square, false, 0, []⟩ /- PLAZA_MASK, R447 -/,
   ⟨0x6060, 0x05, 0x05, 4, 1, .ro, .square, false, 0xff, []⟩ /- RESIDENT_TENANT, R447 -/,
   ⟨0x6070, 0x01, 0x01, 8, 1, .rw, .square, true, 0xff, [(0, 3), (255, 255)]⟩ /- HOME_PARTITION, R450 -/,
   ⟨0x6070, 0x02, 0x02, 8, 2, .rw, .square, true, 0x64, [(1, 1000)]⟩ /- SHARES, R450 -/,
   ⟨0x6070, 0x03, 0x03, 8, 1, .rw, .square, true, 0, []⟩ /- TENANT_REQUEST, R450 -/,
   ⟨0x6070, 0x04, 0x04, 8, 8, .rw, .square, true, 0, []⟩ /- REQUEST_BEAT, R450 -/,
   ⟨0x6070, 0x05, 0x05, 8, 1, .ro, .square, true, 0, []⟩ /- TENANT_STATE, R450 -/,
   ⟨0x6070, 0x06, 0x06, 8, 1, .ro, .square, true, 0, []⟩ /- TENANT_FLAGS, R450 -/,
   ⟨0x6070, 0x07, 0x07, 8, 4, .rw, .square, true, 0, []⟩ /- FLOW_BASE, R450 -/,
   ⟨0x6070, 0x08, 0x08, 8, 4, .rw, .square, true, 0, []⟩ /- FLOW_COUNT, R450 -/,
   ⟨0x6070, 0x09, 0x09, 8, 2, .rw, .square, true, 0, []⟩ /- PEER_BASE, R450 -/,
   ⟨0x6070, 0x0A, 0x0A, 8, 2, .rw, .square, true, 0, []⟩ /- PEER_COUNT, R450 -/,
   ⟨0x6070, 0x0B, 0x0B, 8, 2, .rw, .square, true, 0, [(0, 3072)]⟩ /- STORE_UNITS, R450 -/,
   ⟨0x6070, 0x0C, 0x0C, 8, 1, .rw, .square, true, 0, [(0, 96)]⟩ /- SQUARE_MIB, R450 -/,
   ⟨0x6070, 0x0D, 0x0D, 8, 1, .rw, .square, true, 0, []⟩ /- BEDROCK_GIB, R450 -/,
   ⟨0x6070, 0x0E, 0x0E, 8, 2, .rw, .square, true, 0, [(0, 4096)]⟩ /- ARRIVAL_QUOTA, R450 -/,
   ⟨0x6070, 0x0F, 0x0F, 8, 8, .ro, .square, true, 0xffffffffffffffff, []⟩ /- BLOCK_BEAT, R450 -/,
   ⟨0x6070, 0x10, 0x10, 8, 8, .rw, .square, true, 0, [(0, 0)]⟩ /- CORNER_CYCLES, R450 -/,
   ⟨0x6070, 0x11, 0x11, 8, 8, .rw, .square, true, 0, [(0, 0)]⟩ /- ACCOUNT_WORD, R450 -/,
   ⟨0x6080, 0x01, 0x01, 4, 1, .ro, .program, false, 0, []⟩ /- DEADLINE_ARMED, R469 -/,
   ⟨0x6080, 0x02, 0x02, 4, 2, .ro, .program, false, 0, []⟩ /- DEADLINE_MARGIN, R469 -/,
   ⟨0x6080, 0x03, 0x03, 4, 4, .ro, .program, false, 0, []⟩ /- FALLBACK_PUSHED, R469 -/]

/-- Entries 0x7000 onwards, part 1. -/
def dictArea7a : List DictEntry := [
   ⟨0x7000, 0x01, 0x01, 1, 1, .rw, .flash, false, 0, [(0, 2)]⟩ /- PLACEMENT_MODE, R299 -/,
   ⟨0x7000, 0x02, 0x02, 1, 1, .rw, .flash, false, 1, [(0, 1)]⟩ /- DEMOTE_ENABLE, R299 -/,
   ⟨0x7000, 0x03, 0x03, 1, 1, .rw, .flash, false, 0x5f, [(0, 125)]⟩ /- HOT_CORNER_C, R299 -/,
   ⟨0x7000, 0x04, 0x04, 1, 4, .rw, .flash, false, 0x2000, [(0, 16384)]⟩ /- STASH_RESERVE_MIB, R299 -/,
   ⟨0x7000, 0x05, 0x05, 1, 4, .rw, .flash, false, 0x200, [(0, 2048)]⟩ /- OVERLAY_RESERVE_MIB, R299 -/,
   ⟨0x7010, 0x01, 0x01, 4, 1, .ro, .square, false, 0, []⟩ /- LOAD_STATUS_CODE, R286 -/,
   ⟨0x7010, 0x02, 0x02, 4, 2, .ro, .square, false, 0xffff, []⟩ /- LOAD_STATUS_BUNDLE, R286 -/,
   ⟨0x7010, 0x03, 0x03, 4, 2, .ro, .square, false, 0xffff, []⟩ /- LOAD_STATUS_OVERLAY, R286 -/,
   ⟨0x7010, 0x04, 0x04, 4, 1, .ro, .square, false, 0xff, []⟩ /- LOAD_STATUS_SLOT, R286 -/,
   ⟨0x7010, 0x05, 0x05, 4, 4, .ro, .square, false, 0xffffffff, []⟩ /- LOAD_STATUS_DETAIL, R286 -/,
   ⟨0x7010, 0x06, 0x06, 4, 4, .ro, .square, false, 0, []⟩ /- LOAD_SHORTFALL, R286 -/,
   ⟨0x7020, 0x01, 0x01, 1, 1, .rw, .flash, false, 4, [(0, 15)]⟩ /- ROW_MIGRATE_THRESHOLD, R125 -/,
   ⟨0x7020, 0x02, 0x02, 1, 2, .rw, .flash, false, 0x64, []⟩ /- SCRUB_PASS_MS, R125 -/,
   ⟨0x7030, 0x01, 0x01, 1, 2, .rw, .square, true, 0, [(0, 1087)]⟩ /- HEALTH_SELECT, R300 -/,
   ⟨0x7030, 0x02, 0x02, 1, 4, .ro, .measured, false, 0, []⟩ /- BLOCK_HEALTH, R300 -/,
   ⟨0x7030, 0x03, 0x03, 1, 2, .rw, .measured, false, 0xffff, [(0, 1087), (65535, 65535)]⟩ /- MAP_OUT, R300 -/,
   ⟨0x7030, 0x04, 0x04, 1, 2, .rw, .measured, false, 0xffff, [(0, 1087), (65535, 65535)]⟩ /- RETURN_TO_SERVICE, R300 -/,
   ⟨0x7030, 0x05, 0x05, 1, 2, .ro, .measured, false, 0, []⟩ /- UNUSABLE_BLOCKS, R300 -/,
   ⟨0x7031, 0x01, 0x01, 1, 2, .rw, .square, true, 0, [(0, 17407)]⟩ /- REMAP_SELECT, R300 -/,
   ⟨0x7031, 0x02, 0x11, 1, 2, .ro, .measured, false, 0, []⟩ /- REMAP_ENTRY_0–_15, R300 -/,
   ⟨0x7040, 0x01, 0x01, 1, 4, .rw, .square, true, 0, []⟩ /- BINDING_SELECT, R301 -/,
   ⟨0x7040, 0x02, 0x02, 1, 8, .ro, .measured, false, 0, []⟩ /- BINDING, R301 -/,
   ⟨0x7040, 0x03, 0x03, 1, 4, .ro, .measured, false, 0, []⟩ /- BINDING_SIZE, R301 -/,
   ⟨0x7044, 0x01, 0x40, 4, 1, .ro, .program, false, 0xff, []⟩ /- DISTRICT_MAP_0–_63, R301 -/,
   ⟨0x7050, 0x01, 0x01, 1, 2, .rw, .square, true, 0xffff, [(0, 1087), (65535, 65535)]⟩ /- EVAC_REQUEST, R303 -/,
   ⟨0x7050, 0x02, 0x02, 1, 1, .rw, .flash, false, 1, [(0, 1)]⟩ /- EVAC_AUTO, R303 -/,
   ⟨0x7050, 0x03, 0x03, 1, 1, .ro, .square, false, 0, []⟩ /- EVAC_PENDING, R303 -/,
   ⟨0x7050, 0x04, 0x04, 1, 4, .ro, .program, false, 0, []⟩ /- EVAC_WINDOWS_OPENED, R303 -/]

/-- Entries 0x7000 onwards, part 2. -/
def dictArea7b : List DictEntry := [
   ⟨0x7060, 0x01, 0x40, 4, 1, .rw, .square, false, 0xff, [(0, 63), (255, 255)]⟩ /- PLACEMENT_PIN_0–_63, R307 -/,
   ⟨0x7F00, 0x01, 0x01, 1, 1, .wo, .square, false, 0, [(0, 6)]⟩ /- FW_COMMAND, R516 -/,
   ⟨0x7F00, 0x02, 0x02, 1, 0, .wo, .square, false, 0, []⟩ /- FW_DATA, R516 -/,
   ⟨0x7F00, 0x03, 0x03, 1, 4, .ro, .square, false, 0, []⟩ /- FW_OFFSET, R516 -/,
   ⟨0x7F00, 0x04, 0x04, 1, 8, .rw, .square, false, 0, []⟩ /- FW_FETCH_ADDRESS, R516 -/,
   ⟨0x7F00, 0x05, 0x05, 1, 4, .rw, .square, false, 0, []⟩ /- FW_FETCH_LENGTH, R516 -/,
   ⟨0x7F00, 0x06, 0x06, 1, 1, .ro, .square, false, 0, []⟩ /- FW_STATUS, R516 -/,
   ⟨0x7F00, 0x07, 0x07, 1, 1, .ro, .fixed, false, 0, []⟩ /- ACTIVE_SLOT, R516 -/,
   ⟨0x7F00, 0x08, 0x08, 1, 4, .ro, .fixed, false, 0, []⟩ /- SLOT_A_VERSION, R516 -/,
   ⟨0x7F00, 0x09, 0x09, 1, 4, .ro, .fixed, false, 0, []⟩ /- SLOT_B_VERSION, R516 -/,
   ⟨0x7F00, 0x0A, 0x0A, 1, 4, .ro, .fixed, false, 0, []⟩ /- SECURITY_VERSION, R516 -/,
   ⟨0x7F00, 0x0B, 0x0B, 1, 2, .rw, .flash, false, 0x258, [(10, 3600)]⟩ /- FW_TRIAL_S, R516 -/]

/-- Every implemented entry but the subindices 00 of R522. -/
def dictTable : List DictEntry :=
  dictArea1a ++ dictArea2a ++ dictArea2b ++ dictArea3a ++ dictArea3b ++ dictArea4a ++ dictArea4b ++ dictArea4c ++ dictArea5a ++ dictArea5b ++ dictArea5c ++ dictArea5d ++ dictArea6a ++ dictArea6b ++ dictArea6c ++ dictArea7a ++ dictArea7b

end Sys2Proof.Machine
end

