-- ==== Sys2Proof/Machine/State.lean ====
section
/-! DEFINITION. The machine's state: every register, buffer, queue, counter and mode the spec gives the block, as plain
data, the queue of waiting commands, and the state after reset. -/

namespace Sys2Proof.Machine

/-! ## Outcomes -/

/-- Why the machine stops. Stopping is safe: no claim about a next state holds there. -/
inductive Fault where
  /-- Raised by the meaning of a slot operation whose fields name an encoding that the load check refuses (R207, R208:
  reserved codes and values), so that no such slot is ever issued. Safe. -/
  | reservedEncoding
  deriving DecidableEq, Repr

/-- Why a command is not run. -/
inductive Refusal where
  /-- Raised only by the dispatcher, for a command that has no meaning yet. Safe. -/
  | notModelled (mnemonic : String)
  deriving DecidableEq, Repr

/-! ## What the module sends -/

/-- What carries a sent packet (R352, R358, R373): its port (8: inside the Square; 9: no port is usable, and it is lost), the
destination MAC (0: the link partner has announced none), the 802.1Q tag (priority and VLAN id), the IP addresses, DSCP and ECN
(2: ECT(0)), and the UDP ports. Its UDP checksum is always 0. -/
structure Packet where
  port     : Nat
  mac      : Nat
  tag      : Option (Nat × Nat)
  source   : Nat
  dest     : Nat
  dscp     : Nat
  ecn      : Nat
  fromPort : Nat
  atPort   : Nat
  deriving DecidableEq, Repr

/-- One thing that left the module: the model's own record of its outputs, newest first in `State.out`. -/
inductive Out where
  /-- The answer to a dictionary request: its abort code (0: success) and the value a read returns (R505). -/
  | answer (r : Requester) (abort value : Nat)
  /-- A CAN FD message: 0 heartbeat with the NMT state, 1 EMCY with `FAULT_CAUSE`, 2 boot-up (R506). -/
  | can (kind value : Nat)
  /-- MSI-X vector of a PCIe function (R484). -/
  | msix (function vector : Nat)
  /-- The internal mailbox event to Garnet or an engine (R484). -/
  | mailEvent (identity channel dir : Nat)
  /-- The wake event of a sleeping receiver (R485): PM_PME for identities 1 to 4. -/
  | wake (identity : Nat)
  /-- A beat control frame to a module address: 1 stretch request, 2 announce, with the 64 B body (R322, R323); its header holds
  `KIND` 3 and `VERSION` 1 alone (R353). -/
  | beatFrame (address kind body : Nat)
  /-- A DATA frame of a flow: the packet, the 32 B header of R353 as a number, and the unit's bytes (R354). -/
  | data (flow : Nat) (packet : Packet) (header : Nat) (bytes : List Byte)
  /-- An ACK of a receive flow: the packet and the header (R353, R369). -/
  | ack (flow : Nat) (packet : Packet) (header : Nat)
  /-- A FLOW control frame of a flow: the packet, the header, and the 64 B body (R356). -/
  | flowFrame (flow : Nat) (packet : Packet) (header body : Nat)
  /-- A capability frame on a port, or to peer `target` − 8 end to end (R349, R351); its header holds `KIND` 4 and `VERSION` 1
  alone (R353). -/
  | capability (target body : Nat)
  /-- An answer to ARP or Neighbor Solicitation on a port for an address (R357). -/
  | resolved (port address : Nat)
  /-- A RoCEv2 request of a flow: the packet; 0 WRITE of a unit, 1 READ of a unit, 2 READ of the host count; the queue pair, the
  partition key, the remote key, the host address, and the bytes written (R376 to R378). -/
  | rdma (flow : Nat) (packet : Packet) (kind qpn pkey rkey address : Nat) (bytes : List Byte)
  /-- An SPDM message: to port or peer `target` as requester, or as responder; its request code; its payload (R587). -/
  | spdm (target code payload : Nat)
  /-- A PTP message sent on a port (R317): its type and sequence of fields. -/
  | ptp (port kind : Nat)
  /-- An answer of the SPDM responder (R587, R588): medium 0 PCIe function, 1 port, 2 peer, with its number; the request's code, an
  ERROR code (0: none), the request's parameter that the answer repeats, and the answer's bytes. -/
  | attest (medium target code error param : Nat) (bytes : List Byte)
  /-- What a mailbox register read returns to a master (R479, R480). -/
  | mailRead (identity value : Nat)
  /-- A USDO message to a client node (R506): 1 an upload begins with its size in `count`, 2 an upload segment, 3 a download begins, 4 a
  download segment has been taken. -/
  | usdo (node kind count : Nat) (bytes : List Byte)
  /-- A response datagram (R507): its header as a number, and its data. -/
  | datagram (address port header : Nat) (bytes : List Byte)
  /-- The completion of a PCIe read (R26, R578): the function, 0 successful or 1 Unsupported Request, whether EP is set, the bytes. -/
  | completion (function status : Nat) (poison : Bool) (bytes : List Byte)
  deriving DecidableEq, Repr

/-! ## Power and module state (01, 17, 20) -/

/-- The device states of R35, in code order. -/
inductive ModState where
  | off | standby | survey | ready | loaded | running | held | faulted
  deriving DecidableEq, Repr

/-- What the supplies and the survey have made of the module. `up` stands for READY and the states that the tenants'
states make of it: LOADED, RUNNING and HELD (R453). -/
inductive PowerState where
  | off | standby | survey | up | faulted
  deriving DecidableEq, Repr

/-- A pending state request (R38): its code in R36, its beat, and the tenant it acts on. -/
structure Request where
  code   : Nat
  beat   : Nat
  tenant : Nat
  deriving DecidableEq, Repr

/-- Supplies, straps, the state machine and the survey. -/
structure Power where
  /-- Off, STANDBY, SURVEY, up, FAULTED (R35); `MODULE_STATE` follows it and the tenants' states (R453). -/
  state        : PowerState
  /-- `STRAP_SNAPSHOT` (R530). -/
  straps       : Nat
  /-- The presence contact is asserted (R600). -/
  presence     : Bool
  /-- Voltage at the connector's 400 V contacts, mV (R600). -/
  bus400       : Nat
  /-- Voltage at the connector's 12 V contact, mV (R599). -/
  bus12        : Nat
  /-- The input switch is closed (R600). -/
  switchOn     : Bool
  /-- Power-good has happened since OFF (R541). -/
  powerGood    : Bool
  /-- Steps of R548 whose rails are on, 0 to 8. -/
  railsUp      : Nat
  /-- The pending state request (R38). -/
  request      : Option Request
  /-- STANDBY was entered by `POWER_DOWN` (R44). -/
  fromDown     : Bool
  /-- `AUTO_SURVEY` makes no request until the next power-good or accepted `POWER_UP` (R551). -/
  surveyBarred : Bool
  /-- Garnet performs `RESET` 100 ms after the fault (R565). -/
  followUp     : Bool
  /-- Survey items done (R554): engine microcode, health map, block check. -/
  microDone    : Bool
  healthDone   : Bool
  blocksDone   : Bool
  /-- Digest of the loaded engine microcode (R588 block 3). -/
  microDigest  : Nat
  /-- `BOOT_IMAGE_LENGTH` and `BOOT_STATUS` (R559). -/
  bootLength   : Nat
  bootStatus   : Nat
  /-- The PCIe link is up and BAR0 is served (R561). -/
  pcieUp       : Bool
  /-- 0x1011 has marked the F entries for return to default (R528). -/
  restoreMark  : Bool
  deriving DecidableEq, Repr

/-- A remap entry (R94): 0 `FREE`, 1 `COPYING`, 2 `IN_USE`, 3 `RETIRED`, and its target row. Its `POISON` is the spare row's
poison mark. -/
structure Remap where
  state  : Nat
  target : Nat
  deriving DecidableEq, Repr

def Remap.free : Remap := ⟨0, 0⟩

/-! ## Garnet (15, 19) -/

/-- One log entry (R501). -/
structure LogEntry where
  time     : Nat
  beat     : Nat
  detailB  : Nat
  detailA  : Nat
  sequence : Nat
  source   : Nat
  event    : Nat
  severity : Nat
  deriving DecidableEq, Repr

/-- One firmware slot (R512, R513): its header's versions, its bytes as received, and whether it holds a valid image. -/
structure FwSlot where
  version  : Nat
  security : Nat
  digest   : Nat
  valid    : Bool
  bytes    : List Byte
  deriving DecidableEq, Repr

/-- One sensor (R495): its last reading, how many samples in a row were implausible, whether it has failed, and how many
samples in a row lay beyond its limit (R607, R610). -/
structure Sensor where
  reading : Option Int
  missed  : Nat
  failed  : Bool
  beyond  : Nat
  deriving DecidableEq, Repr

/-- A segmented USDO transfer in progress (R506): entry, whether a download, its size, the segments so far, and the bytes taken, or still
to be sent. -/
structure Usdo where
  index    : Nat
  sub      : Nat
  download : Bool
  size     : Nat
  count    : Nat
  bytes    : List Byte
  deriving DecidableEq, Repr

/-- A partial datagram write of one session (R507). -/
structure Partial where
  addr    : Nat
  port    : Nat
  session : Nat
  index   : Nat
  sub     : Nat
  bytes   : List Byte
  deriving DecidableEq, Repr

/-- The last response of one datagram session (R507): its header and its data. -/
structure Kept where
  addr     : Nat
  port     : Nat
  session  : Nat
  sequence : Nat
  header   : Nat
  bytes    : List Byte
  deriving DecidableEq, Repr

/-- One function's dictionary window (R508): its registers, `DICT_DATA` as a number, and the partial write that its segments build, with
the entry it is for. -/
structure DictWindow where
  address : Nat
  offset  : Nat
  length  : Nat
  status  : Nat
  abort   : Nat
  data    : Nat
  target  : Nat
  segment : List Byte
  deriving DecidableEq, Repr

def DictWindow.empty : DictWindow := ⟨0, 0, 0, 0, 0, 0, 0, []⟩

/-- The management controller. -/
structure Garnet where
  /-- Node-ID in force (R517: a change of 0x2062:01 takes effect at the next entry into STANDBY). -/
  canNode     : Nat
  /-- NMT state (R506). -/
  nmt         : Nat
  /-- Segmented USDO transfers by client node (R506). -/
  usdo        : List (Nat × Usdo)
  /-- Partial datagram writes, and the last response of each session (R507). -/
  partials    : List Partial
  kept        : List Kept
  /-- Dictionary windows by function (R508). -/
  windows     : List (Nat × DictWindow)
  /-- UDP port of an Ethernet lease holder (R503). -/
  leasePort   : Nat
  /-- Sensors by number (R495). -/
  sensors     : List (Nat × Sensor)
  /-- Corner temperatures in °C; absent: 0xFF, not measured (R122, R274). -/
  corners     : List (Nat × Nat)
  /-- The RAM log and its copy in flash, and the newest sequence number (R501). -/
  ramLog      : List LogEntry
  flashLog    : List LogEntry
  logNewest   : Nat
  /-- Entries written, and entries dropped, in this 10 ms window (R502). -/
  logWindow   : Nat
  logDropped  : Nat
  /-- Firmware slots A and B (R512). -/
  slotA       : FwSlot
  slotB       : FwSlot
  /-- Committed and running slot: false A, true B. -/
  committed   : Bool
  running     : Bool
  /-- A trial of the other slot is pending (R514, R515). -/
  trial       : Bool
  /-- The stored security version (R513). -/
  security    : Nat
  /-- F entries as flash holds them, and R entries as last copied (R521). -/
  flash       : List (Nat × Nat)
  /-- CHALLENGE and GET_MEASUREMENTS answered in the second named (R590). -/
  spdmSecond  : Nat
  spdmCount   : Nat
  /-- Seen digests of the peer entries, in flash (R593). -/
  seenPeers   : List (Nat × Nat)
  /-- The health map as last written to flash (R274): states, and remap entries. -/
  flashHealth : List (Nat × Nat)
  flashRemap  : List (Nat × Remap)
  deriving DecidableEq, Repr

/-! ## Quartz (09) -/

/-- A valid stretch request held for a child (R322, R325): its period, its limiting address and its time of receipt. -/
structure ChildRequest where
  period   : Nat
  limiting : Nat
  time     : Nat
  deriving DecidableEq, Repr

/-- The best PTP clock seen and the port it is reached through (R317): its dataset in comparison order. -/
structure PtpBest where
  dataset : List Nat
  port    : Nat
  deriving DecidableEq, Repr

/-- What a schedule announce carries (R323). -/
structure Announce where
  master     : Nat
  beat       : Nat
  time       : Nat
  now        : Nat
  period     : Nat
  basePeriod : Nat
  seq        : Nat
  deriving DecidableEq, Repr

/-- The beat unit. The period in force, the beat number, the pending schedule, the sequence, the status, the requests and
the last offset are dictionary cells of 0x4070. Times are ns of the module's timescale. -/
structure Quartz where
  /-- The anchor's edge has passed (R316). -/
  begun      : Bool
  /-- Edge of the current beat under the schedule, the schedule's edge of the next beat, and the time at which that edge
  fires, which a late announce may put off (R329); in ps. -/
  edge       : Nat
  due        : Nat
  nextEdge   : Nat
  /-- Announced changes of the period that take effect before `PENDING_BEAT`: beat and period, rising (R326, R328). -/
  earlier    : List (Nat × Nat)
  /-- Offset still to be slewed away, ps (R331). -/
  slew       : Int
  /-- `BASE_PERIOD_NS` of the held schedule (R323, R330). -/
  basePeriod : Nat
  /-- The adopted master, 0: none (R313). -/
  master     : Nat
  /-- The last time a beat command has told, ns (R325). -/
  clock      : Nat
  /-- Every request of the last 300 ms, the newest first, with its child's address (R325). -/
  children   : List (Nat × ChildRequest)
  /-- `REQUEST_SEQ` of the last request sent (R322). -/
  requestSeq : Nat
  /-- Measurements in a row within ±10 ns (R314). -/
  aligned    : Nat
  /-- When a master with a 10 MHz input began to wait for its reference (R316). -/
  waitFrom   : Option Nat
  /-- 1PPS edges in a row 1 s ± 100 ns apart, the last edge's time, and whether a second count has been taken (R318). -/
  ppsRun     : Nat
  ppsLast    : Nat
  secBase    : Int
  secKnown   : Bool
  /-- The external reference was qualified at acquisition (R312). -/
  external   : Bool
  /-- The best PTP clock seen (R317). -/
  ptp        : Option PtpBest
  /-- Thermal step s, evaluations in a row below the lowering limits, and at 16 with the raise condition (R330). -/
  step       : Nat
  calm       : Nat
  limitRun   : Nat
  /-- The announce to forward: of the held or pending schedule (R327). -/
  announce   : Option Announce
  deriving DecidableEq, Repr

def Quartz.reset : Quartz :=
  { begun := false, edge := 0, due := 0, nextEdge := 0, earlier := [], slew := 0, basePeriod := 0, master := 0, clock := 0,
    children := [], requestSeq := 0, aligned := 0, waitFrom := none, ppsRun := 0, ppsLast := 0, secBase := 0, secKnown := false, external := false, ptp := none, step := 0,
    calm := 0, limitRun := 0, announce := none }

/-! ## Ports and Boulevard (10, 19) -/

/-- A port beside its entries 0x3040: cage, partner, and the identity check of R591 in progress. -/
structure Port where
  /-- A module is in the cage; its cage is powered; it offers 800GBASE-R (R343 to R345). -/
  present  : Bool
  powered  : Bool
  usable   : Bool
  /-- The cage lost its power over its budget, and has not been emptied since (R345). -/
  overBudget : Bool
  /-- Media and PHY codes and declared power that the cage reports (R343, R345, R383). -/
  media    : Nat
  phy      : Nat
  declared : Nat
  /-- The first step 2 limit has run out without a link (R556). -/
  timedOut : Bool
  /-- The partner's announced identity digest and MAC (R349). -/
  digest   : Nat
  mac      : Nat
  /-- Identity check: 0 none, 1 awaiting DIGESTS, 2 CERTIFICATE, 3 CHALLENGE_AUTH; the reason of R591 (0: none). -/
  phase    : Nat
  reason   : Nat
  /-- Chain digest of the last check and the digest of the DeviceID key it holds (R591). -/
  chain    : Nat
  device   : Nat
  /-- The parts of the agreed set that no entry reports: `BUNDLE_VERSIONS` and `MAX_FLOWS` (R350). -/
  bundles  : Nat
  maxFlows : Nat
  deriving DecidableEq, Repr

def Port.empty : Port := ⟨false, false, true, false, 0, 0, 0, false, 0, 0, 0, 0, 0, 0, 0, 0⟩

/-- A peer entry (R358), with its identity check. -/
structure Peer where
  address  : Nat
  mac      : Nat
  portMask : Nat
  state    : Nat
  version  : Nat
  features : Nat
  formats  : Nat
  tagged   : Nat
  pcp      : Nat
  vid      : Nat
  digest   : Nat
  phase    : Nat
  reason   : Nat
  chain    : Nat
  device   : Nat
  /-- `BUNDLE_VERSIONS` and `MAX_FLOWS` of the agreed set (R350). -/
  bundles  : Nat
  maxFlows : Nat
  deriving DecidableEq, Repr

def Peer.empty : Peer := ⟨0, 0, 0, 0, 0, 0, 0, 0, 0, 0, 0, 0, 0, 0, 0, 0, 0⟩

/-- One unit held in the retransmit store (R366, R370): its index, bytes and poison map, attempt, the port (8: inside the
Square, 9: it waits for a path) and path it last took, and whether the three-unit rule has fired since its last timeout. A
receive flow of kind 3 or 4 holds here the units that landed before their predecessors. -/
structure StoreUnit where
  seq      : Nat
  bytes    : List Byte
  map      : Nat
  last     : Bool
  attempt  : Nat
  port     : Nat
  path     : Nat
  resent   : Bool
  deriving DecidableEq, Repr

/-- A flow entry (R359): its written fields, its counts, and what its engine keeps beside them. -/
structure Flow where
  state     : Nat
  kind      : Nat
  engine    : Nat
  ctx       : Nat
  queue     : Nat
  peer      : Nat
  peerFlow  : Nat
  buffer    : Nat
  window    : Nat
  portMask  : Nat
  paths     : Nat
  entropy   : Nat
  dscp      : Nat
  pace      : Nat
  rkey      : Nat
  qpn       : Nat
  hostCount : Nat
  hostAddr  : Nat
  retx      : Nat
  credit    : Nat
  issued    : Nat
  done      : Nat
  /-- Units landed beyond `UNITS_DONE` (R355, R369). -/
  landed    : List Nat
  /-- Units freed since `OPEN` (R367), and the units covered by the receive before the last. -/
  freed     : Nat
  covered   : Nat
  /-- Units in the retransmit store (R366). -/
  store     : List StoreUnit
  /-- RDMA kinds: the host's count last read, and the rate, `fullRate` for the full one (R376 to R378). -/
  polled    : Nat
  rate      : Nat
  /-- Units that a `NET_SEND` waits to send, 0 while none does (R202, R377). -/
  wanted    : Nat
  /-- Units landed since the last ACK, and the port of the last frame that landed one (R369). -/
  unacked   : Nat
  ackPort   : Nat
  deriving DecidableEq, Repr

/-- The full rate of a queue pair: the unit of the fractions of R376 is 2⁻³⁶ of it (assumption 22). -/
def fullRate : Nat := 2 ^ 36

def Flow.empty : Flow :=
  { state := 0, kind := 0, engine := 0, ctx := 0, queue := 0, peer := 0, peerFlow := 0, buffer := 0, window := 0,
    portMask := 0, paths := 0, entropy := 0, dscp := 0, pace := 0, rkey := 0, qpn := 0, hostCount := 0, hostAddr := 0,
    retx := 0, credit := 0, issued := 0, done := 0, landed := [], freed := 0, covered := 0, store := [], polled := 0,
    rate := fullRate, wanted := 0, unacked := 0, ackPort := 8 }

/-- One function's flow and peer window (R361). -/
structure NetWindow where
  flowSelect : Nat
  flowResult : Nat
  flowData   : Nat
  peerSelect : Nat
  peerResult : Nat
  peerData   : Nat
  deriving DecidableEq, Repr

def NetWindow.empty : NetWindow := ⟨0, 0, 0, 0, 0, 0⟩

/-- The network. -/
structure Net where
  ports    : List (Nat × Port)
  peers    : List (Nat × Peer)
  flows    : List (Nat × Flow)
  windows  : List (Nat × NetWindow)
  /-- Timeouts in a row by flow × 64 + path, and the paths barred for 1 ms (R373). -/
  timeouts : List (Nat × Nat)
  barred   : List Nat
  /-- The capability content last sent, by port (R349: a frame is sent again when its content changes). -/
  sentCap  : List (Nat × Nat)
  /-- A `FETCH` whose `GET` waits for credit of the request flow (R536). -/
  fetching : Bool
  /-- `BAR2_APERTURE_n` of the functions, by 8 × function + n; absent: at the value of R29. -/
  apertures : List (Nat × Nat)
  deriving DecidableEq, Repr

def Net.reset : Net :=
  { ports := [], peers := [], flows := [], windows := [], timeouts := [], barred := [], sentCap := [], fetching := false
    apertures := [] }

/-! ## Blocks (03) -/

/-- One 32-bit lane of a vector register or accumulator row, with its poison bit (R570). -/
structure Lane where
  bits   : Word
  poison : Bool
  deriving DecidableEq, Repr

def Lane.zero : Lane := ⟨0, false⟩

/-- A base register (R120) with its wrap origin and length (R290). -/
structure BaseReg where
  row    : Nat
  origin : Nat
  wrap   : Nat
  deriving DecidableEq, Repr

def BaseReg.zero : BaseReg := ⟨0, 0, 0⟩

/-- One entry of a block queue: 64 bytes and the tag (R118). -/
structure QEntry where
  payload : List Byte
  tag     : Nat
  deriving DecidableEq, Repr

/-- A block queue: its entries, head first, and `HEAD` (R118). -/
structure Queue where
  closed  : Bool
  head    : Nat
  entries : List QEntry
  deriving DecidableEq, Repr

def Queue.empty : Queue := ⟨false, 0, []⟩

/-- A block beside its banks, which are in `State.mem` (R85, R120, R190); its power state follows its binding (R124). -/
structure Block where
  /-- Bits 7 to 1: P7 to P1; P0 always reads 1 (R120). -/
  preds   : Nat
  /-- `BASE_0` to `BASE_15` and `SR_INDEX` (R120, R190). -/
  bases   : List (Nat × BaseReg)
  srIndex : Nat
  /-- Changes of `BASE_0` to `BASE_15` and (16) `SR_INDEX` made in this bundle, which the next bundle sees (R141, R190). -/
  changes : List (Nat × Nat)
  /-- The block copy of the arithmetic flags (R82). -/
  flags   : Nat
  /-- Accumulator rows 0 to 15 of 128 lanes, and vector registers 0 to 31 of 64; absent: zero and clean. -/
  acc     : List (Nat × List Lane)
  /-- Accumulator rows that hold INT32 sums (R67). -/
  accInt  : List Nat
  vregs   : List (Nat × List Lane)
  /-- Mica sections of 128 B by 64 × quarter + section, with their poison marks; absent: zero and clean. -/
  mica    : List (Nat × (List Byte × Bool))
  /-- Queues 0 to 15 (R118). -/
  queues  : List (Nat × Queue)
  deriving DecidableEq, Repr

def Block.empty : Block := ⟨0, [], 0, [], 0, [], [], [], [], []⟩

/-! ## Plazas (06) -/

/-- One contribution in slack (R226): 16 FP32 lanes and its poison bit (R231). -/
structure Contribution where
  lanes  : List Word
  poison : Bool
  deriving DecidableEq, Repr

/-! ## Zoning (08) -/

/-- A block in the evacuation queue (R292, R296): 0 queued, 2 armed, 3 armed as the open
window opened (R297). The mirror copy is one command, so no entry is seen mirroring. -/
structure Evac where
  block : Nat
  phase : Nat
  deriving DecidableEq, Repr

/-- The Zoning engine. -/
structure Zoning where
  /-- The reserves in force, MiB (R299). -/
  stashMiB   : Nat
  overlayMiB : Nat
  /-- `STATE` of the health words that are not `HEALTHY` (R275), and the remap entries that are not `FREE`, by
  (16 × block + bank) × 16 + entry (R94). -/
  health     : List (Nat × Nat)
  remap      : List (Nat × Remap)
  /-- Suspect lists by 16 × block + bank: row (768 + i: spare Si) and count, oldest first (R96). -/
  suspects   : List (Nat × List (Nat × Nat))
  /-- Blocks queued, mirroring and armed, in queue order (R292). -/
  evac       : List Evac
  deriving DecidableEq, Repr

def Zoning.reset : Zoning := ⟨8192, 512, [], [], [], []⟩

/-! ## Stream contexts (04, 05, 07) -/

/-- A region descriptor (R139). -/
structure Desc where
  districts : Nat
  mask      : Nat
  selA      : Nat
  selB      : Nat
  selOut    : Nat
  selAux    : Nat
  valid     : Bool
  deriving DecidableEq, Repr

def Desc.none : Desc := ⟨0, 0, 0, 0, 0, 0, false⟩

/-- A logical buffer: its record (R270) and its binding (R277, R302): home 0 unbound, 1 bank rows, 2 Square buffers, 3 Bedrock;
its device address, or the first row in each logical block that holds it. -/
structure Buffer where
  size       : Nat
  shadow     : Nat
  rows       : Nat
  stageRows  : Nat
  region     : Nat
  baseReg    : Nat
  order      : Nat
  budget     : Nat
  cls        : Nat
  landHome   : Nat
  home       : Nat
  demoted    : Bool
  address    : Nat
  rowsAt     : List (Nat × Nat)
  deriving DecidableEq, Repr

/-- A standby entry (R272). -/
structure Standby where
  overlay : Bool
  page    : Nat
  bundle  : Nat
  slot    : Nat
  owner   : Nat
  deriving DecidableEq, Repr

/-- A bridge transfer's port (R215, R281): the operation's overlay page (none: resident), bundle and slot, the logical block that its
descriptor selects, the slab, and the port 0 to 15. -/
structure Bridge where
  overlay : Option Nat
  bundle  : Nat
  slot    : Nat
  block   : Nat
  slab    : Nat
  port    : Nat
  deriving DecidableEq, Repr

/-- An active loop (R143): first and last body bundle, iterations, index. -/
structure Loop where
  first : Nat
  last  : Nat
  count : Nat
  index : Nat
  deriving DecidableEq, Repr

/-- A backlog record (R163). -/
structure FillRecord where
  address : Nat
  length  : Nat
  cls     : Nat
  deriving DecidableEq, Repr

/-- A descriptor slot (R243): the halves' records as 512-bit numbers; in use while the forward half holds one. -/
structure MicroSlot where
  fwd  : Option Nat
  grad : Nat
  deriving DecidableEq, Repr

/-- A mapped overflow page (R256, R257): its number in the context's part of the reserve, and the bytes read from it. -/
structure StashPage where
  phys : Nat
  read : Nat
  deriving DecidableEq, Repr

/-- A landing ring (R248): tensors that have claimed an entry, entries that are free again, the tensor that is landing on the
data flow with its units so far, entries whose freeing admission has issued, whether the last admitted record's tensor still
holds its entry, and the record flow that took the last credit (R249). -/
structure Landing where
  claimed   : Nat
  freed     : Nat
  partly    : Option (Nat × Nat)
  due       : Nat
  held      : Bool
  lastGrant : Option Nat
  deriving DecidableEq, Repr

def Landing.empty : Landing := ⟨0, 0, none, 0, false, none⟩

/-- A stream context: its program, its bindings, and what the sequencer and the admission engine hold beside the entries
0x4030 + c and 0x4060 + c. -/
structure Ctx where
  /-- A program is loaded; `FREE_FLOW`, `LATE_BEAT_POLICY` 1, `ENTRY_ADDRESS` and page counts of its header (R133). -/
  loaded     : Bool
  freeFlow   : Bool
  faultLate  : Bool
  entry      : Nat
  resident   : Nat
  overlays   : Nat
  /-- Logical blocks, shortest beat period and digest of its header (R133). -/
  logical    : Nat
  minPeriod  : Nat
  digest     : Nat
  /-- 0x4050 + c: 01 to 0A as in force since `LOAD` (R235). -/
  stage      : List Nat
  /-- Its region descriptors (R139), buffers (R270) and standby entries (R272). -/
  descs      : List Desc
  buffers    : List Buffer
  standby    : List Standby
  /-- Physical district, block and Plaza of each bound logical one (R277). -/
  districts  : List (Nat × Nat)
  blocks     : List (Nat × Nat)
  plazas     : List (Nat × Nat)
  /-- Ports of the program's bridge transfers (R277). -/
  bridges    : List Bridge
  /-- Base registers that `LOAD` wrote, by 16 × logical block + register (R120, R282). -/
  baseInit   : List (Nat × BaseReg)
  /-- Overlay page that each store page holds, where an overlay load has filled it (R130). -/
  overlaid   : List (Nat × Nat)
  /-- Active loops, innermost first (R143), the backlog, oldest first (R163), and the beat that keys stochastic rounding (R75). -/
  loops      : List Loop
  backlog    : List FillRecord
  keyBeat    : Nat
  /-- `STEP_VETO` (R144, R145). -/
  veto       : Bool
  /-- Flows on which the present wait has been recorded as a mismatch (R360). -/
  mismatched : List Nat
  /-- Beat boundaries passed in the present wait, and whether it has been reported (R159). -/
  waitBeats  : Nat
  waitTold   : Bool
  /-- An evacuation window is open (R293). -/
  window     : Bool
  /-- Admission queues, head first (R237). -/
  fwdQueue   : List Nat
  gradQueue  : List Nat
  /-- Descriptor slots by number (R243). -/
  slots      : List (Nat × MicroSlot)
  /-- The descriptor slot of the stash pressure hold in force (R259). -/
  holding    : Option Nat
  /-- Working slots by descriptor (R247). -/
  working    : List (Nat × Nat)
  /-- Mapped overflow pages by 65,536 × descriptor slot + page of its record (R256). -/
  stash      : List (Nat × StashPage)
  /-- Landing rings of the forward and the gradient direction (R248). -/
  fwdLand    : Landing
  gradLand   : Landing
  /-- Changes of the deadline monitor that wait for their beat: beat and `SERVICE_ARG` (R466). -/
  arming     : List (Nat × Nat)
  /-- Descriptor slots marked switched (R468), and those whose fallback record waits for a free queue entry (R469). -/
  switched   : List Nat
  trying     : List Nat
  /-- The beat of the last stop, and the queue (0 forward, 1 gradient) of the admission that it met (R151, R457, R462). -/
  stopBeat   : Nat
  stopQueue  : Nat
  /-- Flows that a stop parked (R458). -/
  parked     : List Nat
  /-- The arrival buffer: queue and record, in arrival order (R460). -/
  arrivals   : List (Nat × Nat)
  deriving DecidableEq, Repr

/-- A context without a program. `STEP_VETO` (R144) reads 0 until the first reduction result comes, which the spec leaves open (assumption
70). -/
def Ctx.empty : Ctx :=
  { loaded := false, freeFlow := false, faultLate := false, entry := 0, resident := 0, overlays := 0, logical := 0,
    minPeriod := 0, digest := 0, stage := [], descs := [], buffers := [], standby := [], districts := [], blocks := [], plazas := [],
    bridges := [], baseInit := [], overlaid := [], loops := [], backlog := [], keyBeat := 0, veto := false, mismatched := [], waitBeats := 0,
    waitTold := false, window := false, fwdQueue := [], gradQueue := [], slots := [], holding := none, working := [], stash := [],
    fwdLand := Landing.empty, gradLand := Landing.empty, arming := [], switched := [], trying := [],
    stopBeat := 0, stopQueue := 0, parked := [], arrivals := [] }

/-! ## Cairn (12) -/

/-- A checkpoint generation in a slot of the reserve (R422, R423): what was latched at the cut, and the granules copied so far.
Bank bytes are kept by logical block (key logical window address), others by device address. -/
structure Capture where
  generation : Nat
  mode       : Nat
  cutBeat    : Nat
  asked      : Nat
  /-- Manifest `FLAGS` (R431). -/
  flags      : Nat
  seed       : Nat
  job        : Nat
  stage      : Nat
  replica    : Nat
  replicas   : Nat
  /-- The context as latched, its restart address, and the values of 0x4030 + c: 03 to 05. -/
  context    : Ctx
  restart    : Nat
  origin     : Nat
  lastNamed  : Nat
  skip       : Nat
  /-- Per-block registers by logical block. -/
  regs       : List (Nat × Block)
  /-- The buffer policies at the cut (R429). -/
  policies   : List (Nat × Nat)
  /-- Captured bytes and poison tags. -/
  mem        : List (Nat × Byte)
  poison     : List Nat
  /-- Granules not yet copied, in copy order, and those demanded, in order of demand (R424, R425). -/
  pending    : List Nat
  demanded   : List Nat
  /-- The fast copy has ended. -/
  done       : Bool
  /-- A shard's `WRITER_INDEX`, by shard, where another replica wrote it (R436). -/
  writers    : List (Nat × Nat)
  /-- Its drain has begun, or it is never drained (R418, R432). -/
  drained    : Bool
  deriving DecidableEq, Repr

/-- A drain in progress (R435): the slot, the step (0 empty manifest, 1 shards, 2 verify, 3 manifest), the shard, the operation (1
`PUT`, 3 `CLAIM`, 4 `VERIFY`) with its next piece, whether all of it has been sent and its answer is awaited, and whether it
goes to the host. -/
structure Drain where
  slot    : Nat
  step    : Nat
  shard   : Nat
  op      : Nat
  piece   : Nat
  waiting : Bool
  host    : Bool
  deriving DecidableEq, Repr

/-- An object that a peer has asked for (R440): the slot that holds it, the flow that answers, the unit header's name fields, the
operation and the next piece. -/
structure Serve where
  slot  : Option Nat
  flow  : Nat
  name  : Nat
  op    : Nat
  piece : Nat
  deriving DecidableEq, Repr

/-- A manifest as a restore holds it (R431). -/
structure Manifest where
  digest     : Nat
  job        : Nat
  cutBeat    : Nat
  seed       : Nat
  generation : Nat
  replica    : Nat
  stage      : Nat
  flags      : Nat
  /-- Entries: kind, share, buffer, bytes, digest, writer. -/
  entries    : List (List Nat)
  deriving DecidableEq, Repr

/-- A restore in progress (R437 to R439): the manifests still to be fetched, by source (peer or storage) and parity, those found,
whether one was found that is not valid, the governing and the own manifest once chosen, the shard, whether its `GET` has
been sent, and the object bytes received. -/
structure Restore where
  source    : Nat
  todo      : List (Bool × Nat)
  found     : List (Bool × Manifest)
  invalid   : Bool
  governing : Option Manifest
  own       : Option Manifest
  shard     : Nat
  asked     : Bool
  bytes     : List (Byte × Bool)
  deriving DecidableEq, Repr

/-- Cairn's state for one context. -/
structure Cairn where
  /-- A request that waits for its cut wait: C and the mode (R419). -/
  armed    : Option (Nat × Nat)
  /-- The slot whose fast copy is running. -/
  copying  : Option Nat
  /-- Slots of the fast-copy reserve by number (R423), the drain and the restore in progress (R435, R437). -/
  slots    : List (Nat × Capture)
  drain    : Option Drain
  restore  : Option Restore
  /-- Peer serving in progress, in order (R440). -/
  serving  : List Serve
  /-- `BUFFER_POLICY` by buffer (R429). -/
  policies : List (Nat × Nat)
  /-- A restore has succeeded and no `START` has followed (R441): the restored cut beat, held cut, and saved skip. -/
  restored : Option (Nat × Bool × Nat)
  /-- The last restore failed (R438). -/
  failed   : Bool
  /-- The context has started since `LOAD` (R437). -/
  started  : Bool
  deriving DecidableEq, Repr

def Cairn.empty : Cairn := ⟨none, none, [], none, none, [], [], none, false, false⟩

/-! ## Parked tenants (13) -/

/-- What a save holds of a tenant (R454): its context, registers and bank bytes by logical block, program store bytes by offset,
Plaza contributions, the context's entries and Cairn's state; whether it was `RUNNING`, and the beat in which the save began. -/
structure Parked where
  context  : Ctx
  regs     : List (Nat × Block)
  mem      : List (Nat × Byte)
  poison   : List Nat
  store    : List (Nat × Byte)
  plaza    : List (Nat × Contribution)
  cells    : List (Nat × Nat)
  cairn    : Cairn
  ran      : Bool
  saveBeat : Nat
  deriving DecidableEq, Repr

/-- A stop that has not ended (R427, R457, R458): its tenant, whether a pre-emption or a `HOLD`, its beat P, whether it waits for
a fast copy to end or for its grace, and the tenant that a switch brings in. -/
structure Stop where
  tenant   : Nat
  preempt  : Bool
  beat     : Nat
  deferred : Bool
  next     : Option Nat
  deriving DecidableEq, Repr

/-- A move (R454, R455): its tenant, whether a reload, whether it has ended, whether the tenant was `RUNNING` when its save
began, and the tenant that a switch brings in next. -/
structure Move where
  tenant : Nat
  reload : Bool
  ended  : Bool
  ran    : Bool
  next   : Option Nat
  deriving DecidableEq, Repr

/-- Stops and moves in progress, in order. -/
structure Tenancy where
  stops : List Stop
  moves : List Move
  deriving DecidableEq, Repr

def Tenancy.empty : Tenancy := ⟨[], []⟩

/-! ## Reduction sets (11) -/

/-- One MX block of a reduction (R398): its 32 element bytes as a number, its scale byte, and their poison (R576). -/
structure MxBlock where
  elems       : Nat
  scale       : Nat
  poison      : Bool
  scalePoison : Bool
  deriving DecidableEq, Repr

/-- A member of a set (R387): its address, backup and last role. -/
structure Member where
  address  : Nat
  backup   : Nat
  lastRole : Nat
  deriving DecidableEq, Repr

def Member.none : Member := ⟨0, 0xFFFF, 0⟩

/-- One item that waits to be sent to a member (R403): its phase, the role it serves, the role that produced it, its block or
shard, a partial, gathered or late-shard block, or in `value` a record or a scale. `header` holds the unit header's step
fields; `late` marks what a backup keeps for a late member (R408). -/
structure RedMsg where
  member : Nat
  header : Nat
  phase  : Nat
  role   : Nat
  sender : Nat
  index  : Nat
  item   : MxBlock
  value  : Nat
  late   : Bool
  deriving DecidableEq, Repr

/-- The step in progress of a set: the request, the acceptance beat, the tenant whose request it is, whether the member's own
role has been taken over, the roles taken over with their performers (R406), the pieces received by role, sender and block,
what has been computed, the final blocks by role and block, the records and next scales held, the items passed on by phase,
role and index, the blocks gathered, and the roles whose shard is final. -/
structure RedStep where
  request  : Nat
  beat     : Nat
  tenant   : Nat
  stopped  : Bool
  taken    : List (Nat × Nat)
  pieces   : List (Nat × MxBlock)
  used     : List Nat
  finals   : List (Nat × MxBlock)
  records  : List (Nat × Nat)
  scales   : List (Nat × Nat)
  passed   : List Nat
  gathered : List Nat
  done     : List Nat
  deriving DecidableEq, Repr

/-- A reduction set beside its entries 0x6010 + n and 0x6030 + n: its member table, the formation records that have arrived, the
last step number since `FORM`, the requests that wait, the step in progress, what waits to be sent, and the summaries that
wait for the delivery flow. -/
structure RedSet where
  members   : List (Nat × Member)
  arrived   : List Nat
  lastStep  : Option Nat
  waiting   : List Nat
  step      : Option RedStep
  outbox    : List RedMsg
  summaries : List Nat
  deriving DecidableEq, Repr

def RedSet.empty : RedSet := ⟨[], [], none, [], none, [], []⟩

/-! ## Mailboxes (14) -/

/-- A notice an engine has not posted yet (R489): message type and tag. -/
structure Notice where
  kind : Nat
  tag  : Nat
  deriving DecidableEq, Repr

/-- One direction of one channel (R478), with the engine's unposted notices, its count of records, and whether a notice of
R484 is still owed to a receiver that cannot take it. -/
structure MailDir where
  base     : Nat
  size     : Nat
  lock     : Nat
  producer : Nat
  consumer : Nat
  status   : Nat
  mask     : Nat
  wake     : Nat
  seq      : Nat
  unposted : List Notice
  owed     : Bool
  deriving DecidableEq, Repr

def MailDir.empty : MailDir := ⟨0, 0, 0, 0, 0, 0, 0, 0, 0, [], false⟩

/-- The mailbox block. -/
structure Mail where
  /-- `CHANNEL_BINDING` of channels 0 to 15, and `LOCKED` (R476, R477). -/
  binding : List Nat
  locked  : Bool
  /-- Directions by 2 × channel + direction; absent: at reset values. -/
  dirs    : List (Nat × MailDir)
  /-- Identities that cannot take a notice now: asleep, or reset and not yet enabled (R485, R487). -/
  asleep  : List Nat
  deriving DecidableEq, Repr

def Mail.reset : Mail := { binding := [], locked := false, dirs := [], asleep := [1, 2, 3, 4, 9] }

/-! ## The whole state -/

/-- The machine. -/
structure State where
  /-- Commands waiting, first in, first out. -/
  pending   : List Instr
  /-- What has left the module, newest first: the model's own field. -/
  out       : List Out
  /-- Index of the next free value: the model's own field. -/
  freeCount : Nat
  /-- Dictionary entries that differ from, or have been written over, their defaults: key index × 256 + subindex. -/
  dict      : List (Nat × Nat)
  power     : Power
  garnet    : Garnet
  mail      : Mail
  quartz    : Quartz
  net       : Net
  zoning    : Zoning
  /-- Physical blocks by number; absent: empty. -/
  blocks    : List (Nat × Block)
  /-- Contributions by 4096 × physical Plaza + 64 × register + slot (R226). -/
  plaza     : List (Nat × Contribution)
  /-- Contexts 0 to 3; absent: no program. -/
  contexts  : List (Nat × Ctx)
  /-- Cairn's state of contexts 0 to 3. -/
  cairn     : List (Nat × Cairn)
  /-- Parked tenants by number. -/
  parked    : List (Nat × Parked)
  tenancy   : Tenancy
  /-- Reduction sets 0 to 7. -/
  sets      : List (Nat × RedSet)
  /-- `FWD_STAGING` and `GRAD_STAGING` of the four admission windows, by 2 × context + half (R241). -/
  staging   : List (Nat × Nat)
  /-- `STREAM_FLAGS` and `TRAIN_MASK` of the four contexts as sampled at the last beat's edge (R145, R246). -/
  sampled   : List (Nat × Nat)
  /-- Device memory: bank rows, Square buffers, Bedrock; an unlisted byte reads 0. -/
  mem       : List Host.Cell
  /-- Poisoned granules: the address of each one's first byte, rising (R570). -/
  poison    : List Nat
  deriving DecidableEq, Repr

/-- Power as after reset: STANDBY, both supplies present, the switch closed, the straps read as 0. -/
def Power.reset : Power :=
  { state := .standby, straps := 0, presence := true, bus400 := 400000, bus12 := 12000, switchOn := true,
    powerGood := true, railsUp := 0, request := none, fromDown := false, surveyBarred := false, followUp := false,
    microDone := false, healthDone := false, blocksDone := false, microDigest := 0, bootLength := 0, bootStatus := 0,
    pcieUp := false, restoreMark := false }

def FwSlot.empty : FwSlot := ⟨0, 0, 0, false, []⟩

def Garnet.reset : Garnet :=
  { canNode := 127, nmt := 127, usdo := [], partials := [], kept := [], windows := [], leasePort := 0, sensors := [],
    corners := [], ramLog := [], flashLog := [], logNewest := 0, logWindow := 0, logDropped := 0,
    slotA := ⟨1, 0, 0, true, []⟩, slotB := FwSlot.empty, committed := false, running := false, trial := false,
    security := 0, flash := [], spdmSecond := 0, spdmCount := 0, seenPeers := [],
    flashHealth := [], flashRemap := [] }

/-- The machine right after reset: STANDBY (R35), every dictionary entry at its default (R521), nothing in memory. -/
def State.reset : State :=
  { pending := [], out := [], freeCount := 0, dict := [], power := Power.reset, garnet := Garnet.reset, mail := Mail.reset,
    quartz := Quartz.reset, net := Net.reset, zoning := Zoning.reset, blocks := [],
    plaza := [], contexts := [], cairn := [], parked := [], tenancy := Tenancy.empty, sets := [], staging := [],
    sampled := [], mem := [], poison := [] }

end Sys2Proof.Machine
end

