-- ==== Sys2Proof/Machine/Memory.lean ====
section
/-! DEFINITION. Device memory: bytes, their poison granules, and the ranges of the address map (spec/01_architecture.md R22
to R25, spec/18_faults.md R570 to R572). -/

namespace Sys2Proof.Machine

/-! ## Bytes -/

/-- What an unlisted address reads as (assumption 2). -/
def memBlank : Byte := 0

/-- The byte at an address. -/
def memByte (m : List Host.Cell) (a : Nat) : Byte := kget memBlank m a

/-- The memory with one byte written, in canonical form. -/
def memPut (m : List Host.Cell) (a : Nat) (b : Byte) : List Host.Cell := kput memBlank m a b

/-- `n` bytes from `a` upwards. -/
def memRead (m : List Host.Cell) (a n : Nat) : List Byte := (rangeFrom a n).map (memByte m)

/-- The memory with the bytes written from `a` upwards. -/
def memWrite : List Host.Cell → Nat → List Byte → List Host.Cell
  | m, _, [] => m
  | m, a, b :: r => memWrite (memPut m a b) (a + 1) r

/-- The memory with the `n` bytes from `a` upwards as never written. -/
def memErase (m : List Host.Cell) (a n : Nat) : List Host.Cell :=
  m.filter fun e => decide (e.1 < a) || decide (a + n ≤ e.1)

/-- The canonical form: addresses strictly rising, no entry equal to what an unlisted address reads as. -/
def Memory.wf (m : List Host.Cell) : Bool := ksorted m && m.all fun e => e.2 != memBlank

/-! ## The address map (R22 to R25) -/

def blockBase : Nat := 0x0000_0000_0000
def blockEnd : Nat := 0x0000_8800_0000
def logicalBase : Nat := 0x0001_0000_0000
def logicalEnd : Nat := 0x0001_8000_0000
def squareBase : Nat := 0x0002_0000_0000
def squareEnd : Nat := 0x0002_0600_0000
def engineBase : Nat := 0x0003_0000_0000
def mailBase : Nat := 0x0003_0100_0000
def dictBase : Nat := 0x0003_0200_0000
def storeBase : Nat := 0x0003_0300_0000
def storeEnd : Nat := 0x0003_0380_0000
def bedrockBase : Nat := 0x0010_0000_0000
def bedrockEnd : Nat := 0x0022_0000_0000

/-- Bytes of a block window and of its banks (R24). -/
def windowBytes : Nat := 0x20_0000
def bankBytes : Nat := 0x1_8000
def banksBytes : Nat := 0x18_0000

/-- Device address of row `row` of bank `bank` of physical block `p` (R23, R24). -/
def rowAddress (p bank row : Nat) : Nat := p * windowBytes + bank * bankBytes + row * 128

/-- Spare rows have no device address (R24); the model keeps them at keys above the 48-bit space. -/
def spareAddress (p bank spare : Nat) : Nat := 2 ^ 48 + ((p * 16 + bank) * 16 + spare) * 128

/-- Size of the poison granule at an address: a bank row, or a 64 B word (R570). -/
def granuleSize (a : Nat) : Nat := if a < blockEnd ∨ 2 ^ 48 ≤ a then 128 else 64

/-- First byte of the granule that holds an address. -/
def granuleOf (a : Nat) : Nat := a / granuleSize a * granuleSize a

/-! ## Tagged bytes (R570, R572) -/

/-- A byte with the poison tag of the granule it came from. -/
abbrev TByte := Byte × Bool

/-- Whether the granule that holds `a` is poisoned. -/
def poisoned (s : State) (a : Nat) : Bool := s.poison.contains (granuleOf a)

/-- `n` bytes from `a`, each with its granule's tag. -/
def readTagged (s : State) (a n : Nat) : List TByte :=
  (rangeFrom a n).map fun x => (memByte s.mem x, poisoned s x)

/-- Clean bytes. -/
def untagged (bs : List Byte) : List TByte := bs.map fun b => (b, false)

/-- Whether any byte of the list is tagged. -/
def anyTagged (bs : List TByte) : Bool := bs.any (·.2)

/-- The first bytes of the granules that the `n` bytes from `a` touch. -/
def granulesOf (a n : Nat) : List Nat :=
  if n = 0 then [] else
  let g := granuleSize a
  (List.range ((a + n - 1) / g - a / g + 1)).map fun i => (a / g + i) * g

/-- The new tag of granule `g` when `bs` is written from `a`: the tags written into it, and the old tag unless every byte
of the granule is written (R572). -/
def granuleTag (s : State) (a : Nat) (bs : List TByte) (g : Nat) : Bool :=
  let z := granuleSize g
  let lo := max a g
  let hi := min (a + bs.length) (g + z)
  let written := (bs.drop (lo - a)).take (hi - lo)
  anyTagged written || (decide (hi - lo < z) && s.poison.contains g)

/-- The poison set after a write. -/
def writeTags (s : State) (a : Nat) (bs : List TByte) : List Nat :=
  (granulesOf a bs.length).foldl (fun p g => if granuleTag s a bs g then sinsert p g else serase p g) s.poison

/-- A write of tagged bytes from `a` upwards. -/
def writeTagged (s : State) (a : Nat) (bs : List TByte) : State :=
  { s with mem := memWrite s.mem a (bs.map (·.1)), poison := writeTags s a bs }

/-- A clean write. -/
def writeBytes (s : State) (a : Nat) (bs : List Byte) : State := writeTagged s a (untagged bs)

/-- The bytes from `a` as never written and clean: contents lost (R124, R562). -/
def eraseBytes (s : State) (a n : Nat) : State :=
  { s with mem := memErase s.mem a n, poison := s.poison.filter fun g => decide (g < a) || decide (a + n ≤ g) }

/-- A little-endian number of `n` bytes at `a`. -/
def readLe (s : State) (a n : Nat) : Nat := ofLe (memRead s.mem a n)

/-- Whether the `n` bytes from `a` lie within [`lo`, `hi`). -/
def within (a n lo hi : Nat) : Bool := decide (lo ≤ a) && decide (a + n ≤ hi)

end Sys2Proof.Machine
end

