-- ==== Sys2Proof/Machine/Ops.lean ====
section
/-! DEFINITION. The shared operations: dictionary cells, sticky records, the log, answers, the beat stamp and free values. -/

namespace Sys2Proof.Machine

/-! ## Dictionary cells (R519 to R523) -/

/-- The key of an entry. -/
def dictKey (idx sub : Nat) : Nat := idx * 256 + sub

/-- The table line that implements an entry, if any. -/
def dictLine (idx sub : Nat) : Option DictEntry :=
  dictTable.find? fun e =>
    decide (e.index ≤ idx) && decide (idx < e.index + e.members) && decide (e.lo ≤ sub) && decide (sub ≤ e.hi)

/-- Bytes of an entry's type; 4 where none is listed. -/
def entryBytes (idx sub : Nat) : Nat := ((dictLine idx sub).map (·.bytes)).getD 4

/-- The default that the strap snapshot gives a strap-derived entry (R530, R546). -/
def strapDefault (straps idx sub : Nat) : Option Nat :=
  if idx = 0x2061 ∧ sub = 1 then some (bits straps 14 1)
  else if idx = 0x2030 ∧ sub = 1 then some (bits straps 12 2)
  else if idx = 0x2020 ∧ sub = 0 then some (bits straps 11 1)
  else if idx = 0x2070 ∧ sub = 1 then some (bits straps 9 2)
  else if idx = 0x4050 ∧ sub = 1 then some (bits straps 7 2)
  else if idx = 0x2062 ∧ sub = 1 then some (if bits straps 0 7 = 0 then 127 else bits straps 0 7)
  else none

/-- Bedrock in GiB (R22): what tenant 0 holds by default (0x6070:0D "all"). -/
def bedrockGiB : Nat := 72

/-- Defaults that differ between members of a family or subindices of a range (R447, R450, R477). -/
def memberDefault (idx sub : Nat) : Option Nat :=
  if idx = 0x2050 then
    let p := (sub - 1) / 4
    let k := (sub - 1) % 4
    some (0x51 + 0x10 * k + p)
  else if idx = 0x6060 then
    if sub = 1 then some (ones 64) else if sub = 2 then some 64 else if sub = 3 then some 128
    else if sub = 4 then some 0xFFFF else none
  else if idx = 0x6070 then
    if sub = 1 then some 0 else if sub = 8 then some 262144 else if sub = 0xA then some 4096
    else if sub = 0xB then some 3072 else if sub = 0xC then some 96 else if sub = 0xD then some bedrockGiB else none
  else none

/-- An entry's default value (R521, R530). -/
def dictDefault (straps idx sub : Nat) : Nat :=
  match strapDefault straps idx sub with
  | some v => v
  | none =>
    match memberDefault idx sub with
    | some v => v
    | none => ((dictLine idx sub).map (·.default)).getD 0

/-- The value of a dictionary cell. -/
def State.dget (s : State) (idx sub : Nat) : Nat :=
  match kfind s.dict (dictKey idx sub) with
  | some v => v
  | none => dictDefault s.power.straps idx sub

/-- The state with a dictionary cell set. -/
def State.dset (s : State) (idx sub v : Nat) : State := { s with dict := kset s.dict (dictKey idx sub) v }

/-- The state with several cells set, in order. -/
def State.dsets (s : State) (l : List (Nat × Nat × Nat)) : State := l.foldl (fun t e => t.dset e.1 e.2.1 e.2.2) s

/-- The state with a cell back at its default. -/
def State.dclear (s : State) (idx sub : Nat) : State := { s with dict := kerase s.dict (dictKey idx sub) }

/-- A counter cell raised by `n`; it stops at its largest value (R583). -/
def State.dcount (s : State) (idx sub n : Nat) : State :=
  s.dset idx sub (countUp (entryBytes idx sub) (s.dget idx sub) n)

/-- A cell raised by `n` modulo its width. -/
def State.dadd (s : State) (idx sub n : Nat) : State :=
  s.dset idx sub ((s.dget idx sub + n) % 2 ^ (8 * entryBytes idx sub))

/-- The persistence of the entry that holds a key. -/
def keyPersist (k : Nat) : Persist := ((dictLine (k / 256) (k % 256)).map (·.persist)).getD .fixed

/-- The cells whose persistence passes a test; the others return to their defaults. -/
def keepCells (d : List (Nat × Nat)) (p : Persist → Bool) : List (Nat × Nat) := d.filter fun e => p (keyPersist e.1)

/-- The cells of every index from `lo` to `hi` return to their defaults. -/
def dropIndices (d : List (Nat × Nat)) (lo hi : Nat) : List (Nat × Nat) :=
  d.filter fun e => decide (e.1 / 256 < lo) || decide (hi < e.1 / 256)

/-! ## Beats and free values -/

/-- A schedule is held: the period in force is not 0 (R339). -/
def State.hasSchedule (s : State) : Bool := s.dget 0x4070 6 != 0

/-- The link-local IPv6 address formed from port 0's MAC address (R382, RFC 4291): fe80::/64 and the modified EUI-64 of the
MAC, the first octet in the lowest byte as in every octet string. -/
def linkLocal : Nat :=
  let mac := leBytes 6 (Config.portMac 0).toNat
  let head := mac.take 3
  ofLe ([0xFE, 0x80, 0, 0, 0, 0, 0, 0] ++ [(head.headD 0) ^^^ 2] ++ head.drop 1 ++ [0xFF, 0xFE] ++ mac.drop 3)

/-- The module's Boulevard address: `MODULE_ADDRESS`, or the link-local address where that is all zero (R382). -/
def ownAddress (s : State) : Nat := if s.dget 0x2040 1 = 0 then linkLocal else s.dget 0x2040 1

/-- The current beat number (R316). -/
def State.beat (s : State) : Nat := s.dget 0x4070 5

/-- The beat stamp of records and log entries: all ones before the first schedule (R501, R538). -/
def State.beatStamp (s : State) : Nat := if s.hasSchedule then s.beat else ones 64

/-- The index of a fresh free value, and the state with the next one. -/
def State.fresh (s : State) : Nat × State := (s.freeCount, { s with freeCount := s.freeCount + 1 })

/-! ## The log (R501, R502, R564) -/

/-- The sequence number after `n` (R501: 0 is never used). -/
def nextSequence (n : Nat) : Nat := if n = ones 32 then 1 else n + 1

/-- One log entry written, or counted as dropped beyond 256 in the window (R502). -/
def State.log (s : State) (source event severity detailA detailB : Nat) : State :=
  if s.garnet.logWindow < 256 then
    let q := nextSequence s.garnet.logNewest
    let e : LogEntry :=
      { time := Config.logTime s.freeCount, beat := s.beatStamp, detailB := detailB % 2 ^ 32,
        detailA := detailA % 2 ^ 32, sequence := q, source := source, event := event, severity := severity }
    { s with
      freeCount := s.freeCount + 1
      garnet := { s.garnet with
        ramLog := (e :: s.garnet.ramLog).take 4096, logNewest := q, logWindow := s.garnet.logWindow + 1 } }
  else
    let t : State := { s with garnet := { s.garnet with logDropped := s.garnet.logDropped + 1 } }
    (t.dcount 0x50D0 3 1).dset 0x50D0 1 (setBit (t.dget 0x50D0 1) 1)

/-- The flags that log with severity 0 (R564). -/
def severity0 : List (Nat × Nat) :=
  [(0x5021, 0), (0x5050, 0), (0x5060, 0), (0x50A0, 2), (0x5090, 2), (0x5090, 3), (0x50B0, 0), (0x50B0, 5), (0x50B0, 2),
   (0x50C0, 5)]

/-- The flags that log with severity 1 (R564). -/
def severity1 : List (Nat × Nat) :=
  [(0x5020, 0), (0x5021, 1), (0x5070, 1), (0x5070, 7), (0x50D0, 0), (0x50D0, 2)]

/-- The severity of a record flag's log entry (R564). -/
def flagSeverity (idx flag : Nat) : Nat :=
  if idx = 0x5010 ∨ (idx, flag) ∈ severity0 then 0 else if (idx, flag) ∈ severity1 then 1 else 2

/-- The subindex of a record area's first-case entry (R537). -/
def firstSub (idx : Nat) : Option Nat :=
  if idx = 0x5010 then some 2 else if idx = 0x5020 then some 4 else if idx = 0x5021 then some 3
  else if idx = 0x5030 then some 3 else if idx = 0x5040 then some 4 else if idx = 0x5050 then some 7
  else if idx = 0x5060 then some 4 else if idx = 0x5070 then some 3 else if idx = 0x5080 then some 0xE
  else if idx = 0x5090 then some 8 else if idx = 0x50A0 then some 7 else if idx = 0x50B0 then some 8
  else if idx = 0x50C0 then some 7 else if idx = 0x50D0 then some 7 else if idx = 0x50E0 then some 3
  else if idx = 0x5001 then some 3 else none

/-- The first-case entry takes `v` if it still reads its empty value (R583). -/
def State.recordFirst (s : State) (idx v : Nat) : State :=
  match firstSub idx with
  | none => s
  | some sub => if s.dget idx sub = dictDefault 0 idx sub then s.dset idx sub v else s

/-- What `DETAIL_A` of a record flag's log entry holds: the low 32 bits of the first-case entry, or 0 (R501). -/
def State.firstLow (s : State) (idx : Nat) : Nat :=
  if idx = 0x5010 ∨ idx = 0x5001 then 0 else
  match firstSub idx with
  | none => 0
  | some sub => s.dget idx sub % 2 ^ 32

/-- One case of a sticky record: counters raised, the first case kept, the flag set and one log entry written with `b` in
`DETAIL_B` (R501, R564, R583). -/
def State.recordWith (s : State) (idx flag : Nat) (counts : List (Nat × Nat)) (first : Option Nat) (b : Nat) : State :=
  let t := counts.foldl (fun t c => t.dcount idx c.1 c.2) s
  let u := match first with
    | none => t
    | some v => t.recordFirst idx v
  let w := u.dset idx 1 (setBit (u.dget idx 1) flag)
  w.log idx flag (flagSeverity idx flag) (w.firstLow idx) b

/-- One case of a sticky record whose log entry has no second parameter. -/
def State.record (s : State) (idx flag : Nat) (counts : List (Nat × Nat)) (first : Option Nat) : State :=
  s.recordWith idx flag counts first 0

/-- A flag set without a counter or a first case. -/
def State.flag (s : State) (idx flag : Nat) : State := s.record idx flag [] none

/-! ## Outputs -/

/-- One thing leaves the module. -/
def State.emit (s : State) (o : Out) : State := { s with out := o :: s.out }

/-- An answer to a dictionary request. -/
def State.reply (s : State) (r : Requester) (abort value : Nat) : State := s.emit (.answer r abort value)

/-! ## Module and tenant states (R35, R451, R453) -/

/-- `TENANT_STATE` of a tenant (R451). -/
def State.tenantState (s : State) (t : Nat) : Nat := s.dget (0x6070 + t) 5

/-- Whether any of the eight tenants is in a state that passes a test. -/
def State.anyTenant (s : State) (p : Nat → Bool) : Bool := (List.range 8).any fun t => p (s.tenantState t)

/-- The module's state (R35, R453). -/
def State.modState (s : State) : ModState :=
  match s.power.state with
  | .off => .off
  | .standby => .standby
  | .survey => .survey
  | .faulted => .faulted
  | .up =>
    if s.anyTenant fun x => x == 2 || x == 3 then .running
    else if s.anyTenant fun x => x == 6 then .held
    else if s.anyTenant fun x => x == 1 || x == 4 || x == 5 then .loaded
    else .ready

/-- The code of a state (R35). -/
def ModState.code : ModState → Nat
  | .off => 0
  | .standby => 1
  | .survey => 2
  | .ready => 3
  | .loaded => 4
  | .running => 5
  | .held => 6
  | .faulted => 7

/-- A tenant is configured: its home partition is not 0xFF (R450). -/
def State.configured (s : State) (t : Nat) : Bool := s.dget (0x6070 + t) 1 != 0xFF

/-- The configured tenants, ascending. -/
def State.tenants (s : State) : List Nat := (List.range 8).filter s.configured

/-- The tenant resident on a partition (R447). -/
def State.resident (s : State) (p : Nat) : Option Nat :=
  let t := s.dget (0x6060 + p) 5
  if t < 8 then some t else none

/-- A context runs: its partition's resident tenant is `RUNNING` (R451) and the module is up. -/
def State.running (s : State) (c : Nat) : Bool :=
  s.power.state == .up && match s.resident c with
    | some t => s.tenantState t == 2
    | none => false

/-- Partitions in use (R447). -/
def State.partitions (s : State) : Nat := s.dget 0x6050 1

/-- Only tenant 0 exists, on one partition: `STATE_REQUEST` acts on it (R453). -/
def State.single (s : State) : Bool := s.partitions == 1 && s.tenants == [0]

/-! ## Small updates -/

def State.setPower (s : State) (f : Power → Power) : State := { s with power := f s.power }
def State.setGarnet (s : State) (f : Garnet → Garnet) : State := { s with garnet := f s.garnet }

/-- The module is powered beyond STANDBY: the Square runs. -/
def State.squareUp (s : State) : Bool :=
  match s.power.state with
  | .off => false
  | .standby => false
  | _ => true

end Sys2Proof.Machine
end

