-- ==== Sys2Proof/Machine/DictCheck.lean ====
section
/-! DEFINITION. The checks of a dictionary access in the order of R505 (spec/15_garnet.md), with the states of R35 and R524,
the family rule of R523 and the path rule of R508. -/

namespace Sys2Proof.Machine

/-! ## Abort codes (R505) -/

def abortIndex : Nat := 0x06020000
def abortSub : Nat := 0x06090011
def abortPath : Nat := 0x06010000
def abortReadOnly : Nat := 0x06010002
def abortLease : Nat := 0x08000020
def abortState : Nat := 0x08000022
def abortLength : Nat := 0x06070010
def abortRange : Nat := 0x06090030
def abortFlash : Nat := 0x08000000
def abortTimeout : Nat := 0x05040000
def abortToggle : Nat := 0x05040001

/-! ## The table -/

/-- The lines of an index. -/
def indexLines (idx : Nat) : List DictEntry :=
  dictTable.filter fun e => decide (e.index ≤ idx) && decide (idx < e.index + e.members)

/-- The highest subindex of an index (R522). -/
def highestSub (idx : Nat) : Nat := (indexLines idx).foldl (fun m e => max m e.hi) 0

/-- A family's first index, if the index belongs to one (R523). -/
def familyBase (idx : Nat) : Option Nat :=
  match indexLines idx with
  | [] => none
  | e :: _ => if 1 < e.members then some e.index else none

/-- The context families of R523. -/
def contextFamilies : List Nat :=
  [0x4030, 0x4050, 0x4060, 0x4080, 0x6040, 0x6080, 0x7010, 0x7044, 0x7060]

/-- The context an index serves, if it serves one. -/
def entryContext (idx : Nat) : Option Nat :=
  match familyBase idx with
  | some b => if b ∈ contextFamilies then some (idx - b) else none
  | none => none

/-- The tenant an index serves. -/
def entryTenant (idx : Nat) : Option Nat := if 0x6070 ≤ idx ∧ idx ≤ 0x6077 then some (idx - 0x6070) else none

/-- The member is outside R523: a context at or above `PARTITION_COUNT`, or a tenant without a home partition. -/
def memberOutside (s : State) (idx sub : Nat) : Bool :=
  (match entryContext idx with
    | some c => decide (s.partitions ≤ c)
    | none => false) ||
  (match entryTenant idx with
    | some t => !s.configured t && sub != 1
    | none => false)

/-! ## Check 3: paths (R508) -/

/-- Tenants resident on the module. -/
def residents (s : State) : List Nat := (List.range 4).filterMap s.resident

/-- A PCIe function may write the entry while more than one tenant is resident (R508). -/
def functionReaches (s : State) (f idx : Nat) : Bool :=
  (match entryContext idx with
    | some c => c == f && !(idx / 16 == 0x408 || idx / 16 == 0x704)
    | none => false) ||
  (match entryTenant idx with
    | some t => s.dget idx 1 == f && s.configured t
    | none => false)

/-- The path may write the entry (check 3). -/
def pathWrites (s : State) (r : Requester) (idx : Nat) : Bool :=
  r.path != 3 || decide ((residents s).length ≤ 1) || functionReaches s r.id idx

/-! ## Check 5: the lease (R509) -/

/-- A partner's holder code (R509). -/
def holderCode (r : Requester) : Nat := r.path * 2 ^ 24 + r.id % 2 ^ 24

/-- The partner holds the lease. -/
def holdsLease (s : State) (r : Requester) : Bool :=
  s.dget 0x2060 4 == holderCode r &&
    (r.path != 2 || (s.dget 0x2060 5 == r.addr && s.garnet.leasePort == r.port))

/-! ## Check 6: states (R35, R524) -/

/-- Entries accepted in every powered state (R524). -/
def anyStateEntry (idx sub : Nat) : Bool :=
  idx == 0x7F00 || idx == 0x2031 || ((idx == 0x3010 || idx == 0x3020 || idx == 0x3050) && sub == 1)
    || (idx == 0x2080 && (sub == 1 || sub == 2))

/-- The areas that a state accepts (R35). -/
def areaAccepted (m : ModState) (idx sub : Nat) : Bool :=
  let area := idx / 0x1000
  let request := idx == 0x4000 && sub == 2
  match m with
  | .off => false
  | .standby => area == 1 || area == 2 || request || area == 5
  | .survey => request || area == 5
  | .ready => area == 1 || area == 2 || area == 4 || area == 5 || area == 6 || area == 7
  | .loaded => area == 4 || area == 5 || area == 6 || area == 7
  | .running => request || area == 5
  | .held => area == 4 || area == 5 || area == 6 || area == 7
  | .faulted => request || area == 5

/-- The entry is marked running-writable (R524). -/
def runningEntry (idx sub : Nat) : Bool := ((dictLine idx sub).map (·.running)).getD false

/-- A context's entry that R35 accepts in LOADED, while its partition's resident tenant is not `RUNNING` (R453). -/
def contextStopped (s : State) (idx sub : Nat) : Bool :=
  match entryContext idx with
  | some c => areaAccepted .loaded idx sub && !s.running c
  | none => false

/-- Every tenant is `EMPTY`. -/
def allEmpty (s : State) : Bool := !(s.anyTenant (· != 0))

/-- What the defining statements narrow further: R300, R386, R444, R447, R450. -/
def narrowed (s : State) (idx sub : Nat) : Bool :=
  let ready := s.modState == .ready
  if idx = 0x7030 ∧ (sub = 3 ∨ sub = 4) then ready
  else if idx = 0x6000 then ready
  else if (0x6060 ≤ idx ∧ idx ≤ 0x6063) ∨ (idx = 0x6050 ∧ (sub = 1 ∨ sub = 6)) then ready && allEmpty s
  else if 0x6010 ≤ idx ∧ idx ≤ 0x6017 ∧ 2 ≤ sub ∧ sub ≤ 0xE then s.dget idx 0xD == 0 || s.dget idx 0xD == 3
  else if 0x6040 ≤ idx ∧ idx ≤ 0x6043 ∧ 2 ≤ sub ∧ sub ≤ 0x10 then s.dget idx 0x11 == 0 || s.dget idx 0x11 == 1
  else if 0x6070 ≤ idx ∧ idx ≤ 0x6077 ∧ (sub = 1 ∨ sub = 2 ∨ (7 ≤ sub ∧ sub ≤ 0xE)) then s.dget idx 5 == 0
  else true

/-- The current state accepts a write of the entry (check 6). -/
def stateAccepts (s : State) (idx sub : Nat) : Bool :=
  let m := s.modState
  m != .off && !(memberOutside s idx sub) && narrowed s idx sub &&
    (anyStateEntry idx sub || areaAccepted m idx sub || (m == .running && (runningEntry idx sub || contextStopped s idx sub)))

/-! ## Checks 7 and 8 -/

/-- The byte count of the entry's type; a DOMAIN takes up to 64 MiB (R516, R520). -/
def lengthOk (idx sub len : Nat) : Bool :=
  if idx = 0x7F00 ∧ sub = 2 then true else len == entryBytes idx sub

/-- The value lies in one of the entry's ranges; an entry with no range takes every value of its type. -/
def rangeOk (idx sub v : Nat) : Bool :=
  let ok := match dictLine idx sub with
    | none => true
    | some e => e.accept.isEmpty || e.accept.any fun r => decide (r.1 ≤ v) && decide (v ≤ r.2)
  let image := idx != 0x4001 || sub != 1 || (v % 4096 == 0 && within v 1 0x0010_0000_0000 0x0022_0000_0000)
  let binding := idx != 0x2050 || (decide (bits v 0 4 ≤ 9) && decide (bits v 4 4 ≤ 9))
  ok && image && binding

/-! ## The checks in order (R505, R526) -/

/-- Checks 1 and 2: 0 when the entry is implemented. -/
def checkEntry (idx sub : Nat) : Nat :=
  if (indexLines idx).isEmpty then abortIndex
  else if (dictLine idx sub).isNone && sub != 0 then abortSub
  else 0

/-- The first failing check of a write, or 0 (R505). -/
def checkWrite (s : State) (r : Requester) (idx sub len v : Nat) : Nat :=
  if checkEntry idx sub ≠ 0 then checkEntry idx sub
  else if !pathWrites s r idx then abortPath
  else
    match dictLine idx sub with
    | none => abortReadOnly
    | some e =>
      if e.access = .ro ∨ e.access = .rl then abortReadOnly
      else if !holdsLease s r then abortLease
      else if !stateAccepts s idx sub then abortState
      else if !lengthOk idx sub len then abortLength
      else if !rangeOk idx sub v then abortRange
      else 0

/-- A write that keeps flash in step for an entry of persistence F (R521); `RESTORE_ALL_DEFAULTS` and the like keep no value. -/
def storeEntry (s : State) (idx sub v : Nat) : State :=
  let t := s.dset idx sub v
  if keyPersist (dictKey idx sub) = .flash then
    { t with garnet := { t.garnet with flash := kset t.garnet.flash (dictKey idx sub) v } }
  else t

/-- A write is checked, its effect taken, and answered (R504, R505). The effect answers an abort code of its own, 0 for
success. -/
def guardedWrite (s : State) (r : Requester) (idx sub len v : Nat) (effect : State → Nat × State) : State :=
  let a := checkWrite s r idx sub len v
  if s.power.state = .off then s
  else if a ≠ 0 then s.reply r a 0
  else
    let e := effect s
    e.2.reply r e.1 0

end Sys2Proof.Machine
end

