-- ==== Sys2Proof/Machine/Reach.lean ====
section
/-! DEFINITION. The reserves at the top of Bedrock, the tenants' ranges, and what a PCIe function reaches
(spec/01_architecture.md R25, R30; spec/13_tenancy.md R447 to R450). -/

namespace Sys2Proof.Machine

def mib : Nat := 2 ^ 20
def gib : Nat := 2 ^ 30

/-- Bytes of the module reserves in force (R25, R299, R444). -/
def reserveBytes (s : State) : Nat := (s.dget 0x6000 1 + s.zoning.stashMiB + s.zoning.overlayMiB) * mib

/-- The end of program-visible Bedrock (R25). -/
def bedrockTop (s : State) : Nat := bedrockEnd - reserveBytes s

/-- Program-visible Bedrock. -/
def visibleBedrock (s : State) : Nat := bedrockTop s - bedrockBase

/-- Square buffer bytes of a tenant (R450). -/
def tenantSquare (s : State) (t : Nat) : Nat := if s.configured t then s.dget (0x6070 + t) 0xC * mib else 0

/-- Bedrock bytes of a tenant, never beyond program-visible Bedrock (R450). -/
def tenantBedrock (s : State) (t : Nat) : Nat :=
  if s.configured t then min (s.dget (0x6070 + t) 0xD * gib) (visibleBedrock s) else 0

/-- The tenants' ranges are placed in ascending tenant number (R450). -/
def squareStart (s : State) (t : Nat) : Nat := squareBase + ((List.range t).map (tenantSquare s)).sum
def bedrockStart (s : State) (t : Nat) : Nat := bedrockBase + ((List.range t).map (tenantBedrock s)).sum

/-- The `n` bytes at `a` lie in a tenant's own Square buffers or Bedrock. -/
def tenantOwns (s : State) (t a n : Nat) : Bool :=
  within a n (squareStart s t) (squareStart s t + tenantSquare s t) ||
  within a n (bedrockStart s t) (bedrockStart s t + tenantBedrock s t)

/-- The partition's district map (R447). -/
def districtMap (s : State) (p : Nat) : Nat := s.dget (0x6060 + p) 1

/-- The district of a physical block: D = 32 s + d (R23, R277). -/
def districtOf (p : Nat) : Nat := p / 544 * 32 + p % 544 / 17

/-- More than one tenant is configured (R30). -/
def multiTenant (s : State) : Bool := decide (1 < s.tenants.length)

/-- The tenants homed on a partition. -/
def homed (s : State) (p : Nat) : List Nat := s.tenants.filter fun t => s.dget (0x6070 + t) 1 == p

/-- What function `f` reaches while more than one tenant is configured (R30, R449): the physical windows of its partition's
districts and the channels 4f to 4f + 3 where that partition exists (R447), its dictionary window, its engine registers, and the ranges of every tenant homed on
it. Logical windows are those of its own context's blocks; they are judged where they are resolved. -/
def functionArea (s : State) (f a n : Nat) : Bool :=
  if a < blockEnd then decide (f < s.partitions) && bit (districtMap s f) (districtOf (a / windowBytes))
  else if logicalBase ≤ a ∧ a < logicalEnd then true
  else if squareBase ≤ a ∧ a < squareEnd then (homed s f).any fun t => tenantOwns s t a n
  else if bedrockBase ≤ a then (homed s f).any fun t => tenantOwns s t a n
  else if mailBase ≤ a ∧ a < mailBase + 0x10000 then decide (f < s.partitions) && (a - mailBase) / 0x1000 / 4 == f
  else if dictBase ≤ a ∧ a < storeBase then (a - dictBase) / 0x10000 == f
  else if engineBase ≤ a ∧ a < mailBase then a < engineBase + 0x30_0000 || (a - engineBase) / 0x1000 == 0x400 + f
  else false

/-- Module-wide control, which function 0 reaches while more than one tenant is configured only in READY (R30): the other
registers of the engines, the program store and the other windows. -/
def moduleControl (a : Nat) : Bool := decide (engineBase ≤ a) && decide (a < storeEnd)

/-- R30: function `f` reaches the bytes. -/
def functionReach (s : State) (f a n : Nat) : Bool :=
  !multiTenant s || functionArea s f a n || (f == 0 && s.modState == .ready && moduleControl a)

/-- The reach of a mailbox identity (R481): host functions under R30, the others everywhere. -/
def identityReach (s : State) (ident a n : Nat) : Bool :=
  if 1 ≤ ident ∧ ident ≤ 4 then functionReach s (ident - 1) a n else true

end Sys2Proof.Machine
end

