-- ==== Sys2Proof/Machine/Mailbox.lean ====
section
/-! DEFINITION. Mailboxes and doorbells (spec/14_mailboxes.md R474 to R492): the register operations, the engines' notices,
and the meanings of the mailbox commands. -/

namespace Sys2Proof.Machine

/-! ## Registers and bindings -/

/-- The binding register of a channel: side B in [7:4], side A in [3:0] (R476). -/
def mailBinding (s : State) (ch : Nat) : Nat := nth 0 s.mail.binding ch

def sideA (s : State) (ch : Nat) : Nat := bits (mailBinding s ch) 0 4
def sideB (s : State) (ch : Nat) : Nat := bits (mailBinding s ch) 4 4

/-- A channel with equal sides, or a side of 0, is unused (R475). -/
def channelUnused (s : State) (ch : Nat) : Bool :=
  sideA s ch == sideB s ch || sideA s ch == 0 || sideB s ch == 0

/-- Direction 0 carries records from A to B, direction 1 from B to A (R475). -/
def mailSender (s : State) (ch dir : Nat) : Nat := if dir = 0 then sideA s ch else sideB s ch
def mailReceiver (s : State) (ch dir : Nat) : Nat := if dir = 0 then sideB s ch else sideA s ch

def mailDir (s : State) (ch dir : Nat) : MailDir := kget MailDir.empty s.mail.dirs (2 * ch + dir)

def setMailDir (s : State) (ch dir : Nat) (m : MailDir) : State :=
  { s with mail := { s.mail with dirs := kput MailDir.empty s.mail.dirs (2 * ch + dir) m } }

/-- A direction is pending (R484). -/
def MailDir.pending (m : MailDir) : Bool := m.status &&& m.mask != 0

/-! ## Records of R479 to R492 -/

/-- `MAILBOX_RECORD_FIRST` of a case (R492). -/
def mailFirst (reason ident ch dir : Nat) : Nat := reason * 2 ^ 28 + ident * 2 ^ 24 + ch * 2 ^ 20 + dir * 2 ^ 19

/-- A discarded write under R479. -/
def mailViolation (s : State) (ident ch dir : Nat) : State :=
  s.record 0x50C0 0 [(2, 1)] (some (mailFirst 0 ident ch dir))

/-- A discarded index write (R481). -/
def mailIndexInvalid (s : State) (ident ch dir : Nat) : State :=
  s.record 0x50C0 2 [(4, 1)] (some (mailFirst 2 ident ch dir))

/-- A discarded write of a lock (R480). -/
def mailLockMisuse (s : State) (ident ch dir : Nat) : State :=
  s.record 0x50C0 1 [(3, 1)] (some (mailFirst 1 ident ch dir))

/-- Invalid or unwanted records met by a hardware receiver (R483). -/
def mailRecordInvalid (s : State) (ident ch dir n : Nat) : State :=
  s.record 0x50C0 3 [(5, n)] (some (mailFirst 3 ident ch dir))

/-! ## Doorbells and notices (R484, R485) -/

/-- Identities 1 to 4 are host functions: they take MSI-X vectors; the others take the internal event (R484). -/
def mailNotify (s : State) (ch dir : Nat) : State :=
  let id := mailReceiver s ch dir
  if 1 ≤ id ∧ id ≤ 4 then s.emit (.msix (id - 1) (2 * (ch % 4) + dir)) else s.emit (.mailEvent id ch dir)

/-- The receiver of a direction that has just become pending is notified, or woken if it sleeps and its `WAKE_ENABLE` bit 0
is set; with `WAKE_ENABLE` 0 the record waits (R484, R485). -/
def mailRing (s : State) (ch dir : Nat) : State :=
  let id := mailReceiver s ch dir
  if s.mail.asleep.contains id then
    let m := mailDir s ch dir
    let t := setMailDir s ch dir { m with owed := true }
    if bit m.wake 0 then t.emit (.wake id) else t
  else mailNotify s ch dir

/-- A direction's registers become `m`; if that turns it from not pending to pending, its receiver is notified. -/
def mailUpdate (s : State) (ch dir : Nat) (m : MailDir) : State :=
  let was := (mailDir s ch dir).pending
  let t := setMailDir s ch dir m
  if m.pending && !was then mailRing t ch dir else t

/-! ## Rings (R481) -/

/-- A ring lies wholly in Square buffers or program-visible Bedrock, within the reach of both sides (R481). -/
def ringPlaced (s : State) (ch base size : Nat) : Bool :=
  (within base size squareBase squareEnd || within base size bedrockBase (bedrockTop s)) &&
    identityReach s (sideA s ch) base size && identityReach s (sideB s ch) base size

/-- The legal sizes of a ring (R478). -/
def ringSizeOk (n : Nat) : Bool :=
  n == 0 || ((List.range 9).any fun k => n == 4096 * 2 ^ k)

/-- The bytes between the indices, modulo 2³². -/
def ringUsed (m : MailDir) : Nat := (m.producer + 2 ^ 32 - m.consumer) % 2 ^ 32

/-! ## Engine notices (R489, R511) -/

/-- The 32 B record header of R482 as a number: `BODY_BYTES` 0, one 32 B unit. -/
def noticeRecord (kind tag seq ident : Nat) : Nat :=
  seq % 2 ^ 32 * 2 ^ 96 + tag % 2 ^ 64 * 2 ^ 32 + kind % 2 ^ 16 * 2 ^ 16 + 1 * 2 ^ 8 + ident % 16 * 2 ^ 4 + 1

/-- The ring of a direction takes another 32 B record: enabled, not locked by another agent, and with space. -/
def ringTakes (m : MailDir) : Bool := m.size != 0 && m.lock == 0 && decide (ringUsed m + 32 ≤ m.size)

/-- One notice written into the ring, posted, and doorbell bit 0 rung (R481, R489). -/
def postRecord (s : State) (ident ch dir : Nat) (n : Notice) : State :=
  let m := mailDir s ch dir
  let t := writeBytes s (m.base + m.producer % m.size) (leBytes 32 (noticeRecord n.kind n.tag m.seq ident))
  mailUpdate t ch dir
    { m with producer := (m.producer + 32) % 2 ^ 32, seq := (m.seq + 1) % 2 ^ 32, status := setBit m.status 0 }

/-- An engine's notice towards side A of a channel: posted when nothing waits before it and the ring takes it, else kept
among at most 16 unposted ones, else dropped (R489). The mailbox block is unpowered in OFF and STANDBY (R487), and a channel
whose side B is not the engine is not its to post on (R479). -/
def postNotice (s : State) (ident ch kind tag : Nat) : State :=
  if !s.squareUp then s
  else if channelUnused s ch || mailSender s ch 1 != ident then mailViolation s ident ch 1
  else
    let m := mailDir s ch 1
    if m.unposted.isEmpty && ringTakes m then postRecord s ident ch 1 ⟨kind, tag⟩
    else if m.unposted.length < 16 then setMailDir s ch 1 { m with unposted := m.unposted ++ [⟨kind, tag⟩] }
    else s.record 0x50C0 4 [(6, 1)] (some (mailFirst 4 ident ch 1))

/-- Garnet's notice to side A of channel 4p of every partition p (R511). -/
def garnetNotice (s : State) (kind tag : Nat) : State :=
  (List.range 4).foldl (fun t p => postNotice t 5 (4 * p) kind tag) s

/-- The sequencer's notice on the channel of a context's partition (R489). -/
def sequencerNotice (s : State) (ctx kind tag : Nat) : State := postNotice s 6 (4 * ctx + 1) kind tag

/-- The Boulevard engine's notice on the channel of a partition (R489). -/
def boulevardNotice (s : State) (part kind tag : Nat) : State := postNotice s 7 (4 * part + 2) kind tag

/-! ## Writes by side (R478, R479) -/

/-- The register a sender writes: the direction's sender, or debug acting as sender (R479). -/
def maySend (s : State) (ident ch dir : Nat) : Bool :=
  !channelUnused s ch && (ident == mailSender s ch dir || ident == 9)

/-- The register a receiver writes. -/
def mayReceive (s : State) (ident ch dir : Nat) : Bool := !channelUnused s ch && ident == mailReceiver s ch dir

/-- A lock read (R480): what it returns, and the direction afterwards. -/
def lockRead (s : State) (ident ch dir : Nat) : Nat × MailDir :=
  let m := mailDir s ch dir
  if maySend s ident ch dir then
    if m.lock = 0 then (0, { m with lock := ident }) else (m.lock, m)
  else (0xF, m)

/-- A lock write (R480). -/
def lockWrite (s : State) (ident ch dir : Nat) : State :=
  let m := mailDir s ch dir
  if channelUnused s ch then mailViolation s ident ch dir
  else if m.lock = 0 then s
  else if m.lock = ident then setMailDir s ch dir { m with lock := 0 }
  else mailLockMisuse s ident ch dir

/-- A write of `PRODUCER` (R481). -/
def producerWrite (s : State) (ident ch dir v : Nat) : State :=
  let m := mailDir s ch dir
  let v := v % 2 ^ 32
  if !maySend s ident ch dir then mailViolation s ident ch dir
  else if m.lock == ident && m.size != 0 && (v + 2 ^ 32 - m.producer) % 2 ^ 32 % 32 == 0
      && decide ((v + 2 ^ 32 - m.consumer) % 2 ^ 32 ≤ m.size) then setMailDir s ch dir { m with producer := v }
  else mailIndexInvalid s ident ch dir

/-- A write of `CONSUMER` (R481). -/
def consumerWrite (s : State) (ident ch dir v : Nat) : State :=
  let m := mailDir s ch dir
  let v := v % 2 ^ 32
  let adv := (v + 2 ^ 32 - m.consumer) % 2 ^ 32
  if !mayReceive s ident ch dir then mailViolation s ident ch dir
  else if adv % 32 == 0 && decide (adv ≤ ringUsed m) then setMailDir s ch dir { m with consumer := v }
  else mailIndexInvalid s ident ch dir

/-- A write of `RING_BASE` (`size` false) or `RING_SIZE` (`size` true) (R478, R481). -/
def ringWrite (s : State) (ident ch dir : Nat) (size : Bool) (v : Nat) : State :=
  let m := mailDir s ch dir
  let base := if size then m.base else v % 2 ^ 64
  let len := if size then v % 2 ^ 32 else m.size
  if !mayReceive s ident ch dir then mailViolation s ident ch dir
  else if m.producer == m.consumer && base % 4096 == 0 && ringSizeOk len && (len == 0 || ringPlaced s ch base len)
      && (size || ringPlaced s ch base 4096) then setMailDir s ch dir { m with base := base, size := len }
  else mailViolation s ident ch dir

/-- A write of `DOORBELL_SET` (R478). -/
def doorbellSet (s : State) (ident ch dir v : Nat) : State :=
  let m := mailDir s ch dir
  if !maySend s ident ch dir then mailViolation s ident ch dir
  else mailUpdate s ch dir { m with status := m.status ||| v % 2 ^ 16 }

/-- A write of `DOORBELL_STATUS` (R478): writing 1 clears. -/
def doorbellStatus (s : State) (ident ch dir v : Nat) : State :=
  let m := mailDir s ch dir
  if !mayReceive s ident ch dir then mailViolation s ident ch dir
  else setMailDir s ch dir { m with status := clearBits m.status (v % 2 ^ 16) }

/-- A write of `DOORBELL_MASK` (R478, R484). -/
def doorbellMask (s : State) (ident ch dir v : Nat) : State :=
  let m := mailDir s ch dir
  if !mayReceive s ident ch dir then mailViolation s ident ch dir
  else mailUpdate s ch dir { m with mask := v % 2 ^ 16 }

/-- A write of `WAKE_ENABLE` (R478). -/
def wakeEnable (s : State) (ident ch dir v : Nat) : State :=
  let m := mailDir s ch dir
  if !mayReceive s ident ch dir then mailViolation s ident ch dir
  else setMailDir s ch dir { m with wake := v % 2 }

/-- The identity may read a channel: one of its sides, or debug (R479). -/
def onChannel (s : State) (ident ch : Nat) : Bool :=
  !channelUnused s ch && (ident == sideA s ch || ident == sideB s ch || ident == 9)

/-- A write where a channel has no register that takes one: ignored from its own sides (R9), a violation from others (R479). -/
def noRegister (s : State) (ident ch dir : Nat) : State := if onChannel s ident ch then s else mailViolation s ident ch dir

/-- A write to a mailbox register at a channel offset (R475, R478). -/
def mailRegWrite (s : State) (ident ch off v : Nat) : State :=
  let dir := (off - 0x100) / 0x100
  if off < 0x100 ∨ 0x300 ≤ off then noRegister s ident ch 0
  else match off % 0x100 with
    | 0x00 => ringWrite s ident ch dir false v
    | 0x08 => ringWrite s ident ch dir true v
    | 0x0C => lockWrite s ident ch dir
    | 0x10 => producerWrite s ident ch dir v
    | 0x14 => consumerWrite s ident ch dir v
    | 0x18 => doorbellSet s ident ch dir v
    | 0x1C => doorbellStatus s ident ch dir v
    | 0x20 => doorbellMask s ident ch dir v
    | 0x24 => wakeEnable s ident ch dir v
    | _ => noRegister s ident ch dir

/-- What a read of a mailbox register returns, and the state after it: only a read of `LOCK` acts (R479, R480). -/
def mailRegRead (s : State) (ident ch off : Nat) : Nat × State :=
  let dir := (off - 0x100) / 0x100
  let m := mailDir s ch dir
  if 0x100 ≤ off ∧ off < 0x300 ∧ off % 0x100 = 0x0C then
    if channelUnused s ch then (0, s)
    else let r := lockRead s ident ch dir; (r.1, setMailDir s ch dir r.2)
  else if !onChannel s ident ch then (0, s)
  else if off = 0 then (b2n s.mail.locked * 2 ^ 31 + mailBinding s ch, s)
  else if off < 0x100 ∨ 0x300 ≤ off then (0, s)
  else match off % 0x100 with
    | 0x00 => (m.base, s)
    | 0x08 => (m.size, s)
    | 0x10 => (m.producer, s)
    | 0x14 => (m.consumer, s)
    | 0x1C => (m.status, s)
    | 0x20 => (m.mask, s)
    | 0x24 => (m.wake, s)
    | _ => (0, s)

/-! ## Resets (R487) -/

/-- The directions of every channel. -/
def allDirs : List (Nat × Nat) := (List.range 16).flatMap fun c => [(c, 0), (c, 1)]

/-- One direction of a channel at the reset of an identity: a lock it owns is released, and a pending direction that it
receives is notified again when it can take notices. -/
def resetDir (s : State) (ident : Nat) (cd : Nat × Nat) : State :=
  let m := mailDir s cd.1 cd.2
  let a := if m.lock = ident ∧ ident ≠ 0 then
      State.record (setMailDir s cd.1 cd.2 { m with lock := 0 }) 0x50C0 5 [] (some (mailFirst 5 ident cd.1 cd.2))
    else s
  let n := mailDir a cd.1 cd.2
  if !channelUnused a cd.1 && mailReceiver a cd.1 cd.2 == ident && n.pending then
    setMailDir a cd.1 cd.2 { n with owed := true }
  else a

/-- The reset of a mailbox identity (R487): until it can take notices again it counts as asleep. -/
def identityReset (s : State) (ident : Nat) : State :=
  let t := allDirs.foldl (fun t cd => resetDir t ident cd) s
  { t with mail := { t.mail with asleep := sinsert t.mail.asleep ident } }

/-- A receiver can take notices again: what is owed to it is delivered (R485, R487). -/
def receiverAwake (s : State) (ident : Nat) : State :=
  let t : State := { s with mail := { s.mail with asleep := serase s.mail.asleep ident } }
  allDirs.foldl (fun t cd =>
    let m := mailDir t cd.1 cd.2
    if !channelUnused t cd.1 && mailReceiver t cd.1 cd.2 == ident && m.owed then
      let u := setMailDir t cd.1 cd.2 { m with owed := false }
      if m.pending then mailNotify u cd.1 cd.2 else u
    else t) t

/-- Entry into STANDBY clears the block (R487). -/
def Mail.cleared (m : Mail) : Mail := { m with binding := [], locked := false, dirs := [] }

/-- Entry into SURVEY copies the 0x2050 entries and locks them (R477). -/
def lockBinding (s : State) : State :=
  { s with mail := { s.mail with binding := (List.range 16).map fun c => s.dget 0x2050 (c + 1), locked := true } }

/-! ## Hardware receivers (R483, R489) -/

/-- A record at the consumer of a ring: its header as a number, and whether any granule it lies in is poisoned. -/
def ringHeader (s : State) (m : MailDir) : Nat := readLe s (m.base + m.consumer % m.size) 32

/-- Whether the record at the consumer is valid for a hardware receiver (R482, R483, R578): `none` if not, else its length
in bytes and whether it is a pad. -/
def ringRecord (s : State) (ch dir : Nat) : Option (Nat × Bool) :=
  let m := mailDir s ch dir
  let h := ringHeader s m
  let kind := bits h 0 4
  let len := 32 * bits h 8 8
  let at' := m.consumer % m.size
  let clean := !(anyTagged (readTagged s (m.base + at') len))
  let pad := kind == 2 && bits h 16 16 == 0 && bits h 32 64 == 0 && bits h 96 160 == 0 && at' + len == m.size
  let msg := kind == 1 && bits h 128 24 == 0 && (bits h 152 40 == 0 || bits h 240 16 == 0)
  if decide (1 ≤ bits h 8 8) && decide (bits h 8 8 ≤ 128) && (pad || msg) && bits h 4 4 == mailSender s ch dir
      && decide (at' + len ≤ m.size) && decide (len ≤ ringUsed m) && clean then some (len, kind == 2)
  else none

/-- A hardware receiver meets an invalid record: everything up to `PRODUCER` is discarded (R483). -/
def discardRecords (s : State) (ch dir : Nat) : State :=
  let m := mailDir s ch dir
  mailRecordInvalid (setMailDir s ch dir { m with consumer := m.producer }) (mailSender s ch dir) ch dir 1

/-- The record at the consumer is consumed. -/
def consumeRecord (s : State) (ch dir len : Nat) : State :=
  let m := mailDir s ch dir
  setMailDir s ch dir { m with consumer := (m.consumer + len) % 2 ^ 32 }

/-- The sequencer, the Boulevard engine and Garnet take no records: they consume one and count it (R489, R511); a pad is
skipped. -/
def consumeUnwanted (s : State) (ch dir : Nat) : State :=
  match ringRecord s ch dir with
  | none => discardRecords s ch dir
  | some (len, true) => consumeRecord s ch dir len
  | some (len, false) => mailRecordInvalid (consumeRecord s ch dir len) (mailSender s ch dir) ch dir 1

/-! ## Meanings -/

/-- LOCK (R480): a read acquires or returns the owner; a write by the owner releases. -/
def execLockAccess (ident ch dir : Nat) (write : Bool) (s : State) : Host.Outcome State Fault Refusal :=
  if write then .next (lockWrite s ident ch dir)
  else
    let r := mailRegRead s ident ch (0x10C + 0x100 * dir)
    .next (r.2.emit (.mailRead ident r.1))

/-- PRODUCER (R481). -/
def execProducer (ident ch dir value : Nat) (s : State) : Host.Outcome State Fault Refusal :=
  .next (producerWrite s ident ch dir value)

/-- CONSUMER (R481). -/
def execConsumer (ident ch dir value : Nat) (s : State) : Host.Outcome State Fault Refusal :=
  .next (consumerWrite s ident ch dir value)

/-- RING_SET (R481). -/
def execRingSet (ident ch dir : Nat) (size : Bool) (value : Nat) (s : State) : Host.Outcome State Fault Refusal :=
  .next (ringWrite s ident ch dir size value)

/-- DOORBELL_SET (R484). -/
def execDoorbellSet (ident ch dir value : Nat) (s : State) : Host.Outcome State Fault Refusal :=
  .next (doorbellSet s ident ch dir value)

/-- DOORBELL_STATUS (R486). -/
def execDoorbellStatus (ident ch dir value : Nat) (s : State) : Host.Outcome State Fault Refusal :=
  .next (doorbellStatus s ident ch dir value)

/-- DOORBELL_MASK (R484). -/
def execDoorbellMask (ident ch dir value : Nat) (s : State) : Host.Outcome State Fault Refusal :=
  .next (doorbellMask s ident ch dir value)

/-- IDENTITY_RESET (R487). -/
def execIdentityReset (ident : Nat) (s : State) : Host.Outcome State Fault Refusal := .next (identityReset s ident)

/-- NOTICE_POST (R489): the oldest unposted notice of a channel is posted as soon as its ring takes it. -/
def execNoticePost (ch : Nat) (s : State) : Host.Outcome State Fault Refusal :=
  let m := mailDir s ch 1
  match m.unposted with
  | [] => .next s
  | n :: rest =>
    if ringTakes m then .next (postRecord (setMailDir s ch 1 { m with unposted := rest }) (mailSender s ch 1) ch 1 n)
    else .next s

/-- RECEIVER_WAKE (R485). -/
def execReceiverWake (ident : Nat) (s : State) : Host.Outcome State Fault Refusal := .next (receiverAwake s ident)

end Sys2Proof.Machine
end

