-- ==== Sys2Proof/Machine/ModuleState.lean ====
section
/-! DEFINITION. What follows a change of `MODULE_STATE`, of the lease holder or of `FW_STATUS` (spec/15_garnet.md R501, R511),
and of `TENANT_STATE` (spec/14_mailboxes.md R489). -/

namespace Sys2Proof.Machine

/-- The log entry of a changed entry: no rule names its first parameter (assumption 3). -/
def State.logChange (s : State) (idx sub : Nat) : State :=
  s.log idx sub 0 (Config.logDetail s.freeCount).toNat 0

/-- The reserve sizes as written take effect (R299). -/
def latchReserves (s : State) : State :=
  { s with zoning := { s.zoning with stashMiB := s.dget 0x7000 4, overlayMiB := s.dget 0x7000 5 } }

/-- A change of `MODULE_STATE` from `was` is logged and posted (R501, R511); at entry into READY the reserve sizes take effect (R299,
R556). -/
def noteState (was : ModState) (s : State) : State :=
  if s.modState = was then s
  else
    let t := if s.modState = .ready then latchReserves s else s
    garnetNotice (t.logChange 0x4000 1) 1 (t.modState.code + 256 * was.code)

/-- The power state changes. -/
def setPowerState (s : State) (p : PowerState) : State :=
  noteState s.modState { s with power := { s.power with state := p } }

/-- A tenant's state changes: its partition's sequencer channel is notified, and `MODULE_STATE` follows (R451, R453, R489). -/
def setTenantState (s : State) (t v : Nat) : State :=
  if s.tenantState t = v then s
  else
    let p := s.dget (0x6070 + t) 1
    noteState s.modState (sequencerNotice (s.dset (0x6070 + t) 5 v) p 3 (t + 256 * v))

/-- `TRANSITION_STATUS` (R37). -/
def setTransition (s : State) (v : Nat) : State := s.dset 0x4000 5 v

/-- No request is pending any more, and the outcome is `v` (R37). -/
def endRequest (s : State) (v : Nat) : State :=
  setTransition { s with power := { s.power with request := none } } v

/-- A request is pending (R37, R38). -/
def pendRequest (s : State) (q : Request) : State :=
  setTransition { s with power := { s.power with request := some q } } 2

end Sys2Proof.Machine
end

