-- ==== Sys2Proof/Machine/Block.lean ====
section
/-! DEFINITION. Blocks: their registers, the banks with remap tables, sensing and migration (spec/03_blocks.md R85 to R126),
and who binds a block (spec/08_zoning.md R276, R292). -/

namespace Sys2Proof.Machine

/-! ## Access -/

def State.block (s : State) (p : Nat) : Block := kget Block.empty s.blocks p

def State.setBlock (s : State) (p : Nat) (f : Block → Block) : State :=
  { s with blocks := kset s.blocks p (f (s.block p)) }

def State.ctx (s : State) (c : Nat) : Ctx := kget Ctx.empty s.contexts c

def State.setCtx (s : State) (c : Nat) (f : Ctx → Ctx) : State := { s with contexts := kset s.contexts c (f (s.ctx c)) }

/-- `PROGRAM_COUNTER` of a context: the address of the bundle whose operations issue (R166). -/
def State.pc (s : State) (c : Nat) : Nat := s.dget (0x4030 + c) 1

/-- P0 always reads 1 (R120). -/
def Block.pred (b : Block) (i : Nat) : Bool := i == 0 || bit b.preds i

def Block.base (b : Block) (i : Nat) : BaseReg := kget BaseReg.zero b.bases i

/-- A base register (or 16: `SR_INDEX`) as the next bundle will see it. -/
def Block.nextValue (b : Block) (i : Nat) : Nat :=
  (kfind b.changes i).getD (if i = 16 then b.srIndex else (b.base i).row)

/-- A base register or `SR_INDEX` takes a value for the next bundle (R141, R190), modulo its width (R192). -/
def Block.change (b : Block) (i v : Nat) : Block :=
  { b with changes := kset b.changes i (v % 2 ^ (if i = 16 then 48 else 10)) }

/-- A base register or `SR_INDEX` is raised for the next bundle. -/
def Block.bump (b : Block) (i n : Nat) : Block := if n = 0 then b else b.change i (b.nextValue i + n)

/-- The bundle's changes take effect (R141). -/
def Block.applyChanges (b : Block) : Block :=
  b.changes.foldl (fun x e =>
    if e.1 = 16 then { x with srIndex := e.2 }
    else { x with bases := kset x.bases e.1 { x.base e.1 with row := e.2 } }) { b with changes := [] }

/-- The state of a block queue as the debug unit reads it (R118): [31] `CLOSED`, [22:16] `COUNT`, [13:8] `TAIL`, [5:0] `HEAD`. -/
def Queue.word (q : Queue) : Nat :=
  b2n q.closed * 2 ^ 31 + q.entries.length * 2 ^ 16 + (q.head + q.entries.length) % 64 * 2 ^ 8 + q.head

def zeroLanes (n : Nat) : List Lane := List.replicate n Lane.zero

def Block.vreg (b : Block) (r : Nat) : List Lane := kget (zeroLanes 64) b.vregs r
def Block.setVreg (b : Block) (r : Nat) (l : List Lane) : Block := { b with vregs := kset b.vregs r l }
def Block.accRow (b : Block) (r : Nat) : List Lane := kget (zeroLanes 128) b.acc r
def Block.setAcc (b : Block) (r : Nat) (l : List Lane) : Block := { b with acc := kset b.acc r l }
def Block.queue (b : Block) (q : Nat) : Queue := kget Queue.empty b.queues q
def Block.setQueue (b : Block) (q : Nat) (x : Queue) : Block := { b with queues := kset b.queues q x }

/-- A Mica section: 128 bytes and its mark. -/
def Block.section (b : Block) (k : Nat) : List Byte × Bool := kget (List.replicate 128 0, false) b.mica k

/-- Byte `a` of a Mica quarter with its section's mark. -/
def Block.micaByte (b : Block) (quarter a : Nat) : TByte :=
  let x := b.section (quarter * 64 + a / 128)
  (x.1.getD (a % 128) 0, x.2)

/-- `n` bytes of a Mica quarter from `a`. -/
def Block.micaBytes (b : Block) (quarter a n : Nat) : List TByte := (rangeFrom a n).map (b.micaByte quarter)

/-- A lane's four bytes, little-endian, each with the lane's poison bit. -/
def Lane.bytes (l : Lane) : List TByte := (leBytes 4 l.bits.toNat).map fun b => (b, l.poison)

/-- The lanes that bytes make, each poisoned when any of its bytes is. -/
def lanesOf (n : Nat) (bs : List TByte) : List Lane :=
  (List.range n).map fun i =>
    let x := (bs.drop (4 * i)).take 4
    ⟨BitVec.ofNat 32 (ofLe (x.map (·.1))), anyTagged x⟩

def laneBytes (l : List Lane) : List TByte := l.flatMap Lane.bytes

/-! ## Who binds a block (R276, R277) -/

/-- The context and logical block that a physical block stands behind. -/
def boundBy (s : State) (p : Nat) : Option (Nat × Nat) :=
  (List.range 4).findSome? fun c => ((s.ctx c).blocks.find? (·.2 == p)).map fun e => (c, e.1)

/-- The corner of a physical block (R122). -/
def cornerOf (p : Nat) : Nat :=
  let s := p / 544
  let d := p % 544 / 17
  let k := p % 17
  if k = 16 then 136 * s + 128 + d / 4 else 136 * s + 4 * d + 2 * (k / 4 / 2) + k % 4 / 2

/-- `STATE` of a block's health word (R275). -/
def healthOf (s : State) (p : Nat) : Nat := kget 0 s.zoning.health p

/-- A block's health is set; the map lists what is not `HEALTHY`. -/
def setHealth (s : State) (p v : Nat) : State :=
  { s with zoning := { s.zoning with health := kput 0 s.zoning.health p v } }

/-- While a limit is set, a block is excluded whose `CORNER_TEMP_C` is not below it: an unmeasured corner reads 0xFF (R275, R276). -/
def tooHot (s : State) (p : Nat) : Bool :=
  s.dget 0x7000 3 != 0 && decide (s.dget 0x7000 3 ≤ kget 0xFF s.garnet.corners (cornerOf p))

/-- A block is usable for a context (R276). -/
def usable (s : State) (c p : Nat) : Bool :=
  healthOf s p == 0 && !tooHot s p && match boundBy s p with
    | none => true
    | some b => b.1 == c

/-- The spare of a block's district (R23). -/
def districtSpare (p : Nat) : Nat := p / 17 * 17 + 16

/-! ## Evacuation queue (R292) -/

/-- The first case of `EVAC_PROBLEM_FIRST` (R306). -/
def evacCase (kind p : Nat) : Nat := kind * 2 ^ 27 + p * 2 ^ 16

/-- A bound block is queued for evacuation, or the case is recorded. -/
def queueEvacuation (s : State) (p : Nat) : State :=
  match boundBy s p with
  | none => s
  | some b =>
    if s.zoning.evac.any (·.block == p) then s
    else if (boundBy s (districtSpare p)).isSome || !usable s b.1 (districtSpare p) then
      s.record 0x5060 1 [(3, 1)] (some (evacCase 0 p))
    else { s with zoning := { s.zoning with evac := s.zoning.evac ++ [⟨p, 0⟩] } }

/-! ## Remap tables and migration (R94 to R98) -/

def remapKey (p bank i : Nat) : Nat := (p * 16 + bank) * 16 + i

def State.remapEntry (s : State) (p bank i : Nat) : Remap := kget Remap.free s.zoning.remap (remapKey p bank i)

def State.setRemap (s : State) (p bank i : Nat) (r : Remap) : State :=
  { s with zoning := { s.zoning with remap := kput Remap.free s.zoning.remap (remapKey p bank i) r } }

/-- The entry in the given state that names a row. -/
def remapOf (s : State) (p bank row state : Nat) : Option Nat :=
  firstBelow 16 fun i => s.remapEntry p bank i == ⟨state, row⟩

/-- Where a read of an ordinary row goes (R95). -/
def readTarget (s : State) (p bank row : Nat) : Nat :=
  match remapOf s p bank row 2 with
  | some i => spareAddress p bank i
  | none => rowAddress p bank row

/-- Where a write of an ordinary row goes: a row being copied commits to both places (R95, R97). -/
def writeTargets (s : State) (p bank row : Nat) : List Nat :=
  readTarget s p bank row :: (match remapOf s p bank row 1 with
    | some i => [spareAddress p bank i]
    | none => [])

/-- The copy into entry `i` is settled (R95, R97): the spare serves its row, and a spare that served it before is `RETIRED`. -/
def adoptSpare (s : State) (p bank i : Nat) : State :=
  let row := (s.remapEntry p bank i).target
  let u := match remapOf s p bank row 2 with
    | some j => s.setRemap p bank j ⟨3, 0⟩
    | none => s
  u.setRemap p bank i ⟨2, row⟩

/-- The physical block whose bank holds a byte of `State.mem`, spare rows included. -/
def bankOwner (a : Nat) : Option Nat :=
  if a < blockEnd then some (a / windowBytes) else if 2 ^ 48 ≤ a then some ((a - 2 ^ 48) / 32768) else none

/-- Migrations of the blocks that pass a test copy nothing further: each entry is `IN_USE` at once, its spare row reads poisoned, and a
spare that served the row before is `RETIRED` (R97). -/
def finishCopies (s : State) (p : Nat → Bool) : State :=
  let mine := s.zoning.remap.filter fun e => p (e.1 / 256) && e.2.state == 1
  mine.foldl (fun t e =>
    let a := spareAddress (e.1 / 256) (e.1 / 16 % 16) (e.1 % 16)
    adoptSpare { t with poison := sinsert t.poison a } (e.1 / 256) (e.1 / 16 % 16) (e.1 % 16)) s

/-- Bytes and poison marks of the banks and spare rows of the blocks that pass a test return to clean zeros (R124). -/
def eraseBlocks (s : State) (p : Nat → Bool) : State :=
  let gone := fun a => match bankOwner a with
    | some b => p b
    | none => false
  { s with mem := s.mem.filter (fun e => !gone e.1), poison := s.poison.filter (fun a => !gone a) }

/-- Bank contents, registers and queues of the blocks that pass a test are lost. -/
def loseBlocks (s : State) (p : Nat → Bool) : State :=
  let t := eraseBlocks s p
  finishCopies { t with blocks := t.blocks.filter fun e => !p e.1 } p

/-- One evacuation does not complete. -/
def abandonEvac (kind : Nat) (s : State) (e : Evac) : State :=
  s.record 0x5060 (if kind = 0 then 1 else 2) [(3, 1)] (some (evacCase kind e.block))

/-- The evacuations whose spare block `q` no longer serves end: the mirror stops, and the spare returns to `OFF` (R298). -/
def spareLost (s : State) (q : Nat) : State :=
  let mine := s.zoning.evac.filter fun e => districtSpare e.block == q
  if mine.isEmpty then s
  else
    let t := mine.foldl (abandonEvac 2) { s with zoning := { s.zoning with evac := s.zoning.evac.filter fun e => !mine.contains e } }
    if (boundBy t q).isSome then t else loseBlocks t (· == q)

/-- A block becomes `DEGRADED` or `FAILED`. -/
def worsen (s : State) (p v : Nat) : State := spareLost (setHealth s p v) p

/-- A block has lost its last spare row of a bank (R98): `SPARE_EXHAUSTED`, degraded, and queued while `EVAC_AUTO` is 1. -/
def exhaustSpare (s : State) (p : Nat) : State :=
  let t := s.record 0x5020 2 [] none
  let u := if healthOf t p = 0 then worsen t p 1 else t
  if u.dget 0x7050 2 = 1 then queueEvacuation u p else u

/-- A migration starts (R97): of an ordinary row, or of the row that an `IN_USE` spare (768 + i) stands for. A row that is being
copied already starts no second copy; a spare that stands for no row is retired. -/
def startMigration (s : State) (p bank row : Nat) (poison : Bool) : State :=
  let spare := s.remapEntry p bank (row - 768)
  if 768 ≤ row ∧ spare.state ≠ 2 then
    if spare.state = 0 then s.setRemap p bank (row - 768) ⟨3, 0⟩ else s
  else
    let target := if 768 ≤ row then spare.target else row
    if (remapOf s p bank target 1).isSome then s
    else
      match firstBelow 16 fun i => (s.remapEntry p bank i).state == 0 with
      | none => exhaustSpare s p
      | some i =>
        let t := (s.setRemap p bank i ⟨1, target⟩).dcount 0x5020 5 1
        if poison then { t with poison := sinsert t.poison (spareAddress p bank i) } else t

/-- The suspect list after a corrected read of a row, and the row's count (R96). -/
def suspectHit (l : List (Nat × Nat)) (row : Nat) : List (Nat × Nat) × Nat :=
  match l.find? (·.1 == row) with
  | some e => (l.map fun x => if x.1 = row then (row, min 15 (x.2 + 1)) else x, min 15 (e.2 + 1))
  | none =>
    if l.length < 4 then (l ++ [(row, 1)], 1)
    else
      let low := l.foldl (fun m x => min m x.2) 15
      match l.find? (·.2 == low) with
      | some v => (l.filter (·.1 != v.1) ++ [(row, 1)], 1)
      | none => (l ++ [(row, 1)], 1)

/-- A corrected read of a row (R92, R96). -/
def correctedRead (s : State) (p bank row : Nat) : State :=
  let t := s.record 0x5020 0 [(2, 1)] none
  let key := p * 16 + bank
  let h := suspectHit (kget [] t.zoning.suspects key) row
  let limit := t.dget 0x7020 1
  if limit ≠ 0 ∧ limit ≤ h.2 then
    startMigration { t with zoning := { t.zoning with
      suspects := kset t.zoning.suspects key (h.1.filter (·.1 != row)) } } p bank row false
  else { t with zoning := { t.zoning with suspects := kset t.zoning.suspects key h.1 } }

/-- A location (R126). -/
def location (p bank row : Nat) (spare side : Bool) : Nat :=
  p * 2 ^ 16 + bank * 2 ^ 12 + b2n spare * 2 ^ 11 + b2n side * 2 ^ 10 + row

/-- The stored place of a bank row or spare row (768 + i). -/
def storedAddress (p bank row : Nat) : Nat :=
  if 768 ≤ row then spareAddress p bank (row - 768) else rowAddress p bank row

/-- An uncorrectable read of a row (R93): the bytes as sensed, poisoned, recorded, and a migration with `POISON`. -/
def uncorrectableRead (s : State) (p bank row : Nat) (sensed : List Byte) : State :=
  let a := storedAddress p bank row
  let t := writeTagged s a (sensed.map fun b => (b, true))
  let u := t.record 0x5020 1 [(3, 1)] (some (location p bank (row % 768) (decide (768 ≤ row)) false))
  startMigration u p bank row true

/-- A bank row that met an error (R91 to R93): a miscorrected row reads as it is delivered from then on. -/
def senseRow (s : State) (p bank row : Nat) (bs : List Byte) : State :=
  let a := storedAddress p bank row
  match judgeWord bank row (memRead s.mem a 128) bs with
  | .clean => s
  | .corrected => correctedRead s p bank row
  | .miscorrected d => correctedRead (writeTagged s a (d.map fun b => (b, poisoned s a))) p bank row
  | .uncorrectable => uncorrectableRead s p bank row (bs.take 128)

/-- An uncorrectable word beside the banks (R91, R93, R220): `SIDE_UE`. -/
def sideError (s : State) (p unit row : Nat) : State :=
  s.record 0x5020 3 [(3, 1)] (some (location p unit row false true))

/-- The first poisoned case (R582). -/
def poisonCase (reason ctx unit loc : Nat) : Nat := reason * 2 ^ 60 + ctx * 2 ^ 58 + unit * 2 ^ 48 + loc % 2 ^ 48

/-- The bytes that a word beside the banks holds: a Mica section, the head entry of a queue, an accumulator row (R91). -/
def sideBytes (s : State) (place p unit row : Nat) : List Byte :=
  let b := s.block p
  if place = 1 then (b.section (unit * 64 + row)).1
  else if place = 2 then (match (b.queue unit).entries with
    | [] => []
    | x :: _ => x.payload)
  else (laneBytes (b.accRow row)).map (·.1)

/-- A word beside the banks holds other bytes, marked or as it was marked. -/
def setSide (s : State) (place p unit row : Nat) (bs : List Byte) (mark : Bool) : State :=
  s.setBlock p fun b =>
    if place = 1 then
      { b with mica := kset b.mica (unit * 64 + row) (bs, mark || (b.section (unit * 64 + row)).2) }
    else if place = 2 then
      let q := b.queue unit
      match q.entries with
      | [] => b
      | x :: r => b.setQueue unit { q with entries := ⟨bs, if mark then setBit x.tag 3 else x.tag⟩ :: r }
    else b.setAcc row ((lanesOf 128 (bs.map fun x => (x, mark))).zipIdx.map fun (l, i) =>
      { l with poison := l.poison || ((b.accRow row).getD i Lane.zero).poison })

/-- A word beside the banks that met an error: Mica, queues and accumulators carry the code of R91 with their own place as the
address. A corrected word counts nothing. For a queue the location names the operand's row, and for an accumulator row `BANK` is 0
(assumption 61). -/
def senseSide (s : State) (place p unit row : Nat) (bs : List Byte) : State :=
  let stored := sideBytes s place p unit row
  match judgeWord unit row stored bs with
  | .clean => s
  | .corrected => s
  | .miscorrected d => setSide s place p unit row d false
  | .uncorrectable => sideError (setSide s place p unit row (bs.take stored.length) true) p (if place = 3 then 0 else unit) row

/-- One error met by a read (R92, R93, R571): `unit` is the reading unit of R582. -/
def senseError (unit : Nat) (s : State) (e : ReadError) : State :=
  match e.sensed with
  | none => if e.place = 0 then correctedRead s e.block e.unit e.row else s
  | some bs =>
    if e.place = 0 then senseRow s e.block e.unit e.row bs
    else if e.place ≤ 3 then senseSide s e.place e.block e.unit e.row bs
    else
      let t := writeTagged s e.row ((bs.take 64).map fun b => (b, true))
      let flag := if e.row < squareEnd then 0 else 1
      t.record 0x50E0 flag [] (some (poisonCase flag 0 unit e.row))

/-- All errors that an operation's reads met, in order. -/
def senseAll (unit : Nat) (s : State) (es : List ReadError) : State := es.foldl (senseError unit) s

/-! ## Row access -/

/-- An out-of-range access (R121). -/
def rowRange (s : State) : State := s.record 0x5020 4 [(6, 1)] none

/-- The row of an operand `index` beyond a base register's value `x`: inside the wrap, where the register carries one (R290). -/
def BaseReg.rowAt (r : BaseReg) (x index : Nat) : Nat :=
  if r.wrap = 0 then x + index else r.origin + (x + index + 1024 - r.origin) % 1024 % r.wrap

/-- The row of an operand whose base selector names register `i` (R290). -/
def Block.rowOf (b : Block) (i index : Nat) : Nat := (b.base i).rowAt (b.base i).row index

/-- A program read of a row: its 128 bytes with their tag, and the state with the record of an access out of range. -/
def readRow (s : State) (p bank row : Nat) : List TByte × State :=
  if 768 ≤ row then (List.replicate 128 (0, true), rowRange s)
  else (readTagged s (readTarget s p bank row) 128, s)

/-- The bytes of a row a write covers, as a mask. -/
def byteMask (off n : Nat) : Nat := ones n * 2 ^ off

/-- Physical blocks that take a mirrored write: the block, and its spare while it is mirrored or armed (R296). -/
def mirrors (s : State) (p : Nat) : List Nat :=
  if s.zoning.evac.any fun e => e.block == p && e.phase != 0 then [p, districtSpare p] else [p]

/-- The bytes commit at every place where the row stands. -/
def storeRow (s : State) (p bank row off : Nat) (bs : List TByte) : State :=
  (mirrors s p).foldl (fun t q => (writeTargets s q bank row).foldl (fun u a => writeTagged u (a + off) bs) t) s

/-- The bytes of a row that program writes have committed in the same cycle (R101). -/
def metMask (t : Touch) (a : Nat) : Nat := (t.met.filter (·.1 == a)).foldl (fun m x => m ||| x.2) 0

/-- Whether two of those writes share a byte: the merged commit has been counted already (R102). -/
def metTwice (t : Touch) (a : Nat) : Bool :=
  ((t.met.filter (·.1 == a)).foldl (fun (m : Nat × Bool) x => (m.1 ||| x.2, m.2 || m.1 &&& x.2 != 0)) (0, false)).2

/-- A program write commits (R88, R90, R101, R102, R121): out of range it is dropped and recorded; bytes that another program
write committed in the same cycle are overwritten, and the merged commit is recorded once. An empty mask changes nothing. The
location names the ordinary row, also where a spare serves it (assumption 61). -/
def writeRow (s : State) (t : Touch) (p bank row off : Nat) (bs : List TByte) : State :=
  if bs.isEmpty then s
  else if 768 ≤ row then rowRange s
  else
    let u := storeRow s p bank row off bs
    let a := rowAddress p bank row
    if metMask t a &&& byteMask off bs.length != 0 && !metTwice t a then
      u.record 0x5021 0 [(2, 1)] (some (location p bank row false false))
    else u

/-- An engine write of `n` bytes of a row commits (R101, R103): bytes that a program write commits in the same cycle stay as the program
wrote them, which is how the caller leaves them, and the drop is counted. -/
def suppressed (s : State) (t : Touch) (p bank row off n : Nat) : State :=
  if metMask t (rowAddress p bank row) &&& byteMask off n = 0 then s else s.record 0x5021 1 [(4, 1)] none

end Sys2Proof.Machine
end

