-- ==== Sys2Proof/Machine/Flags.lean ====
section
/-! DEFINITION. The arithmetic flags and counters, and the record of consumed poison (spec/02_arithmetic.md R81 to R84; spec/18_faults.md R580,
R582, R617). -/

namespace Sys2Proof.Machine

/-- The flags of `ev` are set in block `p` (or the Square engine 0x440) and for the module, and its saturations counted. -/
def State.arith (s : State) (p : Nat) (ev : Events) : State :=
  let t := if p = 0x440 then s else s.setBlock p fun b => { b with flags := b.flags ||| ev.flags }
  let u := t.dcount 0x5010 3 ev.sats
  (List.range 11).foldl (fun v i => if bit ev.flags i then v.record 0x5010 i [] (some p) else v) u

/-- Elements of `n` non-finite values were stored (R617). -/
def State.nonfinite (s : State) (p n : Nat) : State :=
  if n = 0 then s else (s.dcount 0x5010 4 n).arith p (.of flagNonfiniteStored)

/-- FP32 lanes that are clean and not finite. -/
def badLanes (l : List Lane) : Nat :=
  (l.filter fun x => !x.poison && (let v := dec32 x.bits.toNat; v.isNan || v.isInf)).length

/-- An operation of a program computed from poison in a block (R580, R582). -/
def State.consumed (s : State) (c p : Nat) : State :=
  s.record 0x50E0 2 [(2, 1)] (some (poisonCase 2 c 0 (s.pc c * 2 ^ 32 + p)))

end Sys2Proof.Machine
end

