-- ==== Sys2Proof/Machine/Operands.lean ====
section
/-! DEFINITION. How an operation addresses blocks and operands: region descriptors, predication, ranks, base selectors
(spec/03_blocks.md R119; spec/04_stream_model.md R138 to R141; spec/05_bundle_reference.md R169, R179, R197). -/

namespace Sys2Proof.Machine

/-! ## Regions (R138 to R140) -/

/-- Stage configuration in force (R235). -/
def Ctx.cfg (x : Ctx) (sub : Nat) : Nat := x.stage.getD (sub - 1) 0

def Ctx.desc (x : Ctx) (i : Nat) : Desc := x.descs.getD i Desc.none

/-- The logical blocks that a descriptor selects, ascending (R140). -/
def Desc.selected (d : Desc) : List Nat :=
  (List.range 1024).filter fun l => bit d.districts (l / 16) && bit d.mask (l % 16)

/-- The physical block bound to a logical block (R277). -/
def Ctx.phys (x : Ctx) (l : Nat) : Option Nat := kfind x.blocks l

/-- A block that executes an operation: its rank, logical and physical number (R119, R197). -/
structure Actor where
  rank    : Nat
  logical : Nat
  phys    : Nat
  deriving DecidableEq, Repr

/-- The selected blocks with their ranks; predication does not change a rank (R197). -/
def selectedActors (x : Ctx) (sel : Nat) : List Actor :=
  (x.desc sel).selected.zipIdx.filterMap fun (l, r) => (x.phys l).map fun p => ⟨r, l, p⟩

/-- The blocks that execute an operation: selected, with the predicate bit 1 (R119). -/
def actors (s : State) (c sel pred : Nat) : List Actor :=
  (selectedActors (s.ctx c) sel).filter fun a => (s.block a.phys).pred pred

/-- A descriptor that may be named (R138), and a predicate number. -/
def headerOk (s : State) (c sel pred : Nat) : Bool := ((s.ctx c).desc sel).valid && decide (sel < 64) && decide (pred < 8)

/-- An operation that acts in blocks: nothing issues in a context that does not run; an encoding that the load check refuses
is never issued (R137, R208); else its reads meet their errors, and it acts in each of its blocks in ascending logical
number. -/
def sensingBlocks (c sel pred : Nat) (legal : Bool) (errors : List ReadError) (act : Actor → State → State) (s : State) :
    Host.Outcome State Fault Refusal :=
  if !s.running c then .next s
  else if !(legal && headerOk s c sel pred) then .fault .reservedEncoding
  else .next ((actors s c sel pred).foldl (fun t a => act a t) (senseAll 0 s errors))

/-- An operation in blocks that reads no bank, Mica, queue or accumulator word. -/
def inBlocks (c sel pred : Nat) (legal : Bool) (act : Actor → State → State) (s : State) :
    Host.Outcome State Fault Refusal :=
  sensingBlocks c sel pred legal [] act s

/-! ## Waits (R155 to R157) -/

/-- A bundle waits in class `k`: one cycle of the wait is counted, and nothing issues (R157). A new wait begins the count of
beats of R159. A slot is a command of its own (assumption 70). -/
def waitIn (c k : Nat) (s : State) : State :=
  let t := (s.dcount (0x4030 + c) (0x10 + k) 1).dset (0x4030 + c) 2 k
  if s.dget (0x4030 + c) 2 = k then t else t.setCtx c fun x => { x with waitBeats := 0, waitTold := false }

/-- A slot's condition of class `k` does not hold in this cycle: where a lower-numbered class holds the bundle, the cycle counts
against that one (R157). -/
def waitLowest (c k : Nat) (wait : State → State) (s : State) : State :=
  if s.dget (0x4030 + c) 2 ≠ 0 ∧ s.dget (0x4030 + c) 2 < k then s else wait s

/-- The bundle issues: no wait holds it (R166). -/
def issues (c : Nat) (s : State) : State :=
  if s.dget (0x4030 + c) 2 = 0 then s
  else (s.dset (0x4030 + c) 2 0).setCtx c fun x => { x with waitBeats := 0, waitTold := false, mismatched := [] }

/-! ## Granules that a fast copy has not read (R424, R425) -/

/-- The granule of a bank row: 32 rows of a block's 16 banks, by a number above the device addresses. -/
def bankGranule (p row : Nat) : Nat := 2 ^ 52 + p * 24 + row / 32

/-- The granules of `n` bytes at a device address outside the banks. -/
def byteGranules (a n : Nat) : List Nat := if n = 0 then [] else rangeFrom (a / 65536) ((a + n - 1) / 65536 - a / 65536 + 1)

def State.cairnOf (s : State) (c : Nat) : Cairn := kget Cairn.empty s.cairn c

/-- `CKPT_STATE` (R444). -/
def Cairn.code (y : Cairn) : Nat :=
  if y.restore.isSome then 4 else if y.copying.isSome then 2 else if y.armed.isSome then 1 else if y.drain.isSome then 3 else 0

/-- Cairn's state of a context changes, and `CKPT_STATE` with it. -/
def State.setCairn (s : State) (c : Nat) (f : Cairn → Cairn) : State :=
  let y := f (s.cairnOf c)
  State.dset { s with cairn := kset s.cairn c y } (0x6040 + c) 0x11 y.code

/-- The granules that the running fast copy of a context has still to read. -/
def pendingGranules (s : State) (c : Nat) : List Nat :=
  match (s.cairnOf c).copying with
  | none => []
  | some k => match kfind (s.cairnOf c).slots k with
    | some p => p.pending
    | none => []

/-- Granules a write waits for become demanded, once, in order (R425). -/
def demandGranules (s : State) (c : Nat) (gs : List Nat) : State :=
  s.setCairn c fun y => match y.copying with
    | none => y
    | some k => match kfind y.slots k with
      | none => y
      | some p =>
        let d := gs.foldl (fun d g => if d.contains g then d else d ++ [g]) p.demanded
        { y with slots := kset y.slots k { p with demanded := d } }

/-- One wait for granules begins: counted and flagged once (R425). -/
def granuleHeld (s : State) (c : Nat) (gs : List Nat) : State :=
  (demandGranules s c gs).record 0x50A0 2 [(4, 1)]
    (some (2 * 2 ^ 60 + c * 2 ^ 32 + (match (s.cairnOf c).copying with
      | none => ones 32
      | some k => match kfind (s.cairnOf c).slots k with
        | some p => p.generation
        | none => ones 32)))

/-- The class 8 wait of a bundle whose writes touch `gs` (R425). -/
def granuleWait (c : Nat) (gs : List Nat) (s : State) : State :=
  let t := if s.dget (0x4030 + c) 2 = 8 then s else granuleHeld s c gs
  waitIn c 8 t

/-- The operation issues when every granule its writes touch has been copied, and waits in class 8 otherwise. -/
def whenCopied (c : Nat) (gs : List Nat) (s : State) (run : State → Host.Outcome State Fault Refusal) :
    Host.Outcome State Fault Refusal :=
  let left := gs.filter (pendingGranules s c).contains
  if left.isEmpty then run s else .next (waitLowest c 8 (granuleWait c left) s)

/-- An operation in blocks whose writes touch granules. -/
def writingBlocks (c sel pred : Nat) (legal : Bool) (errors : List ReadError) (gs : State → Actor → List Nat)
    (act : Actor → State → State) (s : State) : Host.Outcome State Fault Refusal :=
  if !s.running c then .next s
  else if !(legal && headerOk s c sel pred) then .fault .reservedEncoding
  else whenCopied c ((actors s c sel pred).flatMap (gs s)) s fun t =>
    .next ((actors t c sel pred).foldl (fun u a => act a u) (senseAll 0 t errors))

/-- Index of the innermost loop (R143); 0 outside every loop (R175). -/
def Ctx.loopIndex (x : Ctx) : Nat := match x.loops with
  | [] => 0
  | l :: _ => l.index

/-- The quarter that `A_SEL` or `QUARTER_SEL` names (R179). -/
def quarterA (x : Ctx) (code : Nat) : Nat :=
  let odd := x.loopIndex % 2
  if code < 4 then code else if code = 4 then odd else if code = 5 then 2 + odd
  else if code = 6 then 1 - odd else 3 - odd

/-- The quarter that a nonzero `B_SEL` names (R179). -/
def quarterB (x : Ctx) (code : Nat) : Nat :=
  let odd := x.loopIndex % 2
  if code < 5 then code - 1 else if code = 5 then odd else if code = 6 then 1 - odd else 2 + odd

/-- `microbatch_id` for a region's conversions (R75, R247). -/
def microbatchOf (x : Ctx) (sel : Nat) : Nat :=
  match kfind x.working sel with
  | none => 0xFFFFFFFF
  | some k => match (kget ⟨none, 0⟩ x.slots k).fwd with
    | none => 0xFFFFFFFF
    | some r => bits r 128 32

/-- The rounding of element `i` of a conversion (R73 to R75, R190). -/
def roundingOf (s : State) (c sel p round tensor i : Nat) : Rounding :=
  if round = 0 then .nearest
  else .stochastic (srBits (s.dget 0x4020 1) (s.ctx c).keyBeat (microbatchOf (s.ctx c) sel) tensor
    (((s.block p).srIndex + i) % 2 ^ 48))

end Sys2Proof.Machine
end

