-- ==== Sys2Proof/Machine/Vector.lean ====
section
/-! DEFINITION. The vector unit (spec/03_blocks.md R115 to R117; spec/05_bundle_reference.md R187 to R194), with poison by lane
(spec/18_faults.md R572, R574, R580). -/

namespace Sys2Proof.Machine

/-! ## Lanes -/

/-- A lane's value while an operation computes: bits, poison, and what computing it reported. -/
structure LaneResult where
  value  : Nat
  poison : Bool
  events : Events
  deriving DecidableEq, Repr

/-- A lane-wise operation on source registers: a poisoned source lane poisons the result lane, and its flags are dropped. -/
def lanewise (f : List Nat → Nat × Events) (srcs : List (List Lane)) : List LaneResult :=
  (List.range 64).map fun l =>
    let ins := srcs.map fun r => r.getD l Lane.zero
    let r := f (ins.map fun x => x.bits.toNat)
    let bad := ins.any (·.poison)
    ⟨r.1, bad, if bad then .none else r.2⟩

def lanesFrom (rs : List LaneResult) : List Lane := rs.map fun r => ⟨BitVec.ofNat 32 r.value, r.poison⟩

/-- Whether any of an operation's source lanes is poisoned. -/
def anyPoison (srcs : List (List Lane)) : Bool := srcs.any fun r => r.any (·.poison)

/-- A computed register is written, its events recorded, and consumed poison counted once (R580). -/
def commitVector (c p vd : Nat) (out : List Lane) (ev : Events) (poison : Bool) (s : State) : State :=
  let t := s.setBlock p fun b => b.setVreg vd out
  let u := t.arith p ev
  if poison then u.consumed c p else u

/-- A lane-wise operation in one block. -/
def lanewiseOp (c vd : Nat) (srcs : List Nat) (f : List Nat → Nat × Events) (a : Actor) (s : State) : State :=
  let ins := srcs.map (s.block a.phys).vreg
  let rs := lanewise f ins
  commitVector c a.phys vd (lanesFrom rs) (Events.all (rs.map (·.events))) (anyPoison ins) s

def regs (l : List Nat) : Bool := l.all fun r => decide (r < 32)

/-! ## FP32 operations (R71, R79) -/

/-- An FP32 operation on exact values: its result packed, with input and result flags. -/
def fpOp (f : List FpVal → FpVal) (xs : List Nat) : Nat × Events :=
  let vs := xs.map dec32
  let r := pack32 (vs.any FpVal.isNan) (f vs)
  (r.1, .of (inputFlags vs ||| r.2))

def val (l : List FpVal) (i : Nat) : FpVal := l.getD i .nan

def addOp (l : List Nat) : Nat × Events := fpOp (fun v => (val v 0).add (val v 1)) l
def subOp (l : List Nat) : Nat × Events := fpOp (fun v => (val v 0).add (val v 1).negate) l
def mulOp (l : List Nat) : Nat × Events := fpOp (fun v => (val v 0).mul (val v 1)) l
def fmaOp (l : List Nat) : Nat × Events := fpOp (fun v => ((val v 0).mul (val v 1)).add (val v 2)) l
def minOp (l : List Nat) : Nat × Events := fpOp (fun v => (val v 0).min (val v 1)) l
def maxOp (l : List Nat) : Nat × Events := fpOp (fun v => (val v 0).max (val v 1)) l

/-- VCMP: every comparison with a NaN is false (R79). -/
def cmpOp (kind : Nat) (l : List Nat) : Nat × Events :=
  let v := l.map dec32
  let a := val v 0
  let b := val v 1
  let ok := !a.isNan && !b.isNan
  let r := if kind = 0 then a.eq b else if kind = 1 then ok && !a.eq b else if kind = 2 then a.lt b
    else if kind = 3 then ok && !b.lt a else if kind = 4 then b.lt a else ok && !a.lt b
  (if r then 0x3F800000 else 0, .of (inputFlags v))

/-- A lane that is not ±0; a NaN is not (R188, R192). -/
def nonzeroLane (x : Nat) : Bool := x % 2 ^ 31 != 0

def selOp (l : List Nat) : Nat × Events := (if nonzeroLane (l.getD 2 0) then l.getD 0 0 else l.getD 1 0, .none)

/-- INT32 operations (R188). -/
def intOp (f : Nat → Nat → Nat) (l : List Nat) : Nat × Events := (f (l.getD 0 0) (l.getD 1 0) % 2 ^ 32, .none)

/-- VSHIFT: left, logical right, arithmetic right. -/
def shiftBits (kind x n : Nat) : Nat :=
  if kind = 0 then x * 2 ^ n % 2 ^ 32 else if kind = 1 then x / 2 ^ n else encInt 32 (sext 32 x / (2 ^ n : Int))

def unary (f : Nat → Nat × Nat) (l : List Nat) : Nat × Events :=
  let r := f (l.getD 0 0)
  (r.1, .of r.2)

/-! ## Reductions (R117) -/

/-- A pairwise step: flags only from clean operands. -/
def pairStep (f : List Nat → Nat × Nat) (x y : LaneResult) : LaneResult :=
  let r := f [x.value, y.value]
  let bad := x.poison || y.poison
  ⟨r.1, bad, .join (.join x.events y.events) (if bad then .none else .of r.2)⟩

/-- The six-level tree over lanes 0 to 63. -/
def reduceTree (f : List Nat → Nat × Nat) : Nat → List LaneResult → LaneResult
  | 0, l => l.headD ⟨0, false, .none⟩
  | n + 1, l => reduceTree f n ((List.range (l.length / 2)).map fun i =>
      pairStep f (l.getD (2 * i) ⟨0, false, .none⟩) (l.getD (2 * i + 1) ⟨0, false, .none⟩))

def reduceOp (c vd va : Nat) (f : List Nat → Nat × Nat) (a : Actor) (s : State) : State :=
  let src := (s.block a.phys).vreg va
  let leaves := (List.range 64).map fun l =>
    let x := src.getD l Lane.zero
    (⟨x.bits.toNat, x.poison, if x.poison then .none else .of (inputFlags [dec32 x.bits.toNat])⟩ : LaneResult)
  let r := reduceTree f 6 leaves
  commitVector c a.phys vd (⟨BitVec.ofNat 32 r.value, r.poison⟩ :: zeroLanes 63) r.events r.poison s

/-- One addition or maximum of the tree: its result and the flags its making sets. -/
def sumPair (l : List Nat) : Nat × Nat := fadd (l.getD 0 0) (l.getD 1 0)
def maxPair (l : List Nat) : Nat × Nat :=
  let a := dec32 (l.getD 0 0)
  let b := dec32 (l.getD 1 0)
  pack32 (a.isNan || b.isNan) (a.max b)

/-! ## Conversions (R189) -/

/-- Elements packed from byte 0 of lane 0, each with its poison; the rest of the register is zero and clean. -/
def packLanes (w : Nat) (es : List (Nat × Bool)) : List Lane :=
  let bs := packElements w (es.map (·.1))
  (List.range 64).map fun j =>
    let lo := 32 * j / w
    let n := (32 + w - 1) / w
    ⟨BitVec.ofNat 32 (ofLe ((bs.drop (4 * j)).take 4)), ((es.drop lo).take n).any (·.2)⟩

/-- The source elements of a widening conversion, with the poison of the lane that holds each. -/
def unpackLanes (w : Nat) (l : List Lane) : List (Nat × Bool) :=
  (List.range 64).map fun i =>
    let x := l.getD (w * i / 32) Lane.zero
    (bits x.bits.toNat (w * i % 32) w, x.poison)

/-- One element of a down-conversion (R72). -/
def downConvert (dst : Nat) (r : Rounding) (inf : Bool) (x : Nat) : Nat × Events :=
  if dst = 10 ∨ dst = 11 then downInt (elementBits dst) r x else downFp (formatOf dst) r inf x

/-- `SRC_FMT` and `DST_FMT` of R189, with `ROUND` and `OVF` as its table allows. -/
def cvtLegal (src dst round ovf : Nat) : Bool :=
  let codes := [0, 1, 2, 3, 10, 11]
  codes.contains src && codes.contains dst && ((src == 0) != (dst == 0)) && decide (round < 2) && decide (ovf < 2) &&
    (dst != 0 || round == 0) && (ovf == 0 || dst == 1 || dst == 2 || dst == 3)

def cvtOp (c sel vd va src dst round ovf adv tensor : Nat) (a : Actor) (s : State) : State :=
  let l := (s.block a.phys).vreg va
  let es := unpackLanes (elementBits src) l
  let rs := es.zipIdx.map fun (e, i) =>
    let r := if dst = 0 then upConvert src e.1
      else downConvert dst (roundingOf s c sel a.phys round tensor i) (ovf == 1) e.1
    (r.1, e.2, if e.2 then Events.none else r.2)
  let t := commitVector c a.phys vd (packLanes (elementBits dst) (rs.map fun r => (r.1, r.2.1)))
    (Events.all (rs.map (·.2.2))) (es.any (·.2)) s
  if adv = 1 then t.setBlock a.phys (·.bump 16 64) else t

/-- One quantised block of a register: its elements, scale, events, poison. -/
def quantBlock (s : State) (c sel p dst round tensor from_ : Nat) (ins : List Lane) (top : Option Lane) :
    List (Nat × Bool) × Nat × Events × Bool :=
  let bad := ins.any (·.poison) || (top.map (·.poison)).getD false
  let vals := ins.map (·.bits.toNat)
  let m := match top with
    | some l => (dec32 l.bits.toNat).abs
    | none => amax (vals.map dec32)
  let q := quantise (formatOf dst) (fun i => roundingOf s c sel p round tensor (from_ + i)) vals m
  (q.1.map fun e => (e, bad), q.2.1, if bad then .none else q.2.2, bad)

def quantOp (c sel vd va vb dst round adv tensor : Nat) (a : Actor) (s : State) : State :=
  let b := s.block a.phys
  let q0 := if dst = 9 then
      quantBlock s c sel a.phys dst round tensor 0 (b.vreg va ++ b.vreg (va + 1)) (some ((b.vreg vb).getD 0 Lane.zero))
    else quantBlock s c sel a.phys dst round tensor 0 ((b.vreg va).take 32) none
  let q1 := if dst = 9 then ([], 0, Events.none, false)
    else quantBlock s c sel a.phys dst round tensor 32 ((b.vreg va).drop 32) none
  let out := (packLanes (elementBits dst) (q0.1 ++ q1.1)).set 16 ⟨BitVec.ofNat 32 (q0.2.1 + 256 * q1.2.1), q0.2.2.2 || q1.2.2.2⟩
  let t := commitVector c a.phys vd out (.join q0.2.2.1 q1.2.2.1) (q0.2.2.2 || q1.2.2.2) s
  if adv = 1 then t.setBlock a.phys (·.bump 16 (if dst = 9 then 128 else 64)) else t

/-! ## Loads, stores, accumulator reads (R191) -/

/-- A register from bank bytes: 256 B of words, or 128 B or 64 B widened exactly. -/
def widenLanes (width : Nat) (bs : List TByte) : List Lane :=
  if width = 0 then lanesOf 64 bs
  else
    let code := width
    let w := elementBits code
    (List.range 64).map fun i =>
      let x := (bs.drop (w / 8 * i)).take (w / 8)
      ⟨BitVec.ofNat 32 (upConvert code (ofLe (x.map (·.1)))).1, anyTagged x⟩

def loadOp (vd width bank half row postinc sel : Nat) (c : Nat) (a : Actor) (s : State) : State :=
  let b := s.block a.phys
  let base := ((s.ctx c).desc sel).selA
  let r := b.rowOf base row
  let x := readRow s a.phys bank r
  let y := if width = 0 then readRow x.2 a.phys (bank + 1) r else ([], x.2)
  let bs := if width = 0 then x.1 ++ y.1 else if width = 1 then x.1 else (x.1.drop (64 * half)).take 64
  y.2.setBlock a.phys fun b => (b.setVreg vd (widenLanes width bs)).bump base postinc

def loadLegal (vd width bank half row postinc : Nat) : Bool :=
  regs [vd] && decide (width < 4) && decide (bank < 16) && decide (half < 2) && decide (row < 64) && decide (postinc < 2) &&
    (width != 0 || bank % 2 == 0) && (half == 0 || width == 2 || width == 3)

/-- Bytes that a `VSTORE` writes (R191). -/
def storeSize (size : Nat) : Nat := [256, 128, 64, 48, 32].getD size 0

/-- Whether a `SCALES` store writes the one byte of a tile (R191). -/
def oneScale (size byte : Nat) : Bool := size == 2 && byte % 2 == 1

def storeLegal (vd size bank offset row scales sbank srow sbyte postinc : Nat) : Bool :=
  regs [vd] && decide (size < 5) && decide (bank < 16) && decide (offset < 8) && decide (row < 64) && decide (scales < 2) &&
    decide (sbank < 16) && decide (srow < 64) && decide (sbyte < 128) && decide (postinc < 4) &&
    (size != 0 || bank % 2 == 0) && (2 ≤ size || offset == 0) && (size == 0 || decide (16 * offset + storeSize size ≤ 128)) &&
    (scales == 0 || decide (2 ≤ size)) &&
    (scales == 0 || sbyte % 2 == 0 || oneScale size sbyte)

/-- 0xFF scale bytes among those stored, as elements (R617). -/
def badScales (n per : Nat) (bs : List TByte) : Nat := ((bs.take n).filter fun b => b.1 == 0xFF && !b.2).length * per

def storeOp (c sel vd size bank offset row scales sbank srow sbyte postinc : Nat) (touch : Touch) (a : Actor) (s : State) :
    State :=
  let b := s.block a.phys
  let d := (s.ctx c).desc sel
  let l := b.vreg vd
  let bs := (laneBytes l).take (storeSize size)
  let r := b.rowOf d.selOut row
  let t := if size = 0 then
      (writeRow (writeRow s touch a.phys bank r 0 (bs.take 128)) touch a.phys (bank + 1) r 0 (bs.drop 128)).nonfinite a.phys
        (if r < 768 then badLanes l else 0)
    else writeRow s touch a.phys bank r (16 * offset) bs
  let sc := (l.getD 16 Lane.zero).bytes
  let n := if oneScale size sbyte then 1 else 2
  let u := if scales = 1 then
      (writeRow t touch a.phys sbank (b.rowOf d.selAux srow) sbyte (sc.take n)).nonfinite a.phys
        (if b.rowOf d.selAux srow < 768 then badScales n (if n = 1 then 4096 else 32) sc else 0)
    else t
  u.setBlock a.phys fun b => (b.bump d.selOut (bits postinc 1 1)).bump d.selAux (bits postinc 0 1)

def permLane (kind arg l : Nat) : Nat :=
  if kind = 0 then (l + 64 - arg) % 64 else if kind = 1 then l ^^^ arg else if kind = 2 then arg else 63 - l

def permOp (vd va kind arg : Nat) (a : Actor) (s : State) : State :=
  s.setBlock a.phys fun b =>
    b.setVreg vd ((List.range 64).map fun l => (b.vreg va).getD (permLane kind arg l) Lane.zero)

def accReadOp (vd row half : Nat) (a : Actor) (s : State) : State :=
  s.setBlock a.phys fun b => b.setVreg vd (((b.accRow row).drop (64 * half)).take 64)

def predOp (c dest va mode invert : Nat) (a : Actor) (s : State) : State :=
  let l := (s.block a.phys).vreg va
  let r := if mode = 0 then l.any fun x => nonzeroLane x.bits.toNat else l.all fun x => nonzeroLane x.bits.toNat
  let t := s.setBlock a.phys fun b => { b with preds := putBits b.preds dest 1 (b2n (r != (invert == 1))) }
  if l.any (·.poison) then t.consumed c a.phys else t

def flagsReadOp (vd : Nat) (a : Actor) (s : State) : State :=
  s.setBlock a.phys fun b => b.setVreg vd (⟨BitVec.ofNat 32 b.flags, false⟩ :: zeroLanes 63)

def flagsClearOp (mask : Nat) (a : Actor) (s : State) : State :=
  s.setBlock a.phys fun b => { b with flags := clearBits b.flags mask }

/-! ## The commands -/

/-- VADD (R188). -/
def execVadd (c sel pred vd va vb : Nat) (s : State) : Host.Outcome State Fault Refusal :=
  inBlocks c sel pred (regs [vd, va, vb]) (lanewiseOp c vd [va, vb] addOp) s

/-- VSUB (R188). -/
def execVsub (c sel pred vd va vb : Nat) (s : State) : Host.Outcome State Fault Refusal :=
  inBlocks c sel pred (regs [vd, va, vb]) (lanewiseOp c vd [va, vb] subOp) s

/-- VMUL (R188). -/
def execVmul (c sel pred vd va vb : Nat) (s : State) : Host.Outcome State Fault Refusal :=
  inBlocks c sel pred (regs [vd, va, vb]) (lanewiseOp c vd [va, vb] mulOp) s

/-- VFMA: VA × VB + VC, rounded once (R188). -/
def execVfma (c sel pred vd va vb vc : Nat) (s : State) : Host.Outcome State Fault Refusal :=
  inBlocks c sel pred (regs [vd, va, vb, vc]) (lanewiseOp c vd [va, vb, vc] fmaOp) s

/-- VMIN (R79). -/
def execVmin (c sel pred vd va vb : Nat) (s : State) : Host.Outcome State Fault Refusal :=
  inBlocks c sel pred (regs [vd, va, vb]) (lanewiseOp c vd [va, vb] minOp) s

/-- VMAX (R79). -/
def execVmax (c sel pred vd va vb : Nat) (s : State) : Host.Outcome State Fault Refusal :=
  inBlocks c sel pred (regs [vd, va, vb]) (lanewiseOp c vd [va, vb] maxOp) s

/-- VCMP (R188): kinds 6 and 7 are reserved. -/
def execVcmp (c sel pred vd va vb kind : Nat) (s : State) : Host.Outcome State Fault Refusal :=
  inBlocks c sel pred (regs [vd, va, vb] && decide (kind < 6)) (lanewiseOp c vd [va, vb] (cmpOp kind)) s

/-- VSEL (R188). -/
def execVsel (c sel pred vd va vb vc : Nat) (s : State) : Host.Outcome State Fault Refusal :=
  inBlocks c sel pred (regs [vd, va, vb, vc]) (lanewiseOp c vd [va, vb, vc] selOp) s

/-- VIADD (R188). -/
def execViadd (c sel pred vd va vb : Nat) (s : State) : Host.Outcome State Fault Refusal :=
  inBlocks c sel pred (regs [vd, va, vb]) (lanewiseOp c vd [va, vb] (intOp (· + ·))) s

/-- VAND (R188). -/
def execVand (c sel pred vd va vb : Nat) (s : State) : Host.Outcome State Fault Refusal :=
  inBlocks c sel pred (regs [vd, va, vb]) (lanewiseOp c vd [va, vb] (intOp (· &&& ·))) s

/-- VOR (R188). -/
def execVor (c sel pred vd va vb : Nat) (s : State) : Host.Outcome State Fault Refusal :=
  inBlocks c sel pred (regs [vd, va, vb]) (lanewiseOp c vd [va, vb] (intOp (· ||| ·))) s

/-- VXOR (R188). -/
def execVxor (c sel pred vd va vb : Nat) (s : State) : Host.Outcome State Fault Refusal :=
  inBlocks c sel pred (regs [vd, va, vb]) (lanewiseOp c vd [va, vb] (intOp (· ^^^ ·))) s

/-- VSHIFT (R188): the amount from the slot, or the low 5 bits of each VB lane. -/
def execVshift (c sel pred vd va vb kind imm amount : Nat) (s : State) : Host.Outcome State Fault Refusal :=
  inBlocks c sel pred
    (regs [vd, va, vb, amount] && decide (kind < 3) && decide (imm < 2) && (if imm = 1 then vb == 0 else amount == 0))
    (lanewiseOp c vd (if imm = 1 then [va] else [va, vb])
      (intOp fun x y => shiftBits kind x (if imm = 1 then amount else y % 32))) s

/-- VCVT (R189). -/
def execVcvt (c sel pred vd va src dst round ovf adv tensor : Nat) (s : State) : Host.Outcome State Fault Refusal :=
  inBlocks c sel pred (regs [vd, va] && cvtLegal src dst round ovf && decide (adv < 2) && decide (tensor < 2 ^ 16))
    (cvtOp c sel vd va src dst round ovf adv tensor) s

/-- VQUANT (R58, R189): a tile row takes an even VA and its *amax* from VB. -/
def execVquant (c sel pred vd va vb dst round adv tensor : Nat) (s : State) : Host.Outcome State Fault Refusal :=
  inBlocks c sel pred (regs [vd, va, vb] && scaled dst && decide (round < 2) && decide (adv < 2) && decide (tensor < 2 ^ 16) &&
      (if dst = 9 then va % 2 == 0 else vb == 0))
    (quantOp c sel vd va vb dst round adv tensor) s

/-- VPERM (R188). -/
def execVperm (c sel pred vd va kind arg : Nat) (s : State) : Host.Outcome State Fault Refusal :=
  inBlocks c sel pred (regs [vd, va] && decide (kind < 4) && decide (arg < 64) && (kind != 3 || arg == 0))
    (permOp vd va kind arg) s

/-- VEXP2 (R80). -/
def execVexp2 (c sel pred vd va : Nat) (s : State) : Host.Outcome State Fault Refusal :=
  inBlocks c sel pred (regs [vd, va]) (lanewiseOp c vd [va] (unary opExp2)) s

/-- VLOG2 (R80). -/
def execVlog2 (c sel pred vd va : Nat) (s : State) : Host.Outcome State Fault Refusal :=
  inBlocks c sel pred (regs [vd, va]) (lanewiseOp c vd [va] (unary opLog2)) s

/-- VRCP (R80). -/
def execVrcp (c sel pred vd va : Nat) (s : State) : Host.Outcome State Fault Refusal :=
  inBlocks c sel pred (regs [vd, va]) (lanewiseOp c vd [va] (unary opRcp)) s

/-- VRSQRT (R80). -/
def execVrsqrt (c sel pred vd va : Nat) (s : State) : Host.Outcome State Fault Refusal :=
  inBlocks c sel pred (regs [vd, va]) (lanewiseOp c vd [va] (unary opRsqrt)) s

/-- VSQRT (R80). -/
def execVsqrt (c sel pred vd va : Nat) (s : State) : Host.Outcome State Fault Refusal :=
  inBlocks c sel pred (regs [vd, va]) (lanewiseOp c vd [va] (unary opSqrt)) s

/-- VTANH (R80). -/
def execVtanh (c sel pred vd va : Nat) (s : State) : Host.Outcome State Fault Refusal :=
  inBlocks c sel pred (regs [vd, va]) (lanewiseOp c vd [va] (unary opTanh)) s

/-- VREDUCE_SUM (R117). -/
def execVreduceSum (c sel pred vd va : Nat) (s : State) : Host.Outcome State Fault Refusal :=
  inBlocks c sel pred (regs [vd, va]) (reduceOp c vd va sumPair) s

/-- VREDUCE_MAX (R117). -/
def execVreduceMax (c sel pred vd va : Nat) (s : State) : Host.Outcome State Fault Refusal :=
  inBlocks c sel pred (regs [vd, va]) (reduceOp c vd va maxPair) s

/-- VLOAD (R191). -/
def execVload (c sel pred vd width bank half row postinc : Nat) (touch : Touch) (s : State) :
    Host.Outcome State Fault Refusal :=
  sensingBlocks c sel pred (loadLegal vd width bank half row postinc) touch.errors (loadOp vd width bank half row postinc sel c)
    s

/-- VSTORE (R191). -/
def execVstore (c sel pred vd size bank offset row scales sbank srow sbyte postinc : Nat) (touch : Touch) (s : State) :
    Host.Outcome State Fault Refusal :=
  writingBlocks c sel pred (storeLegal vd size bank offset row scales sbank srow sbyte postinc) touch.errors
    (fun t a => bankGranule a.phys ((t.block a.phys).rowOf ((t.ctx c).desc sel).selOut row) ::
      if scales = 1 then [bankGranule a.phys ((t.block a.phys).rowOf ((t.ctx c).desc sel).selAux srow)] else [])
    (storeOp c sel vd size bank offset row scales sbank srow sbyte postinc touch) s

/-- VACC_READ (R191). -/
def execVaccRead (c sel pred vd row half : Nat) (touch : Touch) (s : State) : Host.Outcome State Fault Refusal :=
  sensingBlocks c sel pred (regs [vd] && decide (row < 16) && decide (half < 2)) touch.errors (accReadOp vd row half)
    s

/-- VPRED (R192): P0 is reserved. -/
def execVpred (c sel pred dest va mode invert : Nat) (s : State) : Host.Outcome State Fault Refusal :=
  inBlocks c sel pred (regs [va] && decide (0 < dest) && decide (dest < 8) && decide (mode < 2) && decide (invert < 2))
    (predOp c dest va mode invert) s

/-- FLAGS_READ (R82, R192). -/
def execFlagsRead (c sel pred vd : Nat) (s : State) : Host.Outcome State Fault Refusal :=
  inBlocks c sel pred (regs [vd]) (flagsReadOp vd) s

/-- FLAGS_CLEAR (R82, R192). -/
def execFlagsClear (c sel pred mask : Nat) (s : State) : Host.Outcome State Fault Refusal :=
  inBlocks c sel pred (decide (mask < 2 ^ 11)) (flagsClearOp mask) s

end Sys2Proof.Machine
end

