-- ==== Sys2Proof/Machine/Array.lean ====
section
/-! DEFINITION. The multiply array, the accumulator file, Mica and the base registers (spec/02_arithmetic.md R60 to R70;
spec/03_blocks.md R104 to R114; spec/05_bundle_reference.md R180 to R186, R191, R192; poison: R573). -/

namespace Sys2Proof.Machine

/-! ## Shapes (R60, R104, R105) -/

/-- The pairs of operand formats that the array multiplies (R60). -/
def pairOk (fa fb : Nat) : Bool :=
  (decide (2 ≤ fa) && decide (fa ≤ 9) && decide (2 ≤ fb) && decide (fb ≤ 9)) || (fa == 1 && fb == 1) || (fa == 10 && fb == 10)

/-- The FP4 rate class: both operands are FP4 or MXFP4. -/
def fp4Class (fa fb : Nat) : Bool := (fa == 8 || fa == 9) && (fb == 8 || fb == 9)

def columns (fa fb : Nat) : Nat := if fa = 1 then 32 else if fp4Class fa fb then 128 else 64

/-- Columns per bank. -/
def perBank (fa fb : Nat) : Nat := if fa = 1 then 2 else if fp4Class fa fb then 8 else 4

/-- Bytes of a group of 32 elements. -/
def groupBytes (code : Nat) : Nat := 4 * elementBits code

/-- Group steps that one scale row serves (R106). -/
def stepsPerScale (fa fb : Nat) : Nat := if fb = 9 then 512 else 128 / perBank fa fb

/-- Accumulator halves per row that `LOAD` reads (R184). -/
def loadHalves (fa fb : Nat) : Nat := if fp4Class fa fb then 2 else 1

def ceilDiv (a b : Nat) : Nat := (a + b - 1) / b

/-- Rows that `LOAD` reads, and scale rows (R181, R184). -/
def loadRows (fa fb start h : Nat) : Nat := if start = 2 then ceilDiv (h * loadHalves fa fb) 8 else 0
def scaleRows (fa fb steps h : Nat) : Nat := if scaled fb && h != 0 then ceilDiv steps (stepsPerScale fa fb) else 0

/-- Array steps of one tile of B (R112, R185). -/
def tileSteps (fb : Nat) : Nat := if fb = 1 then 2 else if fb = 8 ∨ fb = 9 then 8 else 4

/-! ## The operation -/

/-- The fields of `MM_ACC` (R180). -/
structure MmFields where
  fmtA    : Nat
  fmtB    : Nat
  steps   : Nat
  h       : Nat
  start   : Nat
  transA  : Nat
  aSel    : Nat
  aOffset : Nat
  bSel    : Nat
  bRow    : Nat
  scale   : Nat
  acc     : Nat
  postinc : Nat
  deriving DecidableEq, Repr

/-- The A elements and scales lie in the quarter and do not overlap (R183, R185). -/
def linearFits (f : MmFields) : Bool :=
  let b := groupBytes f.fmtA
  let n := f.steps * f.h
  let stop := 128 * f.aOffset + n * b
  n == 0 || (decide (stop ≤ 8192) &&
    (!scaled f.fmtA || decide (stop ≤ 8191 - (128 * f.aOffset + (n - 1) * b) / b)))

/-- The encodings of `MM_ACC` that the load check accepts (R180, R185). -/
def mmLegal (f : MmFields) : Bool :=
  pairOk f.fmtA f.fmtB && decide (f.steps < 256) && decide (f.h ≤ 16) && decide (f.acc < 16) && decide (f.acc + f.h ≤ 16) &&
    decide (f.start < 3) && decide (f.transA < 2) && decide (f.aSel < 8) && decide (f.aOffset < 64) && decide (f.bSel < 8) &&
    decide (f.bRow < 16) && decide (f.scale < 16) && decide (f.postinc < 2) && (f.bSel == 0 || f.bRow == 0) &&
    (if f.transA = 0 then linearFits f
     else decide (f.steps ≤ 2) && ((decide (2 ≤ f.fmtA) && decide (f.fmtA ≤ 5)) || f.fmtA == 10) &&
       (f.h == 0 || decide (2 * f.aOffset + f.h ≤ (if f.fmtA = 4 ∨ f.fmtA = 5 then 120 else 128)))) &&
    (f.bSel == 0 || decide (f.steps ≤ tileSteps f.fmtB))

/-- An element with its poison. -/
abbrev TElem := Nat × Bool

/-- The 32 elements packed in bytes. -/
def elementsOf (code : Nat) (bs : List TByte) : List TElem :=
  let w := elementBits code
  let raw := bs.map (·.1)
  (List.range 32).map fun i => (packedElement w raw i, anyTagged ((bs.drop (w * i / 8)).take ((w + w * i % 8 + 7) / 8)))

/-- The A row of group `g`, row `h`, with its scale (R183). -/
def aRow (b : Block) (quarter : Nat) (f : MmFields) (g h : Nat) : List TElem × TElem :=
  if f.transA = 0 then
    let w := groupBytes f.fmtA
    let p := 128 * f.aOffset + (g * f.h + h) * w
    let sc := b.micaByte quarter (8191 - p / w)
    (elementsOf f.fmtA (b.micaBytes quarter p w), (sc.1.toNat, sc.2))
  else
    let m := 2 * f.aOffset + h
    let sc := b.micaByte quarter (128 * (32 * g + m / 8) + 120 + m % 8)
    ((List.range 32).map fun i =>
      let x := b.micaByte quarter (128 * (32 * g + i) + m)
      (x.1.toNat, x.2), (sc.1.toNat, sc.2))

/-- The B elements of column `n` in group `g`, from the step's bank rows or from Mica (R105, R112). -/
def bColumn (b : Block) (x : Ctx) (f : MmFields) (rows : List (List TByte)) (g n : Nat) : List TElem :=
  let w := groupBytes f.fmtB
  if f.bSel = 0 then
    let per := perBank f.fmtA f.fmtB
    elementsOf f.fmtB (((rows.getD (n / per) []).drop (n % per * w)).take w)
  else elementsOf f.fmtB (b.micaBytes (quarterB x f.bSel) (128 * n + g * w) w)

/-- The scale byte of column `n` in group `g` (R106). -/
def bScale (f : MmFields) (rows : List (List TByte)) (g n : Nat) : TElem :=
  let per := perBank f.fmtA f.fmtB
  let i := if f.fmtB = 9 then g / 4 % 128 else per * (g % stepsPerScale f.fmtA f.fmtB) + n % per
  let x := (rows.getD (n / per) []).getD i (0, false)
  (x.1.toNat, x.2)

/-- One product (R61, R573). An element under a 0xFF scale is NaN whatever its bits hold (R53); that scale sets its own flag
(R63), and such an element none. -/
def product (fa fb : Nat) (nanA nanB : Bool) (x y : TElem) : LaneResult :=
  let a := if nanA then .nan else decodeFp (formatOf fa) x.1
  let b := if nanB then .nan else decodeFp (formatOf fb) y.1
  let seen := (if nanA then [] else [a]) ++ if nanB then [] else [b]
  let r := pack32 (a.isNan || b.isNan) (a.mul b)
  let bad := x.2 || y.2
  ⟨r.1, bad, if bad then .none else .of (inputFlags seen ||| r.2)⟩

/-- A group sum scaled (R63): the scales of A and of B, 0x7F where a format carries none (R60). A 0xFF scale sets `SCALE_NAN_IN` alone,
as R63 names it; whether it sets `NAN_INPUT` as well is left open (assumption 62). -/
def scaleGroup (r : LaneResult) (ea eb : TElem) : LaneResult :=
  let bad := r.poison || ea.2 || eb.2
  if ea.1 = 0xFF ∨ eb.1 = 0xFF then
    ⟨0x7FC00000, bad, .join r.events (if bad then .none else .of flagScaleNanIn)⟩
  else match dec32 r.value with
    | .num n m e =>
      let p := pack32 false (.num n m (e + ea.1 + eb.1 - 254))
      ⟨p.1, bad, .join r.events (if bad then .none else .of p.2)⟩
    | _ => { r with poison := bad }

/-- One group step of one accumulator element (R62, R67). A non-finite starting accumulator is no consumed element and sets neither
`NAN_INPUT` nor `INF_INPUT`, which R81 leaves open (assumption 62). -/
def macStep (f : MmFields) (a : List TElem × TElem) (b : List TElem) (eb : TElem) (acc : LaneResult) : LaneResult :=
  if f.fmtA = 10 then
    let sum := (a.1.zip b).foldl (fun (t : Int) (x, y) => t + sext 8 x.1 * sext 8 y.1) 0
    let bad := acc.poison || a.1.any (·.2) || b.any (·.2)
    let t := sext 32 acc.value + sum
    let wrap := decide (t < -(2 ^ 31)) || decide (2 ^ 31 ≤ t)
    ⟨encInt 32 t, bad, .join acc.events (if bad then .none else .of (flagIf wrap flagInt32Wrap))⟩
  else
    let plain : TElem := (0x7F, false)
    let ea := if scaled f.fmtA then a.2 else plain
    let eb := if scaled f.fmtB then eb else plain
    let g := reduceTree sumPair 5 ((a.1.zip b).map fun (x, y) => product f.fmtA f.fmtB (ea.1 == 0xFF) (eb.1 == 0xFF) x y)
    let s := if scaled f.fmtA || scaled f.fmtB then scaleGroup g ea eb else g
    pairStep sumPair acc s

/-- The row of every bank at one row index, with out-of-range reads recorded. -/
def readBanks (s : State) (p row : Nat) : List (List TByte) × State :=
  (List.range 16).foldl (fun (t : List (List TByte) × State) bank =>
    let r := readRow t.2 p bank row
    (t.1 ++ [r.1], r.2)) ([], s)

/-- The rows from `row` upwards, one per count, of every bank. -/
def readBankRows (s : State) (p : Nat) (rows : List Nat) : List (List (List TByte)) × State :=
  rows.foldl (fun (t : List (List (List TByte)) × State) r =>
    let x := readBanks t.2 p r
    (t.1 ++ [x.1], x.2)) ([], s)

/-- The pair of banks that hold accumulator half `q` under `LOAD` (R184), each row read once. -/
def loadPair (s : State) (p row q : Nat) : List TByte × State :=
  let x := readRow s p (2 * (q % 8)) row
  let y := readRow x.2 p (2 * (q % 8) + 1) row
  (x.1 ++ y.1, y.2)

/-- The starting accumulator of row `h` (R64, R184): 128 lanes. -/
def startRow (s : State) (b : Block) (d : Desc) (p : Nat) (f : MmFields) (h : Nat) : List Lane × State :=
  if f.start = 0 then (zeroLanes 128, s)
  else if f.start = 1 then (b.accRow (f.acc + h), s)
  else
    let n := loadHalves f.fmtA f.fmtB
    (List.range n).foldl (fun (t : List Lane × State) c =>
      let q := h * n + c
      let x := loadPair t.2 p (b.rowOf d.selAux (f.scale + q / 8)) q
      (t.1 ++ lanesOf 64 x.1, x.2)) ([], s)

/-- Columns that take steps (R112): a transposed FP4 tile feeds 64 of 128. -/
def steppedColumns (f : MmFields) : Nat := if f.bSel ≠ 0 then min 64 (columns f.fmtA f.fmtB) else columns f.fmtA f.fmtB

/-- Lane `n` of an accumulator row after all steps. -/
def macColumn (b : Block) (x : Ctx) (f : MmFields) (rows scales : List (List (List TByte))) (h n : Nat) (start : Lane) :
    LaneResult :=
  (List.range f.steps).foldl (fun acc g =>
    macStep f (aRow b (quarterA x f.aSel) f g h) (bColumn b x f (rows.getD g []) g n)
      (bScale f (scales.getD (g / stepsPerScale f.fmtA f.fmtB) []) g n) acc)
    ⟨start.bits.toNat, start.poison, .none⟩

/-- An accumulator row after the operation: stepped columns, columns without a step as they started, unused columns +0
(R108, R112, R191). -/
def macRow (b : Block) (x : Ctx) (f : MmFields) (rows scales : List (List (List TByte))) (h : Nat) (start : List Lane) :
    List LaneResult :=
  (List.range 128).map fun n =>
    let l := start.getD n Lane.zero
    if n < steppedColumns f then macColumn b x f rows scales h n l
    else if n < columns f.fmtA f.fmtB ∨ (f.start = 1 ∧ f.steps = 0) then ⟨l.bits.toNat, l.poison, .none⟩
    else ⟨0, false, .none⟩

/-- `MM_ACC` in one block (R62, R181, R182). -/
def mmOp (c sel : Nat) (f : MmFields) (a : Actor) (s : State) : State :=
  if f.h = 0 then s
  else
    let b := s.block a.phys
    let x := s.ctx c
    let d := x.desc sel
    let starts := (List.range f.h).foldl (fun (t : List (List Lane) × State) h =>
      let r := startRow t.2 b d a.phys f h
      (t.1 ++ [r.1], r.2)) ([], s)
    let lr := loadRows f.fmtA f.fmtB f.start f.h
    let sr := scaleRows f.fmtA f.fmtB f.steps f.h
    let br := if f.bSel = 0 then f.steps else 0
    let bs := readBankRows starts.2 a.phys ((rangeFrom f.bRow br).map (b.rowOf d.selB))
    let ss := readBankRows bs.2 a.phys ((rangeFrom (f.scale + lr) sr).map (b.rowOf d.selAux))
    let out := (List.range f.h).map fun h => macRow b x f bs.1 ss.1 h (starts.1.getD h [])
    let t := ss.2.setBlock a.phys fun y =>
      let y := out.zipIdx.foldl (fun z (r, h) =>
        { z.setAcc (f.acc + h) (lanesFrom r) with
          accInt := if f.fmtA = 10 then sinsert z.accInt (f.acc + h) else serase z.accInt (f.acc + h) }) y
      if f.postinc = 1 then (y.bump d.selB br).bump d.selAux (sr + lr) else y
    let u := t.arith a.phys (Events.all (out.flatMap fun r => r.map (·.events)))
    if f.steps ≠ 0 ∧ (out.any fun r => r.any (·.poison)) = true then u.consumed c a.phys else u

/-- `ACC_STORE` in one block (R110, R617). -/
def accStoreOp (c sel row half bank r postinc : Nat) (touch : Touch) (a : Actor) (s : State) : State :=
  let b := s.block a.phys
  let d := (s.ctx c).desc sel
  let l := ((b.accRow row).drop (64 * half)).take 64
  let at_ := b.rowOf d.selOut r
  let t := writeRow s touch a.phys bank at_ 0 (laneBytes (l.take 32))
  let u := writeRow t touch a.phys (bank + 1) at_ 0 (laneBytes (l.drop 32))
  let v := if b.accInt.contains row || decide (768 ≤ at_) then u else u.nonfinite a.phys (badLanes l)
  v.setBlock a.phys (·.bump d.selOut postinc)

/-- A Mica fill in one block (R186). -/
def micaFillOp (c sel quarter reads dest row postinc : Nat) (a : Actor) (s : State) : State :=
  let b := s.block a.phys
  let x := s.ctx c
  let base := (x.desc sel).selA
  let q := quarterA x quarter
  let r := readBankRows s a.phys ((rangeFrom row reads).map (b.rowOf base))
  r.2.setBlock a.phys fun y =>
    let m := r.1.zipIdx.foldl (fun m (banks, i) => banks.zipIdx.foldl (fun m (bs, k) =>
      kset m (q * 64 + 16 * (dest + i) + k) (bs.map (·.1), anyTagged bs)) m) y.mica
    ({ y with mica := m }).bump base (if postinc = 1 then reads else 0)

def micaFillLegal (quarter mode fmt reads dest row postinc : Nat) : Bool :=
  decide (quarter < 8) && decide (mode < 3) && decide (fmt < 12) && decide (reads ≤ 4) && decide (dest < 4) &&
    decide (dest + reads ≤ 4) && decide (row < 64) && decide (postinc < 2)

/-- `SET_BASE` in one block (R192). -/
def setBaseOp (target mode va imm : Nat) (a : Actor) (s : State) : State :=
  s.setBlock a.phys fun b =>
    if mode = 0 then b.change target imm
    else if mode = 1 then
      let m : Int := 2 ^ (if target = 16 then 48 else 10)
      b.change target (((b.nextValue target : Int) + sext 36 imm) % m).toNat
    else
      let l := b.vreg va
      b.change 16 ((l.getD 0 Lane.zero).bits.toNat + (l.getD 1 Lane.zero).bits.toNat % 2 ^ 16 * 2 ^ 32)

def setBaseLegal (target mode va imm : Nat) : Bool :=
  decide (target ≤ 16) && decide (mode < 3) && regs [va] && decide (imm < 2 ^ 36) && (mode == 2 || va == 0) &&
    (mode != 2 || (target == 16 && imm == 0)) && (mode != 0 || target == 16 || decide (imm < 2 ^ 10))

/-! ## The commands -/

/-- MM_ACC (R182). -/
def execMmAcc (c sel pred fmtA fmtB steps h start transA aSel aOffset bSel bRow scale acc postinc : Nat) (touch : Touch)
    (s : State) : Host.Outcome State Fault Refusal :=
  let f : MmFields := ⟨fmtA, fmtB, steps, h, start, transA, aSel, aOffset, bSel, bRow, scale, acc, postinc⟩
  sensingBlocks c sel pred (mmLegal f) touch.errors (mmOp c sel f) s

/-- ACC_STORE (R110). -/
def execAccStore (c sel pred acc half bank row postinc : Nat) (touch : Touch) (s : State) : Host.Outcome State Fault Refusal :=
  writingBlocks c sel pred
    (decide (acc < 16) && decide (half < 2) && decide (bank < 16) && bank % 2 == 0 && decide (row < 64) && decide (postinc < 2))
    touch.errors (fun t a => [bankGranule a.phys ((t.block a.phys).rowOf ((t.ctx c).desc sel).selOut row)])
    (accStoreOp c sel acc half bank row postinc touch) s

/-- MICA_FILL (R186). -/
def execMicaFill (c sel pred quarter mode fmt reads dest row postinc : Nat) (touch : Touch) (s : State) :
    Host.Outcome State Fault Refusal :=
  sensingBlocks c sel pred (micaFillLegal quarter mode fmt reads dest row postinc) touch.errors
    (micaFillOp c sel quarter reads dest row postinc) s

/-- SET_BASE (R192): the change is seen from the next bundle (R141). -/
def execSetBase (c sel pred target mode va imm : Nat) (s : State) : Host.Outcome State Fault Refusal :=
  inBlocks c sel pred (setBaseLegal target mode va imm) (setBaseOp target mode va imm) s

end Sys2Proof.Machine
end

