-- ==== Sys2Proof/Machine/Shares.lean ====
section
/-! DEFINITION. The shares of partitions and tenants: store pages, descriptor slots, and the reserves at the top of Bedrock
(spec/13_tenancy.md R447 to R450; spec/01_architecture.md R25). -/

namespace Sys2Proof.Machine

/-- Set bits among the low `n`. -/
def popCount (n v : Nat) : Nat := ((List.range n).filter (bit v ·)).length

/-- Districts of a partition, and of all partitions in use (R448). -/
def districtsOf (s : State) (p : Nat) : Nat := popCount 64 (districtMap s p)
def districtsAll (s : State) : Nat := ((List.range s.partitions).map (districtsOf s)).sum

/-- Bytes of a store page (R129). -/
def pageBytes : Nat := 131072

/-- A context's program store pages and descriptor slots, and where they start (R447). -/
def pagesOf (s : State) (c : Nat) : Nat := s.dget (0x6060 + c) 2
def pageStart (s : State) (c : Nat) : Nat := ((List.range c).map (pagesOf s)).sum
def slotsOf (s : State) (c : Nat) : Nat := s.dget (0x6060 + c) 3

/-- Whole MiB of a reserve that a partition, and each tenant homed on it, receives (R448). -/
def partitionMiB (s : State) (total p : Nat) : Nat := total * districtsOf s p / districtsAll s
def tenantMiB (s : State) (total p : Nat) : Nat := partitionMiB s total p / (homed s p).length

/-- Offset in bytes of a tenant's part of a reserve: partitions, then tenants, ascending (R448). -/
def shareOffset (s : State) (total p t : Nat) : Nat :=
  (((List.range p).map (partitionMiB s total)).sum + ((homed s p).filter (· < t)).length * tenantMiB s total p) * mib

/-- The tenant whose program a context runs. -/
def tenantOf (s : State) (c : Nat) : Nat := (s.resident c).getD 0

/-- Bases of the reserves, from the top of Bedrock downwards: checkpoints, stash overflow, overlays (R25). -/
def ckptBase (s : State) : Nat := bedrockEnd - s.dget 0x6000 1 * mib
def stashBase (s : State) : Nat := ckptBase s - s.zoning.stashMiB * mib
def overlayBase (s : State) : Nat := stashBase s - s.zoning.overlayMiB * mib

/-- A context's part of the stash overflow and overlay reserves. -/
def stashStart (s : State) (c : Nat) : Nat := stashBase s + shareOffset s s.zoning.stashMiB c (tenantOf s c)
def overlayStart (s : State) (c : Nat) : Nat := overlayBase s + shareOffset s s.zoning.overlayMiB c (tenantOf s c)

/-- Device address of bundle `a` of a context in the store window (R129). -/
def bundleAddress (s : State) (c a : Nat) : Nat := storeBase + (pageStart s c * 1024 + a) * 128

/-- `TENANCY_RECORD_FIRST` of a case (R473). -/
def tenancyCase (s : State) (reason t p slot : Nat) : Nat :=
  reason * 2 ^ 60 + t * 2 ^ 53 + p * 2 ^ 48 + slot * 2 ^ 40 + s.beatStamp % 2 ^ 40

end Sys2Proof.Machine
end

