-- ==== Sys2Proof/Machine/Mover.lean ====
section
/-! DEFINITION. The movers (spec/05_bundle_reference.md R195 to R200, R618), standby copies (R198, R289), and the stash overflow's
pages (spec/07_stage_execution.md R255 to R258). -/

namespace Sys2Proof.Machine

/-- No buffer, and the buffer of a number. -/
def Buffer.none : Buffer := ⟨0, 0, 0, 0, 0, 0, 0, 0, 0, 0, 0, false, 0, []⟩
def Ctx.buffer (x : Ctx) (i : Nat) : Buffer := x.buffers.getD i Buffer.none

/-! ## Standby (R198) -/

/-- The standby entry of a mover slot of the bundle that issues (R272). -/
def standbyEntry (x : Ctx) (pc slot : Nat) : Option Standby :=
  let o := kfind x.overlaid (pc / 1024)
  x.standby.find? fun e => e.slot == slot && e.bundle == pc % 1024 &&
    (match o with
      | some v => e.overlay && e.page == v
      | none => !e.overlay && e.page == pc / 1024)

/-- Whether a mover operation is listed as its `STANDBY` bit needs, and whether it acts. -/
def standbyListed (s : State) (c slot standby : Nat) : Bool :=
  decide (slot < 4) && decide (standby < 2) && (standby == 0 || (standbyEntry (s.ctx c) (s.pc c) slot).isSome)
def standbyActs (s : State) (c slot standby : Nat) : Bool :=
  standby == 0 || match standbyEntry (s.ctx c) (s.pc c) slot with
    | none => false
    | some e => ((s.ctx c).buffers.getD e.owner Buffer.none).demoted

/-- The header of a mover operation that acts in blocks (R195): an inactive standby operation performs nothing. -/
def moverBlocks (c slot standby sel pred : Nat) (legal : Bool) (errors : List ReadError)
    (gs : State → List Actor → List Nat) (act : List Actor → State → State) (s : State) : Host.Outcome State Fault Refusal :=
  if !s.running c then .next s
  else if !(legal && headerOk s c sel pred && standbyListed s c slot standby) then .fault .reservedEncoding
  else if !standbyActs s c slot standby then .next s
  else whenCopied c (gs s (actors s c sel pred)) s fun t => .next (act (actors t c sel pred) (senseAll 0 t errors))

/-! ## Transfers in their cycles (R199, R200) -/

/-- One row read and the writes made from it, each with its touch cycle from issue: cycle, block, bank, row, first byte, bytes. -/
structure Transfer where
  readAt : Nat
  phys   : Nat
  bank   : Nat
  row    : Nat
  puts   : List (Nat × Nat × Nat × Nat × Nat × Nat)
  deriving DecidableEq, Repr

/-- The reads of cycle `k`: each row's bytes are kept with its writes. -/
def transferReads (k : Nat) (ts : List Transfer) (st : List (Transfer × List TByte) × State) :
    List (Transfer × List TByte) × State :=
  (ts.filter (·.readAt == k)).foldl (fun a t =>
    let r := readRow a.2 t.phys t.bank t.row
    (a.1 ++ [(t, r.1)], r.2)) st

/-- The writes of cycle `k`, in transfer order: a read of the same cycle came before them (R101). -/
def transferWrites (touch : Touch) (k : Nat) (st : List (Transfer × List TByte) × State) :
    List (Transfer × List TByte) × State :=
  (st.1, st.1.foldl (fun s (t, bs) => (t.puts.filter (·.1 == k)).foldl (fun u (_, p, bank, row, off, n) =>
    writeRow u touch p bank row off ((bs.drop off).take n)) s) st.2)

/-- All transfers, cycle by cycle. -/
def runTransfers (touch : Touch) (ts : List Transfer) (s : State) : State :=
  let stop := ts.foldl (fun m t => t.puts.foldl (fun n p => max n p.1) (max m t.readAt)) 0
  ((List.range (stop + 1)).foldl (fun st k => transferWrites touch k (transferReads k ts st)) ([], s)).2

/-! ## COPY_BANK -/

/-- A mover's register increments, taken by every acting block. -/
def bumpAll (as : List Actor) (incs : List (Nat × Nat)) (s : State) : State :=
  as.foldl (fun t a => t.setBlock a.phys fun b => incs.foldl (fun y i => y.bump i.1 i.2) b) s

def bankTransfers (s : State) (d : Desc) (sbank srow dbank drow rows : Nat) (as : List Actor) : List Transfer :=
  as.flatMap fun a =>
    let b := s.block a.phys
    (List.range rows).map fun i =>
      ⟨i + 2, a.phys, sbank, b.rowOf d.selA (srow + i), [(i + 7, a.phys, dbank, b.rowOf d.selOut (drow + i), 0, 128)]⟩

/-- COPY_BANK (R196, R199). -/
def execCopyBank (c slot standby sel pred sbank srow dbank drow rows postinc : Nat) (touch : Touch) (s : State) :
    Host.Outcome State Fault Refusal :=
  let d := (s.ctx c).desc sel
  moverBlocks c slot standby sel pred
    (decide (sbank < 16) && decide (srow < 64) && decide (dbank < 16) && decide (drow < 64) && decide (rows < 256) &&
      decide (postinc < 4)) touch.errors
    (fun t as => (bankTransfers t d sbank srow dbank drow rows as).flatMap fun x => x.puts.map fun p => bankGranule p.2.1 p.2.2.2.1)
    (fun as t => bumpAll as [(d.selA, if bit postinc 1 then rows else 0), (d.selOut, if bit postinc 0 then rows else 0)]
      (runTransfers touch (bankTransfers t d sbank srow dbank drow rows as) t)) s

/-! ## COPY_AVENUE -/

/-- The remote block of a logical block (R197). -/
def remoteOf (x : Ctx) (l delta : Nat) : Option Nat :=
  let r := (l : Int) + sext 11 delta
  if 0 ≤ r then x.phys r.toNat else none

/-- The rows and beats of `COPY_AVENUE` (R200): a push reads locally, a pull remotely. -/
def avenueTransfers (s : State) (x : Ctx) (d : Desc) (dir delta lbank lrow rbank rrow beats lat : Nat) (as : List Actor) :
    List Transfer :=
  as.flatMap fun a => match remoteOf x a.logical delta with
    | none => []
    | some q =>
      let b := s.block a.phys
      let r := s.block q
      (List.range (ceilDiv beats 2)).map fun j =>
        let near := b.rowOf (if dir = 0 then d.selA else d.selOut) (lrow + j)
        let far := r.rowOf d.selB (rrow + j)
        let puts := ([0, 1].filter fun h => decide (2 * j + h < beats)).map fun h =>
          (lat + (2 * j + h) + 3, if dir = 0 then q else a.phys, if dir = 0 then rbank else lbank,
            if dir = 0 then far else near, 64 * h, 64)
        if dir = 0 then ⟨2 * j + 2, a.phys, lbank, near, puts⟩
        else ⟨lat / 2 - 8 + 2 * j + 2, q, rbank, far, puts⟩

/-- COPY_AVENUE (R196, R200). -/
def execCopyAvenue (c slot standby sel pred dir delta lbank lrow rbank rrow beats lat postinc : Nat) (touch : Touch)
    (s : State) : Host.Outcome State Fault Refusal :=
  let x := s.ctx c
  let d := x.desc sel
  moverBlocks c slot standby sel pred
    (decide (dir < 2) && decide (0 < delta) && decide (delta < 2 ^ 11) && decide (lbank < 16) && decide (lrow < 64) &&
      decide (rbank < 16) && decide (rrow < 64) && decide (beats < 256) && decide (lat < 128) &&
      decide ((if dir = 0 then 8 else 16) ≤ lat) && decide (postinc < 2)) touch.errors
    (fun t as => (avenueTransfers t x d dir delta lbank lrow rbank rrow beats lat as).flatMap fun y =>
      y.puts.map fun p => bankGranule p.2.1 p.2.2.2.1)
    (fun as t => bumpAll as [(if dir = 0 then d.selA else d.selOut, if postinc = 1 then ceilDiv beats 2 else 0)]
      (runTransfers touch (avenueTransfers t x d dir delta lbank lrow rbank rrow beats lat as) t)) s

/-! ## Buffers and the stash overflow -/

/-- Pages of one stash record (R255). -/
def recordPages (s : State) (c : Nat) : Nat := ceilDiv ((s.ctx c).cfg 6) 1024

/-- The descriptor slot and page of an overflow offset (R255), as the key of `Ctx.stash`. -/
def stashKey (s : State) (c off : Nat) : Nat :=
  let p := max 1 (recordPages s c)
  ((s.ctx c).cfg 5 + off / (p * mib)) * 65536 + off % (p * mib) / mib

/-- Device address of byte `off` of a buffer: an overflow byte through its page, `none` where the page is not mapped. -/
def bufferAddress (s : State) (c : Nat) (b : Buffer) (off : Nat) : Option Nat :=
  if b.cls = 5 then
    (kfind (s.ctx c).stash (stashKey s c off)).map fun g => stashStart s c + g.phys * mib + off % mib
  else some (b.address + off)

/-- `STAGE_RECORD_FIRST` of a case within the stream (R266). -/
def stageCase (c reason bundle : Nat) : Nat := 0x3FFFF * 2 ^ 34 + c * 2 ^ 32 + reason * 2 ^ 28 + bundle

/-- An access through an unmapped page (R258). -/
def stashUnmapped (s : State) (c : Nat) : State := s.record 0x5050 2 [(3, 1)] (some (stageCase c 6 (s.pc c)))

/-- Bytes read from an overflow page count towards its release (R257). -/
def countStash (s : State) (c : Nat) (b : Buffer) (off n : Nat) : State :=
  if b.cls = 5 then
    s.setCtx c fun x => match kfind x.stash (stashKey s c off) with
      | some g => { x with stash := kset x.stash (stashKey s c off) { g with read := g.read + n } }
      | none => x
  else s

/-- `n` bytes of a buffer, none crossing a page: through an unmapped page they read as zeros with poison (R258). What one
access of the count is, a row or a 4 KiB unit, is the model's choice (assumption 64). -/
def readBuffer (s : State) (c : Nat) (b : Buffer) (off n : Nat) : List TByte × State :=
  match bufferAddress s c b off with
  | some a => (readTagged s a n, countStash s c b off n)
  | none => (List.replicate n (0, true), stashUnmapped s c)

/-- Bytes written to a buffer; through an unmapped page they are dropped (R258). -/
def writeBuffer (s : State) (c : Nat) (b : Buffer) (off : Nat) (bs : List TByte) : State :=
  match bufferAddress s c b off with
  | some a => writeTagged s a bs
  | none => stashUnmapped s c

/-- The granules of a buffer range. -/
def bufferGranules (s : State) (c : Nat) (b : Buffer) (off n : Nat) : List Nat :=
  if b.cls = 5 ∨ n = 0 then
    (List.range (ceilDiv n 4096)).flatMap fun i => match bufferAddress s c b (off + 4096 * i) with
      | some a => byteGranules a 1
      | none => []
  else byteGranules (b.address + off) n

/-! ## COPY_SQUARE, COPY_BEDROCK, COPY_SB -/

/-- One row between a block and a buffer (R197). -/
def moveRow (c : Nat) (d : Desc) (dir bank row : Nat) (buf : Buffer) (offset rows i : Nat) (touch : Touch) (a : Actor)
    (s : State) : State :=
  let b := s.block a.phys
  let off := 4096 * offset + 128 * (a.rank * rows + i)
  if dir = 0 then
    let r := readRow s a.phys bank (b.rowOf d.selA (row + i))
    writeBuffer r.2 c buf off r.1
  else
    let r := readBuffer s c buf off 128
    writeRow r.2 touch a.phys bank (b.rowOf d.selOut (row + i)) 0 r.1

/-- A copy between banks and a Square or Bedrock buffer (R196, R197, R199). -/
def moveRows (c slot standby sel pred dir bank row buffer offset rows postinc : Nat) (touch : Touch) (s : State) :
    Host.Outcome State Fault Refusal :=
  let x := s.ctx c
  let d := x.desc sel
  let buf := x.buffer buffer
  let reg := if dir = 0 then d.selA else d.selOut
  moverBlocks c slot standby sel pred
    (decide (dir < 2) && decide (bank < 16) && decide (row < 64) && decide (buffer < 4096) && decide (offset < 2 ^ 14) &&
      decide (rows < 256) && decide (postinc < 2)) touch.errors
    (fun t as => as.flatMap fun a =>
      if dir = 0 then bufferGranules t c buf (4096 * offset + 128 * (a.rank * rows)) (128 * rows)
      else (List.range rows).map fun i => bankGranule a.phys ((t.block a.phys).rowOf reg (row + i)))
    (fun as t => bumpAll as [(reg, if postinc = 1 then rows else 0)]
      ((List.range rows).foldl (fun u i => as.foldl (fun v a => moveRow c d dir bank row buf offset rows i touch a v) u) t)) s

/-- COPY_SQUARE (R196, R199). -/
def execCopySquare (c slot standby sel pred dir bank row buffer offset rows postinc : Nat) (touch : Touch) (s : State) :
    Host.Outcome State Fault Refusal :=
  moveRows c slot standby sel pred dir bank row buffer offset rows postinc touch s

/-- COPY_BEDROCK (R196, R199, R257). -/
def execCopyBedrock (c slot standby sel pred dir bank row buffer offset rows postinc : Nat) (touch : Touch) (s : State) :
    Host.Outcome State Fault Refusal :=
  moveRows c slot standby sel pred dir bank row buffer offset rows postinc touch s

/-- COPY_SB: `length` units of 4 KiB between a Square and a Bedrock buffer (R196, R199, R257). -/
def execCopySb (c slot standby dir sq sqOffset br brOffset length : Nat) (touch : Touch) (s : State) :
    Host.Outcome State Fault Refusal :=
  if !s.running c then .next s
  else if !(decide (dir < 2) && decide (sq < 4096) && decide (sqOffset < 256) && decide (br < 4096) &&
      decide (brOffset < 512) && decide (length < 256) && standbyListed s c slot standby) then .fault .reservedEncoding
  else if !standbyActs s c slot standby then .next s
  else
    let x := s.ctx c
    let a := x.buffer sq
    let b := x.buffer br
    let gs := if dir = 0 then bufferGranules s c b (65536 * brOffset) (4096 * length)
      else bufferGranules s c a (65536 * sqOffset) (4096 * length)
    whenCopied c gs s fun t =>
      .next ((List.range length).foldl (fun u j =>
        if dir = 0 then writeBuffer u c b (65536 * brOffset + 4096 * j) (readBuffer u c a (65536 * sqOffset + 4096 * j) 4096).1
        else
          let r := readBuffer u c b (65536 * brOffset + 4096 * j) 4096
          writeBuffer r.2 c a (65536 * sqOffset + 4096 * j) r.1) (senseAll 0 t touch.errors))

/-- MICA_LOAD: a Mica fill from a mover slot (R186, R195). -/
def execMicaLoad (c slot standby sel pred quarter mode fmt reads dest row postinc : Nat) (touch : Touch) (s : State) :
    Host.Outcome State Fault Refusal :=
  moverBlocks c slot standby sel pred (micaFillLegal quarter mode fmt reads dest row postinc) touch.errors (fun _ _ => [])
    (fun as t => as.foldl (fun u a => micaFillOp c sel quarter reads dest row postinc a u) t) s

/-! ## Releasing overflow pages (R257) -/

/-- The bytes whose reading releases a page: `STASH_READS` times those of the record that fall in it; 0 never releases. -/
def releaseCount (s : State) (c page : Nat) : Nat :=
  (s.ctx c).cfg 7 * min mib ((s.ctx c).cfg 6 * 1024 - page * mib)

end Sys2Proof.Machine
end

