-- ==== Sys2Proof/Machine/Flows.lean ====
section
/-! DEFINITION. Ports, peers and flows: their entries, paths, transmissions, closing and the records of the network
(spec/10_network.md R343 to R385). -/

namespace Sys2Proof.Machine

/-! ## Entries -/

def State.flow (s : State) (f : Nat) : Flow := kget Flow.empty s.net.flows f
def State.setFlow (s : State) (f : Nat) (x : Flow) : State :=
  { s with net := { s.net with flows := kput Flow.empty s.net.flows f x } }
def State.peer (s : State) (i : Nat) : Peer := kget Peer.empty s.net.peers i
def State.setPeer (s : State) (i : Nat) (x : Peer) : State :=
  { s with net := { s.net with peers := kput Peer.empty s.net.peers i x } }
def State.port (s : State) (p : Nat) : Port := kget Port.empty s.net.ports p
def State.setPort (s : State) (p : Nat) (x : Port) : State :=
  { s with net := { s.net with ports := kput Port.empty s.net.ports p x } }

/-- `PORT_STATE` (R347). -/
def portState (s : State) (p : Nat) : Nat := s.dget (0x3040 + p) 1

/-- Ports that carry flow frames: `ACTIVE` and `SWITCHED` (R347). -/
def portOpen (s : State) (p : Nat) : Bool := portState s p == 7 || portState s p == 8

/-- Flow states (R359). -/
def flowClosed : Nat := 0
def flowOpening : Nat := 1
def flowOpen : Nat := 2
def flowClosing : Nat := 3
def flowPeerClosed : Nat := 4
def flowBroken : Nat := 5
def flowParked : Nat := 6

/-- Kinds that send, and those that receive (R360). -/
def Flow.sends (x : Flow) : Bool := x.kind == 1 || x.kind == 5 || x.kind == 7
def Flow.receives (x : Flow) : Bool := x.kind == 2 || x.kind == 3 || x.kind == 4 || x.kind == 6 || x.kind == 8

/-- Kinds that an engine owns, and those that reach a host queue pair. -/
def Flow.ofEngine (x : Flow) : Bool := x.kind == 5 || x.kind == 6
def Flow.rdma (x : Flow) : Bool := x.kind == 7 || x.kind == 8

/-- The flow is open in the sense of R365: it has a partner to be told of its end. -/
def Flow.live (x : Flow) : Bool := x.state == flowOpening || x.state == flowOpen || x.state == flowClosing || x.state == flowParked

/-- Unit counts, mod 2³² (R359). -/
def unitAhead (a b : Nat) : Nat := (a + 2 ^ 32 - b % 2 ^ 32) % 2 ^ 32
def unitAfter (a b : Nat) : Bool := let d := unitAhead a b; decide (1 ≤ d) && decide (d < 2 ^ 31)
def unitNext (a n : Nat) : Nat := (a + n) % 2 ^ 32

/-! ## Records (R384, R385) -/

/-- `NET_RECORD_FIRST` of a case: `none` for what does not apply. -/
def netCase (reason : Nat) (port flow bundle peer : Option Nat) (ctx : Nat) : Nat :=
  reason * 2 ^ 60 + port.getD 0xF * 2 ^ 56 + flow.getD 0x3FFFF * 2 ^ 34 + ctx * 2 ^ 32 + bundle.getD 0xFFFF * 2 ^ 16 +
    peer.getD 0xFFF

/-- The peer that a flow's entry names: none in an entry that nothing has written. -/
def flowPeer (x : Flow) : Option Nat := if x.kind = 0 then none else some x.peer

/-- A case of a flow. -/
def flowCase (s : State) (reason : Nat) (port : Option Nat) (f : Nat) : Nat :=
  netCase reason port (some f) none (flowPeer (s.flow f)) (s.flow f).ctx

/-- A case of a slot of the bundle that issues or waits in context `c` (R360, R368). -/
def slotCase (s : State) (reason f c : Nat) : Nat :=
  netCase reason none (some f) (some (s.pc c)) (flowPeer (s.flow f)) c

/-- An invalid frame (R357). -/
def frameInvalid (s : State) (port flow : Option Nat) : State :=
  s.record 0x5080 0 [(2, 1)] (some (match flow with
    | some f => flowCase s 0 port f
    | none => netCase 0 port none none none 0))

/-! ## Ranges (R361, R450) -/

/-- A flow, or a peer, lies in a tenant's range. -/
def tenantFlow (s : State) (t f : Nat) : Bool :=
  s.configured t && decide (s.dget (0x6070 + t) 7 ≤ f) && decide (f < s.dget (0x6070 + t) 7 + s.dget (0x6070 + t) 8)
def tenantPeer (s : State) (t i : Nat) : Bool :=
  s.configured t && decide (s.dget (0x6070 + t) 9 ≤ i) && decide (i < s.dget (0x6070 + t) 9 + s.dget (0x6070 + t) 0xA)

/-- The tenant whose range holds a flow. -/
def flowTenant (s : State) (f : Nat) : Option Nat := (List.range 8).find? fun t => tenantFlow s t f

/-! ## The retransmit store (R366) -/

/-- Units that the engines' flows hold, and those of a tenant's flows. -/
def storeUsed (s : State) (owner : Option Nat) : Nat :=
  ((s.net.flows.filter fun e => e.2.sends &&
    (match owner with
      | none => e.2.ofEngine
      | some t => !e.2.ofEngine && flowTenant s e.1 == some t)).map fun e => e.2.store.length).sum

/-- The owner's share has `n` free units. -/
def storeFits (s : State) (f n : Nat) : Bool :=
  if (s.flow f).ofEngine then decide (storeUsed s none + n ≤ 1024)
  else match flowTenant s f with
    | none => false
    | some t => decide (storeUsed s (some t) + n ≤ s.dget (0x6070 + t) 0xB)

/-- A send flow holds credit for `n` units (R366). -/
def holdsCredit (s : State) (f n : Nat) : Bool :=
  let x := s.flow f
  let d := unitAhead x.credit x.issued
  x.state == flowOpen && decide (d < 2 ^ 31) && decide (n ≤ d) && storeFits s f n

/-! ## Paths (R373) -/

/-- The module's own address names a peer inside the Square (R619). -/
def insidePeer (s : State) (x : Flow) : Bool :=
  (s.peer x.peer).address != 0 && (s.peer x.peer).address == ownAddress s

def effectiveMask (s : State) (x : Flow) : Nat := x.portMask &&& (s.peer x.peer).portMask

/-- The port of path `i`. -/
def pathPort (s : State) (x : Flow) (i : Nat) : Nat :=
  let ports := (List.range 8).filter (bit (effectiveMask s x) ·)
  ports.getD (i % ports.length) 0

/-- The paths of a flow, and those usable now, ascending. -/
def pathCount (s : State) (x : Flow) : Nat := popCount 8 (effectiveMask s x) * x.paths
def usablePaths (s : State) (f : Nat) (x : Flow) : List Nat :=
  (List.range (pathCount s x)).filter fun i => portOpen s (pathPort s x i) && !s.net.barred.contains (f * 64 + i)

/-- The path and port that unit `u` takes on attempt `a`: port 8 inside the Square, 9 while no path is usable. -/
def pathFor (s : State) (f u a : Nat) : Nat × Nat :=
  let x := s.flow f
  if insidePeer s x then (0, 8)
  else
    let l := usablePaths s f x
    if l.isEmpty then (255, 9) else
    let i := l.getD ((u + a) % l.length) 0
    (i, pathPort s x i)

/-! ## What a sent packet carries (R352, R353, R356, R358, R373) -/

/-- An IPv4-mapped address (R358), and the mapped form of `MODULE_IPV4` (R6): the address bytes in network order. -/
def mappedV4 (a : Nat) : Bool := a % 2 ^ 96 == 0xFFFF * 2 ^ 80
def ipv4Mapped (v : Nat) : Nat := 0xFFFF * 2 ^ 80 + ofLe ((leBytes 4 v).reverse) * 2 ^ 96

/-- The address under which the module sends to a peer (R349, R356). -/
def senderAddress (s : State) (p : Peer) : Nat := if mappedV4 p.address then ipv4Mapped (s.dget 0x2040 2) else ownAddress s

/-- A packet to a peer on a port: a `NEXT_HOP_MAC` of 0 stands for the link partner's (R358). -/
def packetTo (s : State) (p : Peer) (port dscp fromPort atPort : Nat) : Packet :=
  { port := port, mac := if p.mac = 0 then (s.port port).mac else p.mac
    tag := if p.tagged = 1 then some (p.pcp, p.vid) else none
    source := senderAddress s p, dest := p.address, dscp := dscp
    ecn := if s.dget 0x2040 8 = 1 then 2 else 0, fromPort := fromPort, atPort := atPort }

/-- The UDP source port of a path (R373). -/
def pathSource (s : State) (x : Flow) (path : Nat) : Nat := (x.entropy + path / max 1 (popCount 8 (effectiveMask s x))) % 2 ^ 16

/-- The packet of a flow's data on a path, and of its control frames, whose DSCP is 46 (R352). -/
def dataPacket (s : State) (x : Flow) (port path : Nat) : Packet :=
  packetTo s (s.peer x.peer) port x.dscp (pathSource s x path) (s.dget 0x2040 3)
def controlPacket (s : State) (x : Flow) (port : Nat) : Packet :=
  packetTo s (s.peer x.peer) port 46 (pathSource s x 0) (s.dget 0x2040 3)

/-- The header of a frame (R353). -/
structure Header where
  kind    : Nat
  dest    : Nat
  src     : Nat
  seq     : Nat
  map     : Nat
  credit  : Nat
  attempt : Nat
  last    : Bool

/-- Its 32 bytes as a number; `VERSION` is 1 in generation 1. -/
def Header.word (h : Header) : Nat :=
  h.seq % 2 ^ 32 * 2 ^ 224 + h.credit % 2 ^ 32 * 2 ^ 192 + h.map * 2 ^ 128 + h.dest * 2 ^ 110 + h.src * 2 ^ 92 +
    h.attempt * 2 ^ 84 + b2n h.last * 2 ^ 15 + h.kind * 2 ^ 8 + 1

/-- The body of a `FLOW` frame (R356). -/
def controlWord (sender kind reason seq : Nat) : Nat :=
  sender * 2 ^ 384 + seq % 2 ^ 32 * 2 ^ 16 + reason * 2 ^ 8 + 1 * 2 ^ 4 + kind

/-- A `FLOW` frame of a flow to its partner, on a port. -/
def controlOut (s : State) (f port kind reason seq : Nat) : Out :=
  let x := s.flow f
  .flowFrame f (controlPacket s x port) (Header.word ⟨5, x.peerFlow, f, 0, 0, 0, 0, false⟩)
    (controlWord (senderAddress s (s.peer x.peer)) kind reason seq)

/-- It leaves on the first usable path. -/
def sendControl (s : State) (f kind reason seq : Nat) : State := s.emit (controlOut s f (pathFor s f 0 0).2 kind reason seq)

/-- The DATA frame of a stored unit. -/
def dataOut (s : State) (f : Nat) (y : StoreUnit) : Out :=
  let x := s.flow f
  .data f (dataPacket s x y.port y.path) (Header.word ⟨1, x.peerFlow, f, y.seq, y.map, 0, y.attempt, y.last⟩) y.bytes

/-- The RoCEv2 request of a unit, or of the host's count (R376 to R378): partition key 0xFFFF. -/
def rdmaOut (s : State) (f port path kind u : Nat) (bytes : List Byte) : Out :=
  let x := s.flow f
  .rdma f { dataPacket s x port path with atPort := 4791 } kind x.qpn 0xFFFF x.rkey
    (if kind = 2 then x.hostCount else x.hostAddr + 4096 * (u % x.window)) bytes

/-! ## Sending -/

/-- The store entry of a unit. -/
def Flow.unit? (x : Flow) (u : Nat) : Option StoreUnit := x.store.find? (·.seq == u)

def Flow.putUnit (x : Flow) (y : StoreUnit) : Flow := { x with store := x.store.map fun z => if z.seq = y.seq then y else z }

/-- One stored unit is transmitted on the path of its attempt: as a DATA frame, or as an RDMA WRITE or READ request (R354, R377 to
R379, R575). -/
def transmit (s : State) (f u : Nat) : State :=
  let x := s.flow f
  match x.unit? u with
  | none => s
  | some y =>
    let p := pathFor s f u y.attempt
    let t := s.setFlow f (x.putUnit { y with path := p.1, port := p.2 })
    if p.2 = 9 then s.setFlow f (x.putUnit { y with port := 9 })
    else if x.kind = 7 then
      let v := t.emit (rdmaOut t f p.2 p.1 0 u y.bytes)
      if y.map = 0 then v else v.record 0x5080 9 [(0xD, 1)] (some (flowCase v 9 (if p.2 = 8 then none else some p.2) f))
    else if x.kind = 8 then t.emit (rdmaOut t f p.2 p.1 1 u [])
    else
      let v := t.emit (dataOut t f { y with path := p.1, port := p.2 })
      if y.map = 0 then v else v.record 0x50E0 3 [] (some (poisonCase 3 x.ctx 3 f))

/-- A retransmission (R370); while no path is usable the unit waits for one (R373). -/
def retransmit (s : State) (f u : Nat) : State :=
  let x := s.flow f
  match x.unit? u with
  | none => s
  | some y =>
    if (pathFor s f u (min 255 (y.attempt + 1))).2 = 9 then s.setFlow f (x.putUnit { y with port := 9 })
    else
      let z := { (x.putUnit { y with attempt := min 255 (y.attempt + 1), resent := true }) with retx := min 0xFFFF (x.retx + 1) }
      transmit ((s.setFlow f z).dcount 0x5080 4 1) f u

/-- The units of a flow that wait for a path take one, those never sent for the first time (R373). A parked flow sends nothing
(R372), and what a receive flow holds out of order is no frame to send. -/
def sendWaiting (s : State) (f : Nat) : State :=
  let x := s.flow f
  if !(x.state == flowOpen || x.state == flowClosing) || !(x.sends || x.kind == 8) then s
  else (x.store.filter (·.port == 9)).foldl (fun t y => if y.path = 255 then transmit t f y.seq else retransmit t f y.seq) s

/-- Units join the store and are sent for the first time; only the last carries `LAST` (R354). -/
def sendUnits (s : State) (f : Nat) (last : Bool) (us : List (List TByte)) : State :=
  let n := us.length
  us.zipIdx.foldl (fun t (bs, j) =>
    let x := t.flow f
    let map := ((List.range 64).filter fun i => anyTagged ((bs.drop (64 * i)).take 64)).foldl (fun m i => m + 2 ^ i) 0
    let y : StoreUnit := ⟨x.issued, bs.map (·.1), map, last && j + 1 == n, 0, 9, 255, false⟩
    transmit (t.setFlow f { x with issued := unitNext x.issued 1, store := x.store ++ [y] }) f x.issued) s

/-! ## Closing (R365) -/

/-- The flow becomes `CLOSED`: what it held is discarded. -/
def Flow.closed (x : Flow) : Flow := { x with state := flowClosed, store := [], landed := [] }

/-- A flow closes at once and tells its partner (R365). -/
def closeFlow (s : State) (f reason : Nat) : State :=
  let x := s.flow f
  if x.state = flowClosed then s
  else
    let t := s.setFlow f x.closed
    if x.live && !x.rdma then sendControl t f 2 reason 0 else t

/-- Every flow that passes a test closes with a reason, in ascending flow id. -/
def closeFlows (s : State) (reason : Nat) (p : Nat → Flow → Bool) : State :=
  (s.net.flows.filter fun e => p e.1 e.2).foldl (fun t e => closeFlow t e.1 reason) s

/-! ## Acknowledgement (R369) -/

/-- A unit has landed. -/
def Flow.hasLanded (x : Flow) (u : Nat) : Bool := unitAfter x.done u || x.landed.contains (u % 2 ^ 32)

/-- Units landed contiguously move into `UNITS_DONE`. -/
def Flow.settle (x : Flow) : Nat → Flow
  | 0 => x
  | n + 1 => if x.landed.contains x.done then
      Flow.settle { x with done := unitNext x.done 1, landed := serase x.landed x.done } n else x

/-- A unit is marked landed. -/
def Flow.mark (x : Flow) (u : Nat) : Flow :=
  let l := sinsert x.landed (u % 2 ^ 32)
  Flow.settle { x with landed := l } (l.length + 1)

/-- The limit a receiver grants never moves back (R367). -/
def Flow.grant (x : Flow) (limit : Nat) : Flow := if unitAfter limit x.credit then { x with credit := limit % 2 ^ 32 } else x

/-- `MAP` of a flow's next ACK: the landed ones of the 64 units after the next expected one. -/
def Flow.ackMap (x : Flow) : Nat :=
  ((List.range 64).filter fun i => x.landed.contains (unitNext x.done (1 + i))).foldl (fun m i => m + 2 ^ i) 0

/-- The ACK of a receive flow on a port (R353, R369). -/
def ackOut (s : State) (f port : Nat) : Out :=
  let x := s.flow f
  .ack f (controlPacket s x port) (Header.word ⟨2, x.peerFlow, f, x.done, x.ackMap, x.credit, 0, false⟩)

/-- An ACK leaves for a receive flow, on the port of the frame that prompted it. -/
def sendAck (s : State) (f port : Nat) : State := (s.setFlow f { s.flow f with unacked := 0 }).emit (ackOut s f port)

/-! ## Waits of network slots (R202, R360, R368) -/

/-- The flow is of another context or of a kind the operation cannot use. -/
def kindMismatch (x : Flow) (c : Nat) (kinds : List Nat) : Bool := x.kind != 0 && (x.ctx != c || !kinds.contains x.kind)

/-- A network operation waits in class `k`; the first cycle of its wait on a mismatched flow is recorded (R360), also where the bundle's
other network slot waits beside it. -/
def netWait (c k f : Nat) (kinds : List Nat) (s : State) : State :=
  let t := if !(s.ctx c).mismatched.contains f && kindMismatch (s.flow f) c kinds then
      (s.record 0x5080 5 [] (some (slotCase s 5 f c))).setCtx c fun x => { x with mismatched := x.mismatched ++ [f] }
    else s
  waitLowest c k (waitIn c k) t

/-- The fields of a network slot that the load check accepts (R201, R208). -/
def netLegal (s : State) (c f buffer offset length last : Nat) : Bool :=
  tenantFlow s (tenantOf s c) f && decide (f < 2 ^ 18) && decide (buffer < 4096) && decide (offset < 4096) &&
    decide (length < 1024) && decide (last < 2)

/-- NET_SEND (R202, R366). -/
def execNetSend (c f buffer offset length last : Nat) (touch : Touch) (s : State) : Host.Outcome State Fault Refusal :=
  let x := s.flow f
  if !s.running c then .next s
  else if !netLegal s c f buffer offset length last then .fault .reservedEncoding
  else if length = 0 then .next s
  else if kindMismatch x c [1, 7] || !x.sends then .next (netWait c 7 f [1, 7] s)
  else if !holdsCredit s f length then .next (netWait c 7 f [1, 7] (s.setFlow f { x with wanted := length }))
  else
    let t := senseAll 3 (s.setFlow f { x with wanted := 0 }) touch.errors
    let b := (t.ctx c).buffer buffer
    .next (sendUnits t f (last == 1) ((List.range length).map fun j => (readBuffer t c b (4096 * (offset + j)) 4096).1))

/-- A flow of the context brings the summaries of a set. -/
def summaryFlow (s : State) (c f : Nat) : Bool :=
  (List.range 8).any fun n =>
    let d := s.flow (s.dget (0x6010 + n) 9)
    s.dget (0x6010 + n) 4 == c && d.kind == 5 && d.engine == 1 && d.peerFlow == f

/-- `STEP_VETO` takes the `VETO` bit of the summary in unit `u` of the flow (R396). -/
def takeVeto (s : State) (c f u : Nat) : State :=
  let x := s.flow f
  if x.kind = 2 ∧ summaryFlow s c f then
    let b := readLe s (((s.ctx c).buffer x.buffer).address + 4096 * (u % x.window)) 64
    if bits b 0 4 = 3 then s.setCtx c fun y => { y with veto := bit b 4 } else s
  else s

/-- NET_RECV (R202, R367, R368, R396). -/
def execNetRecv (c f buffer offset length last : Nat) (s : State) : Host.Outcome State Fault Refusal :=
  let x := s.flow f
  if !s.running c then .next s
  else if !netLegal s c f buffer offset length last then .fault .reservedEncoding
  else if length = 0 then .next s
  else if kindMismatch x c [2, 8] || !x.receives || x.state != flowOpen ||
      !((List.range length).all fun i => x.hasLanded (unitNext x.issued i)) then .next (netWait c 6 f [2, 8] s)
  else
    let bad := x.buffer != buffer || offset != x.issued % x.window || decide (x.window < offset + length)
    let v := takeVeto s c f (unitNext x.issued (length - 1))
    let t := v.setFlow f { x with covered := x.issued, issued := unitNext x.issued length }
    .next (if bad then t.record 0x5080 4 [(7, 1)] (some (slotCase t 4 f c)) else t)

/-- RECEIVE_UNITS_FREED (R367): the units that the receive before the last covered are free, and the limit rises. -/
def execReceiveUnitsFreed (f : Nat) (s : State) : Host.Outcome State Fault Refusal :=
  let x := s.flow f
  if x.state = flowOpen ∧ (x.kind = 2 ∨ x.kind = 8) ∧ unitAfter x.covered x.freed = true then
    .next (s.setFlow f ({ x with freed := x.covered }.grant (x.covered + x.window)))
  else .next s

end Sys2Proof.Machine
end

