-- ==== Sys2Proof/Machine/Queues.lean ====
section
/-! DEFINITION. Block queues and Plazas (spec/05_bundle_reference.md R203 to R206; spec/06_avenues_plaza.md R218 to R234). -/

namespace Sys2Proof.Machine

/-! ## Queues -/

/-- `QUEUE_CLOSED_FIRST` of a case (R234): kind 0 a send, 1 a receive. -/
def queueCase (s : State) (c kind p q : Nat) : Nat := s.pc c * 2 ^ 32 + c * 2 ^ 28 + kind * 2 ^ 27 + p * 2 ^ 16 + q

/-- The block whose queue a send of logical block `l` targets (R205). -/
def queueTarget (x : Ctx) (l delta : Nat) : Option Nat :=
  let r := (l : Int) + sext 11 delta
  if 0 ≤ r then x.phys r.toNat else none

/-- Lanes 16 × `part` to 16 × `part` + 15. -/
def partLanes (l : List Lane) (part : Nat) : List Lane := (l.drop (16 * part)).take 16

/-- An entry's tag (R118). -/
def queueTag (fmt last : Nat) (poison : Bool) : Nat := fmt * 16 + b2n poison * 8 + last * 4

/-- One block's send: the payload joins its target's queue, or is discarded where that is closed (R221). -/
def sendOne (c q delta vreg part fmt last : Nat) (a : Actor) (s : State) : State :=
  match queueTarget (s.ctx c) a.logical delta with
  | none => s
  | some t =>
    let x := (s.block t).queue q
    let l := partLanes ((s.block a.phys).vreg vreg) part
    if x.closed then s.record 0x5040 0 [(2, 1)] (some (queueCase s c 0 t q))
    else s.setBlock t fun b => b.setQueue q { x with
      entries := x.entries ++ [⟨(laneBytes l).map (·.1), queueTag fmt last (l.any (·.poison))⟩] }

/-- The condition of class 3: every open target queue has a free entry (R219, R221). -/
def sendsFit (s : State) (c q delta : Nat) (as : List Actor) : Bool :=
  as.all fun a => match queueTarget (s.ctx c) a.logical delta with
    | none => true
    | some t => let x := (s.block t).queue q; x.closed || decide (x.entries.length < 64)

/-- Q_SEND (R205, R206, R218, R221). -/
def execQSend (c sel pred q delta vreg part fmt last : Nat) (s : State) : Host.Outcome State Fault Refusal :=
  if !s.running c then .next s
  else if !(headerOk s c sel pred && regs [vreg] && decide (q < 16) && decide (delta < 2 ^ 11) && decide (part < 4) &&
      decide (fmt < 12) && decide (last < 2)) then .fault .reservedEncoding
  else if !sendsFit s c q delta (actors s c sel pred) then .next (waitLowest c 3 (waitIn c 3) s)
  else .next ((actors s c sel pred).foldl (fun t a => sendOne c q delta vreg part fmt last a t) s)

/-- One block's receive: the head entry leaves the queue and fills 16 lanes (R206, R220). -/
def recvOne (q vreg part : Nat) (a : Actor) (s : State) : State :=
  s.setBlock a.phys fun b =>
    let x := b.queue q
    match x.entries with
    | [] => b
    | e :: r =>
      let l := lanesOf 16 (e.payload.map fun y => (y, bit e.tag 3))
      let v := b.vreg vreg
      (b.setQueue q { x with head := (x.head + 1) % 64, entries := r }).setVreg vreg
        (v.take (16 * part) ++ l ++ v.drop (16 * part + 16))

/-- A receive begins to wait on a closed queue that holds no entry (R222). -/
def recvClosed (s : State) (c q : Nat) (as : List Actor) : State :=
  if s.dget (0x4030 + c) 2 = 2 then s
  else match as.find? fun a => let x := (s.block a.phys).queue q; x.closed && x.entries.isEmpty with
    | none => s
    | some a => s.record 0x5040 1 [(3, 1)] (some (queueCase s c 1 a.phys q))

/-- Q_RECV (R205, R206, R219, R220, R222). -/
def execQRecv (c sel pred q vreg part : Nat) (touch : Touch) (s : State) : Host.Outcome State Fault Refusal :=
  if !s.running c then .next s
  else if !(headerOk s c sel pred && regs [vreg] && decide (q < 16) && decide (part < 4)) then .fault .reservedEncoding
  else
    let as := actors s c sel pred
    if as.all fun a => !((s.block a.phys).queue q).entries.isEmpty then
      .next (as.foldl (fun t a => recvOne q vreg part a t) (senseAll 0 s touch.errors))
    else .next (waitLowest c 2 (waitIn c 2) (recvClosed s c q as))

/-- Q_CLOSE (R221). -/
def execQClose (c sel pred q : Nat) (s : State) : Host.Outcome State Fault Refusal :=
  inBlocks c sel pred (decide (q < 16)) (fun a t => t.setBlock a.phys fun b => b.setQueue q { b.queue q with closed := true })
    s

/-! ## Plazas -/

/-- The key of a source slot of a sum register of a physical Plaza. -/
def plazaKey (plaza reg slot : Nat) : Nat := 4096 * plaza + 64 * reg + slot

/-- Contributions that a Plaza's slack holds (R226). -/
def slackUsed (s : State) (plaza : Nat) : Nat := (s.plaza.filter fun e => e.1 / 4096 == plaza).length

/-- The present slots of a register, ascending. -/
def plazaSlots (s : State) (plaza reg : Nat) : List Contribution :=
  (s.plaza.filter fun e => e.1 / 64 == 64 * plaza + reg).map (·.2)

/-- One block's contribution is read and accepted (R204, R228). -/
def contribute (c sel plaza slotBase bank row half sum : Nat) (a : Actor) (s : State) : State :=
  let r := readRow s a.phys bank ((s.block a.phys).rowOf ((s.ctx c).desc sel).selA row)
  let l := lanesOf 16 ((r.1.drop (64 * half)).take 64)
  { r.2 with plaza := kset r.2.plaza (plazaKey plaza sum (slotBase + a.rank)) ⟨l.map (·.bits), l.any (·.poison)⟩ }

/-- PLAZA_SEND (R203, R204, R228): every selected block reserves slack, whatever its predicate. -/
def execPlazaSend (c plaza sel pred slotBase bank row half sum : Nat) (touch : Touch) (s : State) :
    Host.Outcome State Fault Refusal :=
  let n := (selectedActors (s.ctx c) sel).length
  if !s.running c then .next s
  else if !(headerOk s c sel pred && decide (plaza < 16) && decide (slotBase < 64) && decide (slotBase + n ≤ 64) &&
      decide (bank < 16) && decide (row < 64) && decide (half < 2) && decide (sum < 64)) then .fault .reservedEncoding
  else match kfind (s.ctx c).plazas plaza with
    | none => .next s
    | some pl =>
      if 64 < slackUsed s pl + n then .next (waitLowest c 5 (waitIn c 5) s)
      else .next ((actors s c sel pred).foldl (fun t a => contribute c sel pl slotBase bank row half sum a t)
        (senseAll 0 s touch.errors))

/-- A contribution's lane as an operand of the combination. -/
def plazaLane (x : Contribution) (l : Nat) : LaneResult :=
  let v := (x.lanes.getD l 0).toNat
  ⟨v, x.poison, if x.poison then .none else .of (inputFlags [dec32 v])⟩

/-- Lane `l` of a register's sum, in ascending slot order (R230): +0 with no slot; a NaN is canonical. -/
def plazaSum (xs : List Contribution) (l : Nat) : LaneResult :=
  match xs.map (plazaLane · l) with
  | [] => ⟨0, false, .none⟩
  | a :: r =>
    let t := r.foldl (pairStep sumPair) a
    if (dec32 t.value).isNan then { t with value := canonicalNan fp32 } else t

/-- Every slot of a register is cleared and its slack released (R228). -/
def clearPlaza (plaza reg : Nat) (s : State) : State :=
  { s with plaza := s.plaza.filter fun e => e.1 / 64 != 64 * plaza + reg }

/-- The drain block's part (R230, R231): its bank, flags and records. -/
def drainInto (c sel plaza bank row half sum : Nat) (touch : Touch) (a : Actor) (s : State) : State :=
  let xs := plazaSlots s plaza sum
  let rs := (List.range 16).map (plazaSum xs)
  let bad := xs.any (·.poison)
  let r := (s.block a.phys).rowOf ((s.ctx c).desc sel).selOut row
  let t := if xs.isEmpty then s.dcount 0x5040 5 1 else s
  let u := t.arith a.phys (Events.all (rs.map (·.events)))
  let v := if bad then
      (u.record 0x5040 2 [(6, 1)] none).record 0x50E0 2 [(2, 1)] (some (poisonCase 2 c 1 plaza))
    else u
  let w := writeRow v touch a.phys bank r (64 * half) (laneBytes (rs.map fun y => ⟨BitVec.ofNat 32 y.value, bad⟩))
  w.nonfinite a.phys (if r < 768 && !bad then badLanes (rs.map fun y => ⟨BitVec.ofNat 32 y.value, false⟩) else 0)

/-- PLAZA_DRAIN (R204, R228, R230): a block whose predicate is 0 drops only its write, flags and records. -/
def execPlazaDrain (c plaza sel pred bank row half sum : Nat) (touch : Touch) (s : State) :
    Host.Outcome State Fault Refusal :=
  if !s.running c then .next s
  else if !(headerOk s c sel pred && decide (plaza < 16) && (((s.ctx c).desc sel).selected.length == 1) &&
      decide (bank < 16) && decide (row < 64) && decide (half < 2) && decide (sum < 64)) then .fault .reservedEncoding
  else match kfind (s.ctx c).plazas plaza with
    | none => .next s
    | some pl =>
      whenCopied c ((actors s c sel pred).map fun a =>
          bankGranule a.phys ((s.block a.phys).rowOf ((s.ctx c).desc sel).selOut row)) s fun t =>
        .next (clearPlaza pl sum ((actors t c sel pred).foldl (fun u a => drainInto c sel pl bank row half sum touch a u) t))

end Sys2Proof.Machine
end

