-- ==== Sys2Proof/Machine/Contexts.lean ====
section
/-! DEFINITION. What happens to a context's blocks, Plazas, flows and bindings when it is unloaded, started or stopped
(spec/01_architecture.md R40 to R42; spec/03_blocks.md R124; spec/04_stream_model.md R147; spec/06_avenues_plaza.md R223;
spec/07_stage_execution.md R250; spec/08_zoning.md R298). -/

namespace Sys2Proof.Machine

/-! ## Power states of blocks (R124) -/

/-- A spare that mirrors a block is `ON` (R296). -/
def mirroring (s : State) (p : Nat) : Bool := s.zoning.evac.any fun e => e.phase != 0 && districtSpare e.block == p

/-- A physical block that a resident or parked tenant binds (R453). -/
def blockHeld (s : State) (p : Nat) : Bool :=
  (boundBy s p).isSome || s.parked.any fun e => e.2.context.blocks.any (·.2 == p)

/-- 0 `OFF`, 1 `RETAIN`, 2 `ON`. -/
def blockPower (s : State) (p : Nat) : Nat :=
  if blockHeld s p || mirroring s p then 2
  else if (s.modState == .ready || (s.power.state == .survey && s.power.blocksDone)) && decide (healthOf s p ≤ 1) then 1 else 0

/-- After a change of power states: what left `ON` and `RETAIN` is lost, and what left `OFF` is initialised (R124). -/
def settlePower (was s : State) : State :=
  let t := loseBlocks s fun p => blockPower was p != 0 && blockPower s p == 0
  eraseBlocks t fun p => blockPower was p == 0 && blockPower s p != 0

/-! ## Save areas (R25, R453) -/

/-- Bytes of a tenant's save area and arrival buffer (R453, R454): none where its partition is home to one tenant. -/
def carvedBytes (s : State) (c t blocks : Nat) : Nat :=
  if (homed s c).length < 2 then 0
  else blocks * (1572864 + 115968) + pagesOf s c * pageBytes + 65536 + popCount 16 (s.dget (0x6060 + c) 4) * 4608 +
    128 * s.dget (0x6070 + t) 0xE

/-- Logical blocks that a tenant binds, resident or parked. -/
def tenantBlocks (s : State) (t : Nat) : Nat := match kfind s.parked t with
  | some p => p.context.blocks.length
  | none =>
    let c := s.dget (0x6070 + t) 1
    if s.resident c = some t then (s.ctx c).blocks.length else 0

/-- First byte, and the byte past the last, of the save area and arrival buffer of a tenant: at the top of its Bedrock while it is
loaded. -/
def saveArea (s : State) (t : Nat) : Nat × Nat :=
  let top := bedrockStart s t + tenantBedrock s t
  if s.tenantState t = 0 then (top, top) else (top - carvedBytes s (s.dget (0x6070 + t) 1) t (tenantBlocks s t), top)

/-- `n` bytes from `a` touch a save area. -/
def meetsSave (s : State) (a n : Nat) : Bool :=
  (List.range 8).any fun t => decide (a < (saveArea s t).2) && decide ((saveArea s t).1 < a + n)

/-! ## Evacuations that end early (R298) -/

/-- Every queued block of a context leaves the queue, each case counted. -/
def dropEvac (s : State) (c kind : Nat) : State :=
  let mine := s.zoning.evac.filter fun e => (boundBy s e.block).any (·.1 == c)
  let t := mine.foldl (abandonEvac kind) s
  { t with zoning := { t.zoning with evac := t.zoning.evac.filter fun e => !mine.contains e } }

/-- A stop of a context while its evacuation window is open: armed blocks stay armed (R298). -/
def stopWindow (s : State) (c : Nat) : State :=
  if (s.ctx c).window then
    let armed := s.zoning.evac.filter fun e => e.phase == 3 && (boundBy s e.block).any (·.1 == c)
    let t := (armed.foldl (abandonEvac 1) s).setCtx c fun x => { x with window := false }
    { t with zoning := { t.zoning with evac := t.zoning.evac.map fun e => if armed.contains e then { e with phase := 2 } else e } }
  else s

/-! ## Cairn at the end of a run (R419, R423, R427, R435) -/

/-- `CAIRN_RECORD_FIRST` of a case (R446). -/
def cairnCase (reason detail c : Nat) (generation : Option Nat) : Nat :=
  reason * 2 ^ 60 + detail * 2 ^ 56 + c * 2 ^ 32 + generation.getD (ones 32)

/-- A request that waits for its cut wait is discarded (R419). -/
def abandonCut (s : State) (c : Nat) : State :=
  if (s.cairnOf c).armed.isSome then
    (s.setCairn c fun y => { y with armed := none }).record 0x50A0 1 [(3, 1)] (some (cairnCase 1 0 c none))
  else s

/-- A fast copy that has not ended stops, and its slot is empty (R427). -/
def abandonCopy (s : State) (c : Nat) : State :=
  match (s.cairnOf c).copying with
  | none => s
  | some k =>
    let g := (kfind (s.cairnOf c).slots k).map (·.generation)
    (s.setCairn c fun y => { y with copying := none, slots := kerase y.slots k }).record 0x50A0 1 [(3, 1)]
      (some (cairnCase 1 0 c g))

/-- A drain ends as failed (R435). -/
def failDrain (s : State) (c : Nat) : State :=
  match (s.cairnOf c).drain with
  | none => s
  | some d =>
    let g := (kfind (s.cairnOf c).slots d.slot).map (·.generation)
    (s.setCairn c fun y => { y with drain := none }).record 0x50A0 3 [(5, 1)] (some (cairnCase 3 0 c g))

/-! ## Unloading (R41, R250) -/

/-- The program-bound cells of a context return to their defaults (R166, R264). -/
def clearProgramCells (s : State) (c : Nat) : State :=
  { s with dict := s.dict.filter fun e => !(keyPersist e.1 == .program && entryContext (e.1 / 256) == some c) }

/-- The store pages of a context are cleared (R129). -/
def clearStore (s : State) (c : Nat) : State := eraseBytes s (bundleAddress s c 0) (pagesOf s c * 131072)

/-- The contributions in a context's Plazas are discarded. -/
def clearPlazas (s : State) (c : Nat) : State :=
  let mine := (s.ctx c).plazas.map (·.2)
  { s with plaza := s.plaza.filter fun e => !mine.contains (e.1 / 4096) }

/-- A tenant's program flows close (R41, R365, R452). -/
def closeTenantFlows (s : State) (t reason : Nat) : State :=
  closeFlows s reason fun f x => flowTenant s f == some t && !x.ofEngine

/-- A context is unloaded: its program, bank and queue contents and bindings are discarded and its flows close with `reason`
(R41, R224, R250, R365); Cairn's copy, drain and waiting cut end (R419, R427, R435). -/
def unloadContext (s : State) (c reason : Nat) : State :=
  let a := failDrain (abandonCopy (abandonCut s c) c) c
  let b := clearPlazas (dropEvac a c 3) c
  let mine := (b.ctx c).blocks.map (·.2)
  let d := closeTenantFlows (loseBlocks b mine.contains) (tenantOf s c) reason
  let e := clearStore (clearProgramCells d c) c
  State.setCairn { e with contexts := kerase e.contexts c } c fun y =>
    { y with restore := none, restored := none, failed := false, started := false, serving := [] }

/-! ## Starting (R147, R223, R250) -/

/-- The queues of a block open and keep their entries. -/
def Block.openQueues (b : Block) : Block := { b with queues := b.queues.map fun e => (e.1, { e.2 with closed := false }) }

/-- The base registers that `LOAD` wrote for a logical block. -/
def Ctx.loadedBases (x : Ctx) (l : Nat) : List (Nat × BaseReg) :=
  (x.baseInit.filter fun e => e.1 / 16 == l).map fun e => (e.1 % 16, e.2)

/-- `START` for each bound block (R147, R223). -/
def Block.start (b : Block) (x : Ctx) (l : Nat) : Block :=
  { b.openQueues with preds := 0, srIndex := 0, changes := [], bases := x.loadedBases l }

def overBlocks (s : State) (c : Nat) (f : Nat → Block → Block) : State :=
  (s.ctx c).blocks.foldl (fun t e => t.setBlock e.2 (f e.1)) s

/-- A new run of the program begins (R147, R149, R250): the stream state at `START_BEAT` `b`. -/
def newRun (s : State) (c b : Nat) : State :=
  let x := s.ctx c
  let t := overBlocks s c fun l y => y.start x l
  (t.dsets [(0x4030 + c, 1, x.entry), (0x4030 + c, 2, 0), (0x4030 + c, 3, b), (0x4030 + c, 4, b), (0x4030 + c, 5, 0), (0x4060 + c, 5, 0)]).setCtx c
    fun y => { y with loops := [], backlog := [], keyBeat := b, slots := [], holding := none, working := [], stash := [], window := false,
                      switched := [], trying := [] }

end Sys2Proof.Machine
end

