-- ==== Sys2Proof/Machine/Evacuation.lean ====
section
/-! DEFINITION. Row migration, scrubbing, evacuation and the operator's marks on blocks (spec/03_blocks.md R94 to R99;
spec/08_zoning.md R292 to R304). -/

namespace Sys2Proof.Machine

/-! ## Migration and scrubbing -/

/-- The engine ports of a block are reserved for an evacuation in an open window (R297). -/
def portsReserved (s : State) (p : Nat) : Bool :=
  s.zoning.evac.any fun e => e.phase == 3 && (e.block == p || districtSpare e.block == p)

/-- The copying migration of entry `i` ends: the spare holds the row (R97). -/
def finishMigration (s : State) (p bank i : Nat) : State :=
  let row := (s.remapEntry p bank i).target
  adoptSpare (writeTagged s (spareAddress p bank i) (readTagged s (readTarget s p bank row) 128)) p bank i

/-- ROW_MIGRATION (R97): entry `i` of a bank's remap table is copied and becomes `IN_USE`. A write to the spare that meets a program
write of the row is dropped and counted (R101, R103). -/
def execRowMigration (p bank i : Nat) (touch : Touch) (s : State) : Host.Outcome State Fault Refusal :=
  if (s.remapEntry p bank i).state = 1 ∧ portsReserved s p = false then
    let row := (s.remapEntry p bank i).target
    .next (suppressed (finishMigration (senseAll 7 s touch.errors) p bank i) touch p bank row 0 128)
  else .next s

/-- The ordinary row that a row or an `IN_USE` spare row (768 + i) stands for. -/
def servedRow (s : State) (p bank row : Nat) : Nat := if 768 ≤ row then (s.remapEntry p bank (row - 768)).target else row

/-- PATROL_SCRUB (R99): a corrected row is written back as corrected, which is as `State` holds it, so only the counts and marks
change; a write-back that meets a program write of the row is dropped and counted (R101, R103). -/
def execPatrolScrub (touch : Touch) (s : State) : Host.Outcome State Fault Refusal :=
  if s.dget 0x7020 2 = 0 then .next s
  else
    let mine := touch.errors.filter fun e => e.place == 0 && blockPower s e.block != 0
    .next ((mine.filter (·.sensed.isNone)).foldl (fun t e =>
        suppressed t touch e.block e.unit (servedRow s e.block e.unit e.row) 0 128) (senseAll 7 s mine))

/-! ## Evacuation -/

/-- EVAC_REQUEST (R303): a block that no program binds, and 0xFFFF, change nothing. -/
def execEvacRequest (r : Requester) (value : Nat) (s : State) : Host.Outcome State Fault Refusal :=
  .next (guardedWrite s r 0x7050 1 2 value fun t => (0, queueEvacuation t value))

/-- The rows of a block that hold a byte or a mark, by 768 × bank + row. -/
def listedRows (s : State) (p : Nat) : List Nat :=
  let plain := fun a => if p * windowBytes ≤ a ∧ a < p * windowBytes + banksBytes then
      let o := a - p * windowBytes
      [o / bankBytes * 768 + o % bankBytes / 128] else []
  let spares := (s.zoning.remap.filter fun e => e.1 / 256 == p && e.2.state == 2 && decide (e.2.target < 768)).map fun e => e.1 / 16 % 16 * 768 + e.2.target
  ((s.mem.flatMap fun e => plain e.1) ++ (s.poison.flatMap plain) ++ spares).foldl sinsert []

/-- The mirror copy (R296): every row of block `p` to the same row of block `q`, remapped rows through their spares. -/
def mirrorBlock (s : State) (p q : Nat) : State :=
  (listedRows s p).foldl (fun t k =>
    let bs := readTagged t (readTarget t p (k / 768) (k % 768)) 128
    (writeTargets t q (k / 768) (k % 768)).foldl (fun u a => writeTagged u a bs) t) (loseBlocks s (· == q))

/-- An entry leaves the evacuation queue. -/
def unqueue (s : State) (e : Evac) : State :=
  { s with zoning := { s.zoning with evac := s.zoning.evac.filter fun x => x.block != e.block } }

def setPhase (s : State) (p v : Nat) : State :=
  { s with zoning := { s.zoning with evac := s.zoning.evac.map fun x => if x.block = p then { x with phase := v } else x } }

/-- An error of the mirror copy's reads: of a row of the source block as it serves, ordinary or spare (R296). -/
def mirrorRead (s : State) (p : Nat) (e : ReadError) : Bool :=
  e.place == 0 && e.block == p && (if 768 ≤ e.row then (s.remapEntry p e.unit (e.row - 768)).state == 2
    else (remapOf s p e.unit e.row 2).isNone)

/-- The read senses uncorrectable (R91). -/
def sensesBad (s : State) (e : ReadError) : Bool := match e.sensed with
  | none => false
  | some bs => judgeWord e.unit e.row (memRead s.mem (storedAddress e.block e.unit e.row) 128) bs == .uncorrectable

/-- The mirror's writes that program writes of the same rows suppress are counted (R97 step 3, R103, R296). -/
def mirrorSuppressed (s : State) (p : Nat) (t : Touch) : State :=
  (((t.met.filter fun x => x.2 != 0 && x.1 / windowBytes == p).map (·.1)).foldl sinsert []).foldl
    (fun u _ => u.record 0x5021 1 [(4, 1)] none) s

/-- EVAC_PREPARE (R296): the first queued block that a resident tenant binds is mirrored into its spare and armed; a row that senses
uncorrectable, ordinary or remapped, goes to a spare row of the spare block, which counts as a migration started there (assumption 65).
A spare no longer healthy ends it (R298). -/
def execEvacPrepare (touch : Touch) (s : State) : Host.Outcome State Fault Refusal :=
  match s.zoning.evac.find? fun e => e.phase == 0 && (boundBy s e.block).isSome && (boundBy s (districtSpare e.block)).isNone with
  | none => .next s
  | some e =>
    let q := districtSpare e.block
    if healthOf s q ≠ 0 then .next (abandonEvac 2 (unqueue s e) e)
    else
      let mine := touch.errors.filter (mirrorRead s e.block)
      let t := mirrorSuppressed (mirrorBlock (senseAll 7 s mine) e.block q) e.block touch
      let bad := (mine.filter (sensesBad s)).map fun x => (x.unit, servedRow s e.block x.unit x.row)
      .next (setPhase (bad.foldl (fun u x => startMigration u q x.1 x.2 true) t) e.block 2)

/-- The transient state is copied and the binding switched (R297); the source is `OFF`. -/
def switchBlock (s : State) (c : Nat) (e : Evac) : State :=
  let q := districtSpare e.block
  if healthOf s q ≠ 0 then abandonEvac 2 (unqueue s e) e
  else
    let was := s
    let t := (s.setBlock q fun _ => s.block e.block).setCtx c fun x =>
      { x with blocks := x.blocks.map fun b => if b.2 = e.block then (b.1, q) else b }
    State.record (settlePower was (unqueue t e)) 0x5060 0 [(2, 1)] none

/-- EVAC_SWITCH (R297): every block of the context that was armed when the window opened evacuates in it. -/
def execEvacSwitch (c : Nat) (s : State) : Host.Outcome State Fault Refusal :=
  if (s.ctx c).window then
    let mine := s.zoning.evac.filter fun e => e.phase == 3 && (boundBy s e.block).any (·.1 == c)
    .next ((mine.foldl (fun t e => switchBlock t c e) s).setCtx c fun x => { x with window := false })
  else .next s

/-! ## The operator's marks (R300, R304) -/

/-- A block's health changes; one that leaves `RETAIN` loses its contents (R124). -/
def markBlock (s : State) (p v : Nat) : State := if p = 0xFFFF then s else settlePower s (setHealth s p v)

/-- MAP_OUT (R300). -/
def execMapOut (r : Requester) (value : Nat) (s : State) : Host.Outcome State Fault Refusal :=
  .next (guardedWrite s r 0x7030 3 2 value fun t => (0, markBlock t value 3))

/-- RETURN_TO_SERVICE (R276, R300): remap tables are kept. -/
def execReturnToService (r : Requester) (value : Nat) (s : State) : Host.Outcome State Fault Refusal :=
  .next (guardedWrite s r 0x7030 4 2 value fun t => (0, markBlock t value 0))

end Sys2Proof.Machine
end

