-- ==== Sys2Proof/Machine/Access.lean ====
section
/-! DEFINITION. Accesses by device address from PCIe and Garnet (spec/01_architecture.md R22 to R27; spec/03_blocks.md R124;
spec/18_faults.md R571, R578). -/

namespace Sys2Proof.Machine

/-! ## Where a device address leads -/

/-- A byte of a block window: unpopulated beyond the banks, and while the block is `OFF` (R24, R26, R124). -/
def bankKey (s : State) (p off : Nat) : Option Nat :=
  if off < banksBytes ∧ blockPower s p ≠ 0 then
    some (readTarget s p (off / bankBytes) (off % bankBytes / 128) + off % bankBytes % 128)
  else none

/-- The physical block and offset that an address in a block window names, logical windows as context `c` binds them. -/
def windowAt (s : State) (c a : Nat) : Option (Nat × Nat) :=
  if a < blockEnd then some (a / windowBytes, a % windowBytes)
  else if logicalBase ≤ a ∧ a < logicalBase + 1024 * windowBytes then
    ((s.ctx c).phys ((a - logicalBase) / windowBytes)).map fun p => (p, a % windowBytes)
  else none

/-- The memory byte that an address names, `none` where nothing stands, or one of the module's reserves (R25). -/
def memKey (s : State) (c a : Nat) : Option Nat :=
  match windowAt s c a with
  | some w => bankKey s w.1 w.2
  | none =>
    if squareBase ≤ a ∧ a < squareEnd then some a
    else if storeBase ≤ a ∧ a < storeEnd then some a
    else if bedrockBase ≤ a ∧ a < bedrockTop s ∧ meetsSave s a 1 = false then some a
    else none

/-- The lowest of `n` bytes from `a` that passes a test. -/
def lowestByte (a n : Nat) (p : Nat → Bool) : Option Nat := (rangeFrom a n).find? p

/-- An access under R26 or R27 is counted: `flag` 0 PCIe, 1 Garnet, 2 engines, 3 a discarded write in RUNNING. -/
def unmapped (s : State) (flag a : Nat) : State := s.record 0x5001 flag [(2, 1)] (some a)

/-- The lowest of `n` bytes from `a` that nothing answers. -/
def unmappedByte (s : State) (c a n : Nat) : Option Nat := lowestByte a n fun x => (memKey s c x).isNone

/-! ## Reads -/

/-- The tagged bytes of an access that is mapped throughout. -/
def readKeys (s : State) (c a n : Nat) : List TByte :=
  (rangeFrom a n).map fun x => match memKey s c x with
    | some k => (memByte s.mem k, poisoned s k)
    | none => (0, false)

/-- A read that returns poison sets `HOST_POISON` (R578, R582): `unit` 5 PCIe, 6 Garnet. -/
def hostPoison (s : State) (unit a : Nat) (bs : List TByte) : State :=
  match bs.findIdx? (·.2) with
  | none => s
  | some i => s.record 0x50E0 5 [] (some (poisonCase 5 0 unit (a + i)))

/-- A read by device address: the bytes, `none` where part of it is unmapped. -/
def deviceRead (s : State) (unit c a n : Nat) : Option (List TByte) × State :=
  match unmappedByte s c a n with
  | some x => (none, unmapped s (unit - 5) x)
  | none =>
    let bs := readKeys s c a n
    (some bs, hostPoison s unit a bs)

/-! ## Writes -/

/-- The block of a window is bound to the program that runs (R27). -/
def runningBlock (s : State) (c a : Nat) : Bool :=
  match windowAt s c a with
  | none => false
  | some w => s.modState == .running && (boundBy s w.1).any fun b => s.running b.1

/-- Bytes written within one bank row, to the row, its migration's spare and an evacuation's mirror. -/
def writeWindow (s : State) (p off : Nat) (bs : List TByte) : State :=
  storeRow s p (off / bankBytes) (off % bankBytes / 128) (off % bankBytes % 128) bs

/-- `bs` cut at the 128 B rows that it crosses when written at `off`. -/
def rowPieces (off : Nat) (bs : List TByte) : List (Nat × List TByte) :=
  (List.range ((off % 128 + bs.length + 127) / 128)).map fun i =>
    let lo := if i = 0 then off else off / 128 * 128 + 128 * i
    (lo, (bs.drop (lo - off)).take (off / 128 * 128 + 128 * (i + 1) - lo))

/-- A write by device address; the store is read only. One that touches an unmapped byte (R26) and a running program's window (R27) is
recorded as unmapped alone (assumption 63). -/
def deviceWrite (s : State) (unit c a : Nat) (bs : List TByte) : State :=
  let n := bs.length
  match unmappedByte s c a n with
  | some x => unmapped s (unit - 5) x
  | none =>
    match lowestByte a n (runningBlock s c) with
    | some x => unmapped s 3 x
    | none =>
      if storeBase ≤ a ∧ a < storeEnd then s
      else
        let t := hostPoison s unit a bs
        match windowAt s c a with
        | none => writeTagged t a bs
        | some w => (rowPieces w.2 bs).foldl (fun u e => writeWindow u w.1 e.1 e.2) t

end Sys2Proof.Machine
end

