-- ==== Sys2Proof/Machine/FaultOps.lean ====
section
/-! DEFINITION. Entering FAULTED (spec/18_faults.md R565 to R568; spec/01_architecture.md R39, R42). -/

namespace Sys2Proof.Machine

/-- The log entry of a fatal cause (R567, R568). -/
def logCause (s : State) (cause detail : Nat) : State := s.log 0x5000 1 3 cause (detail % 2 ^ 32)

/-- Causes after which Garnet performs `RESET` 100 ms later (R565). -/
def resetsAfter (cause : Nat) : Bool := cause == 3 || cause == 4 || cause == 5

/-- Both slabs are held in reset: every context, block, contribution and evacuation is lost, and every reduction set is unformed
(R42, R298, R390, R567). -/
def slabsLost (s : State) : State :=
  let a := s.zoning.evac.foldl (abandonEvac 1) s
  let b := (List.range 4).foldl (fun t c => failDrain t c) a
  let d := loseBlocks { b with zoning := { b.zoning with evac := [] } } fun _ => true
  (List.range 4).foldl (fun t c => t.setCairn c fun y => { Cairn.empty with policies := y.policies })
    { d with plaza := [], contexts := [], parked := [], tenancy := Tenancy.empty
             dict := dropIndices (keepCells d.dict fun p => p != .program) 0x6010 0x6017
             sets := d.sets.map fun e => (e.1, { RedSet.empty with members := e.2.members }) }

/-- Every tenant becomes `EMPTY` and no partition has a resident (R470, R567). -/
def emptyTenants (s : State) : State :=
  let t := (List.range 8).foldl (fun t i => setTenantState t i 0) s
  (List.range 4).foldl (fun t p => t.dclear (0x6060 + p) 5) t

/-- The fault's record: cause, detail and beat in one update, and the count (R538, R567). -/
def writeFault (s : State) (cause detail : Nat) : State :=
  (s.dsets [(0x5000, 1, cause), (0x5000, 2, detail % 2 ^ 64), (0x5000, 3, s.beatStamp)]).dcount 0x5000 4 1

/-- Entry into FAULTED for one cause. In FAULTED itself only the log entry and the follow-up `RESET` remain (R568). -/
def enterFaulted (s : State) (cause detail : Nat) : State :=
  let s : State := { s with power := { s.power with followUp := s.power.followUp || resetsAfter cause } }
  if s.power.state = .faulted then logCause s cause detail
  else
    let was := s.modState
    let a := writeFault { s with power := { s.power with state := .faulted } } cause detail
    let b := closeFlows (slabsLost a) 7 fun _ x => x.state != flowClosed
    let d := emptyTenants (if b.power.request.isSome then endRequest b 5 else b)
    let e := (List.range 3).foldl (fun t i => identityReset t (6 + i)) d
    (garnetNotice (logCause (noteState was e) cause detail) 2 cause).emit (.can 1 cause)

/-- Entry into FAULTED with the lowest of the causes detected together recorded; each other one is logged (R568). -/
def enterFaultedAll (s : State) (causes : List (Nat × Nat)) : State :=
  match causes with
  | [] => s
  | a :: r =>
    let low := r.foldl (fun m x => if x.1 < m.1 then x else m) a
    (causes.filter (· != low)).foldl (fun t x => enterFaulted t x.1 x.2) (enterFaulted s low.1 low.2)

end Sys2Proof.Machine
end

