-- ==== Sys2Proof/Machine/Stage.lean ====
section
/-! DEFINITION. Admission queues, descriptor slots, landing rings and the stash's pages (spec/07_stage_execution.md R235 to
R266). A queue is 0 forward, 1 gradient. -/

namespace Sys2Proof.Machine

/-! ## Queues and rings -/

def Ctx.admitQueue (x : Ctx) (q : Nat) : List Nat := if q = 0 then x.fwdQueue else x.gradQueue
def Ctx.setAdmitQueue (x : Ctx) (q : Nat) (l : List Nat) : Ctx :=
  if q = 0 then { x with fwdQueue := l } else { x with gradQueue := l }
def Ctx.landing (x : Ctx) (q : Nat) : Landing := if q = 0 then x.fwdLand else x.gradLand
def Ctx.setLanding (x : Ctx) (q : Nat) (l : Landing) : Ctx := if q = 0 then { x with fwdLand := l } else { x with gradLand := l }

/-- `FWD_LANDING_ENTRIES` or `GRAD_LANDING_ENTRIES` in force, the ring's buffer, and an entry's 4 KiB units (R248). -/
def landingEntries (x : Ctx) (q : Nat) : Nat := x.cfg (9 + q)
def landingBuffer (x : Ctx) (q : Nat) : Option Buffer := x.buffers.find? (·.cls == 6 + q)
def entryUnits (x : Ctx) (q : Nat) : Nat := match landingBuffer x q with
  | none => 0
  | some b => b.size / landingEntries x q

/-- A record of the queue waits in the arrival buffer (R460). -/
def Ctx.buffered (x : Ctx) (q : Nat) : Bool := x.arrivals.any (·.1 == q)

/-- The oldest buffered record of a queue enters it, as an entry is free (R460). -/
def Ctx.refill (x : Ctx) (q : Nat) : Ctx := match x.arrivals.find? (·.1 == q) with
  | none => x
  | some e => if 64 ≤ (x.admitQueue q).length then x
      else { x.setAdmitQueue q (x.admitQueue q ++ [e.2]) with arrivals := x.arrivals.erase e }

/-- Free landing entries (R242). -/
def landingFree (x : Ctx) (q : Nat) : Nat := landingEntries x q - ((x.landing q).claimed - (x.landing q).freed)

/-! ## The flow's owner (R450, R460) -/

/-- The tenant that owns the flow is not resident: a save holds its state. -/
def flowParkedTenant (s : State) (f : Nat) : Option Nat := (flowTenant s f).filter fun t => (kfind s.parked t).isSome

/-- The saved context of a parked tenant. -/
def parkedCtx (s : State) (t : Nat) : Ctx := ((kfind s.parked t).map (·.context)).getD Ctx.empty
def setParkedCtx (s : State) (t : Nat) (g : Ctx → Ctx) : State := match kfind s.parked t with
  | some p => { s with parked := kset s.parked t { p with context := g p.context } }
  | none => s

/-- The context, resident or saved, whose buffers the flow lands in; empty for a tenant without a program. -/
def flowCtx (s : State) (f : Nat) : Ctx := match flowParkedTenant s f with
  | some t => parkedCtx s t
  | none => if flowTenant s f = s.resident (s.flow f).ctx then s.ctx (s.flow f).ctx else Ctx.empty

def setFlowCtx (s : State) (f : Nat) (g : Ctx → Ctx) : State := match flowParkedTenant s f with
  | some t => setParkedCtx s t g
  | none => s.setCtx (s.flow f).ctx g

/-! ## Record credit (R249, R460) -/

/-- The open record flows of a tenant's queue, ascending. -/
def recordFlows (s : State) (t : Option Nat) (q : Nat) : List Nat :=
  (s.net.flows.filter fun e => e.2.kind == 3 && e.2.queue == q && e.2.state == flowOpen && flowTenant s e.1 == t).map (·.1)

/-- Credit that flows hold for entries of a queue. -/
def creditOut (s : State) (t : Option Nat) (q : Nat) : Nat :=
  ((recordFlows s t q).map fun f => let x := s.flow f; unitAhead x.credit x.done).sum

/-- Free entries of an admission queue: entries still carrying credit count as taken (R242, R249). -/
def queueFree (s : State) (c q : Nat) : Nat :=
  if (s.ctx c).loaded then 64 - ((s.ctx c).admitQueue q).length - creditOut s (s.resident c) q else 0

/-- The next record flow in turn after the one that took the last entry. -/
def nextRecordFlow (l : List Nat) (last : Option Nat) : Option Nat := match last with
  | none => l.head?
  | some p => (l.find? fun f => decide (p < f)).or l.head?

/-- `n` entries are granted to a tenant's open record flows, in turn; `get` and `put` reach its context (R249). -/
def grantTurns (s : State) (t : Option Nat) (q n : Nat) (get : State → Ctx) (put : State → (Ctx → Ctx) → State) : State :=
  (List.range n).foldl (fun u _ => match nextRecordFlow (recordFlows u t q) ((get u).landing q).lastGrant with
    | none => u
    | some f => put (u.setFlow f { u.flow f with credit := unitNext (u.flow f).credit 1 }) fun x =>
        x.setLanding q { x.landing q with lastGrant := some f }) s

/-- Every free entry is granted, unless a record is still buffered (R249, R460). -/
def grantRecords (s : State) (c q : Nat) : State :=
  if (s.ctx c).arrivals.isEmpty then grantTurns s (s.resident c) q (queueFree s c q) (·.ctx c) (fun u g => u.setCtx c g) else s

/-- A parked tenant's free entries: those of the saved queue and those of its arrival buffer (R460). -/
def parkedFree (s : State) (t q : Nat) : Nat :=
  let x := parkedCtx s t
  (64 - (x.admitQueue q).length) + (s.dget (0x6070 + t) 0xE - (x.arrivals.filter (·.1 == q)).length) - creditOut s (some t) q

def grantParked (s : State) (t q : Nat) : State :=
  grantTurns s (some t) q (parkedFree s t q) (parkedCtx · t) (fun u g => setParkedCtx u t g)

/-- The free entries of the queue that a record flow serves are granted. -/
def grantRecord (s : State) (f : Nat) : State := match flowParkedTenant s f with
  | some t => grantParked s t (s.flow f).queue
  | none => grantRecords s (s.flow f).ctx (s.flow f).queue

/-- A landing entry is free: its whole size is granted to the queue's open data flow (R248). -/
def grantEntry (s : State) (c q : Nat) : State :=
  let n := entryUnits (s.ctx c) q
  (s.net.flows.filter fun e => e.2.kind == 4 && e.2.queue == q && e.2.state == flowOpen && flowTenant s e.1 == s.resident c).foldl
    (fun t e => t.setFlow e.1 ({ e.2 with freed := unitNext e.2.freed n }.grant (e.2.freed + n))) s

/-! ## Records (R239, R240) -/

def recKind (r : Nat) : Nat := bits r 0 4
def recMicrobatch (r : Nat) : Nat := bits r 128 32
def recStep (r : Nat) : Nat := bits r 160 32
def recTensor (r : Nat) : Nat := bits r 96 32
def recPoison (r : Nat) : Bool := bit r 11

/-- The reason of R266 for which a record is invalid, in the order of R240; 0: valid. -/
def recordFault (x : Ctx) (q r : Nat) : Nat :=
  let fmt := bits r 20 4
  let tensor := recTensor r
  if recKind r ≠ q + 1 then 1
  else if bits r 4 4 ≠ 1 then 2
  else if bits r 70 10 ≠ 0 ∨ bits r 24 40 ≠ 0 ∨ bits r 14 6 ≠ 0 ∨ bits r 8 3 ≠ 0 then 3
  else if 12 ≤ fmt ∨ fmt ≠ x.cfg (3 + q) then 4
  else if tensor ≠ 0 ∧ (landingEntries x q = 0 ∨ entryUnits x q * 4096 < tensor) then 5
  else 0

/-- `STAGE_RECORD_FIRST` of a case (R266). -/
def stageFirst (flow c reason bundle : Nat) : Nat := flow * 2 ^ 34 + c * 2 ^ 32 + reason * 2 ^ 28 + bundle

/-- An invalid record is discarded (R240). -/
def recordInvalid (s : State) (flow c reason : Nat) : State :=
  s.record 0x5050 1 [(2, 1)] (some (stageFirst flow c reason 0xFFFF))

/-- A valid record takes a queue entry with its `ARRIVAL_BEAT` (R239). -/
def enqueueRecord (s : State) (c q r : Nat) : State :=
  s.setCtx c fun x => x.setAdmitQueue q (x.admitQueue q ++ [putBits r 192 64 s.beat])

/-- A tensor claims the next landing entry (R248). -/
def claimEntry (s : State) (c q : Nat) : State :=
  s.setCtx c fun x => x.setLanding q { x.landing q with claimed := (x.landing q).claimed + 1 }

/-! ## Host pushes (R241, R242) -/

/-- A staged record is pushed. -/
def pushRecord (s : State) (c q : Nat) : State :=
  let r := kget 0 s.staging (2 * c + q)
  if queueFree s c q = 0 then s.record 0x5050 4 [(5, 1)] (some (stageFirst 0x3FFFF c 7 0xFFFF))
  else
    let reason := recordFault (s.ctx c) q r
    if reason ≠ 0 then recordInvalid s 0x3FFFF c reason
    else
      let t := enqueueRecord s c q r
      if recTensor r ≠ 0 then claimEntry t c q else t

/-- ADMIT_PUSH_FWD (R241). -/
def execAdmitPushFwd (c : Nat) (s : State) : Host.Outcome State Fault Refusal :=
  .next (if s.squareUp && decide (c < 4) then pushRecord s c 0 else s)

/-- ADMIT_PUSH_GRAD (R241). -/
def execAdmitPushGrad (c : Nat) (s : State) : Host.Outcome State Fault Refusal :=
  .next (if s.squareUp && decide (c < 4) then pushRecord s c 1 else s)

/-! ## Stash pages (R255, R256, R259) -/

/-- Slot `d` keeps its record in the overflow. -/
def overflowSlot (x : Ctx) (d : Nat) : Bool := x.cfg 6 != 0 && decide (x.cfg 5 ≤ d)

/-- Stash pressure hold for an admission into slot `d` (R259). -/
def stashHold (s : State) (c d : Nat) : Bool :=
  let x := s.ctx c
  overflowSlot x d && ((x.stash.any fun e => e.1 / 65536 == d) || decide (x.cfg 8 < x.stash.length + recordPages s c))

/-- The lowest page of the context's part that holds nothing. -/
def freePage (x : Ctx) : Nat := (firstBelow (x.stash.length + 1) fun i => !(x.stash.any fun e => e.2.phys == i)).getD 0

/-- The slot's pages are mapped (R256). -/
def mapPages (s : State) (c d : Nat) : State :=
  if overflowSlot (s.ctx c) d then
    (List.range (recordPages s c)).foldl (fun t i =>
      t.setCtx c fun x => { x with stash := kset x.stash (d * 65536 + i) ⟨freePage x, 0⟩ }) s
  else s

/-! ## Admission (R244 to R247) -/

/-- The buffer that mirrors the descriptor slots, if the program declares one (R246). -/
def mirrorBuffer (x : Ctx) : Option Buffer := x.buffers.find? (·.cls == 8)

/-- The sampled `TRAIN_MASK` goes into the mirror of the descriptor slots, at byte 16,384 (R246). -/
def mirrorMask (s : State) (c : Nat) : State := match mirrorBuffer (s.ctx c) with
  | none => s
  | some b => writeBytes s (b.address + 16384) (leBytes 8 (nth (0, 0) s.sampled c).2)

/-- The mirror as `LOAD` and `START` leave it: empty slots and the bytes after the mask are zeros (R246; assumption 67). -/
def clearMirror (s : State) (c : Nat) : State := match mirrorBuffer (s.ctx c) with
  | none => s
  | some b => mirrorMask (eraseBytes s b.address 20480) c

/-- The granules of a slot's mirror. -/
def mirrorGranules (x : Ctx) (d : Nat) : List Nat := match mirrorBuffer x with
  | none => []
  | some b => byteGranules (b.address + 128 * d) 128

/-- A slot takes its value, and the mirror with it. -/
def setSlot (s : State) (c d : Nat) (m : MicroSlot) : State :=
  let t := s.setCtx c fun x => { x with slots := kset x.slots d m }
  match mirrorBuffer (s.ctx c) with
  | none => t
  | some b => writeBytes t (b.address + 128 * d) (leBytes 64 (m.fwd.getD 0) ++ leBytes 64 m.grad)

/-- The head record leaves its queue, the entry of the record before it becomes due, and its credit is granted (R244, R248). -/
def takeRecord (s : State) (c q r : Nat) : State :=
  let t := s.setCtx c fun x =>
    let l := x.landing q
    ((x.setAdmitQueue q (x.admitQueue q).tail).setLanding q
      { l with due := l.due + b2n l.held, held := recTensor r != 0 }).refill q
  grantRecords (grantRecords t c q) c (1 - q)

/-- The working slot of the descriptors that the bundle's region slots name (R247). -/
def setWorking (s : State) (c d : Nat) (sels : List Nat) : State :=
  s.setCtx c fun x => { x with working := sels.foldl (fun w i => kset w i d) x.working }

/-- What an admission of either kind does beyond its slot. -/
def admitted (s : State) (c q d r : Nat) (sels : List Nat) : State :=
  let t := (setWorking (takeRecord s c q r) c d sels).dcount (0x4060 + c) (8 + q) 1
  if recPoison r then t.record 0x5050 3 [(4, 1)] (some (stageFirst 0x3FFFF c 9 (s.pc c))) else t

/-- The operands of an admission that the load check accepts (R205, R243). -/
def admitLegal (s : State) (c d : Nat) (sels : List Nat) : Bool :=
  decide (d < 128) && decide (d < slotsOf s c) && sels.all fun i => headerOk s c i 0

/-- A hold of an admission into slot `d`: each cycle counts, the first is recorded (R259). -/
def holdAdmission (c d : Nat) (s : State) : State :=
  let t := if s.dget (0x4060 + c) 5 = 0 then
      (((s.dset (0x4060 + c) 5 1).setCtx c fun x => { x with holding := some d }).dcount (0x4060 + c) 6 1).record 0x5050 0 []
        (some (stageFirst 0x3FFFF c 8 (s.pc c)))
    else s
  waitLowest c 4 (waitIn c 4) (t.dcount (0x4060 + c) 7 1)

/-- A hold ends in the first cycle in which neither of its conditions holds (R259, R264). -/
def endHold (s : State) (c : Nat) : State := match (s.ctx c).holding with
  | none => s
  | some d => if stashHold s c d then s else (s.dset (0x4060 + c) 5 0).setCtx c fun x => { x with holding := none }

/-- A slot's next admission ends its fallback (R468); one that still waits for a free entry is lost (R469). -/
def endFallback (s : State) (c d : Nat) : State :=
  let x := s.ctx c
  let t := if x.trying.contains d then s.record 0x50B0 3 [(5, 1)] (some (tenancyCase s 3 (tenantOf s c) c d)) else s
  if x.trying.contains d || x.switched.contains d then
    t.setCtx c fun y => { y with trying := serase y.trying d, switched := serase y.switched d }
  else t

/-- ADMIT_FWD (R244, R247, R256, R259). -/
def execAdmitFwd (c d : Nat) (sels : List Nat) (s : State) : Host.Outcome State Fault Refusal :=
  if !s.running c then .next s
  else if !admitLegal s c d sels then .fault .reservedEncoding
  else match ((s.ctx c).admitQueue 0).head? with
    | none => .next (waitLowest c 4 (waitIn c 4) s)
    | some r =>
      if stashHold s c d then .next (holdAdmission c d s)
      else whenCopied c (mirrorGranules (s.ctx c) d) (endHold s c) fun t =>
        .next (mapPages (admitted (setSlot (endFallback t c d) c d ⟨some r, 0⟩) c 0 d r sels) c d)

/-- ADMIT_GRAD (R245): a record that does not follow its slot's forward record enters FAULTED with `ADMIT_SEQUENCE`. -/
def execAdmitGrad (c d : Nat) (sels : List Nat) (s : State) : Host.Outcome State Fault Refusal :=
  if !s.running c then .next s
  else if !admitLegal s c d sels then .fault .reservedEncoding
  else match ((s.ctx c).admitQueue 1).head? with
    | none => .next (waitLowest c 4 (waitIn c 4) s)
    | some r =>
      let m := kget ⟨none, 0⟩ (s.ctx c).slots d
      let own := m.fwd.getD 0
      if m.fwd.isSome && recMicrobatch own == recMicrobatch r && recStep own == recStep r then
        whenCopied c (mirrorGranules (s.ctx c) d) s fun t =>
          .next (admitted (setSlot t c d { m with grad := r }) c 1 d r sels)
      else
        let detail := d + c * 2 ^ 14 + recMicrobatch own % 2 ^ 16 * 2 ^ 16 + recMicrobatch r * 2 ^ 32
        .next (enterFaulted (s.log 0x5000 7 3 (recMicrobatch own) (recMicrobatch r)) 7 detail)

/-- STASH_PAGE_RELEASE (R257): every page of the context whose count has been reached is unmapped, which may end a hold (R259). -/
def execStashPageRelease (c : Nat) (s : State) : Host.Outcome State Fault Refusal :=
  if (s.ctx c).cfg 7 = 0 then .next s
  else .next (endHold (s.setCtx c fun x => { x with
    stash := x.stash.filter fun e => decide (e.2.read < releaseCount s c (e.1 % 65536)) }) c)

/-- LANDING_ENTRY_FREE (R248): the admission that freed the entry has completed. -/
def execLandingEntryFree (c q : Nat) (s : State) : Host.Outcome State Fault Refusal :=
  let l := (s.ctx c).landing q
  if l.due = 0 then .next s
  else .next (grantEntry (s.setCtx c fun x => x.setLanding q { l with due := l.due - 1, freed := l.freed + 1 }) c q)

end Sys2Proof.Machine
end

