-- ==== Sys2Proof/Machine/CairnCopy.lean ====
section
/-! DEFINITION. Cairn's cuts and fast copies (spec/12_cairn.md R418 to R427, R430). -/

namespace Sys2Proof.Machine

/-! ## What a checkpoint captures (R422) -/

/-- Entries 0x6040 + c. -/
def State.ck (s : State) (c sub : Nat) : Nat := s.dget (0x6040 + c) sub

/-- `BUFFER_POLICY` of a buffer (R429). -/
def policyOf (s : State) (c b : Nat) : Nat := kget 0 (s.cairnOf c).policies b

/-- The Square and Bedrock buffers that are captured, with their numbers: bound, of classes 3 to 9, not excluded. -/
def capturedBuffers (s : State) (c : Nat) : List (Nat × Buffer) :=
  (s.ctx c).buffers.zipIdx.filterMap fun (b, i) =>
    if 3 ≤ b.cls ∧ b.home ≠ 0 ∧ b.size ≠ 0 ∧ policyOf s c i ≠ 2 then some (i, b) else none

/-- The device ranges of a captured buffer: an overflow buffer's bytes lie in its mapped pages (R255). -/
def bufferRanges (s : State) (c : Nat) (b : Buffer) : List (Nat × Nat) :=
  if b.cls = 5 then (s.ctx c).stash.map fun e => (stashStart s c + e.2.phys * mib, mib) else [(b.address, b.size * 4096)]

/-- Bytes of the capture (R421, R422). -/
def captureBytes (s : State) (c : Nat) : Nat :=
  (s.ctx c).blocks.length * (banksBytes + 192) + 65536 + ((capturedBuffers s c).map fun e => e.2.size * 4096).sum

/-- The context's share of one slot of the checkpoint reserve (R423, R448). -/
def slotShare (s : State) (c : Nat) : Nat := tenantMiB s (s.dget 0x6000 1 / 2) c * mib

/-- The granules in copy order: Square, banks, Bedrock (R424). -/
def captureGranules (s : State) (c : Nat) : List Nat :=
  let ext := ((capturedBuffers s c).flatMap fun e => (bufferRanges s c e.2).flatMap fun r => byteGranules r.1 r.2).foldl sinsert []
  let square := ext.filter fun g => decide (g * 65536 < squareEnd)
  let banks := ((s.ctx c).blocks.map (·.2)).foldl sinsert [] |>.flatMap fun p => (List.range 24).map fun i => bankGranule p (32 * i)
  square ++ banks ++ ext.filter fun g => decide (squareEnd ≤ g * 65536)

/-! ## Requests (R418 to R421) -/

/-- Slot of a generation (R423). -/
def slotOf (g : Nat) : Nat := g % 2

/-- Why a request is refused (R421): 0 not, 1 busy, 2 reserve short. -/
def refusalOf (s : State) (c : Nat) : Nat :=
  let y := s.cairnOf c
  let k := slotOf (s.ck c 0xE)
  let waits := (kfind y.slots k).any fun p => p.done && !p.drained
  if y.armed.isSome || y.copying.isSome || waits || (y.drain.any fun d => d.slot == k) || (y.serving.any fun x => x.slot == some k) then 1
  else if slotShare s c < captureBytes s c then 2 else 0

def refuseCheckpoint (s : State) (c reason : Nat) : State :=
  s.record 0x50A0 0 [(2, 1)] (some (cairnCase 0 reason c none))

/-- CHECKPOINT_AT (R418, R421): the request names beat C = `LAST_NAMED_BEAT` + `SERVICE_BEAT` (R176). -/
def requestCheckpoint (s : State) (c delta mode : Nat) : State :=
  let r := refusalOf s c
  if r ≠ 0 then refuseCheckpoint s c r
  else s.setCairn c fun y => { y with armed := some ((s.dget (0x4030 + c) 4 + delta) % 2 ^ 64, mode) }

/-! ## The cut (R419, R420, R422) -/

/-- A program flow is settled at the cut (R422). -/
def flowSettled (s : State) (c : Nat) (x : Flow) : Bool :=
  let l := (s.ctx c).landing x.queue
  if x.sends then x.store.isEmpty
  else if x.kind = 3 then x.landed.isEmpty && (x.done == 0 || ((s.ctx c).admitQueue x.queue).isEmpty)
  else if x.kind = 4 then x.landed.isEmpty && l.partly.isNone && (x.done == 0 || decide (l.claimed ≤ l.freed + l.due + b2n l.held))
  else x.landed.isEmpty && !unitAfter x.done x.issued

def flowsInFlight (s : State) (c : Nat) : Bool :=
  s.net.flows.any fun e => e.2.ctx == c && !e.2.ofEngine && e.2.live && !flowSettled s c e.2

def queuesHeld (s : State) (c : Nat) : Bool :=
  (s.ctx c).blocks.any fun b => (s.block b.2).queues.any fun q => !q.2.entries.isEmpty

/-- What is latched of a block in the cut cycle: predicates, base registers, `SR_INDEX`, flag copy. -/
def Block.latch (b : Block) : Block := { Block.empty with preds := b.preds, bases := b.bases, srIndex := b.srIndex, flags := b.flags }

/-- What is latched of a context: its stream state and tables. -/
def Ctx.latch (x : Ctx) : Ctx :=
  { x with waitBeats := 0, waitTold := false, window := false, veto := false }

/-- The manifest's flags (R431): each condition met is recorded. -/
def cutFlags (s : State) (c g asked cut : Nat) (held : Bool) : Nat × State :=
  let conds := [(flowsInFlight s c, 0, 5), (queuesHeld s c, 1, 6), (decide (asked < cut), 2, 7)]
  let t := conds.foldl (fun t e => if e.1 then t.record 0x50A0 e.2.2 [] (some (cairnCase e.2.2 0 c (some g))) else t) s
  ((conds.filter (·.1)).foldl (fun m e => m + 2 ^ e.2.1) 0 + 8 * b2n held, t)

/-- `OWN_INDEX` and `SET_MEMBERS` of `CKPT_SET` (R431). -/
def ckptIndex (s : State) (c : Nat) : Nat := if s.ck c 8 = 0xFF then 0 else s.dget (0x6010 + s.ck c 8) 3
def ckptMembers (s : State) (c : Nat) : Nat := if s.ck c 8 = 0xFF then 1 else s.dget (0x6010 + s.ck c 8) 2

/-- The cut: generation `NEXT_GENERATION` begins its fast copy. -/
def makeCut (s : State) (c mode asked cut restart : Nat) (held : Bool) : State :=
  let g := s.ck c 0xE
  let f := cutFlags s c g asked cut held
  let x := s.ctx c
  let p : Capture :=
    { generation := g, mode := mode, cutBeat := cut, asked := asked, flags := f.1, seed := s.dget 0x4020 1, job := s.ck c 7,
      stage := s.dget (0x4050 + c) 2, replica := ckptIndex s c, replicas := ckptMembers s c, context := x.latch,
      restart := restart, origin := s.dget (0x4030 + c) 3, lastNamed := s.dget (0x4030 + c) 4,
      skip := s.dget (0x4030 + c) 5, regs := x.blocks.map fun b => (b.1, (s.block b.2).latch), policies := (s.cairnOf c).policies, mem := [], poison := [],
      pending := captureGranules s c, demanded := [], done := false, writers := [], drained := mode != 0 || s.ck c 4 == 0 }
  let t := f.2.dsets [(0x6040 + c, 0xE, (g + 1) % 2 ^ 32), (0x6040 + c, 0x13, cut)]
  t.setCairn c fun y => { y with armed := none, copying := some (slotOf g), slots := kset y.slots (slotOf g) p }

/-- The cut wait issues: an armed request whose beat has come is cut at `N`, unless its slot now serves a peer (R419, R440). -/
def cutAt (s : State) (c n : Nat) : State :=
  match (s.cairnOf c).armed with
  | none => s
  | some (asked, mode) =>
    if n < asked then s
    else
      let t := s.setCairn c fun y => { y with armed := none }
      let r := refusalOf t c
      if r ≠ 0 then refuseCheckpoint t c r else makeCut t c mode asked n (s.pc c) false

/-- The context is in HELD (R420). -/
def contextHeld (s : State) (c : Nat) : Bool :=
  s.power.state == .up && match s.resident c with
    | some t => s.tenantState t == 6
    | none => false

/-- `TAKE` (R420): in HELD, at the `HOLD_BEAT` boundary at which the stream stopped. -/
def takeHeld (s : State) (c : Nat) : Nat × State :=
  if contextHeld s c then
    let r := refusalOf s c
    let beat := if s.single then s.dget 0x4000 4 else s.dget (0x6070 + tenantOf s c) 4
    (0, if r ≠ 0 then refuseCheckpoint s c r else makeCut s c (s.ck c 2) beat beat (s.pc c) true)
  else (abortState, s)

/-- TAKE (R420). -/
def execTakeCheckpoint (r : Requester) (c : Nat) (s : State) : Host.Outcome State Fault Refusal :=
  .next (guardedWrite s r (0x6040 + c) 1 1 1 fun t => takeHeld t c)

/-! ## The fast copy (R424, R425) -/

/-- The window address of a logical block. -/
def logicalAddress (l off : Nat) : Nat := logicalBase + l * windowBytes + off

/-- The bytes and marks of a granule, keyed as a capture keeps them: banks by logical address, the rest by device address. -/
def granuleBytes (s : State) (c g : Nat) : List (Nat × TByte) :=
  if 2 ^ 52 ≤ g then
    let p := (g - 2 ^ 52) / 24
    let row := (g - 2 ^ 52) % 24 * 32
    match boundBy s p with
    | none => []
    | some b => if b.1 ≠ c then [] else
      (List.range 16).flatMap fun bank => (List.range 32).flatMap fun i =>
        let a := readTarget s p bank (row + i)
        (readTagged s a 128).zipIdx.map fun (x, j) => (logicalAddress b.2 (bank * bankBytes + (row + i) * 128 + j), x)
  else (readTagged s (g * 65536) 65536).zipIdx.map fun (x, j) => (g * 65536 + j, x)

/-- A capture takes a granule's bytes: what an unlisted byte reads as is not kept, and marks are kept by their first byte. -/
def Capture.take (p : Capture) (g : Nat) (bs : List (Nat × TByte)) : Capture :=
  { p with
    mem := bs.foldl (fun m e => kput memBlank m e.1 e.2.1) p.mem
    poison := bs.foldl (fun l e => if e.2.2 then sinsert l (e.1 / 64 * 64) else l) p.poison
    pending := p.pending.filter (· != g), demanded := p.demanded.filter (· != g) }

/-- A shard in a capture takes one of the demanded granules first, then the next in order. -/
def Capture.nextGranule (p : Capture) : Option Nat := p.demanded.head?.or p.pending.head?

/-- A granule enters the running capture of a context; the first poison of a generation is recorded once (R577). -/
def takeGranule (s : State) (c k : Nat) (p : Capture) (g : Nat) : State :=
  let q := p.take g (granuleBytes s c g)
  let u := s.setCairn c fun y => { y with slots := kset y.slots k q }
  match p.poison, q.poison with
  | [], a :: _ => u.record 0x50E0 4 [] (some (poisonCase 4 c 4 a))
  | _, _ => u

/-- FAST_COPY_GRANULE (R424): errors sensed by the read are recorded. -/
def execFastCopyGranule (c : Nat) (touch : Touch) (s : State) : Host.Outcome State Fault Refusal :=
  match (s.cairnOf c).copying with
  | none => .next s
  | some k => match kfind (s.cairnOf c).slots k with
    | none => .next s
    | some p => match p.nextGranule with
      | none => .next s
      | some g => .next (takeGranule (senseAll 4 s touch.errors) c k p g)

/-- FAST_COPY_END (R424): every granule is in the slot. -/
def execFastCopyEnd (c cycles : Nat) (s : State) : Host.Outcome State Fault Refusal :=
  match (s.cairnOf c).copying with
  | none => .next s
  | some k => match kfind (s.cairnOf c).slots k with
    | none => .next s
    | some p =>
      if p.pending.isEmpty then
        .next ((s.dset (0x6040 + c) 0x14 (cycles % 2 ^ 32)).setCairn c fun y =>
          { y with copying := none, slots := kset y.slots k { p with done := true } })
      else .next s

/-- The granule that holds a device address: a bank row's by its physical block. -/
def granuleAt (a : Nat) : Nat :=
  if a < blockEnd then bankGranule (a / windowBytes) (a % windowBytes % bankBytes / 128) else a / 65536

/-- The context whose running fast copy has still to read one of the granules. -/
def copyHolds (s : State) (gs : List Nat) : Option Nat :=
  (List.range 4).find? fun c => gs.any (pendingGranules s c).contains

/-- A write of an engine, of PCIe, of Garnet or of a landing that meets such a granule is held: the command is presented again
when the granule is copied (R425). -/
def whenGranulesFree (s : State) (gs : List Nat) (run : State → State) : State :=
  match copyHolds s gs with
  | none => run s
  | some c => granuleHeld s c (gs.filter (pendingGranules s c).contains)

/-- Granules that an engine is about to write are copied first: the wait of R397 delays the engine and nothing else. -/
def copyFirst (s : State) (gs : List Nat) : State := (List.range 4).foldl (fun t c => gs.foldl (fun u g =>
  if (pendingGranules u c).contains g then
    match (u.cairnOf c).copying with
    | none => u
    | some k => match kfind (u.cairnOf c).slots k with
      | none => u
      | some p => takeGranule u c k p g
  else u) t) s

/-- GRANULE_WAIT (R425): a bundle of context `c` whose writes touch the given device addresses waits in class 8. -/
def execGranuleWait (c : Nat) (addresses : List Nat) (s : State) : Host.Outcome State Fault Refusal :=
  let gs := (addresses.map granuleAt).filter (pendingGranules s c).contains
  if gs.isEmpty || !s.running c then .next s else .next (granuleWait c gs s)

end Sys2Proof.Machine
end

