-- ==== Sys2Proof/Machine/Ports.lean ====
section
/-! DEFINITION. Cages, links, the capability exchange and the identity check (spec/10_network.md R343 to R351, R357;
spec/19_identity.md R586, R590 to R596; spec/20_electrical.md R608). A target is a port 0 to 7, or 8 + the index of a peer
reached end to end. -/

namespace Sys2Proof.Machine

/-! ## Port states (R347) -/

def portNoModule : Nat := 0
def portDisabled : Nat := 1
def portOverBudget : Nat := 2
def portNoLink : Nat := 3
def portMeasuring : Nat := 4
def portExchanging : Nat := 5
def portIdentity : Nat := 6
def portActive : Nat := 7
def portSwitched : Nat := 8
def portQuarantined : Nat := 9
def portIncompatible : Nat := 10

def setPortState (s : State) (p v : Nat) : State := s.dset (0x3040 + p) 1 v

/-- Links are brought up from SURVEY onwards, once the engine microcode is loaded (R348, R554). -/
def linksRun (s : State) : Bool := s.squareUp && s.power.microDone

/-- Every flow that may use a path sends what waits for one. -/
def sendAllWaiting (s : State) : State := s.net.flows.foldl (fun t e => sendWaiting t e.1) s

/-- The unacknowledged frames of a port go out again at once on the remaining paths (R373). -/
def moveFrames (s : State) (p : Nat) : State :=
  s.net.flows.foldl (fun t e => if e.2.state = flowOpen ∨ e.2.state = flowClosing then
    (e.2.store.filter (·.port == p)).foldl (fun u y => retransmit u e.1 y.seq) t else t) s

/-- The port carries no flow frame any more, knows no partner (R348, R383), and is no time source (R319). -/
def portDown (s : State) (p v : Nat) : State :=
  let i := 0x3040 + p
  let t := s.dsets [(i, 1, v), (i, 8, 0), (i, 9, 0), (i, 0xA, 0), (i, 0xB, 0), (i, 0xC, 0)]
  let x := t.port p
  let u := t.setPort p { x with digest := 0, mac := 0, phase := 0, reason := 0, bundles := 0, maxFlows := 0 }
  moveFrames { u with quartz := { u.quartz with ptp := u.quartz.ptp.filter (·.port != p) } } p

/-! ## Cages (R343 to R345, R608) -/

/-- A cage over its budget loses power and its port enters `OVER_BUDGET`. -/
def overBudget (s : State) (p : Nat) : State :=
  let t := portDown (s.setPort p { s.port p with powered := false, overBudget := true }) p portOverBudget
  t.record 0x5080 6 [(0xC, 1)] (some (netCase 6 (some p) none none none 0))

/-- The PHY that the media in the cage call for (R343). -/
def phyOf (media : Nat) : Nat := if media = 0 then 0 else if media = 1 then 1 else 2

/-- `DECLARED_POWER_MW` of a cage (R383). -/
def declareCage (s : State) (p : Nat) : State :=
  s.dset (0x3040 + p) 6 (if (s.port p).present then (s.port p).declared else 0)

/-- Step 1 of R348: what the cage allows. -/
def startPort (s : State) (p : Nat) : State :=
  let s := declareCage s p
  let x := s.port p
  if !bit (s.dget 0x2040 4) p then portDown (s.setPort p { x with powered := false }) p portDisabled
  else if !x.present then portDown s p portNoModule
  else if x.overBudget then portDown s p portOverBudget
  else if s.dget 0x2040 5 < x.declared then overBudget s p
  else portDown (s.setPort p { x with powered := true, timedOut := false }) p portNoLink

/-- Bring-up starts, or starts again, on every port (R382, R554). -/
def startPorts (s : State) : State := (List.range 8).foldl startPort s

/-- CAGE_INSERT (R343, R345): Garnet reads the declared power first; while the module is off nothing reads the cage. The module lists an
800GBASE-R application (`usable`) over a host interface, `phy` by R343's codes: where that is not the one that its media call for,
the module is not used. -/
def execCageInsert (p media phy declared : Nat) (usable : Bool) (s : State) : Host.Outcome State Fault Refusal :=
  if 8 ≤ p then .next s
  else
    let t := s.setPort p
      { Port.empty with present := true, usable := usable && phy == phyOf media, media := media, phy := phyOf media, declared := declared }
    .next (if s.power.state = .off then t else if linksRun t then startPort t p else declareCage t p)

/-- CAGE_REMOVE (R345). -/
def execCageRemove (p : Nat) (s : State) : Host.Outcome State Fault Refusal :=
  if 8 ≤ p then .next s
  else
    let i := 0x3040 + p
    let v := if linksRun s && !bit (s.dget 0x2040 4) p then portDisabled else portNoModule
    let t := (portDown s p v).setPort p Port.empty
    .next (t.dsets [(i, 2, 0), (i, 3, 0), (i, 4, 0xFFFF), (i, 5, 0), (i, 6, 0), (i, 7, 0xFFFF)])

/-- CAGE_POWER_SAMPLE (R345): `average` is the 10 ms average of the cage supply, mW. -/
def execCagePowerSample (p average : Nat) (s : State) : Host.Outcome State Fault Refusal :=
  if decide (p < 8) && (s.port p).powered then
    let t := s.dset (0x3040 + p) 5 (min average 0xFFFF)
    .next (if s.dget 0x2040 5 < average then overBudget t p else t)
  else .next s

/-- CAGE_OVERCURRENT (R608). -/
def execCageOvercurrent (p : Nat) (s : State) : Host.Outcome State Fault Refusal :=
  .next (if decide (p < 8) && (s.port p).powered then overBudget s p else s)

/-! ## Capability frames (R349, R350) -/

/-- The strap node id (R349). -/
def strapNode (s : State) : Nat := if bits s.power.straps 0 7 = 0 then 127 else bits s.power.straps 0 7

/-- `FEATURES` that generation 1 sends. -/
def ownFeatures (s : State) : Nat := if s.dget 0x2040 2 = 0 then 0xFE else 0xFF

/-- The capability frame of a port, or end to end (index 0xFF). -/
def ownCapability (s : State) (index : Nat) : Nat :=
  Config.identityDigest % 2 ^ 384 * 2 ^ 640 + ownAddress s * 2 ^ 512 + (Config.portMac index).toNat * 2 ^ 464 +
    262144 * 2 ^ 432 + 0x0FFF * 2 ^ 416 + 1 * 2 ^ 400 + 1 * 2 ^ 384 + ownFeatures s * 2 ^ 368 + 1 * 2 ^ 360 +
    strapNode s * 2 ^ 352 + index * 2 ^ 344 + 1 * 2 ^ 4 + 1

/-- `n` copies of the frame leave for a target. -/
def sendCapability (s : State) (target n : Nat) : State :=
  let body := ownCapability s (if target < 8 then target else 0xFF)
  let t := (List.range n).foldl (fun t _ => t.emit (.capability target body)) s
  { t with net := { t.net with sentCap := kset t.net.sentCap target body } }

/-- A capability frame's body is valid: its type and version (R349, R357). -/
def capabilityValid (b : Nat) : Bool := bits b 0 4 == 1 && bits b 4 4 == 1

/-- The agreed set (R350): Boulevard version (0: none common), formats, features. -/
def agreedSet (s : State) (b : Nat) : Nat × Nat × Nat :=
  (if bit (bits b 384 16) 0 then 1 else 0, bits b 416 16 &&& 0x0FFF, bits b 368 16 &&& ownFeatures s)

/-- The parts of it that nothing reports (R350): the common bundle versions, and the smaller number of flow entries. -/
def agreedBundles (b : Nat) : Nat := bits b 400 16 &&& 1
def agreedFlows (b : Nat) : Nat := min 262144 (bits b 432 32)

/-! ## The identity check (R591 to R593) -/

/-- SPDM request codes, in the order of R587's list: 4 GET_DIGESTS, 5 GET_CERTIFICATE, 6 CHALLENGE. -/
def askDigests (s : State) (target : Nat) : State := s.emit (.spdm target 4 0)

/-- CHALLENGE with a fresh nonce. -/
def askChallenge (s : State) (target : Nat) : State :=
  let n := s.fresh
  n.2.emit (.spdm target 6 (Config.nonce n.1).toNat)

/-- The state that an outcome gives a port or a peer, `held` for quarantine (R591). -/
def admitted? (s : State) (reason : Nat) : Bool :=
  reason == 1 || ((reason == 2 || reason == 3) && s.dget 0x2080 3 == 1)

/-- The log entry of an admission (R595, R596). -/
def logAdmission (s : State) (sub v : Nat) : State := s.log 0x2080 sub 0 v 0

/-- A port becomes `ACTIVE`: what waits for a path goes out. -/
def activatePort (s : State) (p : Nat) : State := sendAllWaiting (setPortState s p portActive)

/-- The partner on a port is admitted: its digest reaches flash (R595). -/
def admitPort (s : State) (p : Nat) : State :=
  let x := s.port p
  logAdmission (activatePort ((storeEntry s 0x3061 (p + 1) x.digest).setPort p { x with reason := 0 }) p) 1 p

/-- The seen digest of a peer entry (R593). -/
def seenPeer (s : State) (i : Nat) : Nat := kget 0 s.garnet.seenPeers i
def setSeenPeer (s : State) (i v : Nat) : State := s.setGarnet fun g => { g with seenPeers := kput 0 g.seenPeers i v }

/-- A peer entry is admitted. -/
def admitPeer (s : State) (i : Nat) : State :=
  let x := s.peer i
  logAdmission ((setSeenPeer s i x.digest).setPeer i { x with state := 2, phase := 0, reason := 0 }) 2 i

/-- A port's identity check ends with a reason. -/
def endPortCheck (s : State) (p reason : Nat) : State :=
  let t := s.setPort p { s.port p with phase := 0, reason := reason }
  let u := if reason = 1 then t else t.log 0x3061 (p + 1) 2 reason 0
  if reason = 1 then activatePort (u.setPort p { u.port p with reason := 0 }) p
  else if admitted? s reason then admitPort u p
  else setPortState u p portQuarantined

/-- A peer's identity check ends with a reason. -/
def endPeerCheck (s : State) (i reason : Nat) : State :=
  let t := s.setPeer i { s.peer i with phase := 0, reason := reason }
  if reason = 1 then t.setPeer i { t.peer i with state := 2, reason := 0 }
  else if admitted? s reason then admitPeer t i
  else t.setPeer i { t.peer i with state := 3 }

def endCheck (s : State) (target reason : Nat) : State :=
  if target < 8 then endPortCheck s target reason else endPeerCheck s (target - 8) reason

/-- What a check holds of its target: phase, announced digest, chain digest, DeviceID digest, seen digest. -/
def checkPhase (s : State) (target : Nat) : Nat := if target < 8 then (s.port target).phase else (s.peer (target - 8)).phase
def checkDigest (s : State) (target : Nat) : Nat := if target < 8 then (s.port target).digest else (s.peer (target - 8)).digest
def checkChain (s : State) (target : Nat) : Nat := if target < 8 then (s.port target).chain else (s.peer (target - 8)).chain
def checkDevice (s : State) (target : Nat) : Nat := if target < 8 then (s.port target).device else (s.peer (target - 8)).device
def checkSeen (s : State) (target : Nat) : Nat := if target < 8 then s.dget 0x3061 (target + 1) else seenPeer s (target - 8)

def setCheck (s : State) (target phase chain device : Nat) : State :=
  if target < 8 then s.setPort target { s.port target with phase := phase, chain := chain, device := device }
  else s.setPeer (target - 8) { s.peer (target - 8) with phase := phase, chain := chain, device := device }

/-- Step 1 of R591. -/
def beginCheck (s : State) (target : Nat) : State :=
  askDigests (setCheck s target 1 (checkChain s target) (checkDevice s target)) target

/-- The reason that a verified partner's digest gives (R591). -/
def digestReason (s : State) (target device : Nat) : Nat :=
  let seen := checkSeen s target
  if device ≠ checkDigest s target then 4
  else if device = seen then 1
  else if seen = 0 then 2 else 3

/-- One response advances the check: `code` as in the request, `chain` the slot 0 chain digest, `device` the digest of the
DeviceID key in the certificate, `valid` whether chain or signature verifies. -/
def checkStep (s : State) (target code chain device : Nat) (valid : Bool) : State :=
  let phase := checkPhase s target
  if phase = 1 ∧ code = 4 then
    if chain = checkChain s target then askChallenge (setCheck s target 3 chain (checkDevice s target)) target
    else (setCheck s target 2 (checkChain s target) (checkDevice s target)).emit (.spdm target 5 0)
  else if phase = 2 ∧ code = 5 then
    if valid then askChallenge (setCheck s target 3 chain device) target else endCheck s target 4
  else if phase = 3 ∧ code = 6 then
    if valid then endCheck s target (digestReason s target (checkDevice s target)) else endCheck s target 4
  else s

/-- SPDM_RESPONSE (R590, R591). -/
def execSpdmResponse (target code chain device : Nat) (valid : Bool) (s : State) : Host.Outcome State Fault Refusal :=
  .next (if linksRun s then checkStep s target code chain device valid else s)

/-- IDENTITY_CHECK_TIMEOUT (R591): no answer within 500 ms. -/
def execIdentityCheckTimeout (target : Nat) (s : State) : Host.Outcome State Fault Refusal :=
  .next (if linksRun s && decide (1 ≤ checkPhase s target) && decide (checkPhase s target ≤ 3) then endCheck s target 5 else s)

/-- IDENTITY_RECHECK (R591): a port held for no answer is checked again. -/
def execIdentityRecheck (p : Nat) (s : State) : Host.Outcome State Fault Refusal :=
  .next (if linksRun s && decide (p < 8) && portState s p == portQuarantined && (s.port p).reason == 5 && (s.port p).phase == 0
    then beginCheck s p else s)

/-! ## Link-up and the exchange (R346, R348, R351) -/

/-- The cable length in dm (R346): rounded; 0xFFFF without a delay or for a negative value, which a quotient that rounds to 0 is
not. -/
def cableLength (media delay : Nat) : Nat :=
  if delay = ones 32 then 0xFFFF
  else if media = 1 ∨ media = 2 then min 0xFFFF ((2 * delay + 460) / 920)
  else if delay < 80000 - 245 then 0xFFFF
  else min 0xFFFF ((2 * (delay - 80000) + 490) / 980)

/-- A number among others in rising order. -/
def insertRising (n : Nat) : List Nat → List Nat
  | [] => [n]
  | m :: r => if n ≤ m then n :: m :: r else m :: insertRising n r

/-- The one-way delay of a port (R319): the median of its exchanges, of an even number of them the mean of the middle two; all ones
when the partner answered none. -/
def linkDelay (exchanges : List Nat) : Nat :=
  let l := exchanges.foldr insertRising []
  if l.isEmpty then ones 32 else min (ones 32 - 1) ((l.getD ((l.length - 1) / 2) 0 + l.getD (l.length / 2) 0) / 2)

/-- LINK_UP (R319, R346, R348): PCS and FEC have locked, and the port measures; once the peer-delay exchanges are done (`delay` lists
those answered, in ps) they give its one-way delay, and the exchange of capability frames starts. `rx` is the lowest lane input
power, which copper has none of (R383). -/
def execLinkUp (p : Nat) (delay : Option (List Nat)) (rx : Nat) (s : State) : Host.Outcome State Fault Refusal :=
  let x := s.port p
  let i := 0x3040 + p
  let fresh := portState s p == portNoLink && x.usable
  if linksRun s && decide (p < 8) && (fresh || portState s p == portMeasuring) then
    let copper := x.media = 1 ∨ x.media = 2
    let a := if fresh then (s.dsets [(i, 2, x.phy), (i, 3, x.media), (i, 7, if copper then 0xFFFF else rx),
      (i, 1, portMeasuring)]).dcount i 0xD 1 else s
    match delay with
    | none => .next a
    | some exchanges =>
      let d := linkDelay exchanges
      let t := a.dsets [(i, 4, cableLength x.media d), (0x3030, p + 1, d), (i, 1, portExchanging)]
      let u := if d = ones 32 then t.record 0x5070 5 [(7, 1)] none else t
      .next (sendCapability u p 1)
  else .next s

/-- LINK_TRAINING_LIMIT (R348, R556): the port counts as settled, and training is tried again. -/
def execLinkTrainingLimit (p : Nat) (s : State) : Host.Outcome State Fault Refusal :=
  .next (if decide (p < 8) && portState s p == portNoLink then s.setPort p { s.port p with timedOut := true } else s)

/-- LINK_DOWN (R348, R373): the port returns to step 2. -/
def execLinkDown (p : Nat) (s : State) : Host.Outcome State Fault Refusal :=
  .next (if decide (p < 8) && decide (4 ≤ portState s p) then portDown s p portNoLink else s)

/-- CAPABILITY_TIMEOUT (R351). -/
def execCapabilityTimeout (p : Nat) (s : State) : Host.Outcome State Fault Refusal :=
  .next (if decide (p < 8) && portState s p == portExchanging then sendAllWaiting (setPortState s p portSwitched) else s)

/-- No Boulevard version is common (R350). -/
def noCommonVersion (s : State) (port peer : Option Nat) : State :=
  s.record 0x5080 7 [] (some (netCase 7 port none none peer 0))

/-- A port's partner has announced itself: the agreed set is formed and reported. -/
def agreePort (s : State) (p b : Nat) : State :=
  let a := agreedSet s b
  let i := 0x3040 + p
  let t := s.dsets [(i, 8, bits b 360 8), (i, 9, a.1), (i, 0xA, a.2.1), (i, 0xB, a.2.2), (i, 0xC, bits b 512 128)]
  t.setPort p { t.port p with digest := bits b 640 384, mac := bits b 464 48, bundles := agreedBundles b, maxFlows := agreedFlows b }

/-- A capability frame on a port in its state (R348, R350, R594). -/
def portCapability (s : State) (p b : Nat) : State :=
  let st := portState s p
  let a := agreedSet s b
  if st = portExchanging then
    let t := sendCapability (agreePort s p b) p 3
    if a.1 = 0 then setPortState (noCommonVersion t (some p) none) p portIncompatible
    else beginCheck (setPortState t p portIdentity) p
  else if st = portActive ∧ bits b 640 384 ≠ (s.port p).digest then portDown s p portNoLink
  else if st = portActive ∨ st = portIdentity ∨ st = portQuarantined then
    let t := agreePort s p b
    if a.1 = 0 then setPortState (noCommonVersion t (some p) none) p portIncompatible else t
  else s

/-- A peer entry takes an agreed set. -/
def agreePeer (s : State) (i b : Nat) : State :=
  let a := agreedSet s b
  s.setPeer i { s.peer i with
    version := a.1, formats := a.2.1, features := a.2.2, digest := bits b 640 384
    bundles := agreedBundles b, maxFlows := agreedFlows b }

/-- An end-to-end frame from peer `i` (R351): an exchange that waits for it goes on; otherwise the frame is answered, and the
partner is checked. -/
def peerCapability (s : State) (i b : Nat) : State :=
  let x := s.peer i
  let a := agreedSet s b
  let t := agreePeer (if x.state = 1 ∧ x.phase = 4 then s else sendCapability s (8 + i) 1) i b
  if a.1 = 0 then (noCommonVersion t none (some i)).setPeer i { t.peer i with state := 4, phase := 0 }
  else if x.state = 2 ∧ x.digest = bits b 640 384 then t
  else beginCheck (t.setPeer i { t.peer i with state := 1, phase := 1 }) (8 + i)

/-- The peer entries with an address. -/
def peersAt (s : State) (a : Nat) : List Nat := (s.net.peers.filter fun e => e.2.address == a && a != 0).map (·.1)

/-- CAPABILITY_FRAME (R350, R351, R594): on a port, or end to end (`PORT_INDEX` 0xFF) from the peers with its address. -/
def execCapabilityFrame (p body : Nat) (s : State) : Host.Outcome State Fault Refusal :=
  if !linksRun s || decide (8 ≤ p) || decide (portState s p < portExchanging) then .next s
  else if !capabilityValid body then .next (frameInvalid s (some p) none)
  else if bits body 344 8 = 0xFF then
    .next (if portOpen s p then (peersAt s (bits body 512 128)).foldl (fun t i => peerCapability t i body) s else s)
  else .next (portCapability s p body)

/-- A switched port leads to a peer (R351). -/
def switchedTo (s : State) (i : Nat) : Bool := (List.range 8).any fun p => bit (s.peer i).portMask p && portState s p == portSwitched

/-- The exchange with a peer starts: our frame goes out end to end (R351). -/
def beginExchange (s : State) (i : Nat) : State :=
  sendCapability (s.setPeer i { s.peer i with state := 1, phase := 4 }) (8 + i) 1

/-- PEER_EXCHANGE_TIMEOUT (R351). -/
def execPeerExchangeTimeout (i : Nat) (s : State) : Host.Outcome State Fault Refusal :=
  let x := s.peer i
  .next (if x.state = 1 ∧ x.phase = 4 then s.setPeer i { x with state := 5, phase := 0 } else s)

/-! ## Admission (R595) -/

/-- A write of `ADMIT_PORT`. -/
def admitPortWrite (s : State) (v : Nat) : Nat × State :=
  if v = 0xFF then (0, s)
  else if portState s v = portQuarantined ∧ ((s.port v).reason = 2 ∨ (s.port v).reason = 3) then (0, admitPort s v)
  else (abortState, s)

/-- A write of `ADMIT_PEER`. -/
def admitPeerWrite (s : State) (v : Nat) : Nat × State :=
  if v = 0xFFFF then (0, s)
  else if (s.peer v).state = 3 ∧ ((s.peer v).reason = 2 ∨ (s.peer v).reason = 3) then (0, admitPeer s v)
  else (abortState, s)

/-- ADMIT_PORT (R595). -/
def execAdmitPort (r : Requester) (value : Nat) (s : State) : Host.Outcome State Fault Refusal :=
  .next (guardedWrite s r 0x2080 1 1 value fun t => admitPortWrite t value)

/-- ADMIT_PEER (R595). -/
def execAdmitPeer (r : Requester) (value : Nat) (s : State) : Host.Outcome State Fault Refusal :=
  .next (guardedWrite s r 0x2080 2 2 value fun t => admitPeerWrite t value)

/-! ## Address resolution (R357) -/

/-- ADDRESS_RESOLUTION (R357): ARP and Neighbor Solicitation for the module's own addresses are answered. -/
def execAddressResolution (p address : Nat) (s : State) : Host.Outcome State Fault Refusal :=
  .next (if portOpen s p && (address == ownAddress s || (s.dget 0x2040 2 != 0 && address == ipv4Mapped (s.dget 0x2040 2)))
    then s.emit (.resolved p address) else s)

end Sys2Proof.Machine
end

