-- ==== Sys2Proof/Machine/Landing.lean ====
section
/-! DEFINITION. Received Boulevard frames: their checks, landing by kind, the loader's flow, and `ACK` frames
(spec/10_network.md R352 to R372; spec/07_stage_execution.md R237 to R249; spec/13_tenancy.md R460;
spec/16_dictionary.md R535, R536; spec/19_identity.md R592). -/

namespace Sys2Proof

open Machine

/-! ## Header fields (R353) -/

def FrameIn.kind (r : FrameIn) : Nat := bits r.header 8 4
def FrameIn.dest (r : FrameIn) : Nat := bits r.header 110 18
def FrameIn.src (r : FrameIn) : Nat := bits r.header 92 18
def FrameIn.seq (r : FrameIn) : Nat := bits r.header 224 32
def FrameIn.map (r : FrameIn) : Nat := bits r.header 128 64
def FrameIn.credit (r : FrameIn) : Nat := bits r.header 192 32
def FrameIn.last (r : FrameIn) : Bool := bit r.header 15

/-- The port that a record names. -/
def FrameIn.at? (r : FrameIn) : Option Nat := if r.port = 8 then none else some r.port

/-- The unit of a frame, as a flow that takes units in order holds it. -/
def FrameIn.unit (r : FrameIn) : StoreUnit := ⟨r.seq, r.body, r.map, r.last, 0, 9, 255, true⟩

end Sys2Proof

namespace Sys2Proof.Machine

/-- The Boulevard version agreed with the sender of a frame: with the partner of an `ACTIVE` port, otherwise with the peer at its
source address; one that has agreed on none sends generation 1's (R353, R357; DEDUCED, log 69). -/
def agreedVersion (s : State) (r : FrameIn) : Nat :=
  if r.port = 8 then 1
  else if portState s r.port = portActive then s.dget (0x3040 + r.port) 9
  else max 1 (((peersAt s r.source).map fun i => (s.peer i).version).headD 1)

/-- The header's own validity: reserved fields and the version (R357). -/
def headerValid (s : State) (r : FrameIn) : Bool :=
  bits r.header 16 68 == 0 && bits r.header 12 3 == 0 && bits r.header 4 4 == 0 &&
    bits r.header 0 4 == agreedVersion s r

/-- The `REJECT` that answers a frame: to its sender, on its port, with the frame's flow ids the other way round (R356, R357, R363). -/
def rejectOut (s : State) (r : FrameIn) (reason : Nat) : Out :=
  let p := ((peersAt s r.source).map s.peer).headD { Peer.empty with address := r.source }
  .flowFrame r.dest (packetTo s p r.port 46 (s.flow r.dest).entropy (s.dget 0x2040 3))
    (Header.word ⟨5, r.src, r.dest, 0, 0, 0, 0, false⟩) (controlWord (senderAddress s p) 3 reason 0)

def reject (s : State) (r : FrameIn) (reason : Nat) : State := s.emit (rejectOut s r reason)

/-- An invalid frame for an unknown or closed flow is counted, and answered at most once per ms (R357). -/
def unknownFlow (s : State) (r : FrameIn) : State :=
  let t := frameInvalid s r.at? (some r.dest)
  if r.rejected then t else reject t r 1

/-- The port carries flow frames. -/
def carries (s : State) (r : FrameIn) : Bool := r.port == 8 || portOpen s r.port

/-! ## The loader (R535, R536) -/

/-- The flow that `LOADER_FLOW` names is one of the loader. -/
def isLoader (s : State) (f : Nat) : Bool :=
  s.dget 0x4001 2 == f && (s.flow f).kind == 6 && (s.flow f).engine == 3

/-- The requesting flow of the loader. -/
def isLoaderRequest (s : State) (f : Nat) : Bool :=
  s.dget 0x4001 5 == f && (s.flow f).kind == 5 && (s.flow f).engine == 3

/-- Units that fit between `IMAGE_ADDRESS` and the end of program-visible Bedrock. -/
def loaderRoom (s : State) : Nat := (bedrockTop s - s.dget 0x4001 1) / 4096

/-- The loader grants 64 units ahead of the landed ones. -/
def grantLoader (s : State) (f : Nat) : State :=
  if isLoader s f && (s.flow f).state == flowOpen then
    s.setFlow f ((s.flow f).grant (min ((s.flow f).done + 64) (loaderRoom s)))
  else s

/-- Bytes of the image at `IMAGE_ADDRESS`. -/
def imageBytes (s : State) : Nat := 128 + bits (readLe s (s.dget 0x4001 1) 128) 608 32

/-- `LOADER_UNITS` and `LOADER_STATUS` after a landing. -/
def loaderProgress (s : State) (f : Nat) : State :=
  let n := (s.flow f).done
  let t := s.dset 0x4001 3 n
  t.dset 0x4001 7 (if 1 ≤ n ∧ imageBytes t ≤ 4096 * n then 3 else 2)

/-- The loader flow enters `PEER_CLOSED`. -/
def loaderClosed (s : State) (f : Nat) : State :=
  if isLoader s f && s.dget 0x4001 7 != 3 then s.dset 0x4001 7 4 else s

/-- The loader flow opens. -/
def loaderOpened (s : State) (f : Nat) : State := if isLoader s f then s.dsets [(0x4001, 3, 0), (0x4001, 7, 0)] else s

/-- A kind 5 flow of the loader that is not the requesting one serves the loaded image, as far as credit goes (R535). -/
def serveImage (s : State) (f : Nat) : Nat → State
  | 0 => s
  | n + 1 =>
    let u := (s.flow f).issued
    if 4096 * u < imageBytes s && holdsCredit s f 1 then
      let k := min 4096 (imageBytes s - 4096 * u)
      serveImage (sendUnits s f (decide (imageBytes s ≤ 4096 * (u + 1)))
        [readTagged s (s.dget 0x4001 1 + 4096 * u) k ++ List.replicate (4096 - k) (0, false)]) f n
    else s

/-- The image is served while a program is loaded. -/
def serves (s : State) (f : Nat) : Bool :=
  (s.flow f).kind == 5 && (s.flow f).engine == 3 && !isLoaderRequest s f && (List.range 4).any fun c => (s.ctx c).loaded

/-- The `GET` unit of a `FETCH`: version 1, `OP` 5, `NAME_KIND` 3, the image's name (R433, R536). -/
def getImage (s : State) : List TByte :=
  untagged (leBytes 64 (s.dget 0x4001 4 * 2 ^ 128 + 3 * 2 ^ 8 + 5 * 2 ^ 4 + 1)) ++ List.replicate 4032 (0, false)

/-- A `FETCH` that waited for credit sends its unit. -/
def sendFetch (s : State) (f : Nat) : State :=
  if s.net.fetching && isLoaderRequest s f && holdsCredit s f 1 then
    (sendUnits { s with net := { s.net with fetching := false } } f true [getImage s]).dset 0x4001 7 1
  else s

/-! ## Landing (R354, R355, R367, R369) -/

/-- The bytes of a unit with the tags of its poison map. -/
def unitBytes (bs : List Byte) (map : Nat) : List TByte :=
  (rangeFrom 0 4096).map fun i => (bs.getD i 0, bit map (i / 64))

/-- A unit has landed from a frame: acknowledged at once when it lies beyond the next expected one, or is the eighth since the
last ACK; otherwise it waits for `ACK_SEND` (R369). -/
def ackEarly (s : State) (r : FrameIn) (f u : Nat) : State :=
  let x := s.flow f
  let t := s.setFlow f { x with unacked := x.unacked + 1, ackPort := r.port }
  if unitAfter u x.done || decide (8 ≤ x.unacked + 1) then sendAck t f r.port else t

/-- A landed unit is counted if it is poisoned (R354). -/
def countPoison (s : State) (r : FrameIn) (f : Nat) : State :=
  if r.map = 0 then s else s.record 0x5080 8 [(8, 1)] (some (flowCase s 8 r.at? f))

/-- The unit is marked landed, and acknowledged where that is due. -/
def markUnit (s : State) (r : FrameIn) (f u : Nat) : State :=
  ackEarly (countPoison (s.setFlow f ((s.flow f).mark u)) r f) r f u

/-- A unit of a receive window, at its place in the flow's buffer (R367). -/
def landWindow (s : State) (r : FrameIn) (f u : Nat) : State :=
  let x := s.flow f
  let a := ((flowCtx s f).buffer x.buffer).address + 4096 * (u % x.window)
  whenGranulesFree s (byteGranules a 4096) fun t => markUnit (writeTagged t a (unitBytes r.body r.map)) r f u

/-- The loader writes a unit of an image; one that nothing answers, or that a reserve holds, is discarded and counted (R26). -/
def placeUnit (s : State) (a : Nat) (bs : List TByte) : State :=
  match unmappedByte s 0 a bs.length with
  | some x => unmapped s 2 x
  | none => writeTagged s a bs

/-- A unit of the loader's flow (R535). -/
def landImage (s : State) (r : FrameIn) (f u : Nat) : State :=
  let a := s.dget 0x4001 1 + 4096 * u
  whenGranulesFree s (byteGranules a 4096) fun t =>
    let v := markUnit (placeUnit t a (unitBytes r.body r.map)) r f u
    grantLoader (loaderProgress v f) f

/-- The units of a flow that can be taken in flow order once unit `y` is here: the others wait in `store`. -/
def inOrder (x : Flow) (y : StoreUnit) : List StoreUnit :=
  (rangeFrom 0 (unitAhead (x.mark y.seq).done x.done)).filterMap fun i =>
    let u := unitNext x.done i
    if u = y.seq then some y else x.unit? u

/-- The flow once unit `y` is marked: what was taken leaves the store, and `y` joins it while it must wait. -/
def orderUnit (x : Flow) (y : StoreUnit) : Flow :=
  let z := x.mark y.seq
  let l := if unitAfter z.done y.seq then x.store else x.store ++ [y]
  { z with store := l.filter fun w => !unitAfter z.done w.seq }

/-- One record arrives (R239, R240, R249, R460). -/
def takeArrival (f : Nat) (s : State) (y : StoreUnit) : State :=
  let x := s.flow f
  let rec0 := ofLe (y.bytes.take 64)
  let r := if bit y.map 0 then setBit rec0 11 else rec0
  let reason := recordFault (flowCtx s f) x.queue r
  if reason ≠ 0 then recordInvalid s f x.ctx reason
  else
    let c := flowCtx s f
    if (flowParkedTenant s f).isSome || decide (64 ≤ (c.admitQueue x.queue).length) || c.buffered x.queue then
      setFlowCtx s f fun y => { y with arrivals := y.arrivals ++ [(x.queue, putBits r 192 64 s.beat)] }
    else enqueueRecord s x.ctx x.queue r

/-- A unit of a record flow: records join their queue in flow order; the entries of invalid ones are granted again (R240, R249). -/
def landRecord (s : State) (r : FrameIn) (f u : Nat) : State :=
  let x := s.flow f
  let t := (inOrder x r.unit).foldl (takeArrival f) (s.setFlow f (orderUnit x r.unit))
  ackEarly (countPoison (grantRecord t f) r f) r f u

/-- Where the units of a landing ring go: each one's address, none where no entry is free or the tensor exceeds its entry (R248). -/
def ringPlaces (n e base : Nat) : Landing → List StoreUnit → List (Option Nat × StoreUnit) × Landing
  | l, [] => ([], l)
  | l, y :: r =>
    let claim := l.partly.isNone
    let k := (l.partly.map (·.1)).getD l.claimed
    let j := (l.partly.map (·.2)).getD 0
    let fits := decide (j < e) && decide (0 < n) && (!claim || decide (l.claimed - l.freed < n))
    let next : Landing := { l with claimed := l.claimed + b2n claim, partly := if y.last then none else some (k, j + 1) }
    if fits then
      let p := ringPlaces n e base next r
      ((some (base + (k % n * e + j) * 4096), y) :: p.1, p.2)
    else ([(none, y)], l)

/-- A unit of a data flow lands in its entry, with those that waited for it; one that has no place stays unmarked. -/
def landTensor (s : State) (r : FrameIn) (f u : Nat) : State :=
  let x := s.flow f
  let c := flowCtx s f
  match landingBuffer c x.queue with
  | none => s
  | some b =>
    let places := ringPlaces (landingEntries c x.queue) (entryUnits c x.queue) b.address (c.landing x.queue) (inOrder x r.unit)
    if places.1.any (·.1.isNone) then s
    else whenGranulesFree s (places.1.flatMap fun e => byteGranules (e.1.getD 0) 4096) fun t =>
      let v := places.1.foldl (fun v e => writeTagged v (e.1.getD 0) (unitBytes e.2.bytes e.2.map)) t
      let w := setFlowCtx (v.setFlow f (orderUnit x r.unit)) f fun y => y.setLanding x.queue places.2
      ackEarly (countPoison w r f) r f u

/-- A new unit within credit lands as its flow's kind directs (R360). -/
def landUnit (s : State) (r : FrameIn) (f u : Nat) : State :=
  let x := s.flow f
  if x.kind = 2 then landWindow s r f u
  else if x.kind = 3 then landRecord s r f u
  else if x.kind = 4 then landTensor s r f u
  else if x.kind = 6 ∧ isLoader s f then landImage s r f u
  else if x.kind = 6 then
    let t := markUnit s r f u
    if x.engine = 2 then t.setFlow f ((t.flow f).grant ((t.flow f).done + Config.cairnCredit.toNat)) else t
  else s

/-- The bytes of a DATA frame that fails its checks reach their landing place, where they stay unmarked until the unit is sent again
(R355): of a window, of the loader's image, and of the next unit of a landing ring. -/
def strayBytes (s : State) (r : FrameIn) : State :=
  let f := r.dest
  let x := s.flow f
  let c := flowCtx s f
  let bs := unitBytes r.body r.map
  let place : Option Nat :=
    if x.kind = 2 then some ((c.buffer x.buffer).address + 4096 * (r.seq % x.window))
    else if x.kind = 4 then (landingBuffer c x.queue).bind fun b => if r.seq = x.done then
        ((ringPlaces (landingEntries c x.queue) (entryUnits c x.queue) b.address (c.landing x.queue) [r.unit]).1.map (·.1)).headD none
      else none
    else none
  if r.kind ≠ 1 ∨ !carries s r ∨ !headerValid s r ∨ x.state ≠ flowOpen ∨ x.hasLanded r.seq ∨ !unitAfter x.credit r.seq then s
  else if x.kind = 6 && isLoader s f then placeUnit s (s.dget 0x4001 1 + 4096 * r.seq) bs
  else match place with
    | some a => writeTagged s a bs
    | none => s

/-- What every received frame of kind `k` meets before its own meaning: the frames that the port takes at all, CE mark, checks,
validity (R352, R355, R357). A frame whose kind is valid but not `k` is another command's, as are PTP and RoCEv2 frames; any
other frame is discarded and counted. -/
def receive (s : State) (r : FrameIn) (k : Nat) (run : State → State) : State :=
  if !linksRun s || decide (8 < r.port) then s
  else if r.dport = 319 ∨ r.dport = 320 ∨ r.dport = 4791 then s
  else if r.dport ≠ s.dget 0x2040 3 then s.dcount 0x5080 2 1
  else
    let t := if r.ce then s.dcount 0x5080 9 1 else s
    if !r.crcOk then frameInvalid (strayBytes t r) r.at? none
    else if r.kind = 0 ∨ 5 < r.kind then frameInvalid t r.at? none
    else if r.kind ≠ k then s
    else run t

/-- A data frame for a flow (R355, R357, R365, R367, R369, R371, R372). -/
def dataFrame (s : State) (r : FrameIn) : State :=
  let f := r.dest
  let x := s.flow f
  if !carries s r then s
  else if !headerValid s r then frameInvalid s r.at? (some f)
  else if x.state = flowClosed then unknownFlow s r
  else if x.state ≠ flowOpen ∨ !x.receives ∨ x.rdma then s
  else if x.hasLanded r.seq then sendAck (s.dcount 0x5080 0xA 1) f r.port
  else if !unitAfter x.credit r.seq then s.record 0x5080 1 [(3, 1)] (some (flowCase s 1 r.at? f))
  else landUnit s r f r.seq

/-- DATA_FRAME (R355). -/
def execDataFrame (frame : FrameIn) (s : State) : Host.Outcome State Fault Refusal :=
  .next (receive s frame 1 fun t => dataFrame t frame)

/-! ## Acknowledgements -/

/-- Unit `u` is acknowledged by `SEQ` and `MAP`. -/
def ackCovers (seq map u : Nat) : Bool :=
  unitAfter seq u || (unitAfter u seq && decide (unitAhead u seq ≤ 64) && bit map (unitAhead u seq - 1))

/-- Units beyond `u` that an `ACK` shows landed (R370). -/
def shownBeyond (seq map u : Nat) : Nat :=
  ((List.range 64).filter fun i => bit map i && unitAfter (unitNext seq (1 + i)) u).length

/-- The paths of acknowledged units have no timeout in a row any more (R373). -/
def clearTimeouts (s : State) (f : Nat) (ys : List StoreUnit) : State :=
  { s with net := { s.net with timeouts := s.net.timeouts.filter fun e => !(ys.any fun y => e.1 == f * 64 + y.path) } }

/-- A closing flow whose every unit is acknowledged is closed and says so (R365). -/
def closeWhenDone (s : State) (f : Nat) : State :=
  let x := s.flow f
  if x.state = flowClosing ∧ x.store.isEmpty then
    let t := s.setFlow f x.closed
    if x.rdma then t else sendControl t f 2 0 0
  else s

/-- What an acknowledgement frees. -/
def ackUnits (s : State) (f seq map : Nat) : State :=
  let x := s.flow f
  let gone := x.store.filter fun y => ackCovers seq map y.seq
  let y := { x with
    store := x.store.filter fun y => !ackCovers seq map y.seq
    done := if unitAfter seq x.done then seq else x.done }
  clearTimeouts (s.setFlow f y) f gone

/-- Units that the three-unit rule sends again (R370). -/
def ackGaps (s : State) (f seq map : Nat) : State :=
  ((s.flow f).store.filter fun y => !y.resent && y.port != 9 && decide (3 ≤ shownBeyond seq map y.seq)).foldl
    (fun t y => retransmit t f y.seq) s

/-- An `ACK` for a send flow (R363, R366, R369, R370). -/
def ackFrame (s : State) (r : FrameIn) : State :=
  let f := r.dest
  let x := s.flow f
  if !carries s r then s
  else if !headerValid s r then frameInvalid s r.at? (some f)
  else if x.state = flowClosed then unknownFlow s r
  else if !x.sends || x.rdma || !(x.state == flowOpening || x.state == flowOpen || x.state == flowClosing) then s
  else
    let a := s.setFlow f ({ x with state := if x.state = flowOpening then flowOpen else x.state }.grant r.credit)
    let b := closeWhenDone (ackGaps (ackUnits a f r.seq r.map) f r.seq r.map) f
    sendFetch (if serves b f then serveImage b f 1024 else b) f

/-- ACK_SEND (R369): on the port of the last frame that landed a unit, or of the `OPEN`. -/
def execAckSend (f : Nat) (s : State) : Host.Outcome State Fault Refusal :=
  let x := s.flow f
  .next (if x.state = flowOpen ∧ x.receives ∧ !x.rdma then sendAck s f x.ackPort else s)

/-! ## Timers (R370, R371, R373) -/

/-- A timeout of a frame counts for its path; the third in a row bars it for 1 ms. -/
def pathTimeout (s : State) (f path : Nat) : State :=
  let k := f * 64 + path
  let n := kget 0 s.net.timeouts k + 1
  { s with net := { s.net with
      timeouts := kput 0 s.net.timeouts k (if n < 3 then n else 0)
      barred := if n < 3 then s.net.barred else sinsert s.net.barred k } }

/-- The store units from `u` onwards, which go-back-N sends again (R376). -/
def goBack (s : State) (f u : Nat) : State :=
  ((s.flow f).store.filter fun y => y.seq == u % 2 ^ 32 || unitAfter y.seq u).foldl (fun t y => retransmit t f y.seq) s

/-- The notice of a flow that enters `BROKEN`, `PEER_CLOSED` or `PARKED` (R489). -/
def flowNotice (s : State) (f : Nat) : State := match flowTenant s f with
  | none => s
  | some t => boulevardNotice s (s.dget (0x6070 + t) 1) 1 (f + (s.flow f).state * 2 ^ 20)

/-- The flow breaks (R371, R593). -/
def breakFlow (s : State) (f : Nat) : State :=
  let x := s.flow f
  let reachable := insidePeer s x || !(usablePaths s f x).isEmpty
  let t := s.setFlow f { x with state := flowBroken, store := [], landed := [] }
  let u := if reachable && !x.rdma then sendControl t f 2 8 0 else t
  let v := flowNotice (u.record 0x5080 2 [(5, 1)] (some (flowCase u 2 none f))) f
  v.setPeer x.peer { v.peer x.peer with state := 0, phase := 0 }

/-- RETRANSMIT_TIMEOUT (R370, R373, R376): a queue pair sends every later unit again too, and breaks when its retries are used. -/
def execRetransmitTimeout (f u : Nat) (s : State) : Host.Outcome State Fault Refusal :=
  let x := s.flow f
  match x.unit? (u % 2 ^ 32) with
  | none => .next s
  | some y =>
    if !(x.state == flowOpen || x.state == flowClosing) || !(x.sends || x.kind == 8) then .next s
    else if y.port = 9 then .next (sendWaiting s f)
    else if x.rdma ∧ 7 ≤ y.attempt then .next (breakFlow s f)
    else
      let t := pathTimeout s f y.path
      .next (if x.rdma then goBack t f y.seq
        else retransmit t f y.seq)

/-- PATH_USABLE_AGAIN (R373). -/
def execPathUsableAgain (f path : Nat) (s : State) : Host.Outcome State Fault Refusal :=
  .next (sendWaiting { s with net := { s.net with barred := serase s.net.barred (f * 64 + path) } } f)

end Sys2Proof.Machine
end

