-- ==== Sys2Proof/Machine/FlowTable.lean ====
section
/-! DEFINITION. Flow control frames, the host's flow and peer windows, and queue pairs of the RoCEv2 subset
(spec/10_network.md R356 to R365, R372, R376 to R379; spec/13_tenancy.md R459). -/

namespace Sys2Proof.Machine

/-! ## Entry images (R358, R359) -/

def Flow.image (x : Flow) : Nat :=
  x.state + x.kind * 2 ^ 4 + x.engine * 2 ^ 10 + x.ctx * 2 ^ 13 + x.queue * 2 ^ 15 + x.peer * 2 ^ 104 + x.peerFlow * 2 ^ 116 +
    x.buffer * 2 ^ 134 + x.window * 2 ^ 146 + x.portMask * 2 ^ 156 + x.paths * 2 ^ 164 + x.entropy * 2 ^ 168 +
    x.dscp * 2 ^ 184 + x.pace * 2 ^ 190 + x.rkey * 2 ^ 200 + x.qpn * 2 ^ 232 + x.hostCount * 2 ^ 256 + x.hostAddr * 2 ^ 320 +
    x.retx * 2 ^ 400 + x.credit * 2 ^ 416 + x.issued * 2 ^ 448 + x.done * 2 ^ 480

/-- The written fields of an image over an entry. -/
def Flow.written (x : Flow) (v : Nat) : Flow :=
  { x with
    kind := bits v 4 4, engine := bits v 10 3, ctx := bits v 13 2, queue := bits v 15 1, peer := bits v 104 12,
    peerFlow := bits v 116 18, buffer := bits v 134 12, window := bits v 146 10, portMask := bits v 156 8,
    paths := bits v 164 4, entropy := bits v 168 16, dscp := bits v 184 6, pace := bits v 190 10, rkey := bits v 200 32,
    qpn := bits v 232 24, hostCount := bits v 256 64, hostAddr := bits v 320 64 }

def Peer.image (x : Peer) : Nat :=
  x.vid + x.pcp * 2 ^ 12 + x.tagged * 2 ^ 15 + x.formats * 2 ^ 32 + x.features * 2 ^ 48 + x.version * 2 ^ 64 +
    x.state * 2 ^ 68 + x.portMask * 2 ^ 72 + x.mac * 2 ^ 80 + x.address * 2 ^ 128

/-- The written fields of an image over a peer entry: a new address makes an unknown peer (R358, R593). -/
def Peer.written (x : Peer) (v : Nat) : Peer :=
  let y := if bits v 128 128 = x.address then x else Peer.empty
  { y with vid := bits v 0 12, pcp := bits v 12 3, tagged := bits v 15 1, portMask := bits v 72 8, mac := bits v 80 48,
           address := bits v 128 128 }

/-! ## Result codes (R362) -/

def netDone : Nat := 0
def netBadState : Nat := 2
def netBadField : Nat := 3
def netNoProgram : Nat := 4
def netBufferInvalid : Nat := 5
def netOutOfRange : Nat := 6
def netPeerUnusable : Nat := 7
def netZeroWindow : Nat := 8

/-- The caller's ranges: a function's own tenants while more than one is configured (R30, R361). -/
def callerTenants (s : State) (fn : Nat) : List Nat := if multiTenant s then homed s fn else s.tenants
def flowInRange (s : State) (fn f : Nat) : Bool := (callerTenants s fn).any fun t => tenantFlow s t f
def peerInRange (s : State) (fn i : Nat) : Bool := (callerTenants s fn).any fun t => tenantPeer s t i

/-- Fields of a flow image that no write may carry: reserved ones, and those its kind does not use (R359). -/
def imageBad (v : Nat) : Bool :=
  let k := bits v 4 4
  bits v 16 88 != 0 || bits v 8 2 != 0 || decide (800 < bits v 190 10) ||
    (!(k == 7 || k == 8) && (bits v 256 64 != 0 || bits v 320 64 != 0)) ||
    (!(k == 2 || k == 7 || k == 8) && bits v 146 10 != 0)

/-! ## Opening (R363, R364) -/

/-- Fields with which `OPEN` is refused (R359, R360, R376). -/
def openBad (s : State) (x : Flow) : Bool :=
  imageBad x.image || x.kind == 0 || decide (8 < x.kind) || x.paths == 0 || decide (8 < x.paths) || x.portMask == 0 ||
    (x.ofEngine && !(x.engine == 1 || x.engine == 2 || x.engine == 3)) ||
    (x.rdma && decide (4096 ≤ (s.net.flows.filter fun e => e.2.rdma && e.2.state != flowClosed).length))

/-- A window buffer is of class 3 or 4, and large enough. -/
def windowBufferOk (c : Ctx) (x : Flow) : Bool :=
  let b := c.buffer x.buffer
  (b.cls == 3 || b.cls == 4) && decide (x.window ≤ b.size)

/-- The port whose `ACTIVE` partner has an address (R351). -/
def directPort (s : State) (a : Nat) : Option Nat :=
  (List.range 8).find? fun p => portState s p == portActive && s.dget (0x3040 + p) 0xC == a && a != 0

/-- A peer that needs no exchange takes its agreed set at `OPEN`: inside the Square, or the set that the port of a direct partner
has now (R350, R351, R619). -/
def knowPeer (s : State) (i : Nat) : State :=
  let x := s.peer i
  if !(x.state == 0 || x.state == 2 || x.state == 5) || x.address == 0 then s
  else if x.address = ownAddress s then
    s.setPeer i { x with state := 2, version := 1, features := ownFeatures s, formats := 0x0FFF, bundles := 1, maxFlows := 262144 }
  else match directPort s x.address with
    | some p => s.setPeer i { x with
        state := 2, version := s.dget (0x3040 + p) 9, formats := s.dget (0x3040 + p) 0xA, features := s.dget (0x3040 + p) 0xB
        bundles := (s.port p).bundles, maxFlows := (s.port p).maxFlows }
    | none => s

/-- A flow towards the peer cannot be used (R364). -/
def peerUnusable (s : State) (x : Flow) : Bool :=
  let p := s.peer x.peer
  effectiveMask s x == 0 || p.state == 3 || p.state == 4 || p.state == 5 ||
    (decide (1 < pathCount s x) && !bit p.features 1) || (mappedV4 p.address && !bit p.features 0)

/-- An `OPEN` that names a peer of unknown or unreachable state, behind a switched port, starts its exchange (R351). -/
def reachPeer (s : State) (i : Nat) : State :=
  let x := s.peer i
  if (x.state = 0 ∨ x.state = 5) ∧ x.address ≠ 0 ∧ switchedTo s i = true then beginExchange s i else s

/-- An `OPEN` frame leaves while the peer is admitted and a path is usable (R363). -/
def sendOpen (s : State) (f : Nat) : State :=
  let x := s.flow f
  if x.state = flowOpening ∧ (s.peer x.peer).state = 2 ∧ (pathFor s f 0 0).2 ≠ 9 then sendControl s f 1 0 0 else s

/-- The initial credit of a receive flow (R248, R249, R360, R367, R378, R535). -/
def firstCredit (s : State) (f : Nat) : State :=
  let x := s.flow f
  if x.kind = 2 ∨ x.kind = 8 then s.setFlow f { x with credit := x.window }
  else if x.kind = 3 then grantRecord s f
  else if x.kind = 4 then
    let n := entryUnits (flowCtx s f) x.queue * landingFree (flowCtx s f) x.queue
    s.setFlow f { x with freed := n, credit := n }
  else if x.kind = 6 ∧ x.engine = 2 then s.setFlow f { x with credit := Config.cairnCredit.toNat }
  else grantLoader (loaderOpened s f) f

/-- The flow opens with every count at 0. -/
def startFlow (s : State) (f : Nat) : State :=
  let x := s.flow f
  let y := { x with state := if x.sends && !x.rdma then flowOpening else flowOpen
                    retx := 0, credit := 0, issued := 0, done := 0, landed := [], freed := 0, covered := 0, store := [],
                    polled := 0, rate := fullRate, wanted := 0, unacked := 0, ackPort := 8 }
  let t := s.setFlow f y
  if y.sends then sendOpen t f else firstCredit t f

/-- `OPEN` of a flow: the result code, and the state after it (R362 to R364). One that is not `DONE` changes nothing, but that an
`OPEN` refused for its `UNREACHABLE` peer alone starts the exchange again (R351; DEDUCED, log 69). -/
def openFlow (s : State) (f : Nat) : Nat × State :=
  let x := s.flow f
  if x.state ≠ flowClosed then (netBadState, s)
  else if openBad s x then (netBadField, s)
  else if (x.kind = 2 ∨ x.kind = 7 ∨ x.kind = 8) ∧ x.window = 0 then (netZeroWindow, s)
  else if !x.ofEngine ∧ !(flowCtx s f).loaded then (netNoProgram, s)
  else if (x.kind = 2 ∨ x.kind = 8) ∧ !windowBufferOk (flowCtx s f) x then (netBufferInvalid, s)
  else
    let t := knowPeer s x.peer
    let p := t.peer x.peer
    if peerUnusable t x then
      (netPeerUnusable, if p.state = 5 && !peerUnusable (t.setPeer x.peer { p with state := 2 }) x then reachPeer s x.peer else s)
    else (netDone, startFlow (reachPeer t x.peer) f)

/-! ## Closing by command (R365) -/

/-- The entries that a closed record flow held are granted to the others (R249). -/
def regrant (s : State) (f : Nat) : State := if (s.flow f).kind = 3 then grantRecord s f else s

/-- Host `CLOSE`: a send flow with unacknowledged units closes when they are acknowledged. -/
def closeByHost (s : State) (f : Nat) : State :=
  let x := s.flow f
  if x.sends && x.live && !x.store.isEmpty then s.setFlow f { x with state := flowClosing }
  else regrant (closeFlow s f 0) f

/-! ## The windows (R361, R362) -/

def State.netWindow (s : State) (fn : Nat) : NetWindow := kget NetWindow.empty s.net.windows fn
def State.setNetWindow (s : State) (fn : Nat) (w : NetWindow) : State :=
  { s with net := { s.net with windows := kput NetWindow.empty s.net.windows fn w } }

/-- The outcome of a flow command of function `fn`. -/
def flowResult (s : State) (fn code : Nat) : State := s.setNetWindow fn { s.netWindow fn with flowResult := code }
def peerResult (s : State) (fn code : Nat) : State := s.setNetWindow fn { s.netWindow fn with peerResult := code }

/-- A flow command of function `fn` on its selected flow; the windows are served while the Square runs. -/
def flowCommand (fn : Nat) (s : State) (run : Nat → State → Nat × State) : State :=
  let v := (s.netWindow fn).flowSelect
  let f := v % 2 ^ 18
  if !s.squareUp || decide (4 ≤ fn) then s
  else if v ≠ f then flowResult s fn netBadField
  else if !flowInRange s fn f then flowResult s fn netOutOfRange
  else
    let r := run f s
    flowResult r.2 fn r.1

def peerCommand (fn : Nat) (s : State) (run : Nat → State → Nat × State) : State :=
  let v := (s.netWindow fn).peerSelect
  let i := v % 2 ^ 12
  if !s.squareUp || decide (4 ≤ fn) then s
  else if v ≠ i then peerResult s fn netBadField
  else if !peerInRange s fn i then peerResult s fn netOutOfRange
  else
    let r := run i s
    peerResult r.2 fn r.1

/-- The written fields of the data registers enter a closed flow's entry. -/
def writeFlow (fn f : Nat) (s : State) : Nat × State :=
  let x := s.flow f
  let v := (s.netWindow fn).flowData
  if x.state ≠ flowClosed then (netBadState, s)
  else if imageBad v then (netBadField, s)
  else (netDone, s.setFlow f (x.written v))

/-- The written fields of the data registers enter a peer entry that no open flow names. -/
def writePeer (fn i : Nat) (s : State) : Nat × State :=
  let x := s.peer i
  let v := (s.netWindow fn).peerData
  if s.net.flows.any fun e => e.2.peer == i && e.2.state != flowClosed then (netBadState, s)
  else
    let t := s.setPeer i (x.written v)
    (netDone, if bits v 128 128 = x.address then t else setSeenPeer t i 0)

/-- The commands of the windows. -/
def readFlow (fn f : Nat) (s : State) : Nat × State :=
  (netDone, s.setNetWindow fn { s.netWindow fn with flowData := (s.flow f).image })

def openCommand (fn f : Nat) (s : State) : Nat × State :=
  if peerInRange s fn (s.flow f).peer then openFlow s f else (netOutOfRange, s)

def closeCommand (f : Nat) (s : State) : Nat × State :=
  if (s.flow f).state = flowClosed then (netBadState, s) else (netDone, closeByHost s f)

def readPeer (fn i : Nat) (s : State) : Nat × State :=
  (netDone, s.setNetWindow fn { s.netWindow fn with peerData := (s.peer i).image })

/-- FLOW_READ (R362). -/
def execFlowRead (fn : Nat) (s : State) : Host.Outcome State Fault Refusal := .next (flowCommand fn s (readFlow fn))

/-- FLOW_WRITE (R359, R362). -/
def execFlowWrite (fn : Nat) (s : State) : Host.Outcome State Fault Refusal := .next (flowCommand fn s (writeFlow fn))

/-- FLOW_OPEN (R363, R364). -/
def execFlowOpen (fn : Nat) (s : State) : Host.Outcome State Fault Refusal := .next (flowCommand fn s (openCommand fn))

/-- FLOW_CLOSE (R365). -/
def execFlowClose (fn : Nat) (s : State) : Host.Outcome State Fault Refusal := .next (flowCommand fn s closeCommand)

/-- PEER_READ (R362). -/
def execPeerRead (fn : Nat) (s : State) : Host.Outcome State Fault Refusal := .next (peerCommand fn s (readPeer fn))

/-- PEER_WRITE (R358, R593). -/
def execPeerWrite (fn : Nat) (s : State) : Host.Outcome State Fault Refusal := .next (peerCommand fn s (writePeer fn))

/-! ## Control frames (R356, R363, R365, R372, R592) -/

/-- The body of a `FLOW` frame as a number, and its fields. -/
def controlBody (r : FrameIn) : Nat := ofLe (r.body.take 64)
def controlType (r : FrameIn) : Nat := bits (controlBody r) 0 4
def controlReason (r : FrameIn) : Nat := bits (controlBody r) 8 8
def controlSeq (r : FrameIn) : Nat := bits (controlBody r) 16 32
def controlSender (r : FrameIn) : Nat := bits (controlBody r) 384 128

/-- The body's own validity (R356, R357). -/
def controlValid (r : FrameIn) : Bool :=
  decide (1 ≤ controlType r) && decide (controlType r ≤ 5) && bits (controlBody r) 4 4 == 1 && bits (controlBody r) 48 336 == 0

/-- A `FLOW` frame of type `k`: on a quarantined port only an `OPEN` is answered, with `REJECT` (R592). -/
def controlFrame (s : State) (r : FrameIn) (k : Nat) (run : State → State) : State :=
  receive s r 5 fun t =>
    if !carries t r then
      if portState t r.port = portQuarantined ∧ k = 1 ∧ controlType r = 1 then reject t r 4 else t
    else if !headerValid t r || !controlValid r then frameInvalid t r.at? (some r.dest)
    else if controlType r ≠ k then s
    else run t

/-- An `OPEN` frame meets the receiver's own flow (R363). -/
def openFrame (s : State) (r : FrameIn) : State :=
  let f := r.dest
  let x := s.flow f
  if (peersAt s (controlSender r)).any fun i => (s.peer i).state == 3 then reject s r 4
  else if x.state = flowClosed then reject s r 1
  else if !x.receives || x.rdma then reject s r 2
  else if (s.peer x.peer).address ≠ controlSender r ∨ x.peerFlow ≠ r.src then reject s r 3
  else if (s.peer x.peer).state = 4 then reject s r 5
  else if x.state ≠ flowOpen then reject s r 1
  else sendAck (s.setFlow f { x with ackPort := r.port }) f r.port

/-- OPEN_FRAME (R363, R592). -/
def execOpenFrame (frame : FrameIn) (s : State) : Host.Outcome State Fault Refusal :=
  .next (controlFrame s frame 1 fun t => openFrame t frame)

/-- OPEN_RETRY (R363): the attempt names a peer that may have become unknown since (R351, R371). -/
def execOpenRetry (f : Nat) (s : State) : Host.Outcome State Fault Refusal :=
  let x := s.flow f
  let i := x.peer
  .next (if x.state = flowOpening then
      sendOpen (if (s.peer i).state = 0 then reachPeer (knowPeer s i) i else s) f
    else s)

/-- A `FLOW` frame for a flow that is closed is an invalid one (R357). -/
def forFlow (r : FrameIn) (s : State) (run : State → State) : State :=
  if (s.flow r.dest).state = flowClosed then unknownFlow s r else run s

/-- REJECT_FRAME (R363). -/
def execRejectFrame (frame : FrameIn) (s : State) : Host.Outcome State Fault Refusal :=
  .next (controlFrame s frame 3 fun t => forFlow frame t fun t =>
    if (t.flow frame.dest).state = flowOpening then
      t.recordWith 0x5080 0xA [(0xB, 1)] (some (flowCase t 10 frame.at? frame.dest)) (controlReason frame)
    else t)

/-- The partner has closed an open flow (R365). -/
def peerClosed (s : State) (r : FrameIn) : State :=
  let f := r.dest
  let x := s.flow f
  let t := s.setFlow f { x with state := flowPeerClosed, store := [], landed := [] }
  regrant (loaderClosed (flowNotice (t.record 0x5080 3 [(6, 1)] (some (flowCase t 3 r.at? f))) f) f) f

/-- PARK_FRAME (R372, R458): a sender loses what credit it holds beyond the landed units. -/
def execParkFrame (frame : FrameIn) (s : State) : Host.Outcome State Fault Refusal :=
  .next (controlFrame s frame 4 fun t => forFlow frame t fun t =>
    let x := t.flow frame.dest
    if x.state = flowOpen ∧ !x.rdma then
      flowNotice (t.setFlow frame.dest { x with state := flowParked, credit := if x.sends then x.done else x.credit }) frame.dest
    else t)

/-- A parked flow opens again; a sender retransmits what lies from `u` onwards, and what lies before it has landed (R372, R459). -/
def resumeFlow (s : State) (f u : Nat) : State :=
  let x := s.flow f
  let t := s.setFlow f { x with state := flowOpen }
  if x.sends then goBack (ackUnits t f (if unitAfter u x.done then u else x.done) 0) f u else t

/-- RESUME_FRAME (R372). -/
def execResumeFrame (frame : FrameIn) (s : State) : Host.Outcome State Fault Refusal :=
  .next (controlFrame s frame 5 fun t => forFlow frame t fun t =>
    if (t.flow frame.dest).state = flowParked then resumeFlow t frame.dest (controlSeq frame) else t)

/-! ## Queue pairs (R376 to R378) -/

/-- A READ of each produced unit within the window's credit is asked for once, in order (R378). -/
def askReads (s : State) (f : Nat) : Nat → State
  | 0 => s
  | n + 1 =>
    let x := s.flow f
    let u := x.done + x.landed.length + x.store.length
    if unitAfter x.polled u && unitAfter x.credit u then
      askReads (transmit (s.setFlow f { x with store := x.store ++ [⟨u % 2 ^ 32, [], 0, false, 0, 9, 255, false⟩] }) f (u % 2 ^ 32)) f n
    else s

/-- A kind 7 flow is short of credit: for the send that waits, or for any (R202, R377). -/
def shortOfCredit (x : Flow) : Bool :=
  let d := unitAhead x.credit x.issued
  decide (2 ^ 31 ≤ d) || decide (d < max 1 x.wanted)

/-- RDMA_CREDIT_POLL (R377, R378): a kind 7 flow reads the count while it is short of credit. -/
def execRdmaCreditPoll (f : Nat) (s : State) : Host.Outcome State Fault Refusal :=
  let x := s.flow f
  let p := pathFor s f 0 0
  .next (if x.state = flowOpen ∧ (x.kind = 8 ∨ (x.kind = 7 ∧ shortOfCredit x)) then s.emit (rdmaOut s f p.2 p.1 2 0 []) else s)

/-- A READ response: the unit lands at its place in the window (R378). -/
def landRead (s : State) (f u : Nat) (bs : List Byte) : State :=
  let x := s.flow f
  match x.unit? u with
  | none => s
  | some _ =>
    let a := ((flowCtx s f).buffer x.buffer).address + 4096 * (u % x.window)
    whenGranulesFree s (byteGranules a 4096) fun t =>
      (writeTagged t a (unitBytes bs 0)).setFlow f (({ x with store := x.store.filter (·.seq != u) } : Flow).mark u)

/-- RDMA_RESPONSE (R376 to R378): `kind` 0 acknowledges the writes up to unit `seq`, 1 is the READ response of a unit, 2 the host's
count `value`, 3 a sequence-error NAK; the
retry count of 7 holds for both causes of a retry, and then R371. -/
def execRdmaResponse (f kind seq value : Nat) (bytes : List Byte) (s : State) : Host.Outcome State Fault Refusal :=
  let x := s.flow f
  let u := seq % 2 ^ 32
  .next (if !x.rdma || !(x.state == flowOpen || x.state == flowClosing) then s
    else if kind = 0 ∧ x.kind = 7 then closeWhenDone (ackUnits s f (unitNext u 1) 0) f
    else if kind = 1 ∧ x.kind = 8 then landRead s f u bytes
    else if kind = 2 ∧ x.kind = 7 then s.setFlow f (x.grant (value + x.window))
    else if kind = 2 ∧ x.kind = 8 then askReads (s.setFlow f { x with polled := value % 2 ^ 32 }) f 1024
    else if kind = 3 then (if (x.unit? u).any fun y => decide (7 ≤ y.attempt) then breakFlow s f else goBack s f u)
    else s)

/-- CONGESTION_NOTIFICATION (R376): the rate halves. -/
def execCongestionNotification (f : Nat) (s : State) : Host.Outcome State Fault Refusal :=
  let x := s.flow f
  .next (if x.rdma ∧ x.live then s.setFlow f { x with rate := x.rate / 2 } else s)

/-- QP_RATE_RECOVERY (R376): 1/16 of the full rate comes back. -/
def execQpRateRecovery (f : Nat) (s : State) : Host.Outcome State Fault Refusal :=
  let x := s.flow f
  .next (if x.rdma ∧ x.live then s.setFlow f { x with rate := min fullRate (x.rate + fullRate / 16) } else s)

end Sys2Proof.Machine
end

