-- ==== Sys2Proof/Machine/RedData.lean ====
section
/-! DEFINITION. The arithmetic and the data movement of a reduction (spec/11_reduction.md R391, R392, R398 to R403, R411, R413;
spec/18_faults.md R576). -/

namespace Sys2Proof.Machine

/-! ## Encoding (R398, R400) -/

/-- The element format of a request. -/
def mxFormat (code : Nat) : Format := if code = 4 then e4m3 else e5m2

/-- A value overflows at scale `e`. -/
def overflowsAt (f : Format) (e : Nat) : FpVal → Bool
  | .num n m x => (fit f .nearest n m (x - ((e : Int) - 127))).2
  | _ => false

/-- The lowest scale from `e` upwards at which every finite value fits: each step is one bump. -/
def bumpScale (f : Format) (vs : List FpVal) : Nat → Nat → Nat
  | 0, e => e
  | n + 1, e => if e < 0xFE && vs.any (overflowsAt f e) then bumpScale f vs n (e + 1) else e

/-- The code of one element at scale `e`. -/
def elementAt (f : Format) (e : Nat) : FpVal → Nat
  | .num n m x => (fit f .nearest n m (x - ((e : Int) - 127))).1
  | .inf n => if f.inf then infCode f n else 0x7F
  | .nan => 0x7F

/-- Elements packed as bytes, element 0 lowest. -/
def packMx (es : List Nat) : Nat := es.zipIdx.foldl (fun t e => t + e.1 % 256 * 256 ^ e.2) 0

/-- 32 values as a block whose scale starts at `e`. -/
def encodeMx (f : Format) (e : Nat) (vs : List FpVal) (poison : Bool) : MxBlock :=
  let x := bumpScale f vs 255 e
  ⟨packMx (vs.map (elementAt f x)), x, poison, poison⟩

/-- Element `i` of a block as its code reads under the block's scale: a scale of 0xFF makes it NaN (R53). -/
def mxElement (f : Format) (b : MxBlock) (i : Nat) : FpVal := if b.scale = 0xFF then .nan else decodeFp f (bits b.elems (8 * i) 8)

/-- The FP32 value of element `i` of a block. -/
def mxLane (f : Format) (b : MxBlock) (i : Nat) : Nat :=
  match mxElement f b i with
  | .num n m x => (pack32 false (.num n m (x + (b.scale : Int) - 127))).1
  | v => (pack32 true v).1

def mxLanes (f : Format) (b : MxBlock) : List Nat := (List.range 32).map (mxLane f b)

/-- The flags that encoding non-finite values meets: an infinity that an E4M3 block carries as its NaN generates one (R81, R400). -/
def encodeFlags (f : Format) (vs : List FpVal) : Nat := flagIf (!f.inf && vs.any (·.isInf)) flagNanGenerated

/-- A leaf of 32 FP32 values at its agreed scale, with the flags it meets. A poisoned value gives poison and no flag. -/
def leafMx (f : Format) (agreed : Nat) (vs : List Nat) (poison : Bool) : MxBlock × Nat :=
  let l := vs.map dec32
  (encodeMx f (min agreed 0xFE) l poison, if poison then 0 else inputFlags l ||| encodeFlags f l)

/-- Two blocks combined, with the flags that the addition and the encoding meet. -/
def combineMx (f : Format) (x y : MxBlock) : MxBlock × Nat :=
  let sums := ((mxLanes f x).zip (mxLanes f y)).map fun e => fadd e.1 e.2
  let l := sums.map fun e => dec32 e.1
  let poison := x.poison || y.poison
  (encodeMx f (max x.scale y.scale) l poison, if poison then 0 else sums.foldl (fun t e => t ||| e.2) (encodeFlags f l))

/-- A value under way: the block and the flags met so far. -/
abbrev MxValue := MxBlock × Nat

/-- A left fold of `combine` over values that are all present. -/
def foldMx (f : Format) : List (Option MxValue) → Option MxValue
  | [] => none
  | some a :: r => r.foldl (fun t y => match t, y with
      | some t, some y => let c := combineMx f t.1 y.1; some (c.1, t.2 ||| y.2 ||| c.2)
      | _, _ => none) (some a)
  | none :: _ => none

/-! ## Shards (R391, R392) -/

/-- Blocks of a tensor of `e` elements. -/
def mxBlocks (e : Nat) : Nat := ceilDiv e 32

/-- First block of shard `r` of `n` blocks among `m` members. -/
def shardFirst (n m r : Nat) : Nat := r * n / m
def shardCount (n m r : Nat) : Nat := shardFirst n m (r + 1) - shardFirst n m r

/-- The shard that holds block `b`. -/
def shardOf (n m b : Nat) : Nat := ((b + 1) * m - 1) / n

/-- Bytes of the shard layout of `n` blocks, and of a slot of the result buffer. -/
def shardBytes (n : Nat) : Nat := ceilDiv (32 * n) 4096 * 4096 + n
def slotBytes (n m : Nat) : Nat := ceilDiv (shardBytes (ceilDiv n m)) 4096 * 4096

/-! ## Where values are combined and where they go (R401) -/

/-- A set's algorithm, its members and its group size. -/
structure Shape where
  alg   : Nat
  count : Nat
  group : Nat
  deriving DecidableEq, Repr

/-- Tree: the first member, the size, and the collector for shard `s` of group `g`. -/
def Shape.groupFirst (x : Shape) (g : Nat) : Nat := g * x.group
def Shape.groupSize (x : Shape) (g : Nat) : Nat := min x.group (x.count - g * x.group)
def Shape.collector (x : Shape) (g s : Nat) : Nat := x.groupFirst g + s % x.groupSize g
def Shape.groups (x : Shape) : Nat := ceilDiv x.count x.group

/-- Index bits of a set of 2^q members. -/
def Shape.levels (x : Shape) : Nat := Nat.log2 x.count

/-- The highest index bit in which two members differ, plus one; 0 where they agree. -/
def topDiff (q a b : Nat) : Nat := (((List.range q).filter fun i => bit a i != bit b i).map (· + 1)).foldl max 0

/-- The values that role `k` makes of a block of shard `s`: the role that each goes to (none: the final one) and its stage. Only a
tree's owner that is not its group's collector makes two. -/
def Shape.outputs (x : Shape) (k s : Nat) : List (Option Nat × Nat) :=
  if x.count = 1 then [(none, 2)]
  else if x.alg = 0 then [(if k = s then none else some ((k + 1) % x.count), 2)]
  else if x.alg = 1 then
    let c := x.collector (k / x.group) s
    (if k = c then (if k = s then [] else [(some s, 1)]) else [(some c, 1)]) ++ (if k = s then [(none, 2)] else [])
  else
    let t := topDiff x.levels k s
    [(if t = 0 then none else some (k ^^^ 2 ^ (t - 1)), 2)]

/-- The value of stage `stage` that role `k` makes of a block of shard `s`, from its leaf and the pieces it has received. -/
def Shape.value (x : Shape) (f : Format) (k s stage : Nat) (leaf : MxValue) (piece : Nat → Option MxBlock) : Option MxValue :=
  let got := fun m => (piece m).map fun b => (b, 0)
  if x.count = 1 then some leaf
  else if x.alg = 0 then
    if (k + x.count - s - 1) % x.count = 0 then some leaf
    else foldMx f [got ((k + x.count - 1) % x.count), some leaf]
  else if x.alg = 1 then
    let own := k / x.group
    let group := foldMx f ((List.range (x.groupSize own)).map fun i =>
      let m := x.groupFirst own + i
      if m = k then some leaf else got m)
    let first := if k = x.collector own s then group else some leaf
    if stage = 1 then first
    else foldMx f ((List.range x.groups).map fun g =>
      let c := x.collector g s
      if c = k then group else got c)
  else
    let t := topDiff x.levels k s
    ((List.range x.levels).reverse.filter fun i => decide (t ≤ i)).foldl (fun v i => foldMx f [v, got (k ^^^ 2 ^ i)])
      (some leaf)

/-- The roles to which role `k` passes what shard `s`'s owner gives to every member (R401 in reverse, R411, R413, R414). -/
def Shape.children (x : Shape) (k s : Nat) : List Nat :=
  if x.count = 1 then []
  else if x.alg = 0 then
    let m := (k + x.count - 1) % x.count
    if m = s then [] else [m]
  else if x.alg = 1 then
    let own := k / x.group
    let down := if k = x.collector own s then
        ((List.range (x.groupSize own)).map fun i => x.groupFirst own + i).filter fun m => m != k && m != s
      else []
    let across := if k = s then ((List.range x.groups).map fun g => x.collector g s).filter fun m => m != k else []
    across ++ down.filter fun m => !across.contains m
  else ((List.range x.levels).filter fun i => decide (topDiff x.levels k s ≤ i)).map fun i => k ^^^ 2 ^ i

/-! ## Records and scales (R411, R413) -/

/-- Elements of block `b` of a tensor of `e` elements that are not finite, by index. -/
def nonfiniteIn (f : Format) (e b : Nat) (x : MxBlock) : List Nat :=
  if x.poison then [] else
  (List.range 32).filterMap fun i =>
    let v := mxElement f x i
    if decide (32 * b + i < e) && (v.isNan || v.isInf) then some (32 * b + i) else none

/-- What a result write of a block counts (R617): its elements that are a NaN or an infinity of the format, and 32 for a scale of 0xFF;
poison is not judged. -/
def storedNonfinite (f : Format) (x : MxBlock) : Nat :=
  (if x.poison then 0 else ((List.range 32).filter fun i =>
    let v := decodeFp f (bits x.elems (8 * i) 8)
    v.isNan || v.isInf).length) + (if x.scale = 0xFF ∧ x.scalePoison = false then 32 else 0)

/-- A shard's record: count in [39:0], first index in [79:40], bumps in [111:80]. -/
def shardRecord (bad : List Nat) (bumps : Nat) : Nat :=
  min bad.length (ones 40) + bad.head?.getD (ones 40) * 2 ^ 40 + bumps % 2 ^ 32 * 2 ^ 80

/-- The next agreed scale of a final block (R413): unchanged for a poisoned block and one with no nonzero finite element. -/
def nextScale (f : Format) (headroom agreed : Nat) (x : MxBlock) : Nat :=
  if x.poison then agreed else
  let vs := ((mxLanes f x).map dec32).filter fun v => !(v.isNan || v.isInf)
  match amax vs with
  | .num _ 0 _ => agreed
  | .num _ m e =>
    let shared := max (-127) (min 127 ((Nat.log2 m : Int) + e - emaxOf f))
    (max 0 (min 0xFE (shared + 127 + headroom))).toNat
  | _ => agreed

end Sys2Proof.Machine
end

