-- ==== Sys2Proof/Machine/Reduction.lean ====
section
/-! DEFINITION. The reduction engine: sets, requests, units, late members, aborts and summaries (spec/11_reduction.md R386 to R417).
A set is named by its number `n`. -/

namespace Sys2Proof.Machine

/-! ## Sets (R386 to R388) -/

def State.redSet (s : State) (n : Nat) : RedSet := kget RedSet.empty s.sets n
def State.setRed (s : State) (n : Nat) (f : RedSet → RedSet) : State :=
  { s with sets := kput RedSet.empty s.sets n (f (s.redSet n)) }

/-- Entry 0x6010 + n. -/
def State.red (s : State) (n sub : Nat) : Nat := s.dget (0x6010 + n) sub

def setUnformed : Nat := 0
def setForming : Nat := 1
def setFormed : Nat := 2
def setRefused : Nat := 3

def ownIndex (s : State) (n : Nat) : Nat := s.red n 3
def shapeOf (s : State) (n : Nat) : Shape := ⟨s.red n 5, s.red n 2, s.red n 6⟩
def memberOf (s : State) (n m : Nat) : Member := kget Member.none (s.redSet n).members m

/-- The other members of a set. -/
def partners (s : State) (n : Nat) : List Nat := (List.range (s.red n 2)).filter (· != ownIndex s n)

/-- The members whose backup this member is, ascending (R392). -/
def backedUp (s : State) (n : Nat) : List Nat := (partners s n).filter fun m => (memberOf s n m).backup == ownIndex s n

/-- The partner flows of member `m` (R388). -/
def sendFlow (s : State) (n m : Nat) : Nat := s.red n 7 + 2 * m
def recvFlow (s : State) (n m : Nat) : Nat := s.red n 7 + 2 * m + 1

/-- The set whose receive flow towards a partner a flow is. -/
def setOfRecv (s : State) (f : Nat) : Option Nat :=
  (List.range 8).find? fun n => (s.red n 0xD == setForming || s.red n 0xD == setFormed) && (partners s n).any fun m => recvFlow s n m == f
/-- The set of which a flow is a partner flow of either direction. -/
def setOfFlow (s : State) (f : Nat) : Option Nat :=
  (List.range 8).find? fun n => (s.red n 0xD == setForming || s.red n 0xD == setFormed) &&
    (partners s n).any fun m => recvFlow s n m == f || sendFlow s n m == f

/-- The digest of the member table (R387). -/
def memberDigest (s : State) (n : Nat) : Nat :=
  Config.sha384 ((List.range (s.red n 2)).flatMap fun m =>
    leBytes 16 (memberOf s n m).address ++ leBytes 2 (memberOf s n m).backup)

/-- `REDUCTION_RECORD_FIRST` of a case (R417). -/
def redCase (reason n step member : Nat) : Nat := reason * 2 ^ 60 + n * 2 ^ 57 + step * 2 ^ 11 + member

/-! ## Requests (R393, R394) -/

def reqStep (r : Nat) : Nat := bits r 480 32
def reqElements (r : Nat) : Nat := bits r 432 40
def reqDelta (r : Nat) : Nat := bits r 416 16
def reqFormat (r : Nat) : Nat := bits r 4 4
def reqKind (r : Nat) : Nat := bits r 0 4
def reqSet (r : Nat) : Nat := bits r 8 3
def reqUpdate (r : Nat) : Bool := bit r 11
def reqTag (r : Nat) : Nat := bits r 16 48

/-- Contribution, result and scale buffers: buffer number and byte offset. -/
def reqContrib (r : Nat) : Nat × Nat := (bits r 404 12, bits r 376 28 * 4096)
def reqResult (r : Nat) : Nat × Nat := (bits r 364 12, bits r 336 28 * 4096)
def reqScale (r : Nat) : Nat × Nat := (bits r 324 12, bits r 296 28 * 4096)

def reqBlocks (r : Nat) : Nat := mxBlocks (reqElements r)

/-- The step fields of a unit header (R403). -/
def stepHeader (r : Nat) : Nat :=
  reqStep r * 2 ^ 480 + reqElements r * 2 ^ 366 + reqFormat r * 2 ^ 362 + reqKind r * 2 ^ 360 + b2n (reqUpdate r) * 2 ^ 359 + 2 ^ 12

/-- The context of the tenant that sent the request, resident or saved (R460). -/
def tenantContext (s : State) (c t : Nat) : Ctx :=
  if s.resident c = some t then s.ctx c else ((kfind s.parked t).map (·.context)).getD Ctx.empty

/-- A buffer of class 3 or 4 that holds `n` bytes from an offset. -/
def redBufferOk (x : Ctx) (b : Nat × Nat) (n : Nat) : Bool :=
  let y := x.buffer b.1
  y.home != 0 && (y.cls == 3 || y.cls == 4) && decide (b.2 + n ≤ y.size * 4096)

/-- Device address of byte `off` of a buffer place. -/
def redAddress (x : Ctx) (b : Nat × Nat) (off : Nat) : Nat := (x.buffer b.1).address + b.2 + off

/-- The request is one that the engine accepts for set `n` (R394). -/
def requestOk (s : State) (n r : Nat) (x : Ctx) : Bool :=
  let m := s.red n 2
  let nb := reqBlocks r
  let e := reqElements r
  bits r 472 8 == 0 && bits r 64 232 == 0 && bits r 12 4 == 1 && (reqKind r == 1 || reqKind r == 2) &&
    (reqFormat r == 4 || reqFormat r == 5) && (reqKind r == 1 || reqDelta r == 0) &&
    (match (s.redSet n).lastStep with
      | none => true
      | some p => reqStep r == (p + 1) % 2 ^ 32) &&
    redBufferOk x (reqContrib r) (if reqKind r = 1 then 4 * e else shardBytes (shardCount nb m (ownIndex s n))) &&
    redBufferOk x (reqResult r) (if reqKind r = 1 then slotBytes nb m * (1 + (backedUp s n).length) else shardBytes nb) &&
    redBufferOk x (reqScale r) nb

/-! ## Buffers of a step (R392) -/

def stepCtx (s : State) (n : Nat) (st : RedStep) : Ctx := tenantContext s (s.red n 4) st.tenant
def stepBlocks (st : RedStep) : Nat := reqBlocks st.request

/-- The agreed scale of a block, with its tag. -/
def agreedScale (s : State) (n : Nat) (st : RedStep) (b : Nat) : Nat × Bool :=
  let a := redAddress (stepCtx s n st) (reqScale st.request) b
  (min (memByte s.mem a).toNat 0xFE, poisoned s a)

/-- This member's leaf of a block: elements beyond E are +0 (R391, R398). -/
def leafOf (s : State) (n : Nat) (st : RedStep) (b : Nat) : MxValue :=
  let a := redAddress (stepCtx s n st) (reqContrib st.request) (128 * b)
  let k := min 32 (reqElements st.request - 32 * b)
  let bs := readTagged s a (4 * k)
  let vs := (List.range 32).map fun i => if i < k then ofLe ((bs.map (·.1)).drop (4 * i) |>.take 4) else 0
  let g := agreedScale s n st b
  leafMx (mxFormat (reqFormat st.request)) g.1 vs (anyTagged bs || g.2)

/-- Blocks of a shard laid out from an address: elements, then scales at the next 4 KiB boundary (R392). -/
def writeShard (s : State) (a : Nat) (bs : List MxBlock) : State :=
  let t := writeTagged s a (bs.flatMap fun b => (leBytes 32 b.elems).map fun x => (x, b.poison))
  writeTagged t (a + ceilDiv (32 * bs.length) 4096 * 4096) (bs.map fun b => (BitVec.ofNat 8 b.scale, b.scalePoison))

/-- The result of a `REDUCE` step is written, and judged (R617). -/
def writeResult (s : State) (f : Format) (a : Nat) (bs : List MxBlock) : State :=
  (writeShard s a bs).nonfinite 0x440 (bs.map (storedNonfinite f)).sum

/-- Block `i` of a shard of `n` blocks laid out at an address. -/
def readShard (s : State) (a n i : Nat) : MxBlock :=
  let es := readTagged s (a + 32 * i) 32
  let c := a + ceilDiv (32 * n) 4096 * 4096 + i
  ⟨ofLe (es.map (·.1)), (memByte s.mem c).toNat, anyTagged es, poisoned s c⟩

/-- Address of the result slot in which this member keeps the shard of role `r` (R392, R408). -/
def slotAddress (s : State) (n : Nat) (st : RedStep) (r : Nat) : Nat :=
  let j := if r = ownIndex s n then 0 else 1 + ((backedUp s n).takeWhile (· != r)).length
  redAddress (stepCtx s n st) (reqResult st.request) (j * slotBytes (stepBlocks st) (s.red n 2))

/-- The blocks of shard `r`. -/
def shardRange (s : State) (n : Nat) (st : RedStep) (r : Nat) : List Nat :=
  rangeFrom (shardFirst (stepBlocks st) (s.red n 2) r) (shardCount (stepBlocks st) (s.red n 2) r)

/-! ## Roles and messages -/

/-- The member that performs a role in the step (R406). -/
def performer (st : RedStep) (r : Nat) : Nat := kget r st.taken r

/-- The roles that this member performs. -/
def ownRoles (s : State) (n : Nat) (st : RedStep) : List Nat :=
  let k := ownIndex s n
  (if st.stopped then [] else [k]) ++ (st.taken.filter fun e => e.2 == k && e.1 != k).map (·.1)

def noBlock : MxBlock := ⟨0, 0, false, false⟩

/-- Keys of a piece, and of a value or item by stage or phase, role and index. -/
def pieceKey (role sender b : Nat) : Nat := (role * 2048 + sender) * 2 ^ 40 + b
def itemKey (phase role b : Nat) : Nat := (phase * 2048 + role) * 2 ^ 40 + b

/-- A message for the member that performs a role. -/
def toRole (st : RedStep) (phase role sender index : Nat) (item : MxBlock) (value : Nat) : RedMsg :=
  ⟨performer st role, stepHeader st.request, phase, role, sender, index, item, value, false⟩

/-- What the owner of an item passes on to every member: role `r` takes it once, and its children get it. -/
def passOn (s : State) (n : Nat) (st : RedStep) (m : RedMsg) (origin : Nat) : RedStep × List RedMsg :=
  let key := itemKey m.phase m.role m.index
  if st.passed.contains key || !(ownRoles s n st).contains m.role then (st, [])
  else ({ st with passed := sinsert st.passed key },
    ((shapeOf s n).children m.role origin).map fun c => toRole st m.phase c origin m.index m.item m.value)

/-- The step of a set becomes `st`. -/
def setStep (s : State) (n : Nat) (st : RedStep) : State := s.setRed n fun x => { x with step := some st }

/-- One item reaches a role of this member, as the first copy of its kind (R407, R408, R411, R413, R414): what it passes on. -/
def acceptItem (s : State) (n : Nat) (m : RedMsg) : State × List RedMsg :=
  match (s.redSet n).step with
  | none => (s, [])
  | some st =>
    let origin := if m.phase = 3 then m.index else shardOf (stepBlocks st) (s.red n 2) m.index
    if m.phase = 2 then
      let k := pieceKey m.role m.sender m.index
      (setStep s n (if (kfind st.pieces k).isSome then st else { st with pieces := kset st.pieces k m.item }), [])
    else if m.phase = 3 then
      let y := if (kfind st.records m.index).isSome then st else { st with records := kset st.records m.index m.value }
      let p := passOn s n y m origin
      (setStep s n p.1, p.2)
    else if m.phase = 4 then
      let p := passOn s n { st with scales := kset st.scales m.index (kget m.value st.scales m.index) } m origin
      let t := setStep s n p.1
      (if (kfind st.scales m.index).isSome then t
        else writeBytes t (redAddress (stepCtx s n st) (reqScale st.request) m.index) [BitVec.ofNat 8 m.value], p.2)
    else if m.phase = 7 then
      let p := passOn s n { st with gathered := sinsert st.gathered m.index } m origin
      let t := setStep s n p.1
      if st.gathered.contains m.index then (t, p.2)
      else
        let a := redAddress (stepCtx s n st) (reqResult st.request) 0
        let u := writeTagged t (a + 32 * m.index) ((leBytes 32 m.item.elems).map fun x => (x, m.item.poison))
        (writeTagged u (a + ceilDiv (32 * stepBlocks st) 4096 * 4096 + m.index) [(BitVec.ofNat 8 m.item.scale, m.item.scalePoison)], p.2)
    else if m.phase = 8 then
      let k := ownIndex s n
      let y := { st with finals := kset st.finals (itemKey 0 k m.index) (kget m.item st.finals (itemKey 0 k m.index)) }
      let all := (shardRange s n st k).map fun b => kfind y.finals (itemKey 0 k b)
      if st.stopped && !st.done.contains k && all.all (·.isSome) then
        (writeResult (setStep s n { y with done := sinsert y.done k }) (mxFormat (reqFormat st.request)) (slotAddress s n st k)
          (all.filterMap id), [])
      else (setStep s n y, [])
    else (s, [])

/-- Messages go to this member's own roles, or wait in the outbox. -/
def routeAll (s : State) (n : Nat) (ms : List RedMsg) : State × List RedMsg :=
  ms.foldl (fun a m =>
    if m.member = ownIndex s n then
      let r := acceptItem a.1 n m
      (r.1, a.2 ++ r.2)
    else (a.1.setRed n fun x => { x with outbox := x.outbox ++ [m] }, a.2)) (s, [])

/-! ## Combining (R398, R401) -/

/-- One value of a block that role `r` can make now: it is sent on, or is the final block. -/
def makeValue (n r sh b : Nat) (out : Option Nat × Nat) (a : State × List RedMsg) : State × List RedMsg :=
  match (a.1.redSet n).step with
  | none => a
  | some st =>
    let key := itemKey out.2 r b
    if st.used.contains key then a
    else match (shapeOf a.1 n).value (mxFormat (reqFormat st.request)) r sh out.2 (leafOf a.1 n st b)
        (fun m => kfind st.pieces (pieceKey r m b)) with
      | none => a
      | some v =>
        let y := { st with used := sinsert st.used key }
        let t := a.1.arith 0x440 (.of v.2)
        match out.1 with
        | some d => (setStep t n y, a.2 ++ [toRole st 2 d r b v.1 0])
        | none => (setStep t n { y with finals := kset y.finals (itemKey 0 r b) v.1 }, a.2)

/-- The shard of role `r` is final: it is written into its slot, its record and its next scales go to every member, and a backup
keeps it for the late member (R408, R411, R413). -/
def finishRole (n r : Nat) (a : State × List RedMsg) : State × List RedMsg :=
  match (a.1.redSet n).step with
  | none => a
  | some st =>
    let s := a.1
    let bs := shardRange s n st r
    let fs := bs.map fun b => kfind st.finals (itemKey 0 r b)
    if st.done.contains r || !(fs.all (·.isSome)) then a
    else
      let f := mxFormat (reqFormat st.request)
      let blocks := fs.filterMap id
      let pairs := bs.zip blocks
      let bad := pairs.flatMap fun e => nonfiniteIn f (reqElements st.request) e.1 e.2
      let bumps := (pairs.map fun e => e.2.scale - (agreedScale s n st e.1).1).sum
      let t := writeResult (setStep s n { st with done := sinsert st.done r }) f (slotAddress s n st r) blocks
      let record := toRole st 3 r r r noBlock (shardRecord bad bumps)
      let scales := if reqUpdate st.request then
          pairs.map fun e => toRole st 4 r r e.1 noBlock (nextScale f (s.red n 0xC) (agreedScale s n st e.1).1 e.2)
        else []
      let kept := if r = ownIndex s n then [] else
        pairs.map fun e => { toRole st 8 r r e.1 e.2 0 with member := r, late := true }
      (t.setRed n fun x => { x with outbox := x.outbox ++ kept }, a.2 ++ record :: scales)

/-- What this member's roles can make now. -/
def produce (s : State) (n : Nat) : State × List RedMsg :=
  match (s.redSet n).step with
  | none => (s, [])
  | some st =>
    if reqKind st.request ≠ 1 then (s, []) else
    let m := s.red n 2
    let made := (ownRoles s n st).foldl (fun a r => (List.range m).foldl (fun a sh =>
      ((shapeOf s n).outputs r sh).foldl (fun a out => (shardRange s n st sh).foldl (fun a b => makeValue n r sh b out a) a) a) a)
      (s, [])
    (ownRoles s n st).foldl (fun a r => finishRole n r a) made

/-- Values are made and items passed between this member's own roles until nothing more happens here. -/
def pump (n : Nat) : Nat → State → List RedMsg → State
  | 0, s, _ => s
  | k + 1, s, ms =>
    let a := routeAll s n ms
    let b := produce a.1 n
    if (a.2 ++ b.2).isEmpty then b.1 else pump n k b.1 (a.2 ++ b.2)

/-! ## Sending (R403) -/

/-- Items that one unit holds in a phase. -/
def unitItems (phase : Nat) : Nat := if phase = 3 then 252 else if phase = 4 then 4032 else if phase = 5 ∨ phase = 6 then 1 else 122

/-- A message continues the unit that `m` began, as its item `i`. -/
def continues (m : RedMsg) (i : Nat) (y : RedMsg) : Bool :=
  y.member == m.member && y.header == m.header && y.phase == m.phase && y.role == m.role && y.sender == m.sender &&
    y.index == m.index + i && y.late == m.late

/-- The longest run of messages that one unit can hold, from the first of `m`. -/
def unitRun (m : RedMsg) (l : List RedMsg) : List RedMsg :=
  ((l.take (unitItems m.phase)).zipIdx.takeWhile fun e => continues m e.2 e.1).map (·.1)

/-- The 4 KiB unit of a run of messages. -/
def unitOf (m : RedMsg) (l : List RedMsg) : List TByte :=
  let notice := m.phase == 5 || m.phase == 6
  let count := if notice then 0 else l.length
  let head := m.header + m.index * 2 ^ 440 + count * 2 ^ 428 + m.role * 2 ^ 417 + m.sender * 2 ^ 406 + m.phase * 2 ^ 8
  let body : List TByte :=
    if notice then []
    else if m.phase = 3 then untagged (l.flatMap fun y => leBytes 16 y.value)
    else if m.phase = 4 then untagged (l.map fun y => BitVec.ofNat 8 y.value)
    else (l.flatMap fun y => (leBytes 32 y.item.elems).map fun x => (x, y.item.poison)) ++
      l.map fun y => (BitVec.ofNat 8 y.item.scale, y.item.scalePoison)
  (untagged (leBytes 64 head) ++ body ++ List.replicate 4032 (0, false)).take 4096

/-- What waits is sent as far as credit goes, in order for each member. -/
def flushSet (n : Nat) : Nat → State → State
  | 0, s => s
  | k + 1, s =>
    match (s.redSet n).outbox.find? fun m => holdsCredit s (sendFlow s n m.member) 1 with
    | none => s
    | some m =>
      let l := unitRun m ((s.redSet n).outbox.dropWhile (· != m))
      flushSet n k (sendUnits (s.setRed n fun x => { x with outbox := x.outbox.filter fun y => !l.contains y })
        (sendFlow s n m.member) false [unitOf m l])

/-- Everything that waits in a set. -/
def flush (s : State) (n : Nat) : State := flushSet n ((s.redSet n).outbox.length) s

/-- Credit of 64 units beyond the landed ones on every partner's flow (R405). -/
def grantPartners (s : State) (n ahead : Nat) : State :=
  (partners s n).foldl (fun t m => t.setFlow (recvFlow s n m) ((t.flow (recvFlow s n m)).grant ((t.flow (recvFlow s n m)).done + ahead))) s

/-! ## Summaries (R396, R409, R412) -/

/-- A summary: status, veto, own-late, totals and counts. -/
def summaryOf (s : State) (n : Nat) (r status : Nat) (late : Bool) (total first bumps substituted vacant : Nat) : Nat :=
  let m := s.red n 2
  let k := ownIndex s n
  let veto := status == 1 || status == 3 || (s.red n 0xB == 1 && total != 0)
  min total (ones 64) * 2 ^ 448 + first * 2 ^ 408 + bumps % 2 ^ 32 * 2 ^ 376 + reqStep r * 2 ^ 344 + substituted * 2 ^ 328 +
    vacant * 2 ^ 312 + reqTag r * 2 ^ 256 + shardFirst (reqBlocks r) m k * 2 ^ 216 + shardCount (reqBlocks r) m k * 2 ^ 176 +
    2 ^ 12 + status * 2 ^ 8 + b2n late * 2 ^ 5 + b2n veto * 2 ^ 4 + 3

/-- The summary of a step that ended without totals. -/
def emptySummary (s : State) (n r status : Nat) (late : Bool) (vacant : Nat) : Nat :=
  summaryOf s n r status late 0 (ones 40) 0 0 vacant

/-- The step ends with a summary: its request's unit is free again (R393). -/
def concludeStep (s : State) (n r summary : Nat) : State :=
  let t := s.setRed n fun x => { x with step := none, lastStep := some (reqStep r), summaries := x.summaries ++ [summary] }
  t.setFlow (s.red n 8) ((t.flow (s.red n 8)).grant ((t.flow (s.red n 8)).credit + 1))

/-- Totals over every shard's record (R411). -/
def totals (st : RedStep) : Nat × Nat × Nat :=
  ((st.records.map fun e => bits e.2 0 40).sum, st.records.foldl (fun m e => min m (bits e.2 40 40)) (ones 40),
    (st.records.map fun e => bits e.2 80 32).sum)

/-- Every part of the step that the member's summary waits for is there (R396, R410, R413, R414). -/
def stepComplete (s : State) (n : Nat) (st : RedStep) : Bool :=
  let nb := stepBlocks st
  if reqKind st.request = 2 then st.gathered.length == nb
  else st.done.contains (ownIndex s n) && (ownRoles s n st).all st.done.contains && st.records.length == s.red n 2 &&
    (!reqUpdate st.request || st.scales.length == nb)

/-- The late members that this member stands for get the records and scales of the step after their shard (R408). -/
def keepForLate (s : State) (n : Nat) (st : RedStep) : State :=
  let late := (ownRoles s n st).filter (· != ownIndex s n)
  let msgs := late.flatMap fun r =>
    (st.records.map fun e => { toRole st 3 r e.1 e.1 noBlock e.2 with member := r, late := true }) ++
    (st.scales.map fun e => { toRole st 4 r (shardOf (stepBlocks st) (s.red n 2) e.1) e.1 noBlock e.2 with member := r, late := true })
  s.setRed n fun x => { x with outbox := x.outbox ++ msgs }

/-- A complete step ends (R396, R410). -/
def completeStep (s : State) (n : Nat) : State :=
  match (s.redSet n).step with
  | none => s
  | some st =>
    if stepComplete s n st then
      let v := totals st
      let t := keepForLate s n st
      concludeStep t n st.request (if reqKind st.request = 2 then emptySummary s n st.request 0 false 0
        else summaryOf s n st.request 0 st.stopped v.1 v.2.1 v.2.2 st.taken.length 0)
    else s

/-- An aborting member stops the step: notices, its slot 0 zeroed, the case recorded, then its policy (R409). -/
def stopStep (s : State) (n r member vacant : Nat) (x : Option Ctx) : State :=
  let notices := (partners s n).map fun m => (⟨m, reqStep r * 2 ^ 480 + 2 ^ 12, 6, m, ownIndex s n, 0, noBlock, 0, false⟩ : RedMsg)
  let k := shardCount (reqBlocks r) (s.red n 2) (ownIndex s n)
  let a := s.setRed n fun y => { y with step := none, outbox := y.outbox.filter (·.late) ++ notices }
  let b := match x with
    | some x => if reqKind r = 1 then
        let at_ := redAddress x (reqResult r) 0
        writeShard (copyFirst a (byteGranules at_ (shardBytes k))) at_ (List.replicate k ⟨0, 0x7F, false, false⟩)
      else a
    | none => a
  let d := (flush b n).record 0x5090 1 [(2, 1)] (some (redCase 1 n (reqStep r) member))
  if s.red n 0xA = 0 then concludeStep d n r (emptySummary s n r 1 false vacant)
  else enterFaulted d 8 (redCase 1 n (reqStep r) member)

/-- The step in progress is aborted, `member` being the one concerned. -/
def abortStep (s : State) (n member vacant : Nat) : State := match (s.redSet n).step with
  | none => s
  | some st => stopStep s n st.request member vacant (some (stepCtx s n st))

/-! ## Acceptance (R393, R394, R405, R414) -/

/-- A rejected request is recorded (R394, R404). -/
def requestInvalid (s : State) (n step member : Nat) : State :=
  s.record 0x5090 4 [(6, 1)] (some (redCase 4 n step member))

/-- The items with which an accepted step begins: a gather's own shard. -/
def openingItems (s : State) (n : Nat) (st : RedStep) : List RedMsg :=
  let k := ownIndex s n
  let bs := shardRange s n st k
  if reqKind st.request = 2 then
    let a := redAddress (stepCtx s n st) (reqContrib st.request) 0
    bs.map fun b => toRole st 7 k k b (readShard s a bs.length (b - shardFirst (stepBlocks st) (s.red n 2) k)) 0
  else []

/-- Values are made, sent and completed as far as they go. -/
def advance (s : State) (n : Nat) (ms : List RedMsg) : State := completeStep (flush (pump n 64 s ms) n) n

/-- An accepted request starts its step; one with no elements ends at once (R391). -/
def startStep (s : State) (n r t : Nat) : State :=
  let a := s.setRed n fun x =>
    { x with outbox := x.outbox.filter fun m => !m.late, members := x.members.map fun e => (e.1, { e.2 with lastRole := 0 }) }
  if reqElements r = 0 then concludeStep a n r (emptySummary a n r 2 false 0)
  else
    let st : RedStep := ⟨r, s.beat, t, false, [], [], [], [], [], [], [], [], []⟩
    let b := grantPartners (setStep a n st) n 64
    flush (advance b n (openingItems b n st)) n

/-- The tenant that sends the set's requests. -/
def requestTenant (s : State) (n : Nat) : Nat := (flowTenant s (s.red n 8)).getD 0

/-- The next request is accepted, or rejected and its step aborted for the whole set. -/
def acceptNext (s : State) (n : Nat) : State :=
  match (s.redSet n).step, (s.redSet n).waiting with
  | none, r :: rest =>
    let t := requestTenant s n
    let x := tenantContext s (s.red n 4) t
    let a := s.setRed n fun y => { y with waiting := rest }
    if requestOk a n r x then startStep a n r t
    else
      let ok := redBufferOk x (reqResult r) (slotBytes (reqBlocks r) (s.red n 2))
      stopStep (requestInvalid a n (reqStep r) 0x7FF) n r 0x7FF 0 (if ok then some x else none)
  | _, _ => s

/-- Requests are accepted until one is in progress: at most the two that the flow's credit lets wait. -/
def acceptAll (s : State) (n : Nat) : State := acceptNext (acceptNext s n) n

/-- Everything that may follow a change of a set: a flush, the step's end, and the next request. -/
def settleSet (s : State) (n : Nat) : State := acceptAll (flush s n) n

/-- A request unit arrives on flow `f`. -/
def requestArrives (s : State) (f r : Nat) : State :=
  let n := reqSet r
  if !s.squareUp then s
  else if s.red n 0xD ≠ setFormed ∨ s.red n 8 ≠ f ∨ s.red n 4 ≠ (s.flow f).ctx then
    requestInvalid s n (reqStep r) 0x7FF
  else settleSet (s.setRed n fun x => { x with waiting := x.waiting ++ [r] }) n

/-- REDUCE (R393, R394). -/
def execReduce (f record : Nat) (s : State) : Host.Outcome State Fault Refusal :=
  .next (if reqKind record = 2 then s else requestArrives s f (record % 2 ^ 512))

/-- GATHER (R393, R394, R414). -/
def execGather (f record : Nat) (s : State) : Host.Outcome State Fault Refusal :=
  .next (if reqKind record = 2 then requestArrives s f (record % 2 ^ 512) else s)

/-! ## Units (R403, R404, R407) -/

def unitPhase (u : EngineUnit) : Nat := bits u.header 8 4
def unitCount (u : EngineUnit) : Nat := bits u.header 428 12
def unitFirst (u : EngineUnit) : Nat := bits u.header 440 40
def unitRole (u : EngineUnit) : Nat := bits u.header 417 11
def unitSender (u : EngineUnit) : Nat := bits u.header 406 11
def unitStep (u : EngineUnit) : Nat := bits u.header 480 32

/-- No reserved value (R403). -/
def unitValid (u : EngineUnit) : Bool :=
  bits u.header 16 343 == 0 && bits u.header 0 8 == 0 && bits u.header 12 4 == 1 && decide (1 ≤ unitPhase u) &&
    decide (unitPhase u ≤ 8) && decide (unitCount u ≤ 4032) && decide (unitRole u < 1024) && decide (unitSender u < 1024)

/-- The unit's step fields are those of the request (R404). -/
def sameStep (r : Nat) (u : EngineUnit) : Bool := bits u.header 359 46 == bits (stepHeader r) 359 46

/-- The poison of byte `i` of a unit's body. -/
def bodyPoison (u : EngineUnit) (i : Nat) : Bool := bit u.map ((64 + i) / 64)

/-- The items of a unit. -/
def unitMsgs (n : Nat) (own : Nat) (u : EngineUnit) : List RedMsg :=
  let c := unitCount u
  let p := unitPhase u
  (List.range c).map fun i =>
    let value := if p = 3 then ofLe ((u.body.drop (16 * i)).take 16) else (u.body.getD i 0).toNat
    let item : MxBlock := if p = 3 ∨ p = 4 then noBlock else
      let dirty := bodyPoison u (32 * i) || (p != 7 && bodyPoison u (32 * c + i))
      ⟨ofLe ((u.body.drop (32 * i)).take 32), (u.body.getD (32 * c + i) 0).toNat, dirty,
        if p = 7 then bodyPoison u (32 * c + i) else dirty⟩
    ⟨own, n, p, unitRole u, unitSender u, unitFirst u + i, item, value, false⟩

/-- A combination that meets poison is counted once per unit of data (R580). -/
def countUnitPoison (s : State) (n : Nat) (st : RedStep) (u : EngineUnit) : State :=
  if unitPhase u = 2 ∧ (unitMsgs n 0 u).any (fun m => m.item.poison || (leafOf s n st m.index).1.poison) then
    s.record 0x50E0 2 [(2, 1)] (some (poisonCase 2 (s.red n 4) 2 n))
  else s

/-- The step can no longer be had from the others (R408). -/
def missStep (s : State) (n : Nat) : State := match (s.redSet n).step with
  | none => s
  | some st =>
    let t := s.record 0x5090 5 [] (some (redCase 5 n (reqStep st.request) (ownIndex s n)))
    concludeStep (t.setRed n fun x => { x with outbox := x.outbox.filter (·.late) }) n st.request
      (emptySummary s n st.request 3 false 0)

/-- Receiving a unit of a step on a partner's flow: later steps show that this one is missed, and a difference in the step fields
aborts it. The sender's flow is granted more. -/
def stepUnit (s : State) (u : EngineUnit) (phase : Nat) (run : Nat → RedStep → State → State) : State :=
  match setOfRecv s u.flow with
  | none => s
  | some n =>
    if !unitValid u then s.dcount 0x5080 2 1
    else if unitPhase u ≠ phase then s
    else match (s.redSet n).step with
      | none => s
      | some st =>
        if unitAfter (unitStep u) (reqStep st.request) then settleSet (missStep s n) n
        else if unitStep u ≠ reqStep st.request then s
        else if phase ≠ 6 ∧ !sameStep st.request u then
          settleSet (abortStep (requestInvalid s n (unitStep u) (unitSender u)) n (unitSender u) 0) n
        else
          let t := s.setFlow u.flow ((s.flow u.flow).grant ((s.flow u.flow).done + 64))
          settleSet (run n st t) n

/-- The engine's writes into a granule that a fast copy has not reached wait (R397): the places that a step's unit may write. -/
def stepGranules (s : State) (n : Nat) (st : RedStep) : List Nat :=
  let x := stepCtx s n st
  let nb := stepBlocks st
  byteGranules (redAddress x (reqResult st.request) 0)
      (if reqKind st.request = 2 then shardBytes nb else slotBytes nb (s.red n 2) * (1 + (backedUp s n).length)) ++
    (if reqUpdate st.request then byteGranules (redAddress x (reqScale st.request) 0) nb else [])

/-- A unit's items enter the step. -/
def takeItems (u : EngineUnit) (n : Nat) (st : RedStep) (s : State) : State :=
  whenGranulesFree s (stepGranules s n st) fun t =>
    advance (countUnitPoison t n st u) n (unitMsgs n (ownIndex s n) u)

/-- PARTIAL_UNIT (R403, R404, R407). -/
def execPartialUnit (unit : EngineUnit) (s : State) : Host.Outcome State Fault Refusal := .next (stepUnit s unit 2 (takeItems unit))

/-- RECORDS_UNIT (R411). -/
def execRecordsUnit (unit : EngineUnit) (s : State) : Host.Outcome State Fault Refusal := .next (stepUnit s unit 3 (takeItems unit))

/-- SCALES_UNIT (R413). -/
def execScalesUnit (unit : EngineUnit) (s : State) : Host.Outcome State Fault Refusal := .next (stepUnit s unit 4 (takeItems unit))

/-- GATHER_UNIT (R414). -/
def execGatherUnit (unit : EngineUnit) (s : State) : Host.Outcome State Fault Refusal := .next (stepUnit s unit 7 (takeItems unit))

/-- LATE_SHARD_UNIT (R408). -/
def execLateShardUnit (unit : EngineUnit) (s : State) : Host.Outcome State Fault Refusal := .next (stepUnit s unit 8 (takeItems unit))

/-! ## Late members (R406, R407) -/

/-- A role changes hands: `by_` performs it from now on, and what waits for it goes there. -/
def takeOver (s : State) (n k by_ : Nat) : State := s.setRed n fun x =>
  { x with
    step := x.step.map fun st => { st with taken := kset st.taken k by_ }
    outbox := x.outbox.map fun m => if m.role = k ∧ m.late = false then { m with member := by_ } else m
    members := kset x.members k { kget Member.none x.members k with lastRole := 1 } }

/-- A taken-over role is counted (R406). -/
def countSubstitution (s : State) (n step k : Nat) : State :=
  s.record 0x5090 2 [(3, 1)] (some (redCase 2 n step k))

/-- What waited for a role that this member now performs reaches it. -/
def adopt (s : State) (n : Nat) : State :=
  let k := ownIndex s n
  let mine := (s.redSet n).outbox.filter fun m => m.member == k
  advance (s.setRed n fun x => { x with outbox := x.outbox.filter fun m => m.member != k }) n mine

/-- TAKEOVER_NOTICE (R406, R407): the late member stops its role, and its backup begins to perform it. -/
def execTakeoverNotice (unit : EngineUnit) (s : State) : Host.Outcome State Fault Refusal :=
  .next (stepUnit s unit 5 fun n st t =>
    let k := unitRole unit
    let j := (memberOf t n k).backup
    if (kfind st.taken k).isSome || decide (s.red n 2 ≤ j) then t
    else
      let a := countSubstitution (takeOver t n k j) n (unitStep unit) k
      let b := if k = ownIndex t n then a.setRed n fun x => { x with step := x.step.map fun y => { y with stopped := true } } else a
      adopt b n)

/-- ABORT_NOTICE (R409). -/
def execAbortNotice (unit : EngineUnit) (s : State) : Host.Outcome State Fault Refusal :=
  .next (stepUnit s unit 6 fun n _ t => abortStep t n (unitSender unit) 0)

/-- REDUCTION_DEADLINE (R406): at the member's deadline beat, for role `k` for which it holds data; `granted` are the members that
have granted credit for the step. -/
def execReductionDeadline (n k : Nat) (granted : List Nat) (s : State) : Host.Outcome State Fault Refusal :=
  match (s.redSet n).step with
  | none => .next s
  | some st =>
    let r := st.request
    let held := (s.redSet n).outbox.any fun m => m.role == k && m.member == k && !m.late
    if reqDelta r = 0 ∨ s.beat < st.beat + reqDelta r ∨ granted.contains k = true ∨ held = false ∨ k = ownIndex s n then .next s
    else
      let j := (memberOf s n k).backup
      if j = ownIndex s n ∨ granted.contains j = true then
        let a := countSubstitution (takeOver s n k j) n (reqStep r) k
        let note := fun m => (⟨m, stepHeader r, 5, k, ownIndex s n, 0, noBlock, 0, m == k⟩ : RedMsg)
        let notes := (if j = ownIndex s n then [] else [note j]) ++ [note k]
        .next (settleSet (adopt (a.setRed n fun x => { x with outbox := notes ++ x.outbox }) n) n)
      else
        let a := s.setRed n fun x => { x with members := kset x.members k { kget Member.none x.members k with lastRole := 2 } }
        .next (settleSet (abortStep a n k 1) n)

/-! ## Delivery (R396, R412, R415) -/

def sumStatus (v : Nat) : Nat := bits v 8 4
def sumTotal (v : Nat) : Nat := bits v 448 64
def sumBumps (v : Nat) : Nat := bits v 376 32
def sumVeto (v : Nat) : Bool := bit v 4

/-- What a delivered summary leaves in the status entries and records. -/
def countSummary (s : State) (n v : Nat) : State :=
  let i := 0x6030 + n
  let step := bits v 344 32
  let a := (s.dsets [(i, 1, step), (i, 3, sumBumps v), (i, 4, sumTotal v),
    (i, 5, if bits v 408 40 = ones 40 then ones 64 else bits v 408 40), (i, 6, bits v 328 16), (i, 7, sumStatus v)]).dcount i 2 1
  let b := a.dcount 0x5090 7 (sumBumps v)
  let c := if sumVeto v then b.record 0x5090 3 [(4, 1)] (some (redCase 3 n step 0x7FF)) else b
  if sumTotal v = 0 then c else c.record 0x5090 6 [] (some (redCase 6 n step 0x7FF))

/-- SUMMARY_DELIVERY (R396): the oldest summary leaves as one unit once the delivery flow holds credit. -/
def execSummaryDelivery (n : Nat) (s : State) : Host.Outcome State Fault Refusal :=
  match (s.redSet n).summaries with
  | [] => .next s
  | v :: rest =>
    if holdsCredit s (s.red n 9) 1 then
      let t := sendUnits (s.setRed n fun x => { x with summaries := rest }) (s.red n 9) true
        [untagged (leBytes 64 v) ++ List.replicate 4032 (0, false)]
      .next (countSummary t n v)
    else .next s

/-! ## Formation (R389, R390) -/

/-- The record of this member: generation 1, digest, members, algorithm, group size, policy, veto, headroom. -/
def formationFields (s : State) (n : Nat) : List Nat :=
  [1, s.red n 0xF, s.red n 2, s.red n 5, s.red n 6, s.red n 0xA, s.red n 0xB, s.red n 0xC]

/-- The formation unit for member `m`. -/
def formationUnit (s : State) (n m : Nat) : List TByte :=
  let head := m * 2 ^ 417 + ownIndex s n * 2 ^ 406 + 2 ^ 12 + 2 ^ 8
  untagged (leBytes 64 head ++ leBytes 4032 (Config.formationBody (formationFields s n)))

/-- The record goes to member `m` if its flow holds credit. -/
def sendFormation (n : Nat) (s : State) (m : Nat) : State :=
  if holdsCredit s (sendFlow s n m) 1 then sendUnits s (sendFlow s n m) true [formationUnit s n m] else s

/-- A flow entry is as R388 and the set's context require. -/
def flowFits (s : State) (n f kind : Nat) (address peerFlow : Option Nat) : Bool :=
  let x := s.flow f
  x.kind == kind && x.engine == 1 && x.ctx == s.red n 4 && decide (f < 2 ^ 18) &&
    (match address with
      | none => true
      | some a => (s.peer x.peer).address == a) &&
    (match peerFlow with
      | none => true
      | some p => x.peerFlow == p)

/-- The local checks of `FORM`. -/
def formValid (s : State) (n : Nat) : Bool :=
  let m := s.red n 2
  let k := ownIndex s n
  let alg := s.red n 5
  let all := List.range m
  m != 0 && decide (k < m) && (memberOf s n k).address == ownAddress s &&
    all.all (fun i => let b := (memberOf s n i).backup; b == 0xFFFF || (b != i && decide (b < m))) &&
    all.all (fun i => decide ((all.filter fun j => (memberOf s n j).backup == i).length ≤ 8)) &&
    (alg != 2 || 2 ^ Nat.log2 m == m) && (alg != 1 || (decide (2 ≤ s.red n 6) && decide (s.red n 6 ≤ m))) &&
    s.red n 7 % 2048 == 0 &&
    (partners s n).all (fun i =>
      flowFits s n (sendFlow s n i) 5 (some (memberOf s n i).address) (some (s.red n 7 + 2 * k + 1)) &&
      flowFits s n (recvFlow s n i) 6 (some (memberOf s n i).address) (some (s.red n 7 + 2 * k)) &&
      (s.flow (sendFlow s n i)).peer == (s.flow (recvFlow s n i)).peer) &&
    flowFits s n (s.red n 8) 6 none none && flowFits s n (s.red n 9) 5 none none

/-- A refused set (R389). -/
def refuseSet (s : State) (n status member : Nat) : State :=
  (s.dsets [(0x6010 + n, 0xD, setRefused), (0x6010 + n, 0xE, status)]).record 0x5090 0 [(5, 1)]
    (some (redCase 0 n (ones 32) member))

/-- Every record has arrived: the set is formed, and its request flow takes two requests. -/
def formIfComplete (s : State) (n : Nat) : State :=
  let left := (partners s n).filter fun m => !(s.redSet n).arrived.contains m
  let t := s.dset (0x6030 + n) 8 left.length
  if left.isEmpty ∧ t.red n 0xD = setForming then
    let u := t.dsets [(0x6010 + n, 0xD, setFormed), (0x6010 + n, 0xE, 1)]
    u.setFlow (s.red n 8) ((u.flow (s.red n 8)).grant ((u.flow (s.red n 8)).done + 2))
  else t

/-- A flow that the engine needs is opened, unless it is open already; a receive flow takes one unit until a step is accepted. -/
def openEngineFlow (s : State) (f : Nat) : State :=
  let t := if (s.flow f).state = flowClosed then (openFlow s f).2 else s
  if (t.flow f).kind = 6 ∧ (t.flow f).state = flowOpen then t.setFlow f ((t.flow f).grant ((t.flow f).done + 1)) else t

/-- The flows of the set's partners. -/
def partnerFlows (s : State) (n : Nat) : List Nat := (partners s n).flatMap fun m => [sendFlow s n m, recvFlow s n m]

/-- `FORM`. -/
def formSet (s : State) (n : Nat) : Nat × State :=
  if s.red n 0xD ≠ setUnformed ∧ s.red n 0xD ≠ setRefused then (abortState, s)
  else
    let a := { s with dict := dropIndices s.dict (0x6030 + n) (0x6030 + n) }
    let b := a.setRed n fun x => { RedSet.empty with members := x.members }
    if !formValid b n then (0, refuseSet b n 4 0x7FF)
    else
      let d := b.dsets [(0x6010 + n, 0xD, setForming), (0x6010 + n, 0xE, 0), (0x6010 + n, 0xF, memberDigest b n)]
      let e := (partnerFlows d n).foldl openEngineFlow d
      let g := [d.red n 8, d.red n 9].foldl (fun t f => if (t.flow f).state = flowClosed then (openFlow t f).2 else t) e
      (0, formIfComplete ((partners g n).foldl (sendFormation n) g) n)

/-- FORM (R389). -/
def execForm (r : Requester) (n : Nat) (s : State) : Host.Outcome State Fault Refusal :=
  .next (guardedWrite s r (0x6010 + n) 1 1 1 fun t => formSet t n)

/-- The set is unformed, its step aborted and its flows closed (R390). -/
def disbandSet (s : State) (n : Nat) : State :=
  let a := abortStep s n 0x7FF 0
  if a.power.state = .faulted then a
  else
    let b := (partnerFlows a n ++ [a.red n 8, a.red n 9]).foldl (fun t f => closeFlow t f 0) a
    (b.setRed n fun x => { RedSet.empty with members := x.members }).dsets [(0x6010 + n, 0xD, 0), (0x6010 + n, 0xE, 0)]

/-- DISBAND (R390). -/
def execDisband (r : Requester) (n : Nat) (s : State) : Host.Outcome State Fault Refusal :=
  .next (guardedWrite s r (0x6010 + n) 1 1 2 fun t => (0, if t.red n 0xD = setUnformed then t else disbandSet t n))

/-- FORMATION_RECORD (R389): member `m`'s record arrives; a formed member answers it. -/
def execFormationRecord (n m generation digest members algorithm group policy veto headroom : Nat) (s : State) :
    Host.Outcome State Fault Refusal :=
  if (partners s n).contains m = false then .next s
  else
    let f := recvFlow s n m
    let a := s.setFlow f ((s.flow f).grant ((s.flow f).done + 1))
    if s.red n 0xD = setFormed then .next (sendFormation n a m)
    else if s.red n 0xD ≠ setForming then .next s
    else if generation ≠ 1 then .next (refuseSet a n 2 m)
    else if [1, digest, members, algorithm, group, policy, veto, headroom] ≠ formationFields s n then .next (refuseSet a n 3 m)
    else .next (formIfComplete (a.setRed n fun x => { x with arrived := sinsert x.arrived m }) n)

/-- FORMATION_RETRY (R389): every member whose record is missing is asked again. -/
def execFormationRetry (n : Nat) (s : State) : Host.Outcome State Fault Refusal :=
  if s.red n 0xD ≠ setForming then .next s
  else
    let left := (partners s n).filter fun m => !(s.redSet n).arrived.contains m
    let t := left.foldl (fun t m => openEngineFlow (openEngineFlow t (sendFlow s n m)) (recvFlow s n m)) s
    .next (left.foldl (sendFormation n) t)

/-- `UNLOAD` of a context aborts the steps of its sets, which stay formed (R390). -/
def abortSets (s : State) (c : Nat) : State :=
  (List.range 8).foldl (fun t n => if t.red n 0xD = setFormed ∧ t.red n 4 = c then
    abortStep (t.setRed n fun x => { x with waiting := [] }) n 0x7FF 0 else t) s

/-- A partner flow of a set has been lost: the step in progress is aborted (R409). -/
def flowLost (s : State) (f : Nat) : State := match setOfFlow s f with
  | none => s
  | some n => if (s.redSet n).step.isSome then settleSet (abortStep s n (f % 2048 / 2) 0) n else s

/-- Credit has come on a partner's flow: what waits goes out. -/
def flowCredited (s : State) (f : Nat) : State := match setOfFlow s f with
  | none => s
  | some n => if sendFlow s n (f % 2048 / 2) = f then flush s n else s

end Sys2Proof.Machine
end

