-- ==== Sys2Proof/Machine/Checkpoint.lean ====
section
/-! DEFINITION. Cairn's objects, the drain of a generation to storage or to the host, and the serving of a peer
(spec/12_cairn.md R428 to R436, R440; spec/14_mailboxes.md R490; spec/18_faults.md R577). -/

namespace Sys2Proof.Config

/-- The bytes of shard 0, the context block and the latched registers, whose layout the spec leaves open (R422, R428), and the
reading of them. Assumption 10. -/
opaque contextShard : Machine.Capture → List Byte
opaque contextOf : List Byte → Option Machine.Capture

/-- Where in its checkpoint slot an object lies: the spec leaves it open (R490). Assumption 10. -/
opaque objectOffset : Nat → Nat → Nat

end Sys2Proof.Config

namespace Sys2Proof.Machine

/-! ## Shards (R428 to R431) -/

/-- A byte of a capture, by its key, with its mark. -/
def Capture.byte (p : Capture) (a : Nat) : TByte := (kget memBlank p.mem a, p.poison.contains (a / 64 * 64))

/-- The bytes of a bank buffer: its rows of each selected block, in ascending rank, banks 0 to 15 of each row. -/
def bankShard (p : Capture) (b : Buffer) : List TByte :=
  (p.context.desc b.region).selected.flatMap fun l =>
    let first := kget 0 b.rowsAt l
    (List.range b.rows).flatMap fun i => (List.range 16).flatMap fun k => (List.range 128).map fun j =>
      p.byte (logicalAddress l (k * bankBytes + (first + i) * 128 + j))

/-- The bytes of a buffer outside the banks: an overflow byte through its page, zero where none is mapped (R255). -/
def flatShard (s : State) (c : Nat) (p : Capture) (b : Buffer) : List TByte :=
  (List.range (b.size * 4096)).map fun i =>
    if b.cls = 5 then
      let n := max 1 (ceilDiv (p.context.cfg 6) 1024)
      match kfind p.context.stash ((p.context.cfg 5 + i / (n * mib)) * 65536 + i % (n * mib) / mib) with
      | some g => p.byte (stashStart s c + g.phys * mib + i % mib)
      | none => (0, false)
    else p.byte (b.address + i)

/-- A shard: kind, buffer number, whether it is shared, and its bytes. -/
structure Shard where
  kind   : Nat
  buffer : Nat
  shared : Bool
  bytes  : List TByte
  deriving DecidableEq, Repr

/-- Bytes of shard 0. -/
def contextBytes (p : Capture) : Nat := 65536 + 192 * p.context.blocks.length

/-- What a capture latched at its cut: neither the copy's nor the drain's progress changes it. -/
def Capture.latched (p : Capture) : Capture :=
  { p with mem := [], poison := [], pending := [], demanded := [], done := false, writers := [], drained := false }

/-- The shards of a generation, in order, by the policies at its cut (R428, R429). -/
def shardsOf (s : State) (c : Nat) (p : Capture) : List Shard :=
  let first : Shard := ⟨1, 0xFFFF, false, untagged ((Config.contextShard p.latched ++ List.replicate (contextBytes p) 0).take (contextBytes p))⟩
  first :: p.context.buffers.zipIdx.filterMap fun (b, i) =>
    let pol := kget 0 p.policies i
    if pol = 2 ∨ b.cls = 9 then none
    else if b.cls ≤ 2 then
      some (if b.demoted then ⟨2, i, pol == 1, flatShard s c p (p.context.buffer b.shadow)⟩ else ⟨2, i, pol == 1, bankShard p b⟩)
    else some ⟨if b.home = 2 then 3 else 4, i, pol == 1, flatShard s c p b⟩

def Shard.digest (x : Shard) : Nat := Config.sha384 (x.bytes.map (·.1))

/-- The replica that wrote a shard (R436). -/
def writerOf (p : Capture) (i : Nat) : Nat := kget p.replica p.writers i

/-- One manifest entry (R431). -/
def entryImage (p : Capture) (x : Shard) (i : Nat) : Nat :=
  x.kind + b2n x.shared * 2 ^ 4 + x.buffer * 2 ^ 288 + writerOf p i * 2 ^ 304 + x.bytes.length * 2 ^ 320 + x.digest * 2 ^ 384

/-- The manifest's bytes, its digest field given (R431). -/
def manifestWith (p : Capture) (xs : List Shard) (digest : Nat) : List Byte :=
  let head := 0x4E524143 + 1 * 2 ^ 36 + p.flags * 2 ^ 40 + p.stage * 2 ^ 922 + p.replicas * 2 ^ 928 + p.replica * 2 ^ 944 +
    xs.length * 2 ^ 960 + p.generation * 2 ^ 992 + p.seed * 2 ^ 1024 + p.asked * 2 ^ 1088 + p.cutBeat * 2 ^ 1152 +
    p.job * 2 ^ 1216 + p.context.digest * 2 ^ 1280 + digest * 2 ^ 1664
  leBytes 256 head ++ xs.zipIdx.flatMap fun e => leBytes 96 (entryImage p e.1 e.2)

def manifestBytes (p : Capture) (xs : List Shard) : List Byte := manifestWith p xs (Config.sha384 (manifestWith p xs 0))

/-! ## Units (R433) -/

/-- The header fields that name an object: kind, name, parity, stage, job. -/
def objectName (p : Capture) (kind name : Nat) : Nat :=
  name * 2 ^ 128 + p.job * 2 ^ 64 + p.stage * 2 ^ 11 + p.generation % 2 * 2 ^ 10 + kind * 2 ^ 8 + 1

/-- The name fields of a header: what an answer must repeat. -/
def nameFields (h : Nat) : Nat := bits h 128 384 * 2 ^ 128 + bits h 64 64 * 2 ^ 64 + bits h 8 3 * 2 ^ 8

def cairnOp (h : Nat) : Nat := bits h 4 4
def cairnArg (h : Nat) : Nat := bits h 17 11
def cairnPiece (h : Nat) : Nat := bits h 40 24
def cairnBytes (h : Nat) : Nat := bits h 28 12

/-- No invalid field (R433). -/
def cairnValid (h : Nat) : Bool :=
  let op := cairnOp h
  bits h 0 4 == 1 && ((1 ≤ op && op ≤ 5) || (8 ≤ op && op ≤ 13)) && decide (cairnBytes h ≤ 4032) &&
    (bits h 8 2 != 0 || bits h 138 374 == 0) && (bits h 8 2 != 1 || bits h 170 342 == 0) &&
    (op == 3 || op == 9 || (op == 10 && decide (cairnArg h < 2)) || cairnArg h == 0)

/-- One unit: header, object bytes, zeros. -/
def cairnUnit (h : Nat) (bs : List TByte) : List TByte :=
  (untagged (leBytes 64 h) ++ bs ++ List.replicate 4032 (0, false)).take 4096

/-- Pieces of an object of `n` bytes. -/
def pieceCount (n : Nat) : Nat := max 1 (ceilDiv n 4032)

/-- Piece `k` of an object, as the operation `op` for inner pieces and `op` + 1 for the last. -/
def pieceUnit (name op k : Nat) (bs : List TByte) : List TByte :=
  let part := (bs.drop (4032 * k)).take 4032
  let last := decide (k + 1 = pieceCount bs.length)
  cairnUnit (name + (op + b2n last) * 2 ^ 4 + part.length * 2 ^ 28 + k * 2 ^ 40) part

/-! ## Drain (R432, R435, R436) -/

def drainFlow (s : State) (c t : Nat) : Nat := s.ck c 5 + 2 * t

/-- The name of a shard's object, and the target it goes to (R432, R433). -/
def shardName (p : Capture) (x : Shard) (i : Nat) : Nat :=
  if x.shared then objectName p 2 x.digest else objectName p 1 (p.replica * 2 ^ 32 + i)
def shardTarget (s : State) (c : Nat) (p : Capture) (x : Shard) (i : Nat) : Nat :=
  (if x.shared then x.digest % 256 else p.replica + i) % s.ck c 6

/-- The object that a drain is at: its name fields, its target, its bytes. -/
def drainObject (s : State) (c : Nat) (p : Capture) (d : Drain) : Nat × Nat × List TByte :=
  let xs := shardsOf s c p
  if d.step = 0 then (objectName p 0 p.replica, p.replica % s.ck c 6, [])
  else if d.step = 3 then (objectName p 0 p.replica, p.replica % s.ck c 6, untagged (manifestBytes p xs))
  else match xs[d.shard]? with
    | some x => (shardName p x d.shard, shardTarget s c p x d.shard, x.bytes)
    | none => (0, 0, [])

/-- Shared shards are claimed only in a set and on Boulevard (R436). -/
def claims (s : State) (c : Nat) (d : Drain) : Bool := s.ck c 8 != 0xFF && !d.host

/-- The next shard from `i` on that step 2 must verify: shared, and written by another replica. -/
def nextVerify (s : State) (c : Nat) (p : Capture) (d : Drain) (i : Nat) : Option Nat :=
  ((shardsOf s c p).zipIdx.find? fun e => decide (i ≤ e.2) && e.1.shared && claims s c d && writerOf p e.2 != p.replica).map (·.2)

/-- The operation after shard `i` − 1 of step 1, or after shard `i` − 1 of step 2. -/
def atShard (s : State) (c : Nat) (p : Capture) (d : Drain) (i : Nat) : Drain :=
  match (shardsOf s c p)[i]? with
  | some x => { d with step := 1, shard := i, op := if x.shared && claims s c d then 3 else 1, piece := 0, waiting := false }
  | none => match nextVerify s c p d 0 with
    | some j => { d with step := 2, shard := j, op := 4, piece := 0, waiting := false }
    | none => { d with step := 3, shard := 0, op := 1, piece := 0, waiting := false }

def atVerify (s : State) (c : Nat) (p : Capture) (d : Drain) (i : Nat) : Drain :=
  match nextVerify s c p d i with
  | some j => { d with step := 2, shard := j, op := 4, piece := 0, waiting := false }
  | none => { d with step := 3, shard := 0, op := 1, piece := 0, waiting := false }

/-- The capture that a drain writes. -/
def drainCapture (s : State) (c : Nat) : Option (Drain × Capture) := match (s.cairnOf c).drain with
  | none => none
  | some d => (kfind (s.cairnOf c).slots d.slot).map fun p => (d, p)

def setDrain (s : State) (c : Nat) (d : Drain) : State := s.setCairn c fun y => { y with drain := some d }

/-- The manifest is durable: the drain has ended (R435). -/
def endDrain (s : State) (c g : Nat) : State :=
  (s.setCairn c fun y => { y with drain := none }).dset (0x6040 + c) 0x12 g

/-- The object at hand is durable, or need not be written: the drain goes to its next one. -/
def drainNext (s : State) (c : Nat) (d : Drain) (p : Capture) : State :=
  if d.step = 0 then setDrain s c (atShard s c p d 0)
  else if d.step = 1 then setDrain s c (atShard s c p d (d.shard + 1))
  else if d.step = 2 then setDrain s c (atVerify s c p d (d.shard + 1))
  else endDrain s c p.generation

/-- Address in the checkpoint slot of the object that a host drain posts (R490). -/
def objectAddress (s : State) (c : Nat) (d : Drain) : Nat :=
  ckptBase s + d.slot * (s.dget 0x6000 1 / 2 * mib) + shareOffset s (s.dget 0x6000 1 / 2) c (tenantOf s c) +
    Config.objectOffset d.slot (d.step * 65536 + d.shard)

/-- The channel of Cairn and a context's function, if the binding has one (R432). -/
def cairnChannel (s : State) (c : Nat) : Option Nat :=
  (List.range 16).find? fun ch => sideB s ch == 8 && sideA s ch == c + 1

/-- One 96 B record towards the host, after a pad where the ring's end is too near (R483, R490). -/
def postObject (s : State) (ch : Nat) (head inline : Nat) : Option State :=
  let m := mailDir s ch 1
  let at' := m.producer % m.size
  let pad := if m.size < at' + 96 then m.size - at' else 0
  if m.size = 0 ∨ m.lock ≠ 0 ∨ m.unposted.isEmpty = false ∨ m.size < ringUsed m + pad + 96 then none
  else
    let t := if pad = 0 then s else writeBytes s (m.base + at') (leBytes 32 (pad / 32 * 2 ^ 8 + 8 * 2 ^ 4 + 2))
    let u := writeBytes t (m.base + (at' + pad) % m.size) (leBytes 32 (head + m.seq % 2 ^ 32 * 2 ^ 96) ++ leBytes 64 inline)
    some (mailUpdate u ch 1 { m with
      producer := (m.producer + pad + 96) % 2 ^ 32, seq := (m.seq + 1) % 2 ^ 32, status := setBit m.status 0 })

/-- A host drain posts its object, once the ring takes it (R490). -/
def hostDrain (s : State) (c : Nat) (d : Drain) (p : Capture) : State := match cairnChannel s c with
  | none => s
  | some ch =>
    let o := drainObject s c p d
    let a := objectAddress s c d
    let head := a * 2 ^ 192 + o.2.2.length * 2 ^ 152 + 1 * 2 ^ 16 + 3 * 2 ^ 8 + 8 * 2 ^ 4 + 1
    match postObject s ch head (o.1 + 2 * 2 ^ 4) with
    | none => s
    | some t => setDrain (writeTagged t a o.2.2) c { d with waiting := true }

/-- Pieces go to the target as far as credit goes; a claim or a verification is one unit. -/
def drainPieces (c : Nat) : Nat → State → State
  | 0, s => s
  | k + 1, s => match drainCapture s c with
    | none => s
    | some (d, p) =>
      let o := drainObject s c p d
      let f := drainFlow s c o.2.1
      if d.waiting || d.host || !holdsCredit s f 1 then s
      else if d.op ≠ 1 then
        setDrain (sendUnits s f true [cairnUnit (o.1 + d.op * 2 ^ 4 + (if d.op = 3 then p.replica * 2 ^ 17 else 0)) []]) c
          { d with waiting := true }
      else
        let n := pieceCount o.2.2.length
        drainPieces c k (setDrain (sendUnits s f (decide (d.piece + 1 = n)) [pieceUnit o.1 1 d.piece o.2.2]) c
          { d with piece := d.piece + 1, waiting := decide (d.piece + 1 = n) })

/-- A drain goes on as far as it can. -/
def pumpDrain (s : State) (c : Nat) : State := match drainCapture s c with
  | none => s
  | some (d, p) =>
    if d.waiting then s
    else if d.host then hostDrain s c d p
    else drainPieces c (pieceCount (drainObject s c p d).2.2.length) s

/-- The oldest generation whose drain has not begun. -/
def nextDrain (s : State) (c : Nat) : Option (Nat × Capture) :=
  ((s.cairnOf c).slots.filter fun e => e.2.done && !e.2.drained).foldl (fun m e => match m with
    | none => some e
    | some x => if e.2.generation < x.2.generation then some e else some x) none

/-- A drain begins; without a target it fails at once (R444). -/
def beginDrain (s : State) (c : Nat) : State := match nextDrain s c with
  | none => s
  | some (k, p) =>
    let host := s.ck c 3 == 1
    let t := s.setCairn c fun y => { y with
      slots := kset y.slots k { p with drained := true }, drain := some ⟨k, 0, 0, 1, 0, false, host⟩ }
    if s.ck c 6 = 0 ∧ host = false then failDrain t c else t

/-- DRAIN (R432, R435): a generation's drain begins, or goes on. -/
def execDrainGeneration (c : Nat) (s : State) : Host.Outcome State Fault Refusal :=
  .next (if (s.cairnOf c).drain.isSome then pumpDrain s c else pumpDrain (beginDrain s c) c)

/-- A unit of a Cairn flow with an invalid field is discarded and counted, and answers nothing (R433). -/
def cairnUnitIn (s : State) (u : EngineUnit) (run : State) : State :=
  if cairnValid u.header then run
  else if (s.flow u.flow).kind = 6 ∧ (s.flow u.flow).engine = 2 then s.dcount 0x5080 2 1 else s

/-- The context whose drain awaits an answer on a flow from the target of its object. -/
def drainOn (s : State) (f : Nat) : Option Nat := (List.range 4).find? fun c => match drainCapture s c with
  | none => false
  | some (d, p) => d.waiting && !d.host && drainFlow s c (drainObject s c p d).2.1 + 1 == f

/-- An answer for the drain's object and operation. -/
def drainAnswer (s : State) (u : EngineUnit) (op : Nat) (awaits : Nat) (run : Nat → Drain → Capture → State → State) : State :=
  cairnUnitIn s u <| match drainOn s u.flow with
  | none => s
  | some c => match drainCapture s c with
    | none => s
    | some (d, p) =>
      if cairnOp u.header = op ∧ d.op = awaits ∧ nameFields u.header = nameFields (drainObject s c p d).1 then
        pumpDrain (run c d p s) c
      else s

/-- DURABLE (R435). -/
def execDurableAnswer (unit : EngineUnit) (s : State) : Host.Outcome State Fault Refusal :=
  .next (drainAnswer s unit 8 1 fun c d p t => drainNext t c d p)

/-- The writer of a shared shard becomes known. -/
def setWriter (s : State) (c : Nat) (d : Drain) (p : Capture) (w : Nat) : State :=
  s.setCairn c fun y => { y with slots := kset y.slots d.slot { p with writers := kset p.writers d.shard w } }

/-- This replica writes the shard at hand. -/
def writeShardHere (s : State) (c : Nat) (d : Drain) (p : Capture) : State :=
  setDrain (setWriter s c d p p.replica) c { d with op := 1, piece := 0, waiting := false }

/-- CLAIM_RESULT (R436): the winner writes the object. -/
def execClaimResult (unit : EngineUnit) (s : State) : Host.Outcome State Fault Refusal :=
  .next (drainAnswer s unit 9 3 fun c d p t =>
    let w := cairnArg unit.header
    if w = p.replica then writeShardHere t c d p
    else
      let v := setWriter t c d p w
      match drainCapture v c with
      | some (d2, p2) => drainNext v c d2 p2
      | none => v)

/-- VERIFY_RESULT (R436): an absent object is written here. -/
def execVerifyResult (unit : EngineUnit) (s : State) : Host.Outcome State Fault Refusal :=
  .next (drainAnswer s unit 10 4 fun c d p t =>
    if bit (cairnArg unit.header) 0 then drainNext t c d p else writeShardHere t c d p)

/-! ## The host's answers (R483, R490) -/

/-- The bytes that a host drain had shown in its slot are no longer visible. -/
def hideObject (s : State) (c : Nat) (d : Drain) (p : Capture) : State :=
  eraseBytes s (objectAddress s c d) (drainObject s c p d).2.2.length

/-- The object that a host drain of a context awaits. -/
def hostAwaits (s : State) (ch : Nat) : Option (Nat × Drain × Capture) :=
  ((List.range 4).find? fun c => cairnChannel s c == some ch).bind fun c => (drainCapture s c).bind fun e =>
    if e.1.host && e.1.waiting then some (c, e.1, e.2) else none

/-- Cairn takes the record at the head of direction 0 of its channel (R483, R490). -/
def cairnTakes (s : State) (ch : Nat) : State :=
  let m := mailDir s ch 0
  match ringRecord s ch 0 with
  | none => discardRecords s ch 0
  | some (len, true) => consumeRecord s ch 0 len
  | some (len, false) =>
    let inline := readLe s (m.base + m.consumer % m.size + 32) 64
    let t := consumeRecord s ch 0 len
    let stray := mailRecordInvalid t (mailSender s ch 0) ch 0 1
    match hostAwaits s ch with
    | none => stray
    | some (c, d, p) =>
      if len = 96 ∧ bits (ringHeader s m) 16 16 = 1 ∧ cairnOp inline = 8 ∧ nameFields inline = nameFields (drainObject s c p d).1 then
        pumpDrain (drainNext (hideObject t c d p) c d p) c
      else stray

/-- A record waits for the receiver of a direction. -/
def recordWaits (s : State) (ch dir : Nat) : Bool :=
  let m := mailDir s ch dir
  !channelUnused s ch && m.size != 0 && ringUsed m != 0

/-- HOST_DRAIN_ANSWER (R490): Cairn takes the record at the head of direction 0 of its channel. -/
def execHostDrainAnswer (ch : Nat) (s : State) : Host.Outcome State Fault Refusal :=
  .next (if recordWaits s ch 0 && mailReceiver s ch 0 == 8 then cairnTakes s ch else s)

/-- HARDWARE_RECEIVER_TAKE (R483, R489, R490, R511): the hardware receiver of a direction takes the record at its head. -/
def execHardwareReceiverTake (ch dir : Nat) (s : State) : Host.Outcome State Fault Refusal :=
  let id := mailReceiver s ch dir
  .next (if recordWaits s ch dir && decide (5 ≤ id) && decide (id ≤ 8) then
    (if id = 8 ∧ dir = 0 then cairnTakes s ch else consumeUnwanted s ch dir) else s)

/-! ## Serving a peer (R440) -/

/-- The object that a name means in a context's fast-copied slots: the slot and the bytes. -/
def servedObject (s : State) (c h : Nat) : Option (Nat × List TByte) :=
  let kind := bits h 8 2
  ((s.cairnOf c).slots.filter fun e => e.2.done).findSome? fun (k, p) =>
    let xs := shardsOf s c p
    if p.job ≠ bits h 64 64 ∨ p.stage ≠ bits h 11 6 then none
    else if kind = 2 then (xs.find? fun x => x.shared && x.digest == bits h 128 384).map fun x => (k, x.bytes)
    else if p.generation % 2 ≠ bits h 10 1 then none
    else if kind = 0 ∧ bits h 128 10 = p.replica then some (k, untagged (manifestBytes p xs))
    else if kind = 1 ∧ bits h 160 10 = p.replica then (xs[bits h 128 32]?).map fun x => (k, x.bytes)
    else none

/-- The send flow that answers a receive flow: of Cairn, towards the same peer, to the flow after the requesting one (R437). -/
def answerFlow (s : State) (f : Nat) : Option Nat :=
  let x := s.flow f
  (s.net.flows.find? fun e => e.2.kind == 5 && e.2.engine == 2 && e.2.peer == x.peer && e.2.peerFlow == x.peerFlow + 1).map (·.1)

/-- What is being served goes on as far as credit goes. -/
def pumpServe (c : Nat) : Nat → State → State
  | 0, s => s
  | k + 1, s => match (s.cairnOf c).serving with
    | [] => s
    | x :: rest =>
      if !holdsCredit s x.flow 1 then s
      else match x.slot, servedObject s c x.name with
        | some _, some (_, bs) =>
          if x.op = 4 then
            pumpServe c k ((sendUnits s x.flow true [cairnUnit (x.name + 2 ^ 17 + 10 * 2 ^ 4) []]).setCairn c fun y =>
              { y with serving := rest })
          else
            let n := pieceCount bs.length
            pumpServe c k ((sendUnits s x.flow (decide (x.piece + 1 = n)) [pieceUnit x.name 11 x.piece bs]).setCairn c fun y =>
              { y with serving := if x.piece + 1 = n then rest else { x with piece := x.piece + 1 } :: rest })
        | _, _ =>
          let h := if x.op = 4 then x.name + 10 * 2 ^ 4 else x.name + 13 * 2 ^ 4
          pumpServe c k ((sendUnits s x.flow true [cairnUnit h []]).setCairn c fun y => { y with serving := rest })

/-- PEER_GET (R440): a `GET` or `VERIFY` arrives on a receive flow of Cairn; an empty object is answered as absent (R434). -/
def execPeerGet (unit : EngineUnit) (s : State) : Host.Outcome State Fault Refusal :=
  let x := s.flow unit.flow
  let h := unit.header
  .next <| cairnUnitIn s unit <|
  if x.kind ≠ 6 ∨ x.engine ≠ 2 then s
  else if cairnOp h ≠ 4 ∧ cairnOp h ≠ 5 then s
  else match answerFlow s unit.flow with
    | none => s
    | some g =>
      let slot := (servedObject s x.ctx h).bind fun o => if o.2.isEmpty then none else some o.1
      let name := nameFields h + bits h 11 6 * 2 ^ 11 + 1
      pumpServe x.ctx 4096 (s.setCairn x.ctx fun y => { y with serving := y.serving ++ [⟨slot, g, name, cairnOp h, 0⟩] })

end Sys2Proof.Machine
end

