-- ==== Sys2Proof/Machine/Slots.lean ====
section
/-! DEFINITION. The bundle's slots as words: which operation a slot of the program store spells, and the bits that must be 0
(spec/04_stream_model.md R135 to R137; spec/05_bundle_reference.md R177 to R206). -/

namespace Sys2Proof.Machine

/-- Bits [`hi`:`lo`], all ones. -/
def span (hi lo : Nat) : Nat := ones (hi - lo + 1) * 2 ^ lo

/-! ## Region slots (R177 to R192) -/

/-- The operand bits [48:0] that each region opcode uses; a set bit outside them is illegal (R137, R188). -/
def regionUsed (op : Nat) : Nat :=
  if op = 0x01 then span 48 0
  else if op = 0x02 then span 48 33
  else if op = 0x03 then span 48 28
  else if op = 0x04 then span 48 37 ||| span 35 0
  else if op = 0x0B ∨ op = 0x0F then span 48 29
  else if op = 0x0E then span 48 34 ||| span 28 26
  else if op = 0x14 then span 48 34 ||| span 28 21
  else if 0x08 ≤ op ∧ op ≤ 0x13 then span 48 34
  else if op = 0x15 ∨ op = 0x16 then span 48 12
  else if op = 0x17 then span 48 39 ||| span 28 20
  else if 0x18 ≤ op ∧ op ≤ 0x1F then span 48 39
  else if op = 0x20 then span 48 30
  else if op = 0x21 then span 48 8
  else if op = 0x22 ∨ op = 0x23 then span 48 39
  else if op = 0x24 then span 48 44
  else if op = 0x25 then span 48 38
  else 0

/-- The operation of a region slot's word; an empty slot does nothing, and a word that spells none is never issued. -/
def runRegion (c w : Nat) (touch : Touch) (s : State) : Host.Outcome State Fault Refusal :=
  let f := bits w
  let op := f 58 6
  let sel := f 52 6
  let pred := f 49 3
  let vd := f 44 5
  let va := f 39 5
  let vb := f 34 5
  let vc := f 29 5
  if w = 0 then .next s
  else if clearBits (f 0 49) (regionUsed op) ≠ 0 then .fault .reservedEncoding
  else match op with
    | 0x01 => execMmAcc c sel pred (f 45 4) (f 41 4) (f 33 8) (f 28 5) (f 26 2) (f 25 1) (f 22 3) (f 16 6) (f 13 3) (f 9 4)
        (f 5 4) (f 1 4) (f 0 1) touch s
    | 0x02 => execAccStore c sel pred (f 45 4) (f 44 1) (f 40 4) (f 34 6) (f 33 1) touch s
    | 0x03 => execMicaFill c sel pred (f 46 3) (f 44 2) (f 40 4) (f 37 3) (f 35 2) (f 29 6) (f 28 1) touch s
    | 0x04 => execSetBase c sel pred (f 44 5) (f 42 2) (f 37 5) (f 0 36) s
    | 0x08 => execVadd c sel pred vd va vb s
    | 0x09 => execVsub c sel pred vd va vb s
    | 0x0A => execVmul c sel pred vd va vb s
    | 0x0B => execVfma c sel pred vd va vb vc s
    | 0x0C => execVmin c sel pred vd va vb s
    | 0x0D => execVmax c sel pred vd va vb s
    | 0x0E => execVcmp c sel pred vd va vb (f 26 3) s
    | 0x0F => execVsel c sel pred vd va vb vc s
    | 0x10 => execViadd c sel pred vd va vb s
    | 0x11 => execVand c sel pred vd va vb s
    | 0x12 => execVor c sel pred vd va vb s
    | 0x13 => execVxor c sel pred vd va vb s
    | 0x14 => execVshift c sel pred vd va vb (f 27 2) (f 26 1) (f 21 5) s
    | 0x15 => execVcvt c sel pred vd va (f 35 4) (f 31 4) (f 30 1) (f 29 1) (f 28 1) (f 12 16) s
    | 0x16 => execVquant c sel pred vd va vb (f 30 4) (f 29 1) (f 28 1) (f 12 16) s
    | 0x17 => execVperm c sel pred vd va (f 26 3) (f 20 6) s
    | 0x18 => execVexp2 c sel pred vd va s
    | 0x19 => execVlog2 c sel pred vd va s
    | 0x1A => execVrcp c sel pred vd va s
    | 0x1B => execVrsqrt c sel pred vd va s
    | 0x1C => execVsqrt c sel pred vd va s
    | 0x1D => execVtanh c sel pred vd va s
    | 0x1E => execVreduceSum c sel pred vd va s
    | 0x1F => execVreduceMax c sel pred vd va s
    | 0x20 => execVload c sel pred vd (f 42 2) (f 38 4) (f 37 1) (f 31 6) (f 30 1) touch s
    | 0x21 => execVstore c sel pred vd (f 41 3) (f 37 4) (f 34 3) (f 28 6) (f 27 1) (f 23 4) (f 17 6) (f 10 7) (f 8 2) touch s
    | 0x22 => execVaccRead c sel pred vd (f 40 4) (f 39 1) touch s
    | 0x23 => execVpred c sel pred (f 46 3) (f 41 5) (f 40 1) (f 39 1) s
    | 0x24 => execFlagsRead c sel pred vd s
    | 0x25 => execFlagsClear c sel pred (f 38 11) s
    | _ => .fault .reservedEncoding

/-! ## Mover, network, Plaza and queue slots (R195, R196, R201, R203, R205) -/

/-- The operand bits [49:0] that each mover opcode uses. -/
def moverUsed (op : Nat) : Nat :=
  if op = 1 then span 49 29
  else if op = 2 then span 49 20
  else if op = 3 then span 49 2
  else if op = 4 ∨ op = 5 then span 49 4
  else if op = 6 then span 49 0
  else 0

/-- The operation of mover slot `slot`'s word. -/
def runMover (c slot w : Nat) (touch : Touch) (s : State) : Host.Outcome State Fault Refusal :=
  let f := bits w
  let op := f 60 4
  let sel := f 54 6
  let pred := f 51 3
  let sb := f 50 1
  if w = 0 then .next s
  else if clearBits (f 0 50) (moverUsed op) ≠ 0 then .fault .reservedEncoding
  else match op with
    | 1 => execMicaLoad c slot sb sel pred (f 47 3) (f 45 2) (f 41 4) (f 38 3) (f 36 2) (f 30 6) (f 29 1) touch s
    | 2 => execCopyBank c slot sb sel pred (f 46 4) (f 40 6) (f 36 4) (f 30 6) (f 22 8) (f 20 2) touch s
    | 3 => execCopyAvenue c slot sb sel pred (f 49 1) (f 38 11) (f 34 4) (f 28 6) (f 24 4) (f 18 6) (f 10 8) (f 3 7) (f 2 1)
        touch s
    | 4 => execCopySquare c slot sb sel pred (f 49 1) (f 45 4) (f 39 6) (f 27 12) (f 13 14) (f 5 8) (f 4 1) touch s
    | 5 => execCopyBedrock c slot sb sel pred (f 49 1) (f 45 4) (f 39 6) (f 27 12) (f 13 14) (f 5 8) (f 4 1) touch s
    | 6 => if sel = 0 ∧ pred = 0 then
        execCopySb c slot sb (f 49 1) (f 37 12) (f 29 8) (f 17 12) (f 8 9) (f 0 8) touch s
      else .fault .reservedEncoding
    | _ => .fault .reservedEncoding

/-- The operation of a network slot's word. -/
def runNet (c w : Nat) (touch : Touch) (s : State) : Host.Outcome State Fault Refusal :=
  let f := bits w
  if w = 0 then .next s
  else if f 0 1 ≠ 0 then .fault .reservedEncoding
  else match f 54 2 with
    | 1 => execNetSend c (f 36 18) (f 24 12) (f 12 12) (f 2 10) (f 1 1) touch s
    | 2 => execNetRecv c (f 36 18) (f 24 12) (f 12 12) (f 2 10) (f 1 1) s
    | _ => .fault .reservedEncoding

/-- The operation of the Plaza slot's word. -/
def runPlaza (c w : Nat) (touch : Touch) (s : State) : Host.Outcome State Fault Refusal :=
  let f := bits w
  if w = 0 then .next s
  else if f 0 2 ≠ 0 then .fault .reservedEncoding
  else match f 38 2 with
    | 1 => execPlazaSend c (f 34 4) (f 28 6) (f 25 3) (f 19 6) (f 15 4) (f 9 6) (f 8 1) (f 2 6) touch s
    | 2 => if f 19 6 = 0 then execPlazaDrain c (f 34 4) (f 28 6) (f 25 3) (f 15 4) (f 9 6) (f 8 1) (f 2 6) touch s
      else .fault .reservedEncoding
    | _ => .fault .reservedEncoding

/-- The operand bits of the queue slot that each opcode uses. -/
def queueUsed (op : Nat) : Nat :=
  if op = 1 then span 36 1
  else if op = 2 then span 36 24 ||| span 12 6
  else if op = 3 then span 36 24
  else if op = 4 ∨ op = 5 then span 23 17
  else 0

/-- The operation of the queue slot's word; `sels` are the descriptors that the bundle's region slots name (R247). -/
def runQueue (c w : Nat) (sels : List Nat) (touch : Touch) (s : State) : Host.Outcome State Fault Refusal :=
  let f := bits w
  let sel := f 31 6
  let pred := f 28 3
  if w = 0 then .next s
  else if clearBits (f 0 37) (queueUsed (f 37 3)) ≠ 0 then .fault .reservedEncoding
  else match f 37 3 with
    | 1 => execQSend c sel pred (f 24 4) (f 13 11) (f 8 5) (f 6 2) (f 2 4) (f 1 1) s
    | 2 => execQRecv c sel pred (f 24 4) (f 8 5) (f 6 2) touch s
    | 3 => execQClose c sel pred (f 24 4) s
    | 4 => execAdmitFwd c (f 17 7) sels s
    | 5 => execAdmitGrad c (f 17 7) sels s
    | _ => .fault .reservedEncoding

/-! ## Bundles (R129, R135) -/

/-- A bundle's slots: their slot orders and words. -/
def bundleSlots (w : Nat) : List (Nat × Nat) :=
  [(0, bits w 0 64)] ++ ((List.range 8).map fun k => (k + 1, bits w (64 * k + 64) 64)) ++
  ((List.range 4).map fun m => (m + 9, bits w (64 * m + 576) 64)) ++
  ((List.range 2).map fun n => (n + 13, bits w (56 * n + 832) 56)) ++ [(15, bits w 944 40), (16, bits w 984 40)]

/-- The word of slot order `o` of a bundle. -/
def slotWord (w o : Nat) : Nat := kget 0 (bundleSlots w) o

/-- The descriptors that a bundle's region slots name. -/
def regionSels (w : Nat) : List Nat :=
  (List.range 8).filterMap fun k =>
    let x := slotWord w (k + 1)
    if x = 0 then none else some (bits x 52 6)

/-- The bundle at address `a` of a context's store (R129). -/
def State.bundle (s : State) (c a : Nat) : Nat := readLe s (bundleAddress s c a) 128

end Sys2Proof.Machine
end

