-- ==== Sys2Proof/Machine/Stream.lean ====
section
/-! DEFINITION. The control slot: issue, transfers of control, beat waits, the backlog, requests to the engines and the end of
the stream (spec/04_stream_model.md R142 to R167; spec/05_bundle_reference.md R171 to R176; spec/09_beat.md R333). -/

namespace Sys2Proof.Machine

/-! ## Issue and transfers of control (R142, R143) -/

/-- Changes of base registers come into force in the cycle after (R141). -/
def applyBases (s : State) (c : Nat) : State := overBlocks s c fun _ b => b.applyChanges

/-- A bundle issues: its waits have ended, and it is counted (R157, R166). -/
def issueBundle (c : Nat) (s : State) : State :=
  applyBases ((issues c s).dcount (0x4030 + c) 6 1) c

def setPc (s : State) (c a : Nat) : State := s.dset (0x4030 + c) 1 (a % 2 ^ 16)

/-- What follows bundle `a`, loops innermost first: a loop whose last bundle it is goes round again, or ends (R143). -/
def afterBundle : List Loop → Nat → Nat × List Loop
  | [], a => (a + 1, [])
  | l :: r, a =>
    if l.last = a then
      if l.index + 1 < l.count then (l.first, { l with index := l.index + 1 } :: r) else afterBundle r a
    else (a + 1, l :: r)

/-- Control runs on from the bundle at `a`. -/
def runOn (s : State) (c a : Nat) : State :=
  let r := afterBundle (s.ctx c).loops a
  setPc (s.setCtx c fun x => { x with loops := r.2 }) c r.1

/-- The loops after the bundle at `a` has issued and control goes to `target`: an iteration whose last bundle it is has ended, and so has
every loop whose body control leaves (R143). -/
def loopsAt (l : List Loop) (a target : Nat) : List Loop :=
  (afterBundle l a).2.filter fun l => decide (l.first ≤ target) && decide (target ≤ l.last)

/-- Control goes from the present bundle to `target`. -/
def goTo (s : State) (c target : Nat) : State :=
  setPc (s.setCtx c fun x => { x with loops := loopsAt x.loops (s.pc c) target }) c target

/-- A control operation that only runs on. -/
def plainControl (c : Nat) (act : State → State) (s : State) : Host.Outcome State Fault Refusal :=
  if !s.running c then .next s else .next (runOn (act (issueBundle c s)) c (s.pc c))

/-- An address within the context's store share (R173). -/
def addressOk (s : State) (c a : Nat) : Bool := decide (a < 1024 * pagesOf s c)

/-! ## Fill (R162 to R164) -/

/-- The granules that a context's running copy has been asked for. -/
def demandedOf (s : State) (c : Nat) : List Nat := match (s.cairnOf c).copying with
  | none => []
  | some k => match kfind (s.cairnOf c).slots k with
    | none => []
    | some p => p.demanded

/-- One fill bundle's region slots run; `none` where an operation waits for a granule, with the granules asked for. -/
def fillSlots (c : Nat) (w : Nat) (touch : Touch) (s : State) : List Nat × State :=
  (List.range 8).foldl (fun r k =>
    match runRegion c (slotWord w (k + 1)) touch r.2 with
    | .next t => if t.dget (0x4030 + c) 2 = 8 then (r.1 ++ demandedOf t c, t) else (r.1, t)
    | _ => r) ([], s)

/-- A record's bundles issue one per cycle, each counted; the granules that they wait for are collected (R164, R425). -/
def fillRecord (c : Nat) (touch : Touch) (r : FillRecord) (s : State) : List Nat × State :=
  (List.range r.length).foldl (fun q i =>
    let u := fillSlots c (q.2.bundle c (r.address + i)) touch q.2
    (q.1 ++ u.1, (applyBases u.2 c).dcount (0x4030 + c) 7 1)) ([], s)

/-- The records that one run of `left` cycles of class `cls` takes, in order (R164): at most `n` of them. -/
def fillRun (c cls : Nat) (touch : Touch) : Nat → Nat → State → List Nat × State
  | 0, _, s => ([], s)
  | n + 1, left, s =>
    match (s.ctx c).backlog with
    | [] => ([], s)
    | r :: rest =>
      if r.cls = cls ∧ r.length ≤ left then
        let a := fillRecord c touch r (s.setCtx c fun x => { x with backlog := rest })
        let b := fillRun c cls ⟨[], touch.met⟩ n (left - r.length) a.2
        (a.1 ++ b.1, b.2)
      else ([], s)

/-- A bundle that opens a run of `cycles` cycles: a write of its fill into a granule not yet copied holds the bundle in
class 8 (R155, R425). -/
def fillable (c cls slots cycles : Nat) (touch : Touch) (s : State) : Host.Outcome State Fault Refusal :=
  if !s.running c then .next s
  else if !(decide (cls < 4) && decide (slots < 256) && (decide (cls = 0) == decide (slots = 0))) then .fault .reservedEncoding
  else if cls = 0 then .next (runOn (issueBundle c s) c (s.pc c))
  else
    let r := fillRun c cls touch 256 cycles (senseAll 0 (issues c s) touch.errors)
    if r.1.isEmpty then .next (runOn (issueBundle c r.2) c (s.pc c)) else .next (waitLowest c 8 (granuleWait c r.1) s)

/-- NOP (R142, R162). -/
def execNop (c cls slots : Nat) (touch : Touch) (s : State) : Host.Outcome State Fault Refusal :=
  fillable c cls slots 1 ⟨touch.errors, touch.met⟩ s

/-- DELAY: `n` empty cycles follow the bundle (R142, R162). -/
def execDelay (c n cls slots : Nat) (touch : Touch) (s : State) : Host.Outcome State Fault Refusal :=
  if 2 ^ 24 ≤ n then .fault .reservedEncoding else fillable c cls slots (n + 1) touch s

/-! ## Beat waits (R149, R150, R333) -/

/-- The named beat *N* (R149): origin mode 0, previous mode 1. -/
def namedBeat (s : State) (c mode delta : Nat) : Nat := (s.dget (0x4030 + c) (if mode = 0 then 3 else 4) + delta) % 2 ^ 64

/-- The operands of `WAIT_BEAT` that the load check accepts (R149, R153). -/
def waitLegal (s : State) (c mode key delta offset : Nat) : Bool :=
  decide (mode < 2) && decide (key < 2) && decide (delta < 2 ^ 24) && decide (offset < 2 ^ 28) && !(s.ctx c).freeFlow

/-- WAIT_BEAT (R149): `since` is the cycles from the first score cycle of beat *N* + `BEAT_SKIP` to the present one. The bundle
issues in its target cycle; before it, it waits in class 1; a target that has passed is LATE_BEAT's. The wait that issues at
or after a requested checkpoint's beat is the cut (R419). -/
def execWaitBeat (c mode key delta offset since : Nat) (s : State) : Host.Outcome State Fault Refusal :=
  let n := namedBeat s c mode delta
  let target := n + s.dget (0x4030 + c) 5
  if !s.running c then .next s
  else if !waitLegal s c mode key delta offset then .fault .reservedEncoding
  else if s.hasSchedule && s.quartz.begun && decide (target ≤ s.beat) && since == offset then
    let t := cutAt s c n
    let u := (issueBundle c t).dset (0x4030 + c) 4 n
    .next (runOn (if key = 1 then u.setCtx c fun x => { x with keyBeat := n } else u) c (s.pc c))
  else .next (waitIn c 1 s)

/-- The layout of R342. -/
def lateCase (c a policy n : Nat) : Nat := a * 2 ^ 32 + c * 2 ^ 28 + policy * 2 ^ 27 + n % 2 ^ 27

/-- LATE_BEAT (R150, R333): the target cycle, in beat *N* + `BEAT_SKIP`, has passed; `missed` is the cycles from the missed target to the first one in which the bundle's other
conditions held. -/
def execLateBeat (c mode delta missed : Nat) (s : State) : Host.Outcome State Fault Refusal :=
  let n := namedBeat s c mode delta
  if !s.running c then .next s
  else if !waitLegal s c mode 0 delta 0 then .fault .reservedEncoding
  else if !(s.hasSchedule && decide (n + s.dget (0x4030 + c) 5 ≤ s.beat)) then .next s
  else if (s.ctx c).faultLate then
    let v := lateCase c (s.pc c) 1 n
    .next (enterFaulted (s.recordFirst 0x5070 v) 6 v)
  else
    let t := (((s.dcount (0x4030 + c) 5 1).dcount (0x4080 + c) 1 1).dset (0x4080 + c) 2 n).dset (0x4080 + c) 3
      (max (s.dget (0x4080 + c) 3) (min missed (ones 32)))
    .next (t.record 0x5070 0 [(2, 1)] (some (lateCase c (s.pc c) 0 n)))

/-! ## Transfers of control -/

/-- LOOP (R143): a body that ends at or below the bundle, and a fifth level, are refused by the load check. A skipped body that ends an
outer one's iteration ends it (assumption 70). -/
def execLoopOp (c n last : Nat) (s : State) : Host.Outcome State Fault Refusal :=
  let a := s.pc c
  if !s.running c then .next s
  else if !(decide (n < 2 ^ 24) && addressOk s c last && decide (a < last) && decide ((s.ctx c).loops.length < 4)) then
    .fault .reservedEncoding
  else
    let t := issueBundle c s
    if n = 0 then .next (runOn t c last)
    else .next (setPc (t.setCtx c fun x => { x with loops := ⟨a + 1, last, n, 0⟩ :: x.loops }) c (a + 1))

/-- JUMP (R142). -/
def execJump (c target : Nat) (s : State) : Host.Outcome State Fault Refusal :=
  if !s.running c then .next s
  else if !addressOk s c target then .fault .reservedEncoding
  else .next (goTo (issueBundle c s) c target)

/-- A `COND` code's value (R144, R145, R175): outside every loop, the first and last iteration of one. -/
def condition (s : State) (c cond : Nat) : Bool :=
  if cond = 0 then (match (s.ctx c).loops with
    | [] => true
    | l :: _ => l.index == 0)
  else if cond = 1 then (match (s.ctx c).loops with
    | [] => true
    | l :: _ => l.index + 1 == l.count)
  else if cond < 10 then bit (nth (0, 0) s.sampled c).1 (cond - 2)
  else (s.ctx c).veto

/-- BRANCH (R144). -/
def execBranch (c negate cond target : Nat) (s : State) : Host.Outcome State Fault Refusal :=
  if !s.running c then .next s
  else if !(decide (negate < 2) && decide (cond < 11) && addressOk s c target) then .fault .reservedEncoding
  else if condition s c cond == (negate == 0) then .next (goTo (issueBundle c s) c target)
  else .next (runOn (issueBundle c s) c (s.pc c))

/-- FENCE (R146): every earlier operation has completed; each operation is whole in this model. -/
def execFence (c : Nat) (s : State) : Host.Outcome State Fault Refusal := plainControl c id s

/-! ## Overlays and the backlog (R130, R163) -/

/-- A page of the context's overlay store is copied into a page of its program store, and the overlay map with it. -/
def loadOverlay (s : State) (c page store : Nat) : State :=
  let t := writeBytes s (bundleAddress s c (1024 * store)) (memRead s.mem (overlayStart s c + 131072 * page) 131072)
  t.setCtx c fun x => { x with overlaid := kset x.overlaid store page }

/-- OVERLAY_LOAD (R130, R173). -/
def execOverlayLoad (c page store : Nat) (s : State) : Host.Outcome State Fault Refusal :=
  if s.running c && !(decide (page < (s.ctx c).overlays) && decide (store < pagesOf s c)) then .fault .reservedEncoding
  else plainControl c (fun t => loadOverlay t c page store) s

/-- BACKLOG_PUSH (R163): a length of 0 appends nothing; the load check bounds the backlog by 256. -/
def execBacklogPush (c cls length address : Nat) (s : State) : Host.Outcome State Fault Refusal :=
  if s.running c && !(decide (1 ≤ cls) && decide (cls < 4) && decide (length ≤ 4096) && addressOk s c address &&
      (length == 0 || decide ((s.ctx c).backlog.length < 256))) then .fault .reservedEncoding
  else plainControl c (fun t =>
    if length = 0 then t else t.setCtx c fun x => { x with backlog := x.backlog ++ [⟨address, length, cls⟩] }) s

/-! ## Requests to the engines (R148, R176) -/

/-- CHECKPOINT_AT (R418): the engine takes the request within the command, so the queue of R148 stays empty (assumption 70). -/
def execCheckpointAt (c delta arg : Nat) (s : State) : Host.Outcome State Fault Refusal :=
  if s.running c && !(decide (delta < 2 ^ 24) && decide (arg < 2)) then .fault .reservedEncoding
  else plainControl c (fun t => requestCheckpoint t c delta arg) s

/-- The window opens: blocks of the context that are armed evacuate in it (R293, R297, R303). -/
def openWindow (s : State) (c arg : Nat) : State :=
  if arg = 0 then s
  else
    let t := (s.dcount 0x7050 4 1).setCtx c fun x => { x with window := true }
    { t with zoning := { t.zoning with evac := t.zoning.evac.map fun e =>
        if e.phase = 2 ∧ (boundBy t e.block).any (·.1 == c) = true then { e with phase := 3 } else e } }

/-- EVAC_WINDOW (R293, R294): a shorter window than 29 units is refused by the load check. -/
def execEvacWindow (c delta arg : Nat) (s : State) : Host.Outcome State Fault Refusal :=
  if s.running c && !(decide (delta < 2 ^ 24) && decide (arg < 2 ^ 16) && (arg == 0 || decide (29 ≤ arg))) then
    .fault .reservedEncoding
  else plainControl c (fun t => openWindow t c arg) s

/-- The deadline monitor takes `SERVICE_ARG`: [15] `ARM`, [14:0] `MARGIN` (R466). -/
def armDeadline (s : State) (c arg : Nat) : State :=
  s.dsets [(0x6080 + c, 1, bits arg 15 1), (0x6080 + c, 2, bits arg 0 15)]

/-- Changes whose beat has come take effect, in order (R466). -/
def armDue (s : State) (c : Nat) : State :=
  let x := s.ctx c
  let due := x.arming.filter fun e => decide (e.1 ≤ s.beat)
  if due.isEmpty then s
  else (due.foldl (fun t e => armDeadline t c e.2) s).setCtx c fun y =>
    { y with arming := y.arming.filter fun e => !decide (e.1 ≤ s.beat) }

/-- A request to arm the fallback partition's context is ignored (R466). -/
def requestDeadline (s : State) (c delta arg : Nat) : State :=
  if s.dget 0x6050 6 = c ∧ bits arg 15 1 = 1 then s
  else
    let n := (s.dget (0x4030 + c) 4 + delta) % 2 ^ 64
    if s.hasSchedule && decide (n ≤ s.beat) then armDeadline s c arg
    else s.setCtx c fun x => { x with arming := x.arming ++ [(n, arg)] }

/-- DEADLINE_ARM (R466). -/
def execDeadlineArm (c delta arg : Nat) (s : State) : Host.Outcome State Fault Refusal :=
  if s.running c && !(decide (delta < 2 ^ 24) && decide (arg < 2 ^ 16)) then .fault .reservedEncoding
  else plainControl c (fun t => requestDeadline t c delta arg) s

/-! ## The end of the stream and long waits -/

/-- The stream of a context stops for good or for a while: its window closes and a waiting cut is discarded (R298, R419). -/
def stopStream (s : State) (c : Nat) : State := abandonCut (stopWindow s c) c

/-- A pending `HOLD` of the tenant that has just ended is done (assumption 21). -/
def endPendingHold (s : State) (t : Nat) : State :=
  let u : State := { s with tenancy := { s.tenancy with stops := s.tenancy.stops.filter fun x => x.preempt || x.tenant != t } }
  match u.power.request with
  | some q => if q.code = 4 ∧ q.tenant = t then endRequest u 1 else u
  | none => u

/-- The beat in which the stream ended, for R461. -/
def endStream (s : State) (c : Nat) : State :=
  let tn := tenantOf s c
  let t := sequencerNotice (stopStream (issueBundle c s) c) c 1 (s.pc c + c * 2 ^ 16)
  let u := (t.setCtx c fun x => { x with backlog := [] }).dset (0x6070 + tn) 0xF s.beat
  endPendingHold (setTenantState u tn 1) tn

/-- END_STREAM (R147, R250, R461, R489). -/
def execEndStream (c : Nat) (s : State) : Host.Outcome State Fault Refusal :=
  .next (if s.running c then endStream s c else s)

/-- WAIT_TIMEOUT (R159): one wait of classes 2 to 8 has lasted more than `WAIT_LIMIT_BEATS` beat boundaries; it is reported
once, and it continues. -/
def execWaitTimeout (c : Nat) (s : State) : Host.Outcome State Fault Refusal :=
  let x := s.ctx c
  let k := s.dget (0x4030 + c) 2
  let limit := s.dget (0x4030 + c) 9
  if s.running c && decide (2 ≤ k) && limit != 0 && decide (limit < x.waitBeats) && !x.waitTold then
    let v := c * 2 ^ 24 + k * 2 ^ 16 + s.pc c
    let t := (s.setCtx c fun y => { y with waitTold := true }).record 0x5030 0 [(2, 1)] (some v)
    .next (sequencerNotice t c 2 v)
  else .next s

end Sys2Proof.Machine
end

