-- ==== Sys2Proof/Machine/Restore.lean ====
section
/-! DEFINITION. Cairn's restore (spec/12_cairn.md R437 to R441; spec/18_faults.md R577). -/

namespace Sys2Proof.Machine

/-! ## Records and outcomes (R438) -/

/-- A restore ends as failed. -/
def failRestore (s : State) (c reason : Nat) : State :=
  (s.setCairn c fun y => { y with restore := none, failed := true }).record 0x50A0 4 [(6, 1)] (some (cairnCase 4 reason c none))

/-! ## Manifests (R431) -/

/-- A manifest read from its bytes: `none` where it is not valid. -/
def readManifest (bs : List Byte) : Option Manifest :=
  let h := ofLe (bs.take 256)
  let n := bits h 960 32
  let cleared := ofLe (leBytes 256 (putBits h 1664 384 0))
  if bits h 0 32 = 0x4E524143 ∧ bits h 36 4 = 1 ∧ bs.length = 256 + 96 * n ∧
      Config.sha384 (leBytes 256 cleared ++ bs.drop 256) = bits h 1664 384 then
    some { digest := bits h 1280 384, job := bits h 1216 64, cutBeat := bits h 1152 64, seed := bits h 1024 64,
           generation := bits h 992 32, replica := bits h 944 16, stage := bits h 922 6, flags := bits h 40 8,
           entries := (List.range n).map fun i =>
             let e := ofLe ((bs.drop (256 + 96 * i)).take 96)
             [bits e 0 4, bits e 4 4, bits e 288 16, bits e 320 64, bits e 384 384, bits e 304 16] }
  else none

def entryKind (e : List Nat) : Nat := e.getD 0 0
def entryShare (e : List Nat) : Nat := e.getD 1 0
def entryBuffer (e : List Nat) : Nat := e.getD 2 0
def entryLength (e : List Nat) : Nat := e.getD 3 0
def entryDigest (e : List Nat) : Nat := e.getD 4 0

/-! ## What is fetched (R437, R439) -/

/-- One shard to be fetched: its governing entry, its digest, whether it comes from the peer, its name's kind and value, and the
parity of its generation. -/
structure Fetch where
  entry  : List Nat
  digest : Nat
  peer   : Bool
  kind   : Nat
  name   : Nat
  parity : Nat
  deriving DecidableEq, Repr

/-- The plan for the shards of a restore, in shard order; an empty shard is not fetched (R434). -/
def restorePlan (x : Restore) : List Fetch := match x.governing with
  | none => []
  | some g =>
    (g.entries.zipIdx.map fun (e, i) =>
      let shared := entryShare e == 1
      if x.source = 1 ∧ shared = false ∧ i ≠ 0 then
        match x.own with
        | none => ⟨e, entryDigest e, false, 1, 0, 0⟩
        | some o =>
          let j := (o.entries.findIdx? fun y => entryBuffer y == entryBuffer e).getD 0
          ⟨e, entryDigest (o.entries.getD j []), false, 1, o.replica * 2 ^ 32 + j, o.generation % 2⟩
      else ⟨e, entryDigest e, x.source != 0, if shared then 2 else 1, if shared then entryDigest e else g.replica * 2 ^ 32 + i,
        g.generation % 2⟩).filter fun f => entryLength f.entry != 0

/-- The flow on which a `GET` leaves: the peer's, or that of the object's storage target (R432, R437). -/
def getFlow (s : State) (c : Nat) (peer : Bool) (target : Nat) : Nat :=
  if peer then s.ck c 0xC else drainFlow s c (target % s.ck c 6)

/-- The header of a `GET`. -/
def getHeader (s : State) (c kind name parity : Nat) : Nat :=
  name * 2 ^ 128 + s.ck c 7 * 2 ^ 64 + s.dget (0x4050 + c) 2 * 2 ^ 11 + parity * 2 ^ 10 + kind * 2 ^ 8 + 5 * 2 ^ 4 + 1

/-- The replica index of the peer of a restore: that of the member with its address in `CKPT_SET`, 0 without a set (R437, R440). -/
def peerIndex (s : State) (c : Nat) : Nat :=
  let a := (s.peer (s.flow (s.ck c 0xC)).peer).address
  if s.ck c 8 = 0xFF then 0
  else ((List.range (s.red (s.ck c 8) 2)).find? fun m => (memberOf s (s.ck c 8) m).address == a).getD 0

/-- The `GET` that a restore makes now: its flow and its header. -/
def currentGet (s : State) (c : Nat) (x : Restore) : Option (Nat × Nat) :=
  match x.todo with
  | (peer, parity) :: _ =>
    let r := if peer then peerIndex s c else ckptIndex s c
    some (getFlow s c peer r, getHeader s c 0 r parity)
  | [] => match (restorePlan x)[x.shard]? with
    | none => none
    | some f =>
      let target := if f.kind = 2 then f.digest % 256 else f.name / 2 ^ 32 + f.name % 2 ^ 32
      some (getFlow s c f.peer target, getHeader s c f.kind f.name f.parity)

def setRestore (s : State) (c : Nat) (x : Restore) : State := s.setCairn c fun y => { y with restore := some x }

/-! ## Choosing manifests (R437 to R439) -/

/-- The newest of some manifests. -/
def newest (l : List Manifest) : Option Manifest := l.foldl (fun m e => match m with
  | none => some e
  | some x => if x.generation < e.generation then some e else some x) none

/-- The manifest of the chosen generation among those from one side. -/
def chosen (s : State) (c : Nat) (x : Restore) (peer : Bool) : Option Manifest :=
  let l := (x.found.filter fun e => e.1 == peer).map (·.2)
  let g := s.ck c 0xD
  newest (if g = 0 then l else l.filter fun m => m.generation == g)

/-- The reason for which a governing manifest is refused; 0: none (R438). -/
def manifestReason (s : State) (c : Nat) (x : Restore) (m : Manifest) : Nat :=
  if m.digest ≠ (s.ctx c).digest then 3
  else if m.stage ≠ s.dget (0x4050 + c) 2 ∨ (x.source = 0 ∧ m.replica ≠ ckptIndex s c) then 4
  else 0

/-- The own manifest of a restore from a peer with own shards from storage (R439). -/
def ownManifest (s : State) (c : Nat) (x : Restore) (g : Manifest) : Option Manifest :=
  newest (((x.found.filter fun e => !e.1).map (·.2)).filter fun m =>
    m.digest == (s.ctx c).digest && m.stage == s.dget (0x4050 + c) 2 && m.replica == ckptIndex s c && decide (m.cutBeat ≤ g.cutBeat))

/-- Every own shard of the governing manifest is in the own one with the same length (R439). -/
def ownCovers (g o : Manifest) : Bool :=
  (g.entries.zipIdx.filter fun e => entryShare e.1 != 1 && e.2 != 0).all fun e =>
    o.entries.any fun y => entryBuffer y == entryBuffer e.1 && entryLength y == entryLength e.1

/-- Every manifest has been asked for: the restore chooses, or fails. -/
def chooseManifests (s : State) (c : Nat) (x : Restore) : State :=
  match chosen s c x (x.source != 0) with
  | none => failRestore s c (if x.invalid then 2 else 1)
  | some g =>
    let r := manifestReason s c x g
    if r ≠ 0 then failRestore s c r
    else if x.source = 1 then
      match ownManifest s c x g with
      | none => failRestore s c 1
      | some o => if ownCovers g o then setRestore s c { x with governing := some g, own := some o } else failRestore s c 7
    else setRestore s c { x with governing := some g }

/-! ## Landing shards (R428, R438) -/

/-- The rows of a bank buffer in the order of its shard: block and row. -/
def bankRows (s : State) (c : Nat) (b : Buffer) : List (Nat × Nat) :=
  ((s.ctx c).desc b.region).selected.flatMap fun l => (List.range b.rows).map fun i => (l, kget 0 b.rowsAt l + i)

/-- A bank shard's bytes go through the engine ports into the present binding. -/
def landBanks (s : State) (c : Nat) (b : Buffer) (bs : List TByte) : State :=
  (bankRows s c b).zipIdx.foldl (fun t (e, i) => match (s.ctx c).phys e.1 with
    | none => t
    | some p => (List.range 16).foldl (fun u k =>
        storeRow u p k e.2 0 ((bs.drop ((16 * i + k) * 128)).take 128)) t) s

/-- A flat shard's bytes go into its buffer; an overflow byte goes through its page. -/
def landFlat (s : State) (c : Nat) (b : Buffer) (bs : List TByte) : State :=
  if b.cls = 5 then
    (List.range (ceilDiv bs.length 4096)).foldl (fun t i =>
      match bufferAddress t c b (4096 * i) with
      | some a => writeTagged t a ((bs.drop (4096 * i)).take 4096)
      | none => t) s
  else writeTagged s b.address bs

/-- The stream state of a captured context over the loaded one (R422, R438): queues open and empty, restart address set. -/
def landContext (s : State) (c : Nat) (p : Capture) : State :=
  let y := p.context
  let a := s.setCtx c fun x => { x with
    loops := y.loops, backlog := y.backlog, keyBeat := y.keyBeat, slots := y.slots, working := y.working
    fwdQueue := y.fwdQueue, gradQueue := y.gradQueue, fwdLand := y.fwdLand, gradLand := y.gradLand, stash := y.stash }
  let b := y.overlaid.foldl (fun t e => loadOverlay t c e.2 e.1) a
  let d := b.dsets [(0x4030 + c, 1, p.restart), (0x4030 + c, 3, p.origin), (0x4030 + c, 4, p.lastNamed), (0x4030 + c, 5, p.skip)]
  (d.ctx c).blocks.foldl (fun t e => match kfind p.regs e.1 with
    | none => t
    | some r => t.setBlock e.2 fun z =>
        { z with preds := r.preds, bases := r.bases, srIndex := r.srIndex, flags := r.flags, queues := [], changes := [] }) d

/-- A shard whose digest agrees takes its place. -/
def landShard (s : State) (c : Nat) (f : Fetch) (bs : List TByte) : Option State :=
  let x := s.ctx c
  let b := x.buffer (entryBuffer f.entry)
  if entryKind f.entry = 1 then (Config.contextOf (bs.map (·.1))).map (landContext s c)
  else if entryKind f.entry = 2 then
    some (if b.demoted then landFlat s c (x.buffer b.shadow) bs else landBanks s c b bs)
  else some (landFlat s c b bs)

/-- Every shard is in place (R438, R439, R441). -/
def finishRestore (s : State) (c : Nat) (x : Restore) (g : Manifest) : State :=
  let a := (s.dsets [(0x4020, 1, g.seed), (0x6040 + c, 0xE, (g.generation + 1) % 2 ^ 32)]).setCairn c fun y =>
    { y with restore := none, failed := false, restored := some (g.cutBeat, bit g.flags 3, s.dget (0x4030 + c) 5) }
  match x.own with
  | none => a
  | some o =>
    if o.cutBeat < g.cutBeat then
      (a.record 0x50A0 8 [] (some (cairnCase 8 0 c (some g.generation)))).log 0x50A0 8 2 o.cutBeat g.cutBeat
    else a

/-! ## Going on -/

/-- The `GET` at hand leaves once its flow holds credit; with nothing left to fetch the restore ends. -/
def pumpRestore (s : State) (c : Nat) : State := match (s.cairnOf c).restore with
  | none => s
  | some x =>
    if x.asked then s
    else match currentGet s c x with
      | some (f, h) =>
        if holdsCredit s f 1 then setRestore (sendUnits s f true [cairnUnit h []]) c { x with asked := true } else s
      | none => match x.governing with
        | some g => finishRestore s c x g
        | none => s

/-- The manifest at hand has been answered; after the last one the restore chooses. -/
def manifestAnswered (s : State) (c : Nat) (x : Restore) : State :=
  let y := { x with todo := x.todo.tail, asked := false, bytes := [] }
  if y.todo.isEmpty then chooseManifests s c y else setRestore s c y

/-- A whole object has arrived. -/
def objectArrived (s : State) (c : Nat) (x : Restore) : State :=
  match x.todo with
  | (peer, _) :: _ => match readManifest (x.bytes.map (·.1)) with
    | some m => manifestAnswered s c { x with found := x.found ++ [(peer, m)] }
    | none => manifestAnswered s c { x with invalid := true }
  | [] => match (restorePlan x)[x.shard]? with
    | none => s
    | some f =>
      if Config.sha384 (x.bytes.map (·.1)) ≠ f.digest then failRestore s c 5
      else match landShard s c f x.bytes with
        | none => failRestore s c 5
        | some t => setRestore t c { x with shard := x.shard + 1, asked := false, bytes := [] }

/-- The context whose restore awaits an answer on a flow. -/
def restoreOn (s : State) (f : Nat) : Option (Nat × Restore × Nat) :=
  (List.range 4).findSome? fun c => match (s.cairnOf c).restore with
    | none => none
    | some x => match currentGet s c x with
      | some (g, h) => if x.asked && g + 1 == f then some (c, x, h) else none
      | none => none

/-- DATA_LAST (R433, R437, R438): one piece of the object arrives, in order; the last completes it. -/
def execDataLast (unit : EngineUnit) (s : State) : Host.Outcome State Fault Refusal :=
  let h := unit.header
  .next <| cairnUnitIn s unit <| match restoreOn s unit.flow with
  | none => s
  | some (c, x, get) =>
    if !(cairnOp h == 11 || cairnOp h == 12) || nameFields h != nameFields get || 4032 * cairnPiece h != x.bytes.length then s
    else
      let part : List TByte := (List.range (cairnBytes h)).map fun i => (unit.body.getD i 0, bit unit.map ((64 + i) / 64))
      let y := { x with bytes := x.bytes ++ part }
      if cairnOp h = 12 then pumpRestore (objectArrived s c y) c else setRestore s c y

/-- ABSENT (R434, R438): a manifest that is absent is not found; a shard that is absent cannot be had. -/
def execAbsentAnswer (unit : EngineUnit) (s : State) : Host.Outcome State Fault Refusal :=
  let h := unit.header
  .next <| cairnUnitIn s unit <| match restoreOn s unit.flow with
  | none => s
  | some (c, x, get) =>
    if cairnOp h ≠ 13 ∨ nameFields h ≠ nameFields get then s
    else if x.todo.isEmpty then failRestore s c 5
    else pumpRestore (manifestAnswered s c x) c

/-- The manifests that a restore asks for first (R437, R439). -/
def firstGets (s : State) (c : Nat) : List (Bool × Nat) :=
  let g := s.ck c 0xD
  let src := s.ck c 0xB
  let main := if g = 0 then [(src != 0, 0), (src != 0, 1)] else [(src != 0, g % 2)]
  if src = 1 then main ++ [(false, 0), (false, 1)] else main

/-- `RESTORE` (R437). -/
def startRestore (s : State) (c : Nat) : Nat × State :=
  let y := s.cairnOf c
  let loaded := s.power.state == .up && (match s.resident c with
    | some t => s.tenantState t == 1
    | none => false)
  if !loaded || y.started || y.restore.isSome then (abortState, s)
  else
    let x : Restore := ⟨s.ck c 0xB, firstGets s c, [], false, none, none, 0, false, []⟩
    (0, pumpRestore (s.setCairn c fun z => { z with restore := some x, restored := none }) c)

/-- RESTORE (R437, R438). -/
def execRestoreGeneration (r : Requester) (c : Nat) (s : State) : Host.Outcome State Fault Refusal :=
  .next (guardedWrite s r (0x6040 + c) 1 1 2 fun t => startRestore t c)

/-- CKPT_TIMEOUT (R435, R438): what a drain or a restore awaits has not come. -/
def execCkptTimeout (c : Nat) (s : State) : Host.Outcome State Fault Refusal :=
  .next (if (s.cairnOf c).restore.isSome then failRestore s c 6
    else if (s.cairnOf c).drain.isSome then failDrain s c
    else s)

end Sys2Proof.Machine
end

