-- ==== Sys2Proof/Machine/FlowEnds.lean ====
section
/-! DEFINITION. Credit and loss of flows as the engines meet them: acknowledgements, broken flows and closed partners
(spec/10_network.md R365, R366, R371; spec/11_reduction.md R409; spec/12_cairn.md R435). -/

namespace Sys2Proof.Machine

/-- Credit has come on an engine's send flow: what the engine holds for it goes out. -/
def engineCredited (s : State) (f : Nat) : State :=
  let x := s.flow f
  if x.kind = 5 ∧ x.engine = 1 then flowCredited s f
  else if x.kind = 5 ∧ x.engine = 2 then
    (List.range 4).foldl (fun t c => pumpServe c 4096 (pumpRestore (if (t.cairnOf c).drain.isSome then pumpDrain t c else t) c)) s
  else s

/-- A flow to a storage target of a context (R432). -/
def targetFlow (s : State) (c f : Nat) : Bool := decide (s.ck c 5 ≤ f) && decide (f < s.ck c 5 + 2 * s.ck c 6)

/-- A flow has become `BROKEN` or `PEER_CLOSED`: the step or the drain that uses it ends (R409, R435). -/
def engineLost (s : State) (f : Nat) : State :=
  let t := flowLost s f
  let u := (List.range 4).foldl (fun t c => match (t.cairnOf c).drain with
    | some d => if !d.host && targetFlow t c f then failDrain t c else t
    | none => t) t
  (List.range 4).foldl (fun t c => if (t.cairnOf c).serving.any (·.flow == f) then
    t.setCairn c fun y => { y with serving := y.serving.filter (·.flow != f) } else t) u

/-- ACK_FRAME (R366, R369, R370). -/
def execAckFrame (frame : FrameIn) (s : State) : Host.Outcome State Fault Refusal :=
  .next (receive s frame 2 fun t => engineCredited (ackFrame t frame) frame.dest)

/-- FLOW_BREAK (R365, R371): the time since a unit's first transmission, or since `CLOSE`, has run out. -/
def execFlowBreak (f : Nat) (s : State) : Host.Outcome State Fault Refusal :=
  let x := s.flow f
  .next (if x.state = flowOpen ∧ (x.sends ∨ x.kind = 8) ∧ !x.store.isEmpty then engineLost (breakFlow s f) f
    else if x.state = flowClosing then
      let t := s.setFlow f x.closed
      if x.rdma then t else sendControl t f 2 0 0
    else s)

/-- CLOSE_FRAME (R365). -/
def execCloseFrame (frame : FrameIn) (s : State) : Host.Outcome State Fault Refusal :=
  .next (controlFrame s frame 2 fun t => forFlow frame t fun t =>
    if (t.flow frame.dest).live then engineLost (peerClosed t frame) frame.dest else t)

end Sys2Proof.Machine
end

