-- ==== Sys2Proof/Machine/Beat.lean ====
section
/-! DEFINITION. Beat timing and Quartz (spec/09_beat.md R308 to R342): schedules, status, the stretch tree, and the meanings
of the beat commands. Times in a command are ns of the module's timescale. -/

namespace Sys2Proof.Machine

/-! ## Sources, status, addresses -/

/-- `BEAT_SOURCE` (R312): 0 PTP, 1 external, 2 master, 3 free-run. -/
def beatSource (s : State) : Nat := s.dget 0x2030 1

/-- `BEAT_STATUS` (R314). -/
def beatStatus (s : State) : Nat := s.dget 0x4070 4

/-- The module acts as master: by its source, or by promotion (R312, R332). -/
def isMaster (s : State) : Bool := beatSource s == 2 || s.dget 0x4070 0x10 == 1

/-- A follower takes its schedule from its beat parent (R312). -/
def isFollower (s : State) : Bool := !isMaster s && beatSource s != 3

/-- An address as the number its network order spells, for R322's lowest address. -/
def addressOrder (a : Nat) : Nat := ofLe (leBytes 16 a).reverse

/-- The beat children in force (R321). -/
def beatChildren (s : State) : List Nat :=
  ((List.range 16).map fun i => s.dget 0x2031 (i + 1)).filter (· != 0)

/-- `BEAT_PARENT` (R321). -/
def beatParent (s : State) : Nat := s.dget 0x2031 0x11

/-- Every entry into `UNALIGNED` is counted (R341). -/
def enterUnaligned (s : State) : State :=
  if beatStatus s = 4 then s else (s.dset 0x4070 4 4).record 0x5070 7 [(5, 1)] none

/-! ## Schedules (R308, R316, R328) -/

/-- The period in force, and the pending schedule if there is one. -/
def periodNow (s : State) : Nat := s.dget 0x4070 6
def pendingBeat (s : State) : Option Nat := if s.dget 0x4070 0xC = ones 64 then none else some (s.dget 0x4070 0xC)
def pendingPeriod (s : State) : Nat := s.dget 0x4070 0xD

/-- The period of every beat from the pending one on, or in force. -/
def lastPeriod (s : State) : Nat := if (pendingBeat s).isSome then pendingPeriod s else periodNow s

/-- The announced changes of the period not yet in force, rising: those before `PENDING_BEAT`, and that one (R326, R328). -/
def pendingChanges (s : State) : List (Nat × Nat) :=
  s.quartz.earlier ++ match pendingBeat s with
    | some m => [(m, pendingPeriod s)]
    | none => []

/-- The next edge's beat: before the anchor's edge it is the anchor itself (R316). -/
def nextBeat (s : State) : Nat := if s.quartz.begun then s.beat + 1 else s.beat

/-- The edge of beat `n` when beat `k`, of period `p` ps, begins at `t` ps and the changes follow (R308, R328). -/
def edgeAlong : List (Nat × Nat) → Nat → Int → Nat → Nat → Int
  | [], k, t, p, n => t + (n - k : Int) * p
  | (m, q) :: r, k, t, p, n => if n ≤ m then t + (n - k : Int) * p else edgeAlong r m (t + (m - k : Int) * p) (1000 * q) n

/-- The first beat from `k` on whose edge lies at or after `u` ps. -/
def firstAlong : List (Nat × Nat) → Nat → Int → Nat → Int → Nat
  | [], k, t, p, u => k + ((u - t).toNat + max 1 p - 1) / max 1 p
  | (m, q) :: r, k, t, p, u =>
    let n := k + ((u - t).toNat + max 1 p - 1) / max 1 p
    if n ≤ m then n else firstAlong r m (t + (m - k : Int) * p) (1000 * q) u

/-- The edge of beat `n` under the held schedule, ps (R308, R328). -/
def heldEdge (s : State) (n : Nat) : Int :=
  if s.quartz.begun && decide (n ≤ s.beat) then (s.quartz.edge : Int) - (s.beat - n : Int) * (1000 * periodNow s : Nat)
  else edgeAlong (pendingChanges s) (nextBeat s) s.quartz.due (1000 * periodNow s) n

/-- The first beat not yet begun whose edge under the held schedule lies at or after `t` ps. -/
def firstBeatFrom (s : State) (t : Int) : Nat :=
  firstAlong (pendingChanges s) (nextBeat s) s.quartz.due (1000 * periodNow s) t

/-- A first schedule: anchor beat, its edge in ns, the period. Until the anchor's edge no beat runs; an anchor in the past
gives the beat of the latest edge (R316, R328). -/
def adoptSchedule (s : State) (anchor time period base seq master now : Nat) : State :=
  let begun := decide (time ≤ now)
  let k := if begun then (now - time) / max 1 period else 0
  let b := anchor + k
  let t := s.dsets [(0x4070, 5, b % 2 ^ 64), (0x4070, 6, period), (0x4070, 0xB, seq), (0x4070, 0xC, ones 64),
    (0x4070, 0xD, 0)]
  { t with quartz := { t.quartz with
      begun := begun, edge := 1000 * (time + k * period), due := 1000 * (time + (if begun then k + 1 else 0) * period)
      nextEdge := 1000 * (time + (if begun then k + 1 else 0) * period), earlier := []
      basePeriod := base, master := master, slew := 0 } }

/-- The schedule and the beat number are discarded (R308); `REQUEST_SEQ` goes on (R322), and the children's requests stand
(R325). -/
def discardSchedule (s : State) : State :=
  let t := ((((s.dclear 0x4070 5).dclear 0x4070 6).dclear 0x4070 0xB).dclear 0x4070 0xC).dclear 0x4070 0xD
  { t with quartz := { Quartz.reset with
    step := t.quartz.step, calm := t.quartz.calm, limitRun := t.quartz.limitRun, requestSeq := t.quartz.requestSeq
    children := t.quartz.children, clock := t.quartz.clock, ppsRun := t.quartz.ppsRun, ppsLast := t.quartz.ppsLast } }

/-- A new period from beat `m` on, pending until its edge (R326, R328). A pending change of an earlier beat still times the
edges before `m`; one of `m` or later is replaced. DEDUCED (log 68): R326's new schedule replaces the pending one, and R328
gives the edges before *M* to the previous schedule. -/
def pendSchedule (s : State) (m period seq base : Nat) : State :=
  let t := s.dsets [(0x4070, 0xC, m), (0x4070, 0xD, period), (0x4070, 0xB, seq)]
  { t with quartz := { t.quartz with basePeriod := base, earlier := (pendingChanges s).filter fun e => e.1 < m } }

/-! ## Requests (R325, R330) -/

/-- `FLOOR_PERIOD_NS` (R311): the largest `MIN_BEAT_PERIOD_NS` among the loaded programs, parked ones among them. -/
def floorPeriod (s : State) : Nat :=
  max (s.contexts.foldl (fun m e => max m e.2.minPeriod) 0) (s.parked.foldl (fun m e => max m e.2.context.minPeriod) 0)

/-- The module's own request: the larger of floor and thermal request. -/
def ownRequest (s : State) : Nat := max (floorPeriod s) (s.dget 0x4070 7)

/-- The children's requests of the last 300 ms. -/
def liveRequests (s : State) (now : Nat) : List ChildRequest :=
  (s.quartz.children.filter fun c => (beatChildren s).contains c.1 && decide (now ≤ c.2.time + 300000000)).map (·.2)

/-- The forwarded request (R325). -/
def forwarded (s : State) (now : Nat) : Nat := (liveRequests s now).foldl (fun m c => max m c.period) (ownRequest s)

/-- The module whose own request equals the forwarded one; the lowest such address (R322). -/
def limitingAddress (s : State) (now : Nat) : Nat :=
  let f := forwarded s now
  let own := if ownRequest s = f then [ownAddress s] else []
  let all := own ++ ((liveRequests s now).filter (·.period == f)).map (·.limiting)
  match all with
  | [] => 0
  | a :: r => r.foldl (fun m x => if addressOrder x < addressOrder m then x else m) a

/-- `CLUSTER_REQUEST_NS` (0x4070:09): the forwarded request as of the last time told (R325). -/
def clusterRequest (s : State) : Nat := forwarded s s.quartz.clock

/-- A beat command tells the time. -/
def tellTime (s : State) (now : Nat) : State := { s with quartz := { s.quartz with clock := now } }

/-- The thermal request of step `k` (R330). -/
def thermalRequest (s : State) (k : Nat) : Nat :=
  if k = 0 then 0 else (s.quartz.basePeriod * (64 + k) + 63) / 64

/-! ## Frames (R322 to R324) -/

def periodOk (p : Nat) : Bool := decide (1000 ≤ p) && decide (p ≤ 100000000)

/-- A stretch request's 64 B body is valid (R324). -/
def requestValid (b : Nat) : Bool :=
  bits b 0 4 == 1 && bits b 4 4 == 1 && bits b 8 120 == 0 && (bits b 160 32 == 0 || periodOk (bits b 160 32))

/-- A schedule announce's body is valid (R323, R324). -/
def announceValid (b : Nat) : Bool :=
  bits b 0 4 == 2 && bits b 4 4 == 1 && bits b 8 88 == 0 && periodOk (bits b 160 32) && periodOk (bits b 128 32)
    && decide (bits b 128 32 ≤ bits b 160 32)

def readAnnounce (b : Nat) : Announce :=
  { master := bits b 384 128, beat := bits b 320 64, time := bits b 256 64, now := bits b 192 64, period := bits b 160 32,
    basePeriod := bits b 128 32, seq := bits b 96 32 }

def announceBody (a : Announce) : Nat :=
  a.master * 2 ^ 384 + a.beat * 2 ^ 320 + a.time * 2 ^ 256 + a.now * 2 ^ 192 + a.period * 2 ^ 160 + a.basePeriod * 2 ^ 128
    + a.seq * 2 ^ 96 + 1 * 2 ^ 4 + 2

/-- A body of a stretch request (R322). -/
def requestBody (sender limiting beat period seq : Nat) : Nat :=
  sender * 2 ^ 384 + limiting * 2 ^ 256 + beat * 2 ^ 192 + period * 2 ^ 160 + seq * 2 ^ 128 + 1 * 2 ^ 4 + 1

/-- An invalid frame is counted (R324). -/
def beatFrameInvalid (s : State) : State := s.record 0x5070 6 [(6, 1)] none

/-- `new` is newer than `held` (R324). -/
def seqNewer (new held : Nat) : Bool :=
  let d := (new + 2 ^ 32 - held) % 2 ^ 32
  decide (1 ≤ d) && decide (d ≤ 2 ^ 31 - 1)

/-- A rejected announce (R313, R328). -/
def scheduleRejected (s : State) : State := s.flag 0x5070 3

/-! ## Announces -/

/-- The edges of an announce agree within 1 µs with the held schedule for every beat from the current one on (R313). -/
def edgesAgree (s : State) (a : Announce) : Bool :=
  let first := max a.beat s.beat
  let near := fun n : Nat => decide ((heldEdge s n - 1000 * ((a.time : Int) + (n - a.beat : Int) * a.period)).natAbs ≤ 1000000)
  a.period == lastPeriod s && near first && ((pendingChanges s).all fun e => decide (e.1 < first) || near e.1)

/-- An announce applied to a held schedule (R328, R329). -/
def applyAnnounce (s : State) (a : Announce) (now : Nat) : State :=
  let d := heldEdge s a.beat - 1000 * a.time
  if 1000000 < d.natAbs then enterUnaligned (scheduleRejected s)
  else
    let t : State := { s with quartz := { s.quartz with master := a.master, announce := some a } }
    if nextBeat s ≤ a.beat then pendSchedule t a.beat a.period a.seq a.basePeriod
    else
      let due := (heldEdge s a.beat + ((nextBeat s - a.beat) * (1000 * a.period) : Nat)).toNat
      let u := t.dsets [(0x4070, 6, a.period), (0x4070, 0xB, a.seq), (0x4070, 0xC, ones 64), (0x4070, 0xD, 0)]
      let v : State := { u with quartz := { u.quartz with basePeriod := a.basePeriod, due := due, nextEdge := due, earlier := [] } }
      if s.quartz.begun then
        State.record { v with quartz := { v.quartz with nextEdge := max due (1000 * now + 1000000) } } 0x5070 1 [(4, 1)] none
      else v

/-- The whole-second count of an external follower, from its first valid announce (R318): the count that places the arrival
between 0 and 0.5 s after `NOW_NS`. -/
def takeSeconds (s : State) (a : Announce) (now : Nat) : State :=
  if beatSource s = 1 ∧ s.quartz.secKnown = false then
    let phase := now % 1000000000
    let c : Int := (((a.now : Int) - phase + 999999999) / 1000000000)
    { s with quartz := { s.quartz with secKnown := true, secBase := c * 1000000000 + phase - now } }
  else s

/-- The module's time of a command (R318). -/
def localTime (s : State) (now : Nat) : Nat := ((now : Int) + s.quartz.secBase).toNat

/-- A valid announce at a follower (R313, R328). -/
def followAnnounce (s : State) (a : Announce) (now : Nat) : State :=
  let s := takeSeconds s a now
  let now := localTime s now
  if !s.hasSchedule then
    let t := adoptSchedule s a.beat a.time a.period a.basePeriod a.seq a.master now
    { t with quartz := { t.quartz with announce := some a } }
  else if !seqNewer a.seq (s.dget 0x4070 0xB) then
    if a.master = s.quartz.master then s else scheduleRejected s
  else if a.master ≠ s.quartz.master ∧ edgesAgree s a = false then scheduleRejected s
  else applyAnnounce s a now

/-! ## Offsets (R314, R331) -/

/-- One measurement of the offset against the time source. -/
def measureOffset (s : State) (ps : Int) : State :=
  let t := s.dset 0x4070 0xE (encInt 32 ps)
  let near := decide (ps.natAbs ≤ 10000)
  let u : State := { t with quartz := { t.quartz with
    aligned := if near then t.quartz.aligned + 1 else 0
    slew := if t.hasSchedule then ps else 0 } }
  if !near && u.hasSchedule && (beatStatus u == 2 || beatStatus u == 3) then enterUnaligned u else u

/-! ## Meanings -/

/-- The offset slewed away over one beat: at most 100 ns per ms (R331). -/
def slewMove (period : Nat) (slew : Int) : Int :=
  let m : Int := period / 10
  if slew < -m then -m else if m < slew then m else slew

/-- The beat-sampled entries are copied (R145, R246). -/
def sampleBeat (s : State) : State :=
  { s with sampled := (List.range 4).map fun c => (s.dget (0x4030 + c) 8, s.dget (0x4050 + c) 0xB) }

/-- A write of `BEAT_SOURCE` takes effect (R308, R314, R337): in READY it discards the schedule and restarts acquisition. -/
def writeBeatSource (s : State) (v : Nat) : State :=
  let t := storeEntry s 0x2030 1 v
  if s.modState = .ready then (discardSchedule t).dset 0x4070 4 0 else t

/-- BEAT_SOURCE_WRITE (R314). -/
def execBeatSourceWrite (r : Requester) (value : Nat) (s : State) : Host.Outcome State Fault Refusal :=
  .next (guardedWrite s r 0x2030 1 1 value fun t => (0, writeBeatSource t value))

/-- The schedule that a master or free-run module starts (R316). -/
def startSchedule (s : State) (now : Nat) : State :=
  let base := s.dget 0x4070 1
  let anchor := s.dget 0x4070 3
  let time := (now / 1000000000 + 2) * 1000000000
  let t := adoptSchedule s anchor time base base ((s.dget 0x4070 0xB + 1) % 2 ^ 32) (ownAddress s) now
  { t with quartz := { t.quartz with
    announce := some ⟨ownAddress s, anchor, time, now, base, base, (s.dget 0x4070 0xB + 1) % 2 ^ 32⟩ } }

/-- The reference of a master is qualified (R318): the 10 MHz input lies within ±1 ppm, and four 1PPS edges in a row lie
1 s ± 100 ns apart. -/
def referenceQualified (s : State) (near : Bool) : Bool := near && decide (4 ≤ s.quartz.ppsRun)

/-- ACQUISITION_START (R316): once the microcode is loaded and the source (or the local oscillator) is present, `ACQUIRING`;
a master or free-run module whose oscillator has settled starts its schedule. A master whose 10 MHz input is `present` waits
for its reference to qualify, for at most 5 s; `near` says that the input lies within ±1 ppm. -/
def execAcquisitionStart (now : Nat) (present settled near : Bool) (s : State) : Host.Outcome State Fault Refusal :=
  if !s.power.microDone || !s.squareUp || !(beatStatus s == 0 || beatStatus s == 1) then .next s
  else if beatSource s ≤ 1 then .next (if present then s.dset 0x4070 4 1 else s)
  else if !settled then .next (s.dset 0x4070 4 1)
  else
    let since := s.quartz.waitFrom.getD now
    let good := beatSource s == 2 && present && referenceQualified s near
    if beatSource s = 2 ∧ present = true ∧ good = false ∧ now < since + 5000000000 then
      .next (State.dset { s with quartz := { s.quartz with waitFrom := some since } } 0x4070 4 1)
    else
      let t := startSchedule s now
      .next (State.dset { t with quartz := { t.quartz with external := good } } 0x4070 4 (if beatSource s = 3 then 5 else 2))

/-- BEAT_LOCK (R314): after 16 measurements within ±10 ns a follower that holds a schedule is `LOCKED`; so is a master with
its schedule started, one promoted in `HOLDOVER` or `UNALIGNED` among them. -/
def execBeatLock (s : State) : Host.Outcome State Fault Refusal :=
  if s.hasSchedule && (isMaster s || isFollower s && decide (16 ≤ s.quartz.aligned))
      && (beatStatus s == 1 || beatStatus s == 3 || beatStatus s == 4) then .next (s.dset 0x4070 4 2)
  else .next s

/-- Comparison of datasets in order: the first better (lower) member decides (R317). -/
def datasetBetter : List Nat → List Nat → Bool
  | a :: x, b :: y => if a < b then true else if b < a then false else datasetBetter x y
  | _, _ => false

/-- `clockClass` (R317): 255 of a boundary clock; 6 of a master locked to its external reference, otherwise 248. -/
def clockClass (s : State) : Nat := if !isMaster s then 255 else if s.quartz.external then 6 else 248

/-- The module's own dataset in comparison order, as far as the spec gives it: priority1 and `clockClass`; quality, priority2
and identity follow (R317). -/
def ownDataset (s : State) : List Nat :=
  [s.dget 0x2030 3, clockClass s, Config.clockQuality.1, Config.clockQuality.2, s.dget 0x2030 4, (Config.portMac 0).toNat]

/-- What a port's state carries of PTP (R347): peer-delay messages while the port measures, answers to them in the exchange,
nothing of it in `IDENTITY`, and everything in the states after it. -/
def portCarriesPtp (s : State) (p kind : Nat) : Bool :=
  let st := s.dget (0x3040 + p) 1
  decide (7 ≤ st && st ≤ 10) || ((st == 4 || st == 5) && [2, 3, 10].contains kind)

/-- What a port's state carries of the beat control frames (R347). -/
def portCarriesBeat (s : State) (p : Nat) : Bool :=
  let st := s.dget (0x3040 + p) 1
  decide (p < 8 && 6 ≤ st && st ≤ 10)

/-- A PTP message that the profile supports (R317) on a port that carries it (R347). -/
def ptpSupported (s : State) (m : PtpMessage) : Bool :=
  m.version == 2 && decide (m.minorVersion ≤ 1) && (m.transport == 6 || m.transport == 4) && decide (m.port < 8)
    && portCarriesPtp s m.port m.kind
    && m.domain == s.dget 0x2030 2 && [0, 1, 2, 3, 8, 9, 10, 11].contains m.kind
    && (beatSource s == 0 || isMaster s)

/-- A port with no measured delay is never chosen as a time source (R319). -/
def delayKnown (s : State) (port : Nat) : Bool := s.dget 0x3030 (port + 1) != ones 32

/-- PTP_MESSAGE (R317): unsupported messages are ignored; an Announce takes part in the choice of the best master, against the
module's own dataset too; a usable Sync of that master gives an offset; Delay_Req and Pdelay_Req are answered. The module
itself sends no Delay_Req: a port without a measured delay is never its time source (R319). What it sends at intervals of its
own is timing (log 17). -/
def execPtpMessage (m : PtpMessage) (s : State) : Host.Outcome State Fault Refusal :=
  if !ptpSupported s m || !s.squareUp then .next s
  else if m.kind = 1 then .next (s.emit (.ptp m.port 9))
  else if m.kind = 2 then .next ((s.emit (.ptp m.port 3)).emit (.ptp m.port 10))
  else if m.kind = 11 then
    if isMaster s || !delayKnown s m.port || datasetBetter (ownDataset s) m.dataset then .next s
    else match s.quartz.ptp with
      | none => .next { s with quartz := { s.quartz with ptp := some ⟨m.dataset, m.port⟩ } }
      | some b =>
        if datasetBetter m.dataset b.dataset || b.port == m.port then
          .next { s with quartz := { s.quartz with ptp := some ⟨m.dataset, m.port⟩ } }
        else .next s
  else if m.kind = 0 ∨ m.kind = 8 then
    match s.quartz.ptp with
    | some b =>
      if b.port == m.port && m.usable && isFollower s && delayKnown s m.port && 1 ≤ beatStatus s then .next (measureOffset s m.offset) else .next s
    | none => .next s
  else .next s

/-- The time source is lost (R314): `LOCKED` becomes `HOLDOVER`; a master stays `LOCKED` (R312). -/
def sourceLost (s : State) : State :=
  if isMaster s || beatSource s == 3 then { s with quartz := { s.quartz with external := false } }
  else
    let t : State := { s with quartz := { s.quartz with aligned := 0, ptp := none, ppsRun := 0 } }
    if beatStatus s = 2 then t.dset 0x4070 4 3 else t

/-- TIME_SOURCE_LOST (R314). -/
def execTimeSourceLost (s : State) : Host.Outcome State Fault Refusal := .next (sourceLost s)

/-- HOLDOVER_EXPIRY (R314). -/
def execHoldoverExpiry (s : State) : Host.Outcome State Fault Refusal :=
  .next (if beatStatus s = 3 then enterUnaligned s else s)

/-- STRETCH_REQUEST_FRAME (R325): kept beside the other requests of the last 300 ms of the child that it names. -/
def execStretchRequestFrame (body : BeatFrame) (now : Nat) (s : State) : Host.Outcome State Fault Refusal :=
  let b := body.body
  if !s.squareUp || beatSource s == 3 || !portCarriesBeat s body.port then .next s
  else if !requestValid b then .next (beatFrameInvalid s)
  else
    let sender := bits b 384 128
    if !(beatChildren s).contains sender then .next s
    else
      let kept := s.quartz.children.filter fun c => decide (now ≤ c.2.time + 300000000)
      .next (tellTime { s with quartz := { s.quartz with
        children := (sender, ⟨bits b 160 32, bits b 256 128, now⟩) :: kept } } now)

/-- STRETCH_REQUEST_SEND (R325). -/
def execStretchRequestSend (now : Nat) (s : State) : Host.Outcome State Fault Refusal :=
  let t := tellTime s now
  if !s.squareUp || !isFollower s || beatParent s == 0 then .next t
  else
    let q := (s.quartz.requestSeq + 1) % 2 ^ 32
    let body := requestBody (ownAddress s) (limitingAddress s now) s.beat (forwarded s now) q
    .next (State.emit { t with quartz := { t.quartz with requestSeq := q } } (.beatFrame (beatParent s) 1 body))

/-- SCHEDULE_ISSUE (R326): a master's target (and a free-run module's own, R330) becomes a new schedule. -/
def execScheduleIssue (now : Nat) (stayedLow : Bool) (s : State) : Host.Outcome State Fault Refusal :=
  let t := tellTime s now
  let target := max (s.dget 0x4070 1) (if beatSource s = 3 then ownRequest s else forwarded s now)
  let held := lastPeriod s
  if !s.hasSchedule || !(isMaster s || beatSource s == 3) then .next t
  else if held < target ∨ (target < held ∧ stayedLow = true) then
    let lead := 1000000 * s.dget 0x4070 2
    let first := firstBeatFrom s ((1000 * now + lead : Nat) : Int)
    let m := match pendingBeat s with
      | some p => max first p
      | none => first
    let q := (s.dget 0x4070 0xB + 1) % 2 ^ 32
    let a : Announce := ⟨ownAddress s, m, ((heldEdge s m) / 1000).toNat, now, target, s.dget 0x4070 1, q⟩
    let u := pendSchedule t m target q (s.dget 0x4070 1)
    .next { u with quartz := { u.quartz with announce := some a, master := ownAddress s } }
  else .next t

/-- SCHEDULE_ANNOUNCE (R328): a master discards every announce; a free-run module ignores it; a follower takes its schedule from its
beat parent alone (R312; DEDUCED, log 68). The first valid one after the entry into `UNLOCKED` names its master (R313). -/
def execScheduleAnnounce (body : BeatFrame) (now : Nat) (s : State) : Host.Outcome State Fault Refusal :=
  if !s.squareUp || (beatSource s == 3 && !isMaster s) || !portCarriesBeat s body.port then .next s
  else if !announceValid body.body then .next (beatFrameInvalid s)
  else if isMaster s then .next (scheduleRejected s)
  else .next (if body.source = beatParent s then followAnnounce s (readAnnounce body.body) now else s)

/-- ANNOUNCE_FORWARD (R327): one copy of the announce to every child; a free-run module sends none (R312). -/
def execAnnounceForward (s : State) : Host.Outcome State Fault Refusal :=
  match s.quartz.announce with
  | none => .next s
  | some a =>
    if !s.squareUp || (beatSource s == 3 && !isMaster s) then .next s
    else .next ((beatChildren s).foldl (fun t c => t.emit (.beatFrame c 2 (announceBody a))) s)

/-- The hottest corner in °C; corners without a measurement take no part (R274). -/
def hottest (s : State) : Nat := (s.garnet.corners.filter (·.2 != 0xFF)).foldl (fun m c => max m c.2) 0

/-- The raise condition of R330 against `EFFECTIVE_CAP_W` (R499); a failed reading takes no part (R496). -/
def thermalRaise (s : State) : Bool :=
  let cap := s.dget 0x3000 8
  let w := s.dget 0x3000 3
  let lim := s.dget 0x2030 8
  (w != 0xFFFF && decide (98 * cap < 100 * w)) || (lim != 0 && decide (lim < hottest s))

/-- The lowering condition of R330 at one evaluation. -/
def thermalCalm (s : State) : Bool :=
  let cap := s.dget 0x3000 8
  let w := s.dget 0x3000 3
  let lim := s.dget 0x2030 8
  (w == 0xFFFF || decide (100 * w < 92 * cap)) && (lim == 0 || decide (hottest s + 5 ≤ lim))

/-- THERMAL_EVALUATION (R330). -/
def execThermalEvaluation (s : State) : Host.Outcome State Fault Refusal :=
  let raise := thermalRaise s
  let calm := if thermalCalm s then s.quartz.calm + 1 else 0
  let limit := if s.quartz.step = 16 ∧ raise then s.quartz.limitRun + 1 else 0
  let k := if raise then min 16 (s.quartz.step + 1)
    else if 0 < s.quartz.step ∧ 10 ≤ calm then s.quartz.step - 1 else s.quartz.step
  let t : State := { s with quartz := { s.quartz with step := k, calm := calm, limitRun := limit } }
  let u := t.dset 0x4070 7 (if s.hasSchedule then thermalRequest s k else 0)
  .next (if limit = 100 then u.flag 0x5070 4 else u)

/-- MASTER_LOST (R332): a follower that has heard no announce for 1 s. -/
def execMasterLost (s : State) : Host.Outcome State Fault Refusal :=
  .next (if isFollower s && s.squareUp then s.flag 0x5070 2 else s)

/-- A write of `PROMOTE_MASTER` (R332, R339): the module's announces of the held schedule name it from now on. -/
def promoteMaster (s : State) (v : Nat) : Nat × State :=
  if v = 0 then (0, s)
  else if 2 ≤ beatStatus s ∧ beatStatus s ≤ 4 then
    (0, { s.dset 0x4070 0x10 1 with quartz := { s.quartz with
      master := ownAddress s, announce := s.quartz.announce.map fun a => { a with master := ownAddress s } } })
  else (abortState, s)

/-- PROMOTE_MASTER (R332). -/
def execPromoteMaster (r : Requester) (value : Nat) (s : State) : Host.Outcome State Fault Refusal :=
  .next (guardedWrite s r 0x4070 0x10 1 value fun t => promoteMaster t value)

/-- PPS_EDGE (R318): in external mode it gives the offset measurement, less `REF_DELAY_PS`; for a master it counts towards
the qualification of its reference. `offset` is the edge's arrival against the expected time, ps. At a follower that holds a
schedule an edge more than 1 µs off is a loss of the source (R314), and gives no measurement (DEDUCED, log 68). -/
def execPpsEdge (now : Nat) (offset : Int) (s : State) : Host.Outcome State Fault Refusal :=
  if !s.squareUp then .next s
  else
    let gap : Int := (now : Int) - s.quartz.ppsLast - 1000000000
    let run := if gap.natAbs ≤ 100 then s.quartz.ppsRun + 1 else 1
    let t : State := { s with quartz := { s.quartz with ppsLast := now, ppsRun := run } }
    let off := offset - s.dget 0x2030 6
    if !isFollower s || beatSource s != 1 || beatStatus s == 0 then .next t
    else if s.hasSchedule && decide (1000000 < off.natAbs) then .next (sourceLost t)
    else .next (measureOffset t off)

end Sys2Proof.Machine
end

