-- ==== Sys2Proof/Machine/LoadCheck.lean ====
section
/-! DEFINITION. The stream image and steps 1 to 7 of the load check (spec/04_stream_model.md R129 to R165;
spec/05_bundle_reference.md R168 to R208; spec/09_beat.md R311). -/

namespace Sys2Proof.Machine

/-! ## The image (R132, R133, R269) -/

/-- A stream image: the address of its header, and the header as a number. -/
structure Image where
  base : Nat
  head : Nat
  deriving DecidableEq, Repr

def Image.field (i : Image) (hi lo : Nat) : Nat := bits i.head lo (hi + 1 - lo)
def Image.digest (i : Image) : Nat := i.field 1023 640
def Image.bodyLength (i : Image) : Nat := i.field 639 608
def Image.minPeriod (i : Image) : Nat := i.field 607 576
def Image.entry (i : Image) : Nat := i.field 575 560
def Image.residents (i : Image) : Nat := i.field 559 553
def Image.overlays (i : Image) : Nat := i.field 552 541
def Image.descCount (i : Image) : Nat := i.field 540 534
def Image.logical (i : Image) : Nat := i.field 533 523
def Image.bufferCount (i : Image) : Nat := i.field 522 507
def Image.freeFlow (i : Image) : Bool := bit i.head 505

/-- The image at `IMAGE_ADDRESS`. -/
def imageAt (s : State) : Image := ⟨s.dget 0x4001 1, readLe s (s.dget 0x4001 1) 128⟩

/-- Where the sections begin, and the length of the logical buffer table (R132, R269). -/
def Image.descAt (i : Image) : Nat := i.base + 128
def Image.tableAt (i : Image) : Nat := i.descAt + 16 * i.descCount
def Image.tableLength (i : Image) : Nat := i.bodyLength - 16 * i.descCount - pageBytes * (i.residents + i.overlays)
def Image.residentAt (i : Image) : Nat := i.tableAt + i.tableLength
def Image.overlayAt (i : Image) : Nat := i.residentAt + pageBytes * i.residents
def Image.standbyCount (i : Image) : Nat := (i.tableLength - 32 * i.bufferCount) / 8

/-- The lengths of the four sections add up (R132, R269). -/
def Image.sectionsOk (i : Image) : Bool :=
  decide (16 * i.descCount + pageBytes * (i.residents + i.overlays) + 32 * i.bufferCount ≤ i.bodyLength) &&
  (i.tableLength - 32 * i.bufferCount) % 8 == 0

/-- A descriptor as stored, and its fields (R139). -/
def rawDesc (s : State) (i : Image) (k : Nat) : Nat := readLe s (i.descAt + 16 * k) 16
def decodeDesc (d : Nat) : Desc :=
  ⟨bits d 64 64, bits d 48 16, bits d 44 4, bits d 40 4, bits d 36 4, bits d 32 4, bit d 0⟩
def imageDescs (s : State) (i : Image) : List Desc := (List.range i.descCount).map fun k => decodeDesc (rawDesc s i k)

/-- A buffer record as stored (R270), not yet bound. -/
def rawBuffer (s : State) (i : Image) (n : Nat) : Nat := readLe s (i.tableAt + 32 * n) 32
def decodeBuffer (b : Nat) : Buffer :=
  { size := bits b 232 24, shadow := bits b 216 16, rows := bits b 206 10, stageRows := bits b 196 10
    region := bits b 190 6, baseReg := bits b 185 5, order := bits b 177 8, budget := bits b 168 9, cls := bits b 164 4
    landHome := bits b 163 1, home := 0, demoted := false, address := 0, rowsAt := [] }
def imageBuffers (s : State) (i : Image) : List Buffer :=
  (List.range i.bufferCount).map fun n => decodeBuffer (rawBuffer s i n)

/-- A standby entry (R272). -/
def rawStandby (s : State) (i : Image) (k : Nat) : Nat := readLe s (i.tableAt + 32 * i.bufferCount + 8 * k) 8
def decodeStandby (e : Nat) : Standby := ⟨bit e 63, bits e 51 12, bits e 41 10, bits e 39 2, bits e 0 16⟩
def imageStandby (s : State) (i : Image) : List Standby :=
  (List.range i.standbyCount).map fun k => decodeStandby (rawStandby s i k)

/-- A bundle of the image that is not all zeros: its overlay page, if it is in one, its address or its place within that page,
and its word. -/
structure Item where
  overlay : Option Nat
  place   : Nat
  word    : Nat
  deriving DecidableEq, Repr

/-- The bundles among `n` from address `a` that hold a set bit, rising. -/
def usedBundles (s : State) (a n : Nat) : List Nat :=
  ((s.mem.filter fun e => decide (a ≤ e.1) && decide (e.1 < a + 128 * n)).map fun e => (e.1 - a) / 128).foldl sinsert []

def itemsAt (s : State) (ov : Option Nat) (a n : Nat) : List Item :=
  (usedBundles s a n).map fun k => ⟨ov, k, readLe s (a + 128 * k) 128⟩

/-- The image's bundles in the order of R134: resident pages, then overlay pages. -/
def imageItems (s : State) (i : Image) : List Item :=
  itemsAt s none i.residentAt (1024 * i.residents) ++
  (List.range i.overlays).flatMap fun v => itemsAt s (some v) (i.overlayAt + pageBytes * v) 1024

/-! ## Refusals (R286) -/

/-- What a refused load reports. -/
structure Refused where
  code      : Nat
  bundle    : Nat
  overlay   : Nat
  slot      : Nat
  detail    : Nat
  shortfall : Nat
  deriving DecidableEq, Repr

/-- A refusal that names no bundle. -/
def Refused.plain (code : Nat) : Refused := ⟨code, 0xFFFF, 0xFFFF, 0xFF, ones 32, 0⟩

/-- A refusal at a slot of a bundle. -/
def Refused.at (code : Nat) (it : Item) (slot : Nat) : Refused :=
  ⟨code, it.place, it.overlay.getD 0xFFFF, slot, ones 32, 0⟩

/-- A refusal of step 8 that no slot shows (R285). -/
def Refused.zone (code detail shortfall : Nat) : Refused := ⟨code, 0xFFFF, 0xFFFF, 0xFF, detail % 2 ^ 32, shortfall % 2 ^ 32⟩

/-- A refusal of step 8 at a slot (R207, R285, R286). -/
def Refused.zoneAt (code detail shortfall : Nat) (it : Item) (slot : Nat) : Refused :=
  { Refused.at code it slot with detail := detail % 2 ^ 32, shortfall := shortfall % 2 ^ 32 }

/-- Refuse with `r` unless the condition holds. -/
def require (ok : Bool) (r : Refused) : Option Refused := if ok then none else some r

/-! ## Steps 1 to 4 -/

/-- The Bedrock in which a partition's image may lie (R534): that of a tenant homed on it. -/
def imagePlaced (s : State) (c a n : Nat) : Bool :=
  ((homed s c).any fun t => within a n (bedrockStart s t) (bedrockStart s t + tenantBedrock s t)) && !meetsSave s a n

/-- Step 1 (R133, R134). -/
def headerStep (s : State) (c : Nat) (i : Image) : Option Refused :=
  if i.field 31 0 ≠ 0x54535A46 then some (.plain 1)
  else if i.field 504 64 ≠ 0 ∨ i.field 47 32 ≠ 0 then some (.plain 1)
  else if i.bodyLength = 0 ∨ i.residents = 0 then some (.plain 2)
  else if 64 < i.residents ∨ 64 < i.descCount ∨ i.logical = 0 ∨ 1024 < i.logical ∨ 1024 * i.residents ≤ i.entry then some (.plain 1)
  else require (i.sectionsOk && imagePlaced s c i.base (128 + i.bodyLength)) (.plain 1)

/-- The body as read, and whether a word of the image is poisoned (R578). -/
def imageBody (s : State) (i : Image) : List Byte := memRead s.mem (i.base + 128) i.bodyLength
def imagePoisoned (s : State) (i : Image) : Bool :=
  s.poison.any fun g => decide (i.base ≤ g + 63) && decide (g < i.base + 128 + i.bodyLength)

/-- The smaller of the period in force and a pending one meets a program's `MIN_BEAT_PERIOD_NS`; without a schedule every
program passes (R311). -/
def periodAllows (s : State) (least : Nat) : Bool :=
  !s.hasSchedule || (decide (least ≤ periodNow s) && ((pendingBeat s).isNone || decide (least ≤ pendingPeriod s)))

/-- Steps 2 to 4. -/
def frontStep (s : State) (c : Nat) (i : Image) : Option Refused :=
  if i.field 63 48 ≠ 1 then some (.plain 3)
  else if imagePoisoned s i ∨ Config.sha384 (imageBody s i) ≠ i.digest then some (.plain 4)
  else if pagesOf s c < i.residents then some (.plain 5)
  else require (periodAllows s i.minPeriod) (.plain 6)

/-! ## Step 5: slots and descriptors -/

/-- A state in which context `c` runs the image's descriptors and standby list with nothing bound, at the given bundle: an
operation there has no effect, and faults exactly where its encoding is one that is never issued (R168). -/
def probe (s : State) (c t : Nat) (i : Image) (it : Item) (descs : List Desc) : State :=
  let x : Ctx := { Ctx.empty with
    loaded := true, overlays := i.overlays, descs := descs, standby := imageStandby s i
    overlaid := match it.overlay with
      | some v => [(it.place / 1024, v)]
      | none => [] }
  State.dsets { s with power := { s.power with state := .up }, contexts := [(c, x)], cairn := [], parked := [], blocks := [] }
    [(0x6060 + c, 5, t), (0x6070 + t, 5, 2), (0x4030 + c, 1, it.place), (0x4030 + c, 2, 0)]

/-- Whether a slot's word runs in a state. -/
def slotRuns (c o w : Nat) (s : State) : Bool :=
  let r := if o ≤ 8 then runRegion c w ⟨[], []⟩ s
    else if o ≤ 12 then runMover c (o - 9) w ⟨[], []⟩ s
    else if o ≤ 14 then runNet c w ⟨[], []⟩ s
    else if o = 15 then runPlaza c w ⟨[], []⟩ s
    else runQueue c w [] ⟨[], []⟩ s
  match r with
  | .next _ => true
  | _ => false

/-- The operand bits that each control opcode uses (R173). -/
def controlUsed (op : Nat) : Nat :=
  if op = 0 then span 57 50
  else if op = 1 then span 57 50 ||| span 23 0
  else if op = 2 then span 57 32 ||| span 27 0
  else if op = 3 then span 39 0
  else if op = 4 then span 15 0
  else if op = 5 then span 21 0
  else if op = 7 then span 17 0
  else if op = 8 then span 30 0
  else if op = 9 then span 43 0
  else 0

/-- An address of the context's store share (R173). -/
def inShare (s : State) (c a : Nat) : Bool := decide (a < 1024 * pagesOf s c)

/-- The encoding of a control slot (R171 to R176, R208). -/
def controlLegal (s : State) (c : Nat) (i : Image) (w : Nat) : Bool :=
  let op := bits w 60 4
  decide (op ≤ 10) && (clearBits (bits w 0 58) (controlUsed op) == 0) &&
  (if op = 3 then inShare s c (bits w 0 16)
   else if op = 4 then inShare s c (bits w 0 16)
   else if op = 5 then inShare s c (bits w 0 16) && decide (bits w 16 5 ≤ 10)
   else if op = 7 then decide (bits w 6 12 < i.overlays) && decide (bits w 0 6 < pagesOf s c)
   else if op = 8 then inShare s c (bits w 0 16) && decide (bits w 16 13 ≤ 4096)
   else if op = 9 then decide (1 ≤ bits w 40 4) && decide (bits w 40 4 ≤ 3) && (bits w 40 4 != 1 || decide (bits w 0 16 < 2))
   else true)

/-- The region descriptor that a slot's word names (R138, R169). -/
def namedDesc (o w : Nat) : Option Nat :=
  if w = 0 then none
  else if 1 ≤ o ∧ o ≤ 8 then some (bits w 52 6)
  else if 9 ≤ o ∧ o ≤ 12 then (if bits w 60 4 = 6 then none else some (bits w 54 6))
  else if o = 15 then some (bits w 28 6)
  else if o = 16 ∧ bits w 37 3 ≤ 3 then some (bits w 31 6)
  else none

/-- A descriptor that selects one block, which no program binds: it stands for every index while encodings are judged. -/
def probeDescs : List Desc := List.replicate 64 ⟨1, 1, 0, 0, 0, 0, true⟩

/-- The rules of a descriptor that a slot names (R138, R140, R204). -/
def descFits (descs : List Desc) (logical o w k : Nat) : Bool :=
  match descs[k]? with
  | none => false
  | some d =>
    d.valid && d.selected.all (fun l => decide (l < logical)) &&
    (o != 15 || bits w 38 2 != 1 || decide (bits w 19 6 + d.selected.length ≤ 64)) &&
    (o != 15 || bits w 38 2 != 2 || d.selected.length == 1)

/-- The status of one slot at step 5: the earliest row of R208. -/
def slotStatus (s : State) (c t : Nat) (i : Image) (raw : List Nat) (it : Item) (o : Nat) : Option Nat :=
  let w := slotWord it.word o
  if w = 0 then none
  else if o = 0 then (if controlLegal s c i w then none else some 7)
  else if !slotRuns c o w (probe s c t i it probeDescs) then some 7
  else match namedDesc o w with
    | none => none
    | some k =>
      if bits (raw.getD k 0) 1 31 ≠ 0 then some 7
      else if descFits (raw.map decodeDesc) i.logical o w k then none else some 8

/-- The first failing slot of a bundle. -/
def firstSlot (f : Nat → Option Nat) (it : Item) : Option Refused :=
  (List.range 17).findSome? fun o => (f o).map fun code => Refused.at code it o

/-- A descriptor's own encoding, which names no bundle (R137, R139, R140). -/
def descStatus (logical d : Nat) : Option Refused :=
  if bits d 1 31 ≠ 0 then some (.plain 7)
  else require ((decodeDesc d).selected.all fun l => decide (l < logical)) (.plain 8)

/-- Step 5. -/
def encodingStep (s : State) (c t : Nat) (i : Image) (items : List Item) : Option Refused :=
  let raw := (List.range i.descCount).map (rawDesc s i)
  match items.findSome? fun it => firstSlot (slotStatus s c t i raw it) it with
  | some r => some r
  | none => raw.findSome? (descStatus i.logical)

/-! ## Step 6: loops, targets, beat waits -/

/-- The control word of a bundle, and its opcode. -/
def Item.ctrl (it : Item) : Nat := slotWord it.word 0
def Item.op (it : Item) : Nat := bits it.ctrl 60 4

/-- The loop bodies of the resident pages: first and last body bundle and count (R143). -/
def loopBodies (items : List Item) : List (Nat × Nat × Nat) :=
  (items.filter fun it => it.overlay.isNone && it.op == 3 && decide (it.place < bits it.ctrl 0 16)).map fun it =>
    (it.place + 1, bits it.ctrl 0 16, bits it.ctrl 16 24)

/-- The bundle breaks a rule of R143 that the text of the resident pages shows, or waits for a beat in a free-flow program (R153); a
`WAIT_BEAT` that also carries a fill class breaks the earlier row of R208. -/
def nestingStatus (i : Image) (bodies : List (Nat × Nat × Nat)) (it : Item) : Option Nat :=
  let target := bits it.ctrl 0 16
  let around := fun (b : Nat × Nat × Nat) => decide (b.1 ≤ it.place) && decide (it.place ≤ b.2.1)
  if it.op = 2 ∧ i.freeFlow = true then (if bits it.ctrl 58 2 = 0 then some 0xA else some 0xE)
  else if it.overlay.isSome then none
  else if it.op = 3 then
    if target ≤ it.place ∨ (bodies.any fun b => around b && decide (b.2.1 < target)) = true ∨ 4 ≤ (bodies.filter around).length then some 9
    else none
  else if it.op = 4 ∨ it.op = 5 then
    if bodies.any fun b => decide (b.1 ≤ target) && decide (target ≤ b.2.1) && !around b then some 9 else none
  else none

/-! ## Step 7: fill -/

/-- Region slots that a bundle uses, as a mask. -/
def regionsUsed (w : Nat) : Nat :=
  (List.range 8).foldl (fun m k => if slotWord w (k + 1) = 0 then m else setBit m k) 0

/-- The records that an image pushes: address, length, class (R163). -/
def pushes (items : List Item) : List (Nat × Nat × Nat) :=
  (items.filter (·.op == 8)).map fun it => (bits it.ctrl 0 16, bits it.ctrl 16 13, bits it.ctrl 29 2)

/-- The runs that an image offers: class, slots, cycles (R162). -/
def fillRuns (items : List Item) : List (Nat × Nat × Nat) :=
  (items.filter fun it => decide (it.op ≤ 1) && bits it.ctrl 58 2 != 0).map fun it =>
    (bits it.ctrl 58 2, bits it.ctrl 50 8, 1 + (if it.op = 1 then bits it.ctrl 0 24 else 0))

/-- The store pages that overlay page `v` is loaded into. -/
def overlayTargets (items : List Item) (v : Nat) : List Nat :=
  (items.filter fun it => it.op == 7 && bits it.ctrl 6 12 == v).map fun it => bits it.ctrl 0 6

/-- A bundle may stand at a store address. -/
def standsAt (items : List Item) (it : Item) (a : Nat) : Bool := match it.overlay with
  | none => it.place == a
  | some v => (overlayTargets items v).contains (a / 1024) && it.place == a % 1024

/-- A bundle belongs to a fill sequence. -/
def inSequence (items : List Item) (it : Item) : Bool :=
  (pushes items).any fun p => match it.overlay with
    | none => decide (p.1 ≤ it.place) && decide (it.place < p.1 + p.2.1)
    | some v => (overlayTargets items v).any fun g =>
        decide (p.1 ≤ 1024 * g + it.place) && decide (1024 * g + it.place < p.1 + p.2.1)

/-- Region slots that a record's bundles use. -/
def recordSlots (items : List Item) (a n : Nat) : Nat :=
  (items.filter fun it => (rangeFrom a n).any (standsAt items it)).foldl (fun m it => m ||| regionsUsed it.word) 0

/-- The control slot of a fillable bundle, or of a push, is refused (R163, R174). -/
def fillBad (items : List Item) (it : Item) : Bool :=
  let cls := bits it.ctrl 58 2
  let slots := bits it.ctrl 50 8
  if it.op ≤ 1 then (cls != 0 && slots == 0) || (cls == 0 && slots != 0) || slots &&& regionsUsed it.word != 0
  else if cls ≠ 0 then true
  else if it.op = 8 then
    let p := (bits it.ctrl 0 16, bits it.ctrl 16 13, bits it.ctrl 29 2)
    let runs := (fillRuns items).filter (·.1 == p.2.2)
    p.2.2 == 0 || (p.2.1 != 0 && (runs.all (fun r => decide (r.2.2 < p.2.1)) ||
      runs.any fun r => clearBits (recordSlots items p.1 p.2.1) r.2.1 != 0))
  else false

/-- The first slot at which a bundle breaks the fill rules. -/
def fillStatus (items : List Item) (it : Item) (o : Nat) : Option Nat :=
  let w := slotWord it.word o
  if w = 0 then none
  else if inSequence items it && (o == 0 || decide (9 ≤ o)) then some 0xE
  else if o = 0 ∧ fillBad items it = true then some 0xE else none

end Sys2Proof.Machine
end

