-- ==== Sys2Proof/Machine/Binding.lean ====
section
/-! DEFINITION. Step 8 of the load check: the logical buffer table, the checks of R285, demotion, placement and the bindings
(spec/08_zoning.md R268 to R291; spec/06_avenues_plaza.md R209 to R216; spec/13_tenancy.md R453). -/

namespace Sys2Proof.Machine

/-- What step 8 reads of a program: its image, descriptors, buffer records, standby entries and bundles (R268). -/
structure Program where
  image    : Image
  descs    : List Desc
  buffers  : List Buffer
  raws     : List Nat
  standby  : List Standby
  rawSb    : List Nat
  items    : List Item
  deriving DecidableEq, Repr

def programOf (s : State) (i : Image) (items : List Item) : Program :=
  { image := i, descs := imageDescs s i, buffers := imageBuffers s i, raws := (List.range i.bufferCount).map (rawBuffer s i)
    standby := imageStandby s i, rawSb := (List.range i.standbyCount).map (rawStandby s i), items := items }

def Program.buffer (p : Program) (n : Nat) : Buffer := p.buffers.getD n Buffer.none
def Program.count (p : Program) : Nat := p.buffers.length
def Program.selected (p : Program) (k : Nat) : List Nat := (p.descs.getD k Desc.none).selected

/-- Every operation of a program: its bundle, slot order and word. -/
def Program.ops (p : Program) : List (Item × Nat × Nat) :=
  p.items.flatMap fun it => ((List.range 17).map fun o => (it, o, slotWord it.word o)).filter fun x => x.2.2 != 0

/-! ## Slots that step 8 judges -/

def isMover (o : Nat) : Bool := decide (9 ≤ o) && decide (o ≤ 12)
def isNet (o : Nat) : Bool := o == 13 || o == 14
/-- A `COPY_AVENUE`, and a `Q_SEND` to another block (R277). -/
def isAvenue (o w : Nat) : Bool := isMover o && bits w 60 4 == 3
def isRemoteSend (o w : Nat) : Bool := o == 16 && bits w 37 3 == 1 && bits w 13 11 != 0
/-- The block offset that a remote operation names. -/
def peerDelta (o w : Nat) : Int := if o = 16 then sext 11 (bits w 13 11) else sext 11 (bits w 38 11)

/-- A class is bound to bank rows; a buffer's home while it is bound (R271): 1 bank rows, 2 Square buffers, 3 Bedrock. -/
def Buffer.bank (b : Buffer) : Bool := b.cls == 1 || b.cls == 2
def Buffer.homeOf (b : Buffer) : Nat :=
  if b.bank then 1
  else if b.cls = 3 ∨ b.cls = 8 ∨ ((b.cls = 6 ∨ b.cls = 7) ∧ b.landHome = 0) then 2 else 3

/-- The logical blocks that hold a bank buffer. -/
def Program.blocksOf (p : Program) (b : Buffer) : List Nat := if b.bank then p.selected b.region else []

/-! ## 0x40: the table (R270, R271, R282) -/

/-- The region of a bank buffer may be named. -/
def Program.regionOk (p : Program) (k : Nat) : Bool :=
  (p.descs.getD k Desc.none).valid && (p.selected k).all fun l => decide (l < p.image.logical)

/-- Two bank buffers share a base group in some block (R282). -/
def Program.shareGroup (p : Program) (a b : Buffer) : Bool :=
  a.bank && b.bank && a.baseReg == b.baseReg && (p.blocksOf a).any (p.blocksOf b).contains

/-- Buffers before `n` of a class. -/
def Program.before (p : Program) (n cls : Nat) : Nat := ((p.buffers.take n).filter (·.cls == cls)).length
def Program.demotable (p : Program) : Nat := (p.buffers.filter fun b => b.cls == 1 && b.stageRows != 0).length

/-- Record `n` breaks R270, R271 or R282. -/
def Program.badRecord (p : Program) (n : Nat) : Bool :=
  let b := p.buffer n
  bits (p.raws.getD n 0) 0 163 != 0 || b.cls == 0 || decide (9 < b.cls) || decide (16 < b.baseReg) || decide (768 < b.rows) ||
  (b.bank && (b.size != 0 || !p.regionOk b.region)) || (!b.bank && b.rows != 0) ||
  (b.stageRows != 0 && (b.cls == 2 || decide (b.rows ≤ b.stageRows))) ||
  (b.stageRows == 0 && b.shadow != 0) || (b.cls != 6 && b.cls != 7 && b.landHome != 0) ||
  (b.cls == 8 && b.size != 5) ||
  ((b.cls == 2 || b.cls == 5 || b.cls == 6 || b.cls == 7 || b.cls == 8) && p.before n b.cls != 0) ||
  (b.cls == 9 && decide (p.demotable ≤ p.before n 9)) ||
  (b.stageRows != 0 && (List.range p.count).any fun m => m != n && p.shareGroup b (p.buffer m))

def Program.checkTable (p : Program) : Option Refused :=
  ((List.range p.count).find? p.badRecord).map fun n => .zone 0x40 n 0

/-! ## 0x41: the standby list (R273) -/

/-- The word of the slot that a standby entry names. -/
def Program.standbyWord (p : Program) (e : Standby) : Nat :=
  match p.items.find? fun it => match it.overlay with
    | none => !e.overlay && it.place == 1024 * e.page + e.bundle
    | some v => e.overlay && v == e.page && it.place == e.bundle with
  | none => 0
  | some it => slotWord it.word (9 + e.slot)

/-- Entry `k` breaks R273. -/
def Program.badStandby (p : Program) (k : Nat) : Bool :=
  let e := p.standby.getD k ⟨false, 0, 0, 0, 0⟩
  let w := p.standbyWord e
  let own := p.buffer e.owner
  bits (p.rawSb.getD k 0) 16 23 != 0 || w == 0 || bits w 50 1 == 0 ||
  ((p.standby.take k).any fun f => f.overlay == e.overlay && f.page == e.page && f.bundle == e.bundle && f.slot == e.slot) ||
  own.cls != 1 || own.stageRows == 0 ||
  ((bits w 60 4 == 4 || bits w 60 4 == 5) && bits w 27 12 != own.shadow) ||
  (bits w 60 4 == 6 && (bits w 37 12 != own.shadow || bits w 17 12 != own.shadow))

/-- The shadow of demotable buffer `n` breaks R273. -/
def Program.badShadow (p : Program) (n : Nat) : Bool :=
  let b := p.buffer n
  b.cls == 1 && b.stageRows != 0 &&
  ((p.buffer b.shadow).cls != 9 || decide ((p.buffer b.shadow).size * 4096 < b.rows * 2048 * (p.blocksOf b).length) ||
   (p.buffers.take n).any fun x => x.cls == 1 && x.stageRows != 0 && x.shadow == b.shadow)

def Program.checkStandby (p : Program) : Option Refused :=
  match (List.range p.standby.length).find? p.badStandby with
  | some k => some (.zone 0x41 k 0)
  | none => ((List.range p.count).find? p.badShadow).map fun n => .zone 0x41 n 0

/-! ## 0x42 and 0x43: the buffers that slots name (R271, R197, R201) -/

/-- A buffer that a slot names: its number, the side that names it (2 Square, 3 Bedrock, 0 network), whether by a standby
copy, and the end of what it reaches; 0 where the length is 0. -/
structure Naming where
  buffer  : Nat
  side    : Nat
  standby : Bool
  stop    : Nat
  deriving DecidableEq, Repr

def Program.namings (p : Program) (x : Item × Nat × Nat) : List Naming :=
  let o := x.2.1
  let w := x.2.2
  let op := bits w 60 4
  if isMover o && (op == 4 || op == 5) then
    let rows := bits w 5 8
    [⟨bits w 27 12, op - 2, bit w 50,
      if rows = 0 then 0 else 4096 * bits w 13 14 + 128 * (p.selected (bits w 54 6)).length * rows⟩]
  else if isMover o && op == 6 then
    let n := 4096 * bits w 0 8
    [⟨bits w 37 12, 2, false, if n = 0 then 0 else 65536 * bits w 29 8 + n⟩,
     ⟨bits w 17 12, 3, false, if n = 0 then 0 else 65536 * bits w 8 9 + n⟩]
  else if isNet o then
    [⟨bits w 24 12, 0, false, if bits w 2 10 = 0 then 0 else 4096 * (bits w 12 12 + bits w 2 10)⟩]
  else []

/-- The class may be named from a side (R271). -/
def Buffer.namedBy (b : Buffer) (x : Naming) : Bool :=
  if b.cls = 5 then x.side == 3
  else if b.cls = 9 then x.side == 3 && x.standby
  else if b.cls = 8 then x.side == 2
  else if 3 ≤ b.cls ∧ b.cls ≤ 7 then x.side == 0 || x.side == b.homeOf
  else false

def Program.checkNamings (p : Program) : Option Refused :=
  let ns := p.ops.flatMap fun x => (p.namings x).map fun y => (x, y)
  match (List.range p.count).find? fun n => decide (4096 ≤ n) && !(p.buffer n).bank with
  | some n => some (.zone 0x42 n 0)
  | none =>
    match ns.find? fun (_, y) => decide (p.count ≤ y.buffer) || !(p.buffer y.buffer).namedBy y with
    | some (x, y) => some (.zoneAt 0x42 y.buffer 0 x.1 x.2.1)
    | none => (ns.find? fun (_, y) => decide ((p.buffer y.buffer).size * 4096 < y.stop)).map fun (x, y) =>
        .zoneAt 0x43 y.buffer (ceilDiv (y.stop - (p.buffer y.buffer).size * 4096) 4096) x.1 x.2.1

/-! ## 0x44 to 0x47 -/

/-- A block whose partner lies outside the program (R197, R225). -/
def Program.checkPeers (p : Program) : Option Refused :=
  p.ops.findSome? fun x =>
    if isAvenue x.2.1 x.2.2 || isRemoteSend x.2.1 x.2.2 then
      ((p.selected ((namedDesc x.2.1 x.2.2).getD 0)).find? fun (l : Nat) =>
        let r := (l : Int) + peerDelta x.2.1 x.2.2
        decide (r < 0) || decide ((p.image.logical : Int) ≤ r)).map fun l => .zoneAt 0x44 l 0 x.1 x.2.1
    else none

/-- Latency of a home (R199, R285). -/
def homeLatency (h : Nat) : Nat := if h = 2 then 40 else 200

def Program.checkBudgets (p : Program) : Option Refused :=
  (List.range p.count).findSome? fun n =>
    let b := p.buffer n
    if 3 ≤ b.cls ∧ b.cls ≤ 8 ∧ b.budget ≠ 0 ∧ b.budget < homeLatency b.homeOf then
      some (.zone 0x45 n (homeLatency b.homeOf - b.budget)) else none

/-- The number of the first buffer of a class, and whether there is one. -/
def Program.ofClass (p : Program) (cls : Nat) : Option Nat := (List.range p.count).find? fun n => (p.buffer n).cls == cls

/-- R255's conditions on a program's stash, against the configuration that this `LOAD` puts in force. -/
def Program.checkStash (p : Program) (s : State) (c : Nat) : Option Refused :=
  let kib := s.dget (0x4050 + c) 6
  let slots := s.dget (0x4050 + c) 5
  let quota := s.dget (0x4050 + c) 8
  let pages := ceilDiv kib 1024
  let beyond := (p.ops.filter fun x => x.2.1 == 16 && (bits x.2.2 37 3 == 4 || bits x.2.2 37 3 == 5) &&
    decide (slots ≤ bits x.2.2 17 7)).map fun x => bits x.2.2 17 7
  let bank := match p.ofClass 2 with
    | none => require (slots * kib == 0) (.zone 0x46 (ones 32) (slots * kib))
    | some n =>
      let have' := (p.buffer n).rows * 2 * (p.blocksOf (p.buffer n)).length
      require (decide (slots * kib ≤ have')) (.zone 0x46 n (slots * kib - have'))
  let overflow := if kib = 0 ∨ beyond.isEmpty = true then none
    else if quota < pages then some (.zone 0x46 (ones 32) ((pages - quota) * 1024))
    else
      let need := (beyond.foldl max 0 - slots + 1) * pages * 1024
      match p.ofClass 5 with
      | none => some (.zone 0x46 (ones 32) need)
      | some n => require (decide (need ≤ (p.buffer n).size * 4)) (.zone 0x46 n (need - (p.buffer n).size * 4))
  let share := tenantMiB s s.zoning.stashMiB c
  (bank <|> overflow) <|> require (decide (quota ≤ share)) (.zone 0x46 (ones 32) ((quota - share) * 1024))

/-- A landing ring against its entries (R248, R285). -/
def Program.checkRing (p : Program) (entries cls : Nat) : Option Refused :=
  if entries = 0 then none
  else match p.ofClass cls with
    | none => some (.zone 0x47 (ones 32) 0)
    | some n => require ((p.buffer n).size % entries == 0) (.zone 0x47 n 0)

def Program.checkLanding (p : Program) (s : State) (c : Nat) : Option Refused :=
  p.checkRing (s.dget (0x4050 + c) 9) 6 <|> p.checkRing (s.dget (0x4050 + c) 0xA) 7

/-! ## 0x4A and 0x4B: demand and demotion (R287, R288) -/

/-- The buffers of a program with those in `dem` demoted. -/
def Program.rowsHeld (p : Program) (dem : List Nat) (n : Nat) : Nat :=
  if dem.contains n then (p.buffer n).stageRows else (p.buffer n).rows

/-- Bank buffers that a logical block holds, ascending. -/
def Program.holds (p : Program) (l : Nat) : List Nat :=
  (List.range p.count).filter fun n => (p.blocksOf (p.buffer n)).contains l

/-- Rows that a logical block needs. -/
def Program.demand (p : Program) (dem : List Nat) (l : Nat) : Nat := ((p.holds l).map (p.rowsHeld dem)).sum

/-- Logical blocks that hold a bank buffer. -/
def Program.bankBlocks (p : Program) : List Nat := (p.buffers.flatMap p.blocksOf).foldl sinsert []

/-- The block with the largest excess over a capacity, the lowest of equals (R287). -/
def Program.worst (p : Program) (dem : List Nat) (cap : Nat) : Option (Nat × Nat) :=
  p.bankBlocks.foldl (fun w l =>
    let x := p.demand dem l - cap
    if x = 0 then w else match w with
      | none => some (l, x)
      | some y => if y.2 < x then some (l, x) else w) none

/-- A stable insertion sort. -/
def insertBy (le : Nat → Nat → Bool) (x : Nat) : List Nat → List Nat
  | [] => [x]
  | y :: r => if le x y then x :: y :: r else y :: insertBy le x r
def sortBy (le : Nat → Nat → Bool) (l : List Nat) : List Nat := l.foldr (insertBy le) []

/-- Eligible buffers in demotion order (R288). -/
def Program.eligible (p : Program) : List Nat :=
  sortBy (fun a b => decide ((p.buffer a).order ≤ (p.buffer b).order))
    ((List.range p.count).filter fun n => (p.buffer n).stageRows != 0 && decide (200 ≤ (p.buffer n).budget))

/-- The buffers demoted (R288). -/
def Program.demoted (p : Program) (enable : Bool) : List Nat :=
  if enable then
    p.eligible.foldl (fun dem n =>
      if (p.worst dem 768).isSome && (p.blocksOf (p.buffer n)).any fun l => decide (768 < p.demand dem l) then dem ++ [n] else dem) []
  else []

def Program.checkDemand (p : Program) (dem : List Nat) : Option Refused :=
  match p.worst [] 864 with
  | some w => some (.zone 0x4A w.1 w.2)
  | none => (p.worst dem 768).map fun w => .zone 0x4B w.1 w.2

/-! ## Used blocks and districts (R277) -/

/-- The used logical blocks, ascending. -/
def Program.used (p : Program) : List Nat :=
  let named := p.ops.flatMap fun x => match namedDesc x.2.1 x.2.2 with
    | none => []
    | some k =>
      let sel := p.selected k
      if isAvenue x.2.1 x.2.2 || isRemoteSend x.2.1 x.2.2 then
        sel ++ (sel.filter fun (l : Nat) => decide (0 ≤ (l : Int) + peerDelta x.2.1 x.2.2)).map fun (l : Nat) =>
          ((l : Int) + peerDelta x.2.1 x.2.2).toNat
      else sel
  ((named ++ p.bankBlocks).filter fun l => decide (l < p.image.logical)).foldl sinsert []

def districtsUsed (used : List Nat) : List Nat := (used.map (· / 16)).foldl sinsert []

/-! ## 0x4C and 0x4D: Square buffers and Bedrock (R283, R448, R453) -/

/-- A buffer that takes no place: no bytes, bank rows, the overflow, or a shadow whose owner is not demoted (R270, R283). -/
def Program.placed (p : Program) (dem : List Nat) (n : Nat) : Bool :=
  let b := p.buffer n
  !b.bank && b.cls != 5 && b.size != 0 && (b.cls != 9 || dem.any fun m => (p.buffer m).shadow == n)

/-- KiB that the buffers of a home take among the first `n`. -/
def Program.kibBefore (p : Program) (dem : List Nat) (home n : Nat) : Nat :=
  (((List.range n).filter fun m => p.placed dem m && (p.buffer m).homeOf == home).map fun m => (p.buffer m).size * 4).sum

def Program.checkSpace (p : Program) (s : State) (c t : Nat) (dem : List Nat) (blocks : Nat) : Option Refused :=
  let sq := p.kibBefore dem 2 p.count
  let br := p.kibBefore dem 3 p.count + ceilDiv (carvedBytes s c t blocks) 1024
  let haveSq := tenantSquare s t / 1024
  let haveBr := tenantBedrock s t / 1024
  let ov := p.image.overlays * 128
  let haveOv := tenantMiB s s.zoning.overlayMiB c * 1024
  if haveSq < sq then some (.zone 0x4C (ones 32) (sq - haveSq))
  else if haveBr < br then some (.zone 0x4D (ones 32) (br - haveBr))
  else require (decide (ov ≤ haveOv)) (.zone 0x4D (ones 32) (ov - haveOv))

/-! ## 0x4E to 0x51: placement (R209, R212, R278 to R280) -/

/-- Column and row of a district of a slab (R209). -/
def districtX (d : Nat) : Nat := 2 * (d / 4 % 4) + d % 2
def districtY (d : Nat) : Nat := 2 * (d / 16) + d % 4 / 2

def absDiff (a b : Nat) : Nat := (a - b) + (b - a)

/-- Path latency between blocks of two physical districts (R212). -/
def pathLatency (D E : Nat) : Nat :=
  if D / 32 ≠ E / 32 then 48
  else 2 + 2 * (absDiff (districtX (D % 32)) (districtX (E % 32)) + absDiff (districtY (D % 32)) (districtY (E % 32)))

/-- Block at position `k` of physical district `D` (R23, R277); 16 is the spare. -/
def blockAt (D k : Nat) : Nat := D / 32 * 544 + D % 32 * 17 + k

/-- Whether physical district `D` hosts the used positions `ks`: through no spare (`some none`), or with the spare in the place of
one (R278). -/
def hosts (s : State) (c D : Nat) (ks : List Nat) : Option (Option Nat) :=
  match ks.filter fun k => !usable s c (blockAt D k) with
  | [] => some none
  | [k] => if usable s c (blockAt D 16) then some (some k) else none
  | _ => none

/-- Traffic between two different logical districts that one operation carries (R280): the districts, the bytes, and the budget rule
of R279 as the least latency excess: push or pull and its `LAT_BUDGET`; none for a queue entry. -/
structure Traffic where
  src    : Nat
  dst    : Nat
  bytes  : Nat
  budget : Option (Nat × Nat)
  deriving DecidableEq, Repr

/-- The loop bodies of an overlay page as it stands in store page `g`. -/
def overlayBodies (items : List Item) (v g : Nat) : List (Nat × Nat × Nat) :=
  (items.filter fun it => it.overlay == some v && it.op == 3).map fun it =>
    (1024 * g + it.place + 1, bits it.ctrl 0 16, bits it.ctrl 16 24)

/-- The product of the counts of the loops whose body holds a bundle (R280). A bundle of an overlay page stands in every page that the overlay is
loaded into, and counts where it repeats most. -/
def loopWeight (items : List Item) (it : Item) : Nat :=
  let weigh := fun (bodies : List (Nat × Nat × Nat)) a =>
    (bodies.filter fun b => decide (b.1 ≤ a) && decide (a ≤ b.2.1)).foldl (fun w b => w * b.2.2) 1
  match it.overlay with
  | none => weigh (loopBodies items) it.place
  | some v => ((overlayTargets items v).map fun g => weigh (loopBodies items ++ overlayBodies items v g) (1024 * g + it.place)).foldl max 1

def Program.traffic (p : Program) : List Traffic :=
  p.ops.flatMap fun x =>
    let w := x.2.2
    let avenue := isAvenue x.2.1 w
    if avenue || isRemoteSend x.2.1 w then
      ((p.selected ((namedDesc x.2.1 w).getD 0)).map fun (l : Nat) =>
        (⟨l / 16, ((l : Int) + peerDelta x.2.1 w).toNat / 16, 64 * (if avenue then bits w 10 8 else 1) * loopWeight p.items x.1,
          if avenue then some (bits w 49 1, bits w 3 7) else none⟩ : Traffic)).filter fun y => y.src != y.dst
    else []

/-- Bytes between two logical districts, and all of a district's. -/
def trafficBetween (ts : List Traffic) (d e : Nat) : Nat :=
  ((ts.filter fun y => (y.src == d && y.dst == e) || (y.src == e && y.dst == d)).map (·.bytes)).sum
def trafficOf (ts : List Traffic) (d : Nat) : Nat := ((ts.filter fun y => y.src == d || y.dst == d).map (·.bytes)).sum

/-- The logical districts that use each logical Plaza (R227, R279). -/
def Program.plazaUsers (p : Program) : List (Nat × Nat) :=
  p.ops.flatMap fun x => if x.2.1 = 15 then
    (p.selected (bits x.2.2 28 6)).map fun l => (bits x.2.2 34 4, l / 16) else []

/-- A district that is bound: logical, physical, and the position that its spare serves. -/
structure Bound where
  logical  : Nat
  physical : Nat
  spare    : Option Nat
  deriving DecidableEq, Repr

def physOf (bound : List Bound) (d : Nat) : Option Nat := (bound.find? (·.logical == d)).map (·.physical)

/-- The Plazas that `d` shares with placed districts lie on the slab of `D`. -/
def plazaSlabOk (users : List (Nat × Nat)) (bound : List Bound) (D d : Nat) : Bool :=
  (users.filter (·.2 == d)).all fun u => (users.filter (·.1 == u.1)).all fun v => match physOf bound v.2 with
    | none => true
    | some E => E / 32 == D / 32

/-- The budgets of the paths to placed districts hold (R216, R279). -/
def budgetsOk (ts : List Traffic) (bound : List Bound) (D d : Nat) : Bool :=
  ts.all fun y => match y.budget with
    | none => true
    | some b =>
      let other := if y.src = d then some y.dst else if y.dst = d then some y.src else none
      match other.bind (physOf bound) with
      | none => true
      | some E =>
        let P := pathLatency D E
        decide ((if b.1 = 0 then P + 6 else max 16 (2 * P - 5)) ≤ b.2)

/-- The mean temperature of a district's four corners in whole °C; an unmeasured one counts as its entry reads, 0xFF (R122, R280). -/
def meanTemp (s : State) (D : Nat) : Nat :=
  (((List.range 4).map fun q => kget 0xFF s.garnet.corners (136 * (D / 32) + 4 * (D % 32) + q)).sum) / 4

/-- The best candidate so far: district, spare position, cost and temperature; or the first exclusion's code. -/
structure Search where
  best  : Option (Nat × Option Nat × Nat × Nat)
  first : Option Nat
  deriving DecidableEq, Repr

/-- One physical district is tried for logical district `d` (R280). -/
def tryDistrict (s : State) (c : Nat) (affinity : Bool) (ts : List Traffic) (users : List (Nat × Nat)) (bound : List Bound)
    (d : Nat) (ks : List Nat) (pin : Nat) (r : Search) (D : Nat) : Search :=
  if !bit (districtMap s c) D || bound.any (·.physical == D) || (pin != 0xFF && pin != D) then r
  else
    let h := hosts s c D ks
    let code := if h.isNone then some 0x4F
      else if !plazaSlabOk users bound D d then some 0x51
      else if !budgetsOk ts bound D d then some 0x50 else none
    match code with
    | some k => { r with first := r.first <|> some k }
    | none =>
      let cost := if affinity then (bound.map fun b => trafficBetween ts d b.logical * pathLatency D b.physical).sum else 0
      let temp := if affinity then meanTemp s D else 0
      let better := match r.best with
        | none => true
        | some b => decide (cost < b.2.2.1) || (cost == b.2.2.1 && decide (temp < b.2.2.2))
      if better then { r with best := some (D, h.getD none, cost, temp) } else r

/-- The order of placement (R280): pinned districts first. -/
def placeOrder (affinity : Bool) (ts : List Traffic) (pin : Nat → Nat) (ds : List Nat) : List Nat :=
  let rest := ds.filter fun d => pin d == 0xFF
  (ds.filter fun d => pin d != 0xFF) ++
    (if affinity then sortBy (fun a b => decide (trafficOf ts b ≤ trafficOf ts a)) rest else rest)

/-- The engine's one pass over the districts (R280). -/
def placeAll (s : State) (c : Nat) (affinity : Bool) (ts : List Traffic) (users : List (Nat × Nat)) (used : List Nat)
    (pin : Nat → Nat) : List Nat → List Bound → Except Refused (List Bound)
  | [], bound => .ok bound
  | d :: r, bound =>
    let ks := (used.filter (· / 16 == d)).map (· % 16)
    let x := (List.range 64).foldl (tryDistrict s c affinity ts users bound d ks (pin d)) ⟨none, none⟩
    match x.best with
    | none => .error (.zone (x.first.getD 0x4F) d 0)
    | some b => placeAll s c affinity ts users used pin r (bound ++ [⟨d, b.1, b.2.1⟩])

/-- Affinity, or first-free (R280). -/
def usesAffinity (s : State) (c : Nat) : Bool :=
  let m := s.dget 0x7000 1
  m == 1 || (m == 0 && decide (16 ≤ districtsOf s c))

/-- A pin names a district outside the partition, or one that another names (R285, R307). -/
def checkPins (s : State) (c : Nat) (ds : List Nat) (pin : Nat → Nat) : Option Refused :=
  (ds.find? fun d => pin d != 0xFF &&
    (!bit (districtMap s c) (pin d) || ds.any fun e => decide (e < d) && pin e == pin d)).map fun d => .zone 0x4E d 0

/-! ## 0x52: Plazas (R281) -/

/-- Logical Plazas that operations name, ascending. -/
def Program.plazas (p : Program) : List Nat := (p.ops.filterMap fun x => if x.2.1 = 15 then some (bits x.2.2 34 4) else none).foldl sinsert []

/-- Each goes to the lowest free physical Plaza of the share on the slab of its users. -/
def bindPlazas (mask : Nat) (users : List (Nat × Nat)) (bound : List Bound) : List Nat → List (Nat × Nat) → Except Refused (List (Nat × Nat))
  | [], done => .ok done
  | l :: r, done =>
    let slab := (users.find? (·.1 == l)).bind fun u => (physOf bound u.2).map (· / 32)
    match firstBelow 16 fun q => bit mask q && !(done.any (·.2 == q)) && (match slab with
        | none => true
        | some x => x == q / 8) with
    | none => .error (.zone 0x52 l 0)
    | some q => bindPlazas mask users bound r (done ++ [(l, q)])

/-! ## Bridge ports (R215, R277, R281) -/

/-- The slabs whose bridge an operation crosses for a selected logical block: its own for rows to or from a Square buffer or Bedrock,
both for beats and entries to the other slab. One that moves nothing crosses none. -/
def crossedSlabs (bound : List Bound) (o w l : Nat) : List Nat :=
  let slab := fun d => (physOf bound d).map (· / 32)
  if isMover o && (bits w 60 4 == 4 || bits w 60 4 == 5) then (if bits w 5 8 = 0 then [] else (slab (l / 16)).toList)
  else if (isAvenue o w && bits w 10 8 != 0) || isRemoteSend o w then
    match slab (l / 16), slab (((l : Int) + peerDelta o w).toNat / 16) with
    | some a, some b => if a = b then [] else [a, b]
    | _, _ => []
  else []

/-- Every bridge transfer in ascending bundle and slot order takes the next of its slab's 16 ports. What one transfer is, the spec
leaves open: here, one operation's for one selected block (assumption 66). -/
def Program.bindBridges (p : Program) (bound : List Bound) : List Bridge :=
  let all := p.ops.flatMap fun x => (p.selected ((namedDesc x.2.1 x.2.2).getD 0)).flatMap fun l =>
    (crossedSlabs bound x.2.1 x.2.2 l).map fun d => (⟨x.1.overlay, x.1.place, x.2.1, l, d, 0⟩ : Bridge)
  let number : Nat → List Bridge := fun d => (all.filter (·.slab == d)).zipIdx.map fun x => { x.1 with port := x.2 % 16 }
  number 0 ++ number 1

/-! ## The bindings (R282, R283, R290) -/

/-- The buffers of a block in the order of their rows: each base group stands at its lowest member (R282). -/
def Program.rowOrder (p : Program) (l : Nat) : List Nat :=
  let h := p.holds l
  h.flatMap fun n =>
    let r := (p.buffer n).baseReg
    if r = 16 then [n]
    else if h.any fun m => decide (m < n) && (p.buffer m).baseReg == r then []
    else h.filter fun m => (p.buffer m).baseReg == r

/-- First rows of a block's buffers. -/
def Program.firstRows (p : Program) (dem : List Nat) (l : Nat) : List (Nat × Nat) :=
  ((p.rowOrder l).foldl (fun a n => (a.1 ++ [(n, a.2)], a.2 + p.rowsHeld dem n)) (([] : List (Nat × Nat)), 0)).1

/-- Base registers of a block, by 16 × block + register (R120, R282, R290). -/
def Program.baseRegs (p : Program) (dem : List Nat) (l : Nat) : List (Nat × BaseReg) :=
  let rows := p.firstRows dem l
  (List.range 16).filterMap fun r => (rows.find? fun e => (p.buffer e.1).baseReg == r).map fun e =>
    (16 * l + r, if dem.contains e.1 then ⟨e.2, e.2, (p.buffer e.1).stageRows⟩ else ⟨e.2, 0, 0⟩)

/-- A buffer as bound (R277, R283). -/
def Program.bindBuffer (p : Program) (s : State) (c t : Nat) (dem used : List Nat) (n : Nat) : Buffer :=
  let b := p.buffer n
  let h := b.homeOf
  if b.bank then
    { b with home := 1, demoted := dem.contains n
             rowsAt := (used.filter (p.blocksOf b).contains).map fun l => (l, kget 0 (p.firstRows dem l) n) }
  else if b.cls = 5 then { b with home := if b.size = 0 then 0 else 3, address := stashStart s c }
  else if p.placed dem n then
    { b with home := h
             address := (if h = 2 then squareStart s t else bedrockStart s t) + 1024 * p.kibBefore dem h n }
  else { b with home := 0 }

/-- The program-bound stage entries that a `LOAD` puts in force (R235). -/
def latchStage (s : State) (c : Nat) : List Nat := (List.range 10).map fun i => s.dget (0x4050 + c) (i + 1)

/-- Physical block of a logical one. -/
def boundBlock (bound : List Bound) (l : Nat) : Option Nat :=
  (bound.find? (·.logical == l / 16)).map fun b => blockAt b.physical (if b.spare = some (l % 16) then 16 else l % 16)

/-- The context that a load which passes every check leaves. -/
def Program.context (p : Program) (s : State) (c t : Nat) (dem used : List Nat) (bound : List Bound) (plazas : List (Nat × Nat)) : Ctx :=
  let i := p.image
  { Ctx.empty with
    loaded := true, freeFlow := i.freeFlow, faultLate := bit i.head 506, entry := i.entry, resident := i.residents
    overlays := i.overlays, logical := i.logical, minPeriod := i.minPeriod, digest := i.digest, stage := latchStage s c
    descs := p.descs, standby := p.standby
    buffers := (List.range p.count).map (p.bindBuffer s c t dem used)
    districts := bound.map fun b => (b.logical, b.physical)
    blocks := used.filterMap fun l => (boundBlock bound l).map fun q => (l, q)
    plazas := plazas, bridges := p.bindBridges bound, baseInit := used.flatMap (p.baseRegs dem) }

end Sys2Proof.Machine
end

