-- ==== Sys2Proof/Machine/Uses.lean ====
section
/-! DEFINITION. What an operation uses and when, counted from its issue: bank ports and rows, Mica quarters, the array, accumulator
rows, vector registers, base registers, paths and buffer bytes (spec/03_blocks.md R87 to R115; spec/05_bundle_reference.md R179 to
R206; spec/06_avenues_plaza.md R209 to R216, R228). The load check of R158, R160 and R161 compares these uses. -/

namespace Sys2Proof.Machine

/-! ## Uses -/

/-- What a use is of. The first group belongs to one block, the second to the shared paths and buffers. -/
inductive Resource where
  /-- A program read or write port: `unit` is the mask of banks, at the Remap or the commit cycle (R87, R89, R90). -/
  | readPort | writePort
  /-- A row touched by a read or a write, at its Sense or commit cycle (R101). -/
  | rowRead | rowWrite
  /-- A unit of the block, at the issue cycle: 0 array, 1 vector unit, 2 accumulator file, 3 Mica fill, 4 region decoder (R160). -/
  | issue
  /-- The array, from the first multiply to the last (R182). -/
  | array
  /-- A Mica quarter that is filled or read (R111). -/
  | micaFill | micaRead
  /-- An accumulator row that is read or written. -/
  | accRead | accWrite
  /-- A vector register, in the cycle of its write (R193). -/
  | vreg
  /-- A base register that changes (R141). -/
  | base
  /-- Bytes leaving or entering a block at its crossbar port, per cycle (R211, R213). -/
  | portOut | portIn
  /-- The operation acts in the block, or has something in flight to it (R294). -/
  | active
  /-- Bytes of a Square or Bedrock buffer that are read or written (R618). -/
  | bytesRead | bytesWrite
  /-- A flow (R160). -/
  | flow
  /-- Bytes per cycle at a district's bridge attachment, a slab's bridge and an avenue link (R213). -/
  | attachOut | attachIn | bridgeOut | bridgeIn | link
  /-- Bytes per cycle of the Square buffer ports and of Bedrock (R448). -/
  | squareRead | squareWrite | bedrock
  /-- Contributions per cycle of a district's collection port and of a Plaza's input (R213). -/
  | collect | plaza
  /-- An evacuation window (R293), and a run that offers slots (R162). -/
  | window | run
  deriving DecidableEq, Repr

/-- One use: of which unit, from cycle `first` to cycle `last`; `low` and `size` say more: a row (`none` where it cannot be told), the
first and the number of bytes, a mode, or an amount per cycle; `ready` is the cycle in which a filled quarter is usable, or in which its reader
needs it (R111). `slot` is the slot order of the operation, `here` holds in the bundle that issued it, `crossed` after a named
wait since, and `fill` marks a fill operation. -/
structure Use where
  res     : Resource
  unit    : Nat
  first   : Nat
  last    : Nat
  low     : Option Nat
  size    : Nat
  ready   : Nat
  slot    : Nat
  here    : Bool
  crossed : Bool
  fill    : Bool
  deriving DecidableEq, Repr

/-- A use of `res` in cycles `a` to `b`. -/
def Use.span (res : Resource) (unit a b : Nat) : Use := ⟨res, unit, a, b, none, 0, 0, 0, true, false, false⟩
def Use.at (res : Resource) (unit a : Nat) : Use := .span res unit a a
/-- An amount per cycle. -/
def Use.rate (res : Resource) (unit a n amount : Nat) : List Use :=
  if n = 0 ∨ amount = 0 then [] else [{ Use.span res unit a (a + n - 1) with size := amount }]
/-- A row read: its port in the Remap cycle and its touch in the Sense cycle (R89, R101). -/
def Use.read (mask : Nat) (row : Option Nat) (t : Nat) : List Use :=
  [{ Use.at .readPort mask t with low := row }, { Use.at .rowRead mask (t + 2) with low := row }]
/-- A row write that arrives in cycle `w`: it commits one cycle later, a partial one three (R90). -/
def Use.write (mask : Nat) (row : Option Nat) (w : Nat) (full : Bool) : List Use :=
  let c := if full then w + 1 else w + 3
  [{ Use.at .writePort mask c with low := row }, { Use.at .rowWrite mask c with low := row }]

def allBanks : Nat := ones 16
/-- Two adjacent banks. -/
def bankPair (b : Nat) : Nat := 3 * 2 ^ b

/-! ## Array operations (R180 to R184) -/

/-- The fields of an `MM_ACC` word (R180). -/
def mmFields (w : Nat) : MmFields :=
  ⟨bits w 45 4, bits w 41 4, bits w 33 8, bits w 28 5, bits w 26 2, bits w 25 1, bits w 22 3, bits w 16 6, bits w 13 3, bits w 9 4,
    bits w 5 4, bits w 1 4, bits w 0 1⟩

/-- *P* of R182. -/
def mmLead (f : MmFields) : Nat := loadRows f.fmtA f.fmtB f.start f.h + b2n (scaled f.fmtB)
/-- *c_s* of R182, from the issue. -/
def mmStep (f : MmFields) (s : Nat) : Nat :=
  mmLead f + s * f.h + (if f.h = 1 ∧ scaled f.fmtB = true then s / stepsPerScale f.fmtA f.fmtB else 0)
/-- The last multiply. -/
def mmLast (f : MmFields) : Nat := mmStep f (f.steps - 1) + 6 + f.h - 1
/-- The cycle from which the last row is readable. -/
def mmDone (f : MmFields) : Nat := if f.steps = 0 then mmLead f + 13 + f.h else mmStep f (f.steps - 1) + 13 + f.h

/-- Rows of the AUX and of the B register that an `MM_ACC` reads (R181). -/
def mmAux (f : MmFields) : Nat := loadRows f.fmtA f.fmtB f.start f.h + scaleRows f.fmtA f.fmtB f.steps f.h
def mmRows (f : MmFields) : Nat := if f.bSel = 0 then f.steps else 0

/-! ## What a slot's word names -/

/-- What the check knows of one block and of the context at a bundle: the row that a base register and an index form, `none` where
it cannot be told, and the index of the innermost loop. -/
structure Here where
  row   : Nat → Nat → Option Nat
  index : Nat

/-- The quarters of R179 at a loop index. -/
def quarterOf (h : Here) (code : Nat) : Nat := quarterA { Ctx.empty with loops := [⟨0, 0, 0, h.index⟩] } code
def quarterOfB (h : Here) (code : Nat) : Nat := quarterB { Ctx.empty with loops := [⟨0, 0, 0, h.index⟩] } code

/-- Whether a use of a quarter is of some mode, needed or usable by some cycle. -/
def Use.mica (res : Resource) (quarter mode last ready : Nat) : Use := { Use.span res quarter 0 last with size := mode, ready := ready }

/-- `MM_ACC` (R182). -/
def mmUses (h : Here) (d : Desc) (f : MmFields) : List Use :=
  if f.h = 0 then []
  else
    let lr := loadRows f.fmtA f.fmtB f.start f.h
    let halves := f.h * loadHalves f.fmtA f.fmtB
    let load := (List.range lr).flatMap fun i =>
      Use.read (ones (2 * min 8 (halves - 8 * i))) (h.row d.selAux (f.scale + i)) i
    let scales := (List.range (scaleRows f.fmtA f.fmtB f.steps f.h)).flatMap fun k =>
      Use.read allBanks (h.row d.selAux (f.scale + lr + k))
        (if k = 0 then mmLead f - 1 else mmStep f (k * stepsPerScale f.fmtA f.fmtB) - 1)
    let rows := (List.range (mmRows f)).flatMap fun k => Use.read allBanks (h.row d.selB (f.bRow + k)) (mmStep f k)
    let units := if f.steps = 0 then [] else
      [Use.span .array 0 (mmStep f 0 + 6) (mmLast f),
       Use.mica .micaRead (quarterOf h f.aSel) f.transA (mmLast f) (mmStep f 0 + 5)] ++
      (if f.bSel = 0 then [] else [Use.mica .micaRead (quarterOfB h f.bSel) 2 (mmLast f) (mmStep f 0)])
    let accs := if f.steps = 0 ∧ f.start = 1 then [] else (List.range f.h).map fun k =>
      Use.span .accWrite (f.acc + k) ((if f.steps = 0 then mmLead f else mmStep f 0) + 13 + k)
        ((if f.steps = 0 then mmLead f else mmStep f (f.steps - 1)) + 13 + k)
    Use.at .issue 0 0 :: load ++ scales ++ rows ++ units ++ accs

/-- A Mica fill by either slot: the 21 bits of R186. -/
def fillUses (h : Here) (d : Desc) (g : Nat) : List Use :=
  let n := bits g 9 3
  if n = 0 then []
  else Use.mica .micaFill (quarterOf h (bits g 18 3)) (bits g 16 2) (n + 5) (n + 6) ::
    (List.range n).flatMap fun i => Use.read allBanks (h.row d.selA (bits g 1 6 + i)) i

/-! ## Latencies and vector operations (R115, R194) -/

/-- Latency of a vector operation (R115); 0 for the other region operations. -/
def vectorLatency (op : Nat) : Nat :=
  if 0x08 ≤ op ∧ op ≤ 0x0B then 4
  else if 0x0C ≤ op ∧ op ≤ 0x14 then 2
  else if op = 0x15 then 4
  else if op = 0x16 then 6
  else if op = 0x17 then 2
  else if 0x18 ≤ op ∧ op ≤ 0x1D then 12
  else if op = 0x1E ∨ op = 0x1F then 8
  else if op = 0x20 then 7
  else if op = 0x22 ∨ op = 0x23 then 2
  else if op = 0x24 ∨ op = 0x25 then 1
  else 0

/-- A vector operation writes its destination in the cycle before its latency ends (R193). -/
def writesRegister (op : Nat) : Bool := (decide (0x08 ≤ op) && decide (op ≤ 0x20)) || op == 0x22 || op == 0x24

/-- A region operation in a block. -/
def regionUses (h : Here) (d : Desc) (w : Nat) : List Use :=
  let op := bits w 58 6
  let vec := if 0x08 ≤ op then
    Use.at .issue 1 0 :: (if writesRegister op then [Use.at .vreg (bits w 44 5) (vectorLatency op - 1)] else []) else []
  vec ++ (match op with
    | 0x01 => mmUses h d (mmFields w)
    | 0x02 => [Use.at .issue 2 0, Use.at .accRead (bits w 45 4) 0] ++
        Use.write (bankPair (bits w 40 4)) (h.row d.selOut (bits w 34 6)) 2 true
    | 0x03 => if bits w 37 3 = 0 then [] else Use.at .issue 3 0 :: fillUses h d (bits w 28 21)
    | 0x04 => [Use.at .issue 4 0]
    | 0x20 => Use.read (if bits w 42 2 = 0 then bankPair (bits w 38 4) else 2 ^ bits w 38 4) (h.row d.selA (bits w 31 6)) 0
    | 0x21 =>
      Use.write (if bits w 41 3 = 0 then bankPair (bits w 37 4) else 2 ^ bits w 37 4) (h.row d.selOut (bits w 28 6)) 2
        (decide (bits w 41 3 < 2)) ++
      (if bit w 27 then Use.write (2 ^ bits w 23 4) (h.row d.selAux (bits w 17 6)) 3 false else [])
    | 0x22 => [Use.at .issue 2 0, Use.at .accRead (bits w 40 4) 0]
    | _ => [])

/-! ## Base registers (R141, R181) -/

/-- What a slot's operation adds to base registers of the blocks that its descriptor selects: register and amount. -/
def raises (o w : Nat) (d : Desc) : List (Nat × Nat) :=
  let both := fun (a b : Nat × Nat) => if a.1 = b.1 then [(a.1, a.2 + b.2)] else [a, b]
  let all :=
    if 1 ≤ o ∧ o ≤ 8 then
      match bits w 58 6 with
      | 0x01 => if bit w 0 && (mmFields w).h != 0 then both (d.selB, mmRows (mmFields w)) (d.selAux, mmAux (mmFields w)) else []
      | 0x02 => [(d.selOut, bits w 33 1)]
      | 0x03 => [(d.selA, if bit w 28 then bits w 37 3 else 0)]
      | 0x20 => [(d.selA, bits w 30 1)]
      | 0x21 => both (d.selOut, bits w 9 1) (d.selAux, bits w 8 1)
      | _ => []
    else if 9 ≤ o ∧ o ≤ 12 then
      match bits w 60 4 with
      | 1 => [(d.selA, if bit w 29 then bits w 38 3 else 0)]
      | 2 => both (d.selA, if bit w 21 then bits w 22 8 else 0) (d.selOut, if bit w 20 then bits w 22 8 else 0)
      | 3 => [(if bit w 49 then d.selOut else d.selA, if bit w 2 then ceilDiv (bits w 10 8) 2 else 0)]
      | 4 => [(if bit w 49 then d.selOut else d.selA, if bit w 4 then bits w 5 8 else 0)]
      | 5 => [(if bit w 49 then d.selOut else d.selA, if bit w 4 then bits w 5 8 else 0)]
      | _ => []
    else []
  all.filter fun x => x.2 != 0

/-- The base register that a `SET_BASE` changes. -/
def setsBase (o w : Nat) : Option Nat :=
  if 1 ≤ o ∧ o ≤ 8 ∧ bits w 58 6 = 4 ∧ bits w 44 5 < 16 then some (bits w 44 5) else none

/-- The base registers that a slot's operation changes. -/
def changesOf (o w : Nat) (d : Desc) : List Nat := (setsBase o w).toList ++ (raises o w d).map (·.1)

/-- A register's value after a change, where both can be told; a predicated change may or may not happen. -/
def changed (o w : Nat) (old : Option Nat) (amount : Nat) : Option Nat :=
  let p := if 1 ≤ o ∧ o ≤ 8 then bits w 49 3 else bits w 51 3
  if p ≠ 0 then none
  else if setsBase o w ≠ none then
    (if bits w 42 2 = 0 then some (bits w 0 10) else old.map fun x => (((x : Int) + sext 36 (bits w 0 36)) % 1024).toNat)
  else old.map fun x => (x + amount) % 1024

/-! ## A slot's operation in one block -/

/-- Beats in flight: 64 B per cycle. -/
def beatsOut (a n : Nat) : List Use := Use.rate .portOut 0 a n 64
def beatsIn (a n : Nat) : List Use := Use.rate .portIn 0 a n 64

/-- A `COPY_AVENUE`, in the local block or in the remote one (R200). -/
def avenueUses (h : Here) (d : Desc) (w : Nat) (remote : Bool) : List Use :=
  let beats := bits w 10 8
  let budget := bits w 3 7
  let pull := bit w 49
  let bank := if remote then 2 ^ bits w 24 4 else 2 ^ bits w 34 4
  let row := fun j => if remote then h.row d.selB (bits w 18 6 + j) else h.row (if pull then d.selOut else d.selA) (bits w 28 6 + j)
  if remote = pull then
    let t := if pull then budget / 2 - 8 else 0
    ((List.range (ceilDiv beats 2)).flatMap fun j => Use.read bank (row j) (t + 2 * j)) ++ beatsOut (t + 6) beats
  else ((List.range beats).flatMap fun i => Use.write bank (row (i / 2)) (budget + i) false) ++ beatsIn budget beats

/-- A mover operation in a block that its descriptor selects. A `COPY_AVENUE`'s remote side is `remoteUses`. -/
def moverUses (h : Here) (d : Desc) (w : Nat) : List Use :=
  let n := bits w 5 8
  match bits w 60 4 with
  | 1 => fillUses h d (bits w 29 21)
  | 2 => (List.range (bits w 22 8)).flatMap fun i =>
      Use.read (2 ^ bits w 46 4) (h.row d.selA (bits w 40 6 + i)) i ++
      Use.write (2 ^ bits w 36 4) (h.row d.selOut (bits w 30 6 + i)) (i + 6) true
  | 3 => avenueUses h d w false
  | op =>
    if op = 4 ∨ op = 5 then
      if bit w 49 then
        let t := if op = 4 then 40 else 200
        ((List.range n).flatMap fun i => Use.write (2 ^ bits w 45 4) (h.row d.selOut (bits w 39 6 + i)) (t + i) true) ++
          Use.rate .portIn 0 t n 128
      else ((List.range n).flatMap fun i => Use.read (2 ^ bits w 45 4) (h.row d.selA (bits w 39 6 + i)) i) ++
        Use.rate .portOut 0 6 n 128
    else []

/-- The cycle in which a queue entry or a contribution leaves its block, as a bank read's delivery, and in which a remote queue
entry arrives (assumption 11). -/
def leaveCycle : Nat := 6
def entryCycle : Nat := 69

/-- A Plaza or queue operation in a block that its descriptor selects (R204, R206). -/
def lateUses (h : Here) (d : Desc) (o w : Nat) : List Use :=
  if o = 15 then
    if bits w 38 2 = 1 then Use.read (2 ^ bits w 15 4) (h.row d.selA (bits w 9 6)) 0 ++ beatsOut leaveCycle 1
    else Use.write (2 ^ bits w 15 4) (h.row d.selOut (bits w 9 6)) 72 false ++ beatsIn 72 1
  else if bits w 37 3 = 1 ∧ bits w 13 11 ≠ 0 then beatsOut leaveCycle 1
  else if bits w 37 3 = 2 then [Use.at .vreg (bits w 8 5) 2]
  else []

/-- Whether a slot's operation acts in blocks at all: not where its length is 0 (R196) or it runs no row (R182). -/
def actsInBlocks (o w : Nat) : Bool :=
  if 1 ≤ o ∧ o ≤ 8 then
    (bits w 58 6 != 1 || (mmFields w).h != 0) && (bits w 58 6 != 3 || bits w 37 3 != 0)
  else if 9 ≤ o ∧ o ≤ 12 then
    match bits w 60 4 with
    | 1 => bits w 38 3 != 0
    | 2 => bits w 22 8 != 0
    | 3 => bits w 10 8 != 0
    | 4 => bits w 5 8 != 0
    | 5 => bits w 5 8 != 0
    | _ => false
  else o == 15 || (o == 16 && decide (bits w 37 3 ≤ 3))

/-- What a slot's operation uses in logical block `l`: as a block that its descriptor selects, and as a remote block. -/
def blockUses (h : Here) (descs : List Desc) (l o w : Nat) : List Use :=
  match namedDesc o w with
  | none => []
  | some k =>
    let d := descs.getD k Desc.none
    let selects := fun (x : Int) => decide (0 ≤ x) && d.selected.contains x.toNat
    let own := if !selects l then []
      else (if o ≤ 8 then regionUses h d w else if o ≤ 12 then moverUses h d w else lateUses h d o w) ++
        (changesOf o w d).map fun r => Use.at .base r 0
    let from_ := (l : Int) - peerDelta o w
    let far := if isAvenue o w && selects from_ then avenueUses h d w true
      else if isRemoteSend o w && selects from_ then beatsIn entryCycle 1 else []
    own ++ far

/-! ## Completion (R146, R182, R194, R199, R202, R204, R206) -/

/-- The cycle, from its issue, in which a slot's operation has completed: its last result is readable, and its last write has
committed in the cycle before. -/
def completes (o w : Nat) : Nat :=
  let n := bits w 5 8
  if 1 ≤ o ∧ o ≤ 8 then
    match bits w 58 6 with
    | 0x01 => if (mmFields w).h = 0 then 14 else mmDone (mmFields w)
    | 0x02 => 4
    | 0x03 => if bits w 37 3 = 0 then 1 else bits w 37 3 + 6
    | 0x21 => if bit w 27 then 7 else if bits w 41 3 < 2 then 4 else 6
    | op => max 1 (vectorLatency op)
  else if 9 ≤ o ∧ o ≤ 12 then
    match bits w 60 4 with
    | 1 => if bits w 38 3 = 0 then 1 else bits w 38 3 + 6
    | 2 => if bits w 22 8 = 0 then 1 else bits w 22 8 + 7
    | 3 => if bits w 10 8 = 0 then 1 else bits w 3 7 + bits w 10 8 + 3
    | 4 => if n = 0 then 1 else if bit w 49 then n + 41 else n + 40
    | 5 => if n = 0 then 1 else if bit w 49 then n + 201 else n + 160
    | 6 => if bits w 0 8 = 0 then 1 else 4 * bits w 0 8 + (if bit w 49 then 201 else 161)
    | _ => 1
  else if o = 13 ∨ o = 14 then (if bits w 54 2 = 1 ∧ bits w 2 10 ≠ 0 then 32 + 16 * bits w 2 10 else 1)
  else if o = 15 then (if bits w 38 2 = 1 then 36 else 76)
  else if o = 16 then
    (match bits w 37 3 with
      | 1 => if bits w 13 11 = 0 then 2 else 72
      | 2 => 3
      | 3 => 1
      | _ => 4)
  else 1

/-- A slot's operation writes banks, Square buffers or Bedrock, and so waits for granules at its issue (R155, R199). -/
def writesStorage (o w : Nat) : Bool :=
  if 1 ≤ o ∧ o ≤ 8 then bits w 58 6 == 0x02 || bits w 58 6 == 0x21
  else if 9 ≤ o ∧ o ≤ 12 then bits w 60 4 != 1 && (actsInBlocks o w || (bits w 60 4 == 6 && bits w 0 8 != 0))
  else o == 15 && bits w 38 2 == 2

/-- A slot's operation has a named wait (R155). -/
def waitsIn (o w : Nat) : Bool :=
  writesStorage o w || (o == 0 && bits w 60 4 == 2) || ((o == 13 || o == 14) && bits w 2 10 != 0) || (o == 15 && bits w 38 2 == 1) ||
  (o == 16 && bits w 37 3 != 3)

/-! ## Shared paths and buffers -/

/-- The bytes of a buffer from `lo` on, used in cycles `a` to `b` (R618). -/
def Use.bytes (res : Resource) (buffer lo n a b : Nat) : Use := { Use.span res buffer a b with low := some lo, size := n }

/-- How many of the blocks lie in each logical district. -/
def perDistrict (ls : List Nat) : List (Nat × Nat) :=
  ((ls.map (· / 16)).foldl sinsert []).map fun d => (d, (ls.filter (· / 16 == d)).length)

/-- Square or Bedrock port use of a buffer's home. -/
def homeUse (p : Program) (buffer : Nat) (write : Bool) (a n amount : Nat) : List Use :=
  if (p.buffer buffer).homeOf = 3 then Use.rate .bedrock 0 a n amount
  else Use.rate (if write then .squareWrite else .squareRead) 0 a n amount

/-- A `COPY_SQUARE` or `COPY_BEDROCK` beside its blocks: attachments, ports and bytes (R199, R213). -/
def rowsShared (p : Program) (w : Nat) : List Use :=
  let sel := p.selected (bits w 54 6)
  let n := bits w 5 8
  let square := bits w 60 4 == 4
  let b := bits w 27 12
  let lo := 4096 * bits w 13 14
  let size := 128 * n * sel.length
  let amount := 128 * sel.length
  if n = 0 then []
  else if bit w 49 then
    let t := if square then 40 else 200
    (perDistrict sel).flatMap (fun d => Use.rate .attachIn d.1 t n (128 * d.2)) ++
      homeUse p b false 0 n amount ++ [Use.bytes .bytesRead b lo size 0 (n - 1)]
  else
    let t := if square then 40 else 160
    (perDistrict sel).flatMap (fun d => Use.rate .attachOut d.1 leaveCycle n (128 * d.2)) ++
      homeUse p b true t n amount ++ [Use.bytes .bytesWrite b lo size t (t + n - 1)]

/-- A `COPY_SB` (R199). -/
def copySbShared (p : Program) (w : Nat) : List Use :=
  let n := bits w 0 8
  let sq := bits w 37 12
  let br := bits w 17 12
  let sqLo := 65536 * bits w 29 8
  let brLo := 65536 * bits w 8 9
  if n = 0 then []
  else if bit w 49 then
    homeUse p br false 0 (4 * n) 1024 ++ homeUse p sq true 201 (4 * n) 1024 ++
      [Use.bytes .bytesRead br brLo (4096 * n) 0 (4 * n - 1), Use.bytes .bytesWrite sq sqLo (4096 * n) 201 (4 * n + 200)]
  else
    homeUse p sq false 0 (4 * n) 1024 ++ homeUse p br true 161 (4 * n) 1024 ++
      [Use.bytes .bytesRead sq sqLo (4096 * n) 0 (4 * n - 1), Use.bytes .bytesWrite br brLo (4096 * n) 161 (4 * n + 160)]

/-- A network operation (R202). -/
def netShared (p : Program) (w : Nat) : List Use :=
  let n := bits w 2 10
  let b := bits w 24 12
  let lo := 4096 * bits w 12 12
  Use.at .flow (bits w 36 18) 0 ::
    (if n = 0 then []
     else if bits w 54 2 = 1 then homeUse p b false 32 (16 * n) 256 ++ [Use.bytes .bytesRead b lo (4096 * n) 32 (31 + 16 * n)]
     else [])

/-- A `PLAZA_SEND`: contributions per cycle at the districts' collection ports and at the Plaza (R204, R213). -/
def sendShared (p : Program) (w : Nat) : List Use :=
  let sel := (p.selected (bits w 28 6)).zipIdx
  (List.range (ceilDiv sel.length 4)).flatMap fun k =>
    let now := (sel.filter fun x => x.2 / 4 == k).map (·.1)
    Use.rate .plaza (bits w 34 4) (20 + k) 1 now.length ++
      (perDistrict now).flatMap fun d => Use.rate .collect d.1 (20 + k) 1 d.2

/-- An overlay load's share of Bedrock (R130). -/
def overlayShared : List Use := Use.rate .bedrock 0 32 512 256

/-- What a slot's operation uses beside blocks, before any binding. -/
def sharedUses (p : Program) (o w : Nat) : List Use :=
  if o = 0 then (if bits w 60 4 = 7 then overlayShared else [])
  else if 9 ≤ o ∧ o ≤ 12 then
    (if bits w 60 4 = 4 ∨ bits w 60 4 = 5 then rowsShared p w else if bits w 60 4 = 6 then copySbShared p w else [])
  else if o = 13 ∨ o = 14 then netShared p w
  else if o = 15 ∧ bits w 38 2 = 1 then sendShared p w
  else []

/-! ## Routes (R209, R212, R215) -/

/-- The links of a path between two districts of one slab: along the columns first, then along the rows. A link is named by its slab,
its source and its direction: 0 east, 1 west, 2 up, 3 down. -/
def route (D E : Nat) : List Nat :=
  let name := fun x y dir => ((D / 32 * 8 + x) * 4 + y) * 4 + dir
  let x0 := districtX (D % 32)
  let x1 := districtX (E % 32)
  let y0 := districtY (D % 32)
  let y1 := districtY (E % 32)
  (if x0 ≤ x1 then (rangeFrom x0 (x1 - x0)).map fun x => name x y0 0 else (rangeFrom (x1 + 1) (x0 - x1)).reverse.map fun x => name x y0 1) ++
  (if y0 ≤ y1 then (rangeFrom y0 (y1 - y0)).map fun y => name x1 y 2 else (rangeFrom (y1 + 1) (y0 - y1)).reverse.map fun y => name x1 y 3)

/-- Beats between two physical districts that leave their block from cycle `t`: on the links of the route, each in the second of a
hop's two cycles, or through both slabs' bridges and the Square's forwarding stage, counted as at R215 (assumption 11). -/
def pathUses (D E t arrive n : Nat) : List Use :=
  if D = E then []
  else if D / 32 = E / 32 then (route D E).zipIdx.flatMap fun x => Use.rate .link x.1 (t + 1 + 2 * x.2) n 64
  else Use.rate .attachOut (64 + D) t n 64 ++ Use.rate .bridgeOut (D / 32) t n 64 ++ Use.rate .squareWrite 0 (t + 24) n 64 ++
    Use.rate .squareRead 0 (t + 24) n 64 ++ Use.rate .bridgeIn (E / 32) arrive n 64 ++ Use.rate .attachIn (64 + E) arrive n 64

/-- Bytes per cycle of a `COPY_SQUARE` or `COPY_BEDROCK` on the bridges of its blocks' slabs. -/
def bridgeRows (phys : Nat → Option Nat) (p : Program) (w : Nat) : List Use :=
  let sel := (p.selected (bits w 54 6)).filterMap fun l => phys (l / 16)
  let n := bits w 5 8
  let out := !bit w 49
  let t := if out then leaveCycle else if bits w 60 4 = 4 then 40 else 200
  [0, 1].flatMap fun slab =>
    Use.rate (if out then .bridgeOut else .bridgeIn) slab t n (128 * (sel.filter (· / 32 == slab)).length)

/-- What a slot's operation uses of the paths between its bound blocks: `phys` gives a logical district's physical one. -/
def fabricUses (phys : Nat → Option Nat) (p : Program) (o w : Nat) : List Use :=
  if isAvenue o w || isRemoteSend o w then
    (p.selected ((namedDesc o w).getD 0)).flatMap fun (l : Nat) =>
      match phys (l / 16), phys (((l : Int) + peerDelta o w).toNat / 16) with
      | some D, some E =>
        if o = 16 then pathUses D E leaveCycle entryCycle 1
        else if bit w 49 then pathUses E D (bits w 3 7 / 2 - 2) (bits w 3 7) (bits w 10 8)
        else pathUses D E leaveCycle (bits w 3 7) (bits w 10 8)
      | _, _ => []
  else if 9 ≤ o ∧ o ≤ 12 ∧ (bits w 60 4 = 4 ∨ bits w 60 4 = 5) then
    bridgeRows phys p w ++ sharedUses p o w |>.map fun u => match u.res with
      | .attachOut | .attachIn => { u with unit := (phys u.unit).elim u.unit (64 + ·) }
      | _ => u
  else sharedUses p o w

end Sys2Proof.Machine
end

