-- ==== Sys2Proof/Machine/PathCheck.lean ====
section
/-! DEFINITION. The load check along a program's paths: conflicts, orders across named waits, overlays, loops, the backlog, requests,
the Plazas and evacuation windows (spec/04_stream_model.md R130, R131, R143 to R148, R158 to R165; spec/06_avenues_plaza.md R213, R229;
spec/08_zoning.md R294, R295). Every path is walked bundle by bundle, with each named wait of every length. -/

namespace Sys2Proof.Machine

/-! ## Two uses that meet -/

/-- An earlier use and a later one share a cycle: after a named wait between them, for some length of it. -/
def Use.meets (a b : Use) : Bool := decide (b.first ≤ a.last) && (a.crossed || decide (a.first ≤ b.last))

/-- Rows that are, or may be, one row of a bank, and in range. -/
def mayEqual (a b : Option Nat) : Bool := match a, b with
  | some x, some y => x == y && decide (x < 768)
  | _, _ => true

/-- Two uses of the same unit that share a cycle. -/
def Use.shared (a b : Use) : Bool := a.unit == b.unit && a.meets b

/-- After a wait, the later use could come before the earlier one, or meet a write that it should see (R158). -/
def Use.swaps (a b : Use) (write : Bool) : Bool :=
  a.crossed && (decide (b.first < a.last) || (b.first == a.last && write))

/-- Byte ranges of one buffer that overlap. -/
def Use.overlaps (a b : Use) : Bool :=
  a.unit == b.unit && decide (a.low.getD 0 < b.low.getD 0 + b.size) && decide (b.low.getD 0 < a.low.getD 0 + a.size)

/-- What an earlier use and a later one break: 0xB a conflict (R160, R193), 0xC an order across a wait (R158, R618), 0x48 an
evacuation window (R294). -/
def Use.clash (a b : Use) : Option Nat :=
  let bank := a.unit &&& b.unit != 0
  let yes := fun (c : Bool) (code : Nat) => if c then some code else none
  match a.res, b.res with
  | .readPort, .readPort | .writePort, .writePort => yes (bank && a.meets b && (a.low.isNone || a.low != b.low)) 0xB
  | .rowRead, .rowWrite | .rowWrite, .rowWrite => yes (bank && mayEqual a.low b.low && a.swaps b false) 0xC
  | .rowWrite, .rowRead => yes (bank && mayEqual a.low b.low && a.swaps b true) 0xC
  | .micaFill, .micaRead => yes (a.shared b && !(decide (a.ready ≤ b.ready) && a.size == b.size)) 0xB
  | .micaRead, .micaFill | .accRead, .accWrite | .accWrite, .accRead => yes (a.shared b) 0xB
  | .issue, .issue | .array, .array | .micaFill, .micaFill | .micaRead, .micaRead | .accWrite, .accWrite | .vreg, .vreg | .base, .base
  | .flow, .flow => yes (a.shared b) 0xB
  | .bytesRead, .bytesWrite | .bytesWrite, .bytesWrite => yes (a.overlaps b && a.swaps b false) 0xC
  | .bytesWrite, .bytesRead => yes (a.overlaps b && a.swaps b true) 0xC
  | .window, .window | .window, .active | .active, .window | .window, .run | .run, .window => yes (a.meets b) 0x48
  | _, _ => none

/-- The demand on a resource in cycle `t`: uses that cross a wait may fall in any cycle up to their last. -/
def demandAt (us : List Use) (u : Use) (t : Nat) : Nat :=
  ((us.filter fun a => a.res == u.res && a.unit == u.unit && decide (t ≤ a.last) && (a.crossed || decide (a.first ≤ t))).map (·.size)).sum

/-- The largest demand on a resource while a use lasts. -/
def peakDemand (us : List Use) (u : Use) : Nat :=
  ((u.first :: ((us.filter fun a => a.res == u.res && a.unit == u.unit && decide (u.first ≤ a.first) && decide (a.first ≤ u.last)).map (·.first))).map
    (demandAt us u)).foldl max 0

/-! ## What is walked -/

/-- What a walk looks at: the blocks' resources one logical block at a time, the shared ones before any binding, the bound paths, or the evacuation
windows. -/
inductive View where
  | block (l : Nat)
  | shared
  | fabric (phys : List (Nat × Nat))
  | windows
  deriving DecidableEq, Repr

/-- The program, its share of the store, and what a walk compares. -/
structure Walked where
  program : Program
  pages   : Nat
  view    : View
  regs    : List BaseReg
  limits  : List (Resource × Nat × Nat)
  bodies  : List (Nat × Nat × Nat)
  deriving DecidableEq, Repr

/-- A path at a bundle: where control stands, what is in flight, counted from the present cycle, and what the rules count.
`landed` holds after a `JUMP` or `BRANCH`; `probe` is what is left of a record's trial placement (R165), 0 on the path itself. -/
structure Walk where
  pc       : Nat
  landed   : Bool
  loops    : List Loop
  pages    : List (Nat × Nat)
  loading  : List (Nat × Nat × Nat)
  backlog  : List FillRecord
  services : List Nat
  busy     : Nat
  uses     : List Use
  bases    : List (Option Nat)
  /-- Contributions by Plaza and sum register: source slots, their number, and the cycles to the last acceptance (R229). -/
  sums     : List (Nat × Nat × Nat × Nat × Nat)
  /-- Cycles in which a Plaza takes no other drain. -/
  drains   : List (Nat × Nat)
  /-- The last named beat and the latest window's label, from `BEAT_ORIGIN`; the cycles since `START` or the last window (R295). -/
  named    : Nat
  label    : Nat
  since    : Nat
  probe    : Nat
  deriving DecidableEq, Repr

/-- The start of a run (R147). -/
def Walk.start (e : Walked) : Walk :=
  { pc := e.program.image.entry, landed := false, loops := [], pages := [], loading := [], backlog := [], services := [], busy := 0, uses := []
    bases := e.regs.map fun r => some r.row, sums := [], drains := [], named := 0, label := 0, since := 0, probe := 0 }

/-- The row that a base register and an index form, where its value can be told. -/
def Walked.row (e : Walked) (w : Walk) (r index : Nat) : Option Nat :=
  (w.bases.getD r (some 0)).map fun x => (e.regs.getD r BaseReg.zero).rowAt x index

def Walk.here (e : Walked) (w : Walk) : Here := ⟨e.row w, match w.loops with
  | [] => 0
  | l :: _ => l.index⟩

/-- The bundle at a store address: `none` where the contents of its page cannot be told (R131). -/
def Walked.itemAt (e : Walked) (w : Walk) (a : Nat) : Option Item :=
  let page := a / 1024
  if w.loading.any (·.1 == page) then none
  else
    let find := fun (ov : Option Nat) (place : Nat) => (e.program.items.find? fun it => it.overlay == ov && it.place == place).getD ⟨ov, place, 0⟩
    match kfind w.pages page with
    | some v => some (find (some v) (a % 1024))
    | none => if page < e.program.image.residents then some (find none a) else none

/-- A store address as the load status reports it: its overlay page, and its bundle there. -/
def Walked.refuse (_ : Walked) (w : Walk) (code a slot : Nat) : Refused := match kfind w.pages (a / 1024) with
  | some v => Refused.at code ⟨some v, a % 1024, 0⟩ slot
  | none => Refused.at code ⟨none, a, 0⟩ slot

/-- Time passes: what has ended is forgotten, and a page that has been loaded may issue (R130). -/
def Walk.advance (n : Nat) (w : Walk) : Walk :=
  let done := w.loading.filter fun x => decide (x.2.2 ≤ n)
  { w with
    pages := done.foldl (fun m x => kset m x.1 x.2.1) w.pages
    loading := (w.loading.filter fun x => decide (n < x.2.2)).map fun x => (x.1, x.2.1, x.2.2 - n)
    services := (w.services.map (· + n)).filter (· < 4096)
    busy := w.busy - n
    uses := (w.uses.filter fun u => decide (n ≤ u.last)).map fun u =>
      { u with first := u.first - n, last := u.last - n, ready := u.ready - n, here := u.here && n == 0 }
    sums := w.sums.map fun x => (x.1, x.2.1, x.2.2.1, x.2.2.2.1, x.2.2.2.2 - n)
    drains := (w.drains.map fun x => (x.1, x.2 - n)).filter (·.2 != 0)
    since := w.since + n
    probe := w.probe - n }

/-! ## One operation -/

/-- What an operation uses in a view. -/
def Walked.usesOf (e : Walked) (w : Walk) (o word : Nat) : List Use := match e.view with
  | .block l => blockUses (w.here e) e.program.descs l o word
  | .shared => sharedUses e.program o word
  | .fabric phys => fabricUses (kfind phys) e.program o word
  | .windows =>
    if actsInBlocks o word && !(e.program.selected ((namedDesc o word).getD 0)).isEmpty then
      [Use.span .active 0 0 (completes o word - 1)]
    else []

/-- The base registers of the walked block after an operation that latched them at `latch` (R141). -/
def Walked.changeBases (e : Walked) (latch b : List (Option Nat)) (o word : Nat) : List (Option Nat) := match e.view, namedDesc o word with
  | .block l, some k =>
    let d := e.program.descs.getD k Desc.none
    if d.selected.contains l then
      (((setsBase o word).toList.map fun r => (r, 0)) ++ raises o word d).foldl (fun (b : List (Option Nat)) (x : Nat × Nat) =>
        b.set x.1 (changed o word (latch.getD x.1 none) x.2)) b
    else b
  | _, _ => b

/-- New uses are compared with those before them, and the demand that they raise with its limit; the answer names the codes with
the slots at which they arise. -/
def Walked.addUses (e : Walked) (fill : Bool) (o : Nat) (us : List Use) (old : List Use) : List (Nat × Nat) × List Use :=
  let mine := us.map fun u => { u with slot := o, fill := fill }
  let r := mine.foldl (fun (x : List (Nat × Nat) × List Use) u =>
    (x.1 ++ x.2.filterMap fun a => (a.clash u).map fun code =>
        (if (a.fill || u.fill) && code != 0x48 then 0xF else code, if a.here then min a.slot o else o), x.2 ++ [u])) ([], old)
  let rated := mine.filter fun u => match e.limits.find? fun l => l.1 == u.res && (l.2.1 == u.unit || l.2.1 == 9999) with
    | none => false
    | some l => decide (l.2.2 < peakDemand r.2 u)
  (r.1 ++ rated.map fun u => (if u.fill then 0xF else 0xB, o), r.2)

/-- Operations that issue in one cycle, `t` cycles after the present one: each forms its rows from the base registers `latch` of that cycle,
and the changes that they make come into force after it (R141). -/
def Walked.issueAt (e : Walked) (t : Nat) (fill : Bool) (latch : List (Option Nat)) (ops : List (Nat × Nat)) (w : Walk) :
    List (Nat × Nat) × Walk :=
  let r := ops.foldl (fun (x : List (Nat × Nat) × Walk) (o, word) =>
    let us := (e.usesOf { x.2 with bases := latch } o word).map fun u =>
      { u with first := u.first + t, last := u.last + t, ready := u.ready + t }
    let y := e.addUses fill o us x.2.uses
    (x.1 ++ y.1, { x.2 with uses := y.2, busy := max x.2.busy (t + completes o word) })) ([], w)
  (r.1, { r.2 with bases := ops.foldl (fun b x => e.changeBases latch b x.1 x.2) w.bases })

/-! ## Plazas (R204, R229) -/

/-- The Plaza slot of a bundle against the slack, the source slots and the combiner. -/
def plazaWalk (p : Program) (word : Nat) (w : Walk) : Bool × Walk :=
  let z := bits word 34 4
  let reg := bits word 2 6
  let n := (p.selected (bits word 28 6)).length
  let mask := ones n * 2 ^ bits word 19 6
  let mine := w.sums.filter fun x => x.1 == z && x.2.1 == reg
  if word = 0 then (false, w)
  else if bits word 38 2 = 1 then
    let held := ((w.sums.filter (·.1 == z)).map fun x => x.2.2.2.1).sum
    (decide (64 < held + n) || mine.any fun x => x.2.2.1 &&& mask != 0,
      { w with sums := if n = 0 then w.sums else w.sums ++ [(z, reg, mask, n, 20 + (n - 1) / 4)] })
  else
    (w.drains.any (·.1 == z) || mine.any fun x => decide (8 ≤ x.2.2.2.2),
      { w with sums := w.sums.filter (fun x => !(x.1 == z && x.2.1 == reg)), drains := w.drains ++ [(z, 64)] })

/-! ## Fill (R164) -/

/-- The region slots of the record's bundles, from `t` cycles after the present one; `none` where a bundle's page cannot be told. -/
def Walked.recordOps (e : Walked) (w : Walk) (t : Nat) (r : FillRecord) : List (Nat × Option (List (Nat × Nat))) :=
  (List.range r.length).map fun i => (t + i, (e.itemAt w (r.address + i)).map fun it =>
    (bundleSlots it.word).filter fun x => decide (1 ≤ x.1) && decide (x.1 ≤ 8) && x.2 != 0)

/-- The records that a run of `left` cycles takes from the head of the backlog, from `t` cycles on (R164). -/
def takeRecords (cls : Nat) : List FillRecord → Nat → Nat → List (Nat × FillRecord) × List FillRecord
  | [], _, _ => ([], [])
  | r :: rest, t, left =>
    if r.cls = cls ∧ r.length ≤ left then
      let x := takeRecords cls rest (t + r.length) (left - r.length)
      ((t, r) :: x.1, x.2)
    else ([], r :: rest)

/-- Cycles that a bundle offers to fill, and its class: 0 where it is not fillable. -/
def Item.runLength (it : Item) : Nat := 1 + (if it.op = 1 then bits it.ctrl 0 24 else 0)
def Item.runClass (it : Item) : Nat := if it.op ≤ 1 then bits it.ctrl 58 2 else 0

/-! ## One bundle -/

/-- The loop bodies that the store holds: first and last bundle (R143). -/
def Walked.bodiesNow (e : Walked) (w : Walk) : List (Nat × Nat) :=
  let resident := (e.bodies.filter fun b => (kfind w.pages ((b.1 - 1) / 1024)).isNone).map fun b => (b.1, b.2.1)
  resident ++ w.pages.flatMap fun g =>
    (e.program.items.filter fun it => it.overlay == some g.2 && it.op == 3).map fun it => (1024 * g.1 + it.place + 1, bits it.ctrl 0 16)

/-- A transfer from bundle `a` to `target` enters a body from outside it (R143). -/
def Walked.entersBody (e : Walked) (w : Walk) (a target : Nat) : Bool :=
  (e.bodiesNow w).any fun b => decide (b.1 ≤ target) && decide (target ≤ b.2) && !(decide (b.1 ≤ a) && decide (a ≤ b.2))

/-- Control runs on from `a`. -/
def Walk.runOn (w : Walk) (a : Nat) : Walk :=
  let r := afterBundle w.loops a
  { w with pc := r.1, loops := r.2, landed := false }

/-- Control goes from `a` to `target` (R143). -/
def Walk.goTo (w : Walk) (a target : Nat) : Walk := { w with pc := target, loops := loopsAt w.loops a target, landed := true }

/-- What a path breaks at a bundle, and the paths that follow. -/
structure Stepped where
  found : List Refused
  next  : List Walk

/-- Running on past the last address of the share is refused (R147). -/
def Walked.fallOn (e : Walked) (a : Nat) (w : Walk) : Stepped :=
  let x := w.runOn a
  if x.pc < 1024 * e.pages then ⟨[], [x]⟩ else ⟨[e.refuse w 9 a 0], []⟩

/-- The control operation of the bundle at `w.pc`, after its slots have issued (R142 to R148, R163). -/
def Walked.control (e : Walked) (it : Item) (w : Walk) : Stepped :=
  let a := w.pc
  let c := it.ctrl
  let target := bits c 0 16
  let say := fun code => e.refuse w code a 0
  let on := fun (cost : Nat) (x : Walk) => e.fallOn a (x.advance cost)
  match it.op with
  | 1 => on (1 + bits c 0 24) w
  | 2 =>
    let n := (if bit c 57 then w.named else 0) + bits c 32 24
    let r := on 1 { w with named := n }
    if e.view = .windows ∧ w.label + 4096 < n then ⟨{ say 0x49 with shortfall := (n - w.label - 4096) % 2 ^ 32 } :: r.found, r.next⟩ else r
  | 3 =>
    let around := w.loops.filter fun l => decide (l.first ≤ a) && decide (a ≤ l.last)
    let bad := decide (target ≤ a) || around.any (fun l => decide (l.last < target)) || decide (4 ≤ w.loops.length)
    if bad then ⟨[say 9], []⟩
    else if bits c 16 24 = 0 then e.fallOn target (w.advance 1)
    else ⟨[], [{ w.advance 1 with pc := a + 1, loops := ⟨a + 1, target, bits c 16 24, 0⟩ :: w.loops, landed := false }]⟩
  | 4 => ⟨if e.entersBody w a target then [say 9] else [], [(w.advance 1).goTo a target]⟩
  | 5 =>
    let r := on 1 w
    ⟨(if e.entersBody w a target then [say 9] else []) ++ r.found, (w.advance 1).goTo a target :: r.next⟩
  | 6 => on (max 1 w.busy) { w with uses := [] }
  | 7 =>
    let g := bits c 0 6
    let r := on 1 { w with loading := w.loading ++ [(g, bits c 6 12, 544)], pages := kerase w.pages g }
    ⟨(if w.loading.isEmpty then [] else [say 0xB]) ++ (if g = a / 1024 then [say 0xD] else []) ++ r.found, r.next⟩
  | 8 =>
    if bits c 16 13 = 0 then on 1 w
    else if 256 ≤ w.backlog.length then ⟨[say 0x10], []⟩
    else on 1 { w with backlog := w.backlog ++ [⟨target, bits c 16 13, bits c 29 2⟩] }
  | 9 =>
    let r := on 1 { w with services := 0 :: w.services }
    let busy := if 16 ≤ w.services.length then [say 0x11] else []
    if bits c 40 4 = 2 ∧ target ≠ 0 ∧ e.view = .windows then
      let label := w.named + bits c 16 24
      let opened := e.addUses false 0 [Use.span .window 0 257 (256 + 64 * target)] w.uses
      let x := on 1 { w with services := 0 :: w.services, uses := opened.2, label := label, since := 0 }
      let free := e.program.image.freeFlow
      let far := if free then w.since - 268435456 else absDiff label w.label - 4096
      ⟨opened.1.map (fun _ => say 0x48) ++ (if target < 29 then [say 0x48] else []) ++
        (if far = 0 then [] else [{ say 0x49 with shortfall := far % 2 ^ 32 }]) ++ x.found, x.next⟩
    else ⟨busy ++ r.found, r.next⟩
  | 10 =>
    ⟨(if w.backlog.isEmpty then [] else [say 0x10]) ++
      (if e.view = .windows ∧ e.program.image.freeFlow = true ∧ 268435456 < w.since then [{ say 0x49 with shortfall := (w.since - 268435456) % 2 ^ 32 }] else []), []⟩
  | _ => on 1 w

/-- The longest record and the longest latency: how far a trial placement reaches. -/
def probeSpan : Nat := 4096 + 4200

/-- One bundle of a path: its fill is taken from the backlog, or on a trial from the given record first; its uses are compared, and
control moves on. -/
def Walked.bundleStep (e : Walked) (it : Item) (w : Walk) : Stepped :=
  let a := w.pc
  let slots := (bundleSlots it.word).filter fun x => x.2 != 0
  let taken := if it.runClass = 0 then ([], w.backlog) else takeRecords it.runClass w.backlog 0 it.runLength
  let fills := taken.1.flatMap fun x => e.recordOps w x.1 x.2
  let waits := slots.any (fun x => waitsIn x.1 x.2) || fills.any fun x => (x.2.getD []).any fun y => waitsIn y.1 y.2
  let w0 := if waits then { w with uses := w.uses.map fun u => { u with crossed := true } } else w
  let own := e.issueAt 0 false w0.bases slots { w0 with backlog := taken.2 }
  let z := match e.view with
    | .shared => plazaWalk e.program (slotWord it.word 15) own.2
    | _ => (false, own.2)
  let run := match e.view with
    | .windows => if it.runClass = 0 then ([], z.2.uses) else e.addUses false 0 [Use.span .run 0 0 (it.runLength - 1)] z.2.uses
    | _ => ([], z.2.uses)
  let filled := fills.foldl (fun (x : List (Nat × Nat) × Walk) f =>
    let y := e.issueAt f.1 true (if f.1 = 0 then w0.bases else x.2.bases) (f.2.getD []) x.2
    (x.1 ++ y.1, y.2)) ([], { z.2 with uses := run.2 })
  let said := (own.1 ++ run.1 ++ filled.1).map (fun x => e.refuse w x.1 a x.2) ++
    (if z.1 then [e.refuse w 0xB a 15] else []) ++
    (if fills.any fun x => x.2.isNone then [e.refuse w 0xD a 0] else [])
  let r := e.control it filled.2
  ⟨said ++ r.found, r.next⟩

/-- The trials of R165 at a run: every record of its class that fits, as the backlog's head. -/
def Walked.trials (e : Walked) (it : Item) (w : Walk) : List Walk :=
  if it.runClass = 0 ∨ w.probe ≠ 0 then []
  else ((pushes e.program.items).filter fun p => p.2.2 == it.runClass && p.2.1 != 0 && decide (p.2.1 ≤ it.runLength)).map fun p =>
    { w with backlog := ⟨p.1, p.2.1, p.2.2⟩ :: w.backlog, probe := probeSpan }

/-- One step of a path. A trial ends when its span has passed, and reports fill conflicts only. -/
def Walked.pathStep (e : Walked) (w : Walk) : Stepped :=
  match e.itemAt w w.pc with
  | none => ⟨if w.probe = 0 then [e.refuse w 0xD w.pc 0] else [], []⟩
  | some it =>
    let r := e.bundleStep it w
    if w.probe = 0 then ⟨r.found, e.trials it w ++ r.next⟩
    else ⟨r.found.filter (·.code == 0xF), r.next.filter fun x => x.probe != 0 && x.uses.any (·.fill)⟩

/-! ## All paths -/

/-- Resident pages come before overlay pages, then bundles and slots ascend (R134). -/
def Refused.place (r : Refused) : Nat := (if r.overlay = 0xFFFF then 0 else r.overlay + 1) * 2 ^ 24 + r.bundle * 2 ^ 8 + r.slot

/-- The refusals with `r` among them: of each code the one that stands first. -/
def keepFirst (rs : List Refused) (r : Refused) : List Refused :=
  match rs.find? (·.code == r.code) with
  | none => rs ++ [r]
  | some x => if r.place < x.place then rs.map fun y => if y.code = r.code then r else y else rs

/-- The kind of fault that the check has not excluded when it ends early (R161): of the kinds that the program's operations can show, the one
that R134 checks first. -/
def Walked.unproved (e : Walked) : Nat :=
  if e.view = .windows then 0x49
  else if e.program.items.any (·.op == 9) then 0x11
  else if e.program.items.any (·.op == 8) then 0x10
  else 0xB

/-- A path as it is compared with those already walked: without what no rule of the view looks at. Where no `WAIT_BEAT` counts from the
origin, beats matter from the latest label only. -/
def Walked.key (e : Walked) (w : Walk) : Walk :=
  if e.view ≠ .windows then { w with named := 0, label := 0, since := 0 }
  else if e.program.image.freeFlow then { w with named := 0, label := 0 }
  else if e.program.items.any fun it => it.op == 2 && !bit it.ctrl 57 then { w with since := 0 }
  else { w with since := 0, named := w.named + 2 ^ 64 - w.label, label := 0 }

/-- All paths, depth first, within a number of bundles: a path that a transfer of control brings back to a state it has been in
is not walked again. Beyond the number, the program is not proved (assumption 11). -/
def Walked.explore (e : Walked) : Nat → List Walk → List Walk → List Refused → List Refused
  | 0, [], _, found => found
  | 0, w :: _, _, found => keepFirst found (e.refuse w e.unproved w.pc 0)
  | _ + 1, [], _, found => found
  | n + 1, w :: rest, seen, found =>
    if w.landed && seen.contains (e.key w) then e.explore n rest seen found
    else
      let r := e.pathStep w
      e.explore n (r.next ++ rest) (if w.landed then e.key w :: seen else seen) (r.found.foldl keepFirst found)

/-- How many bundles a walk takes at most (assumption 11). -/
def walkBudget : Nat := 2 ^ 21

/-- The limits of R213 and R448 that do not follow from a binding: 9999 stands for every unit. -/
def fixedLimits (s : State) (c : Nat) : List (Resource × Nat × Nat) :=
  let n := districtsOf s c
  let all := districtsAll s
  [(.portOut, 9999, 128), (.portIn, 9999, 128), (.attachOut, 9999, 256), (.attachIn, 9999, 256), (.link, 9999, 64), (.collect, 9999, 4),
   (.plaza, 9999, 4), (.bedrock, 9999, 1500 * n / all / 4 * 4), (.squareRead, 9999, 2048 * n / all / 64 * 64),
   (.squareWrite, 9999, 2048 * n / all / 64 * 64)]

/-- The share of a slab's bridge (R448). -/
def bridgeShare (s : State) (c slab : Nat) : Nat :=
  let on := fun p => popCount 32 (districtMap s p / 2 ^ (32 * slab))
  1024 * on c / ((List.range s.partitions).map on).sum / 64 * 64

def Walked.of (s : State) (c : Nat) (p : Program) (view : View) (regs : List BaseReg) : Walked :=
  { program := p, pages := pagesOf s c, view := view, regs := regs, bodies := loopBodies p.items
    limits := fixedLimits s c ++ [(.bridgeOut, 0, bridgeShare s c 0), (.bridgeOut, 1, bridgeShare s c 1), (.bridgeIn, 0, bridgeShare s c 0),
      (.bridgeIn, 1, bridgeShare s c 1)] }

/-- What a walk of every path in one view finds. -/
def walkAll (e : Walked) : List Refused := e.explore walkBudget [Walk.start e] [] []

/-- What the paths of a program break, before any binding: in the shared view, and in every used block with its rows as R282 and
R288 will bind them. -/
def pathFaults (s : State) (c : Nat) (p : Program) : List Refused :=
  let dem := p.demoted (s.dget 0x7000 2 == 1)
  let views := Walked.of s c p .shared [] :: p.used.map fun l =>
    Walked.of s c p (.block l) ((List.range 16).map fun r => kget BaseReg.zero (p.baseRegs dem l) (16 * l + r))
  (views.flatMap walkAll).foldl keepFirst []

/-- The first refusal with a code. -/
def firstOf (rs : List Refused) (code : Nat) : Option Refused := rs.find? (·.code == code)

/-- The earlier of two refusals of one check (R134). -/
def earlier (a b : Option Refused) : Option Refused := match a, b with
  | some x, some y => if y.place < x.place then some y else some x
  | some x, none => some x
  | none, y => y

/-! ## Steps 6 and 7 (R134) -/

/-- Step 6: what the text shows, and what the paths show (R143, R147). -/
def controlStep (i : Image) (items : List Item) (faults : List Refused) : Option Refused :=
  let bodies := loopBodies items
  earlier (items.findSome? fun it => (nestingStatus i bodies it).map fun code => Refused.at code it 0) (firstOf faults 9)

/-- Two operations of one bundle use one unit, change one base register in a common block, or name one flow (R160, R208). -/
def slotClash (descs : List Desc) (w a b : Nat) : Bool :=
  let x := slotWord w a
  let y := slotWord w b
  let units := fun o v => if 1 ≤ o ∧ o ≤ 8 then
      ((regionUses ⟨fun _ _ => some 0, 0⟩ Desc.none v).filter (·.res == .issue)).map (·.unit) else []
  if x = 0 ∨ y = 0 then false
  else if a = 13 ∧ b = 14 then bits x 36 18 == bits y 36 18
  else match namedDesc a x, namedDesc b y with
    | some j, some k =>
      let d := descs.getD j Desc.none
      let e := descs.getD k Desc.none
      d.districts &&& e.districts != 0 && d.mask &&& e.mask != 0 &&
        ((units a x).any (units b y).contains || (changesOf a x d).any (changesOf b y e).contains)
    | _, _ => false

/-- A slot that clashes with another of its bundle. -/
def bundleClash (descs : List Desc) (it : Item) (o : Nat) : Option Nat :=
  if (List.range 17).any fun a => slotClash descs it.word (min a o) (max a o) && a != o then some 0xB else none

/-- Step 7, in its order (R134). -/
def pathsStep (descs : List Desc) (items : List Item) (faults : List Refused) : Option Refused :=
  (items.findSome? fun it => firstSlot (fillStatus items it) it) <|> firstOf faults 0x11 <|> firstOf faults 0x10 <|>
    earlier (items.findSome? fun it => firstSlot (bundleClash descs it) it) (firstOf faults 0xB) <|>
    firstOf faults 0xC <|> firstOf faults 0xD <|> firstOf faults 0xF

/-! ## Step 8: the windows, and the whole -/

/-- 0x48 and 0x49 (R294, R295). -/
def Program.checkWindows (p : Program) (s : State) (c : Nat) : Option Refused :=
  let found := walkAll (Walked.of s c p .windows [])
  firstOf found 0x48 <|> firstOf found 0x49

/-- The demand on the bridges and the avenue links, which the bound blocks alone decide (R212, R213): the last check, with the status of
the others (assumption 11). -/
def Program.checkFabric (p : Program) (s : State) (c : Nat) (bound : List Bound) : Option Refused :=
  firstOf (walkAll (Walked.of s c p (.fabric (bound.map fun b => (b.logical, b.physical))) [])) 0xB

/-- Step 8: its checks in the order of R285, and the bindings. -/
def zoningStep (s : State) (c t : Nat) (p : Program) : Except Refused Ctx :=
  let dem := p.demoted (s.dget 0x7000 2 == 1)
  let used := p.used
  let ds := districtsUsed used
  let pin := fun d => s.dget (0x7060 + c) (d + 1)
  let ts := p.traffic
  let users := p.plazaUsers
  match p.checkTable <|> p.checkStandby <|> p.checkNamings <|> p.checkPeers <|> p.checkBudgets <|> p.checkStash s c <|>
      p.checkLanding s c <|> p.checkWindows s c <|> p.checkDemand dem <|> p.checkSpace s c t dem used.length <|> checkPins s c ds pin with
  | some r => .error r
  | none =>
    let affinity := usesAffinity s c
    match placeAll s c affinity ts users used pin (placeOrder affinity ts pin ds) [] with
    | .error r => .error r
    | .ok bound =>
      match bindPlazas (s.dget (0x6060 + c) 4) users bound p.plazas [] with
      | .error r => .error r
      | .ok plazas => match p.checkFabric s c bound with
        | some r => .error r
        | none => .ok (p.context s c t dem used bound plazas)

/-- The load check of tenant `t` on context `c`, its steps in order (R134). -/
def loadCheck (s : State) (c t : Nat) : Except Refused Ctx :=
  let i := imageAt s
  match headerStep s c i <|> frontStep s c i with
  | some r => .error r
  | none =>
    let items := imageItems s i
    let p := programOf s i items
    match encodingStep s c t i items with
    | some r => .error r
    | none =>
      let faults := pathFaults s c p
      match controlStep i items faults <|> pathsStep p.descs items faults with
      | some r => .error r
      | none => zoningStep s c t p

end Sys2Proof.Machine
end

