-- ==== Sys2Proof/Machine/Garnet.lean ====
section
/-! DEFINITION. Garnet: the end of the lease, restarts, sensors and what they lead to, logs, and firmware (spec/15_garnet.md R494 to
R502, R509 to R516; spec/18_faults.md R565; spec/20_electrical.md R602, R607, R610). -/

namespace Sys2Proof.Machine

/-- A log entry that no rule names the first parameter of (assumption 3). -/
def State.logOpen (s : State) (source event severity : Nat) : State :=
  s.log source event severity (Config.logDetail s.freeCount).toNat 0

/-! ## The lease (R509, R510) -/

/-- The lease is free; the change of holder is logged (R501). -/
def freeLease (s : State) : State :=
  let t : State := ((s.dclear 0x2060 4).dclear 0x2060 5).setGarnet fun g => { g with leasePort := 0 }
  t.logOpen 0x2060 4 0

/-- The lease ends other than by release (R510, R511). -/
def endLease (s : State) : State :=
  let h := s.dget 0x2060 4
  if h = 0 then s
  else garnetNotice ((freeLease s).record 0x50D0 2 [(5, 1)] none) 3 h

/-- The lease of a PCIe function, which has been reset. -/
def endFunctionLease (s : State) (f : Nat) : State := if s.dget 0x2060 4 = 3 * 2 ^ 24 + f then endLease s else s

/-! ## Restarts (R494) -/

/-- The controller restarts: requests, partial writes and kept responses are lost with the lease, identity 5 is reset, and the CAN FD
node starts anew (R506). -/
def garnetRestart (s : State) : State :=
  let t := identityReset (endLease s) 5
  (t.setGarnet fun g => { g with usdo := [], partials := [], kept := [], nmt := 127 }).emit (.can 2 0)

/-- WATCHDOG_RESTART (R494). -/
def execWatchdogRestart (s : State) : Host.Outcome State Fault Refusal :=
  .next (if s.power.state = .off then s else (garnetRestart s).record 0x50D0 0 [(2, 1)] none)

/-! ## Rails and limits (R607, R610) -/

/-- Monitor windows in mV and the step that enables each rail, 0: standby. -/
def railWindows : List (Nat × Nat × Nat) :=
  [(760, 840, 0), (1710, 1890, 0), (1791, 1809, 0), (713, 787, 1), (808, 892, 1), (1140, 1260, 1), (1710, 1890, 1),
   (855, 945, 1), (855, 945, 1), (3135, 3465, 0), (1045, 1155, 2), (380, 420, 2), (1710, 1890, 2), (1045, 1155, 2),
   (380, 420, 2), (1710, 1890, 2), (684, 756, 3), (760, 840, 3), (684, 756, 4), (760, 840, 4), (684, 756, 5),
   (760, 840, 5), (684, 756, 6), (760, 840, 6), (684, 756, 7), (684, 756, 7), (713, 787, 7), (713, 787, 7),
   (45600, 50400, 0), (10800, 13200, 0), (1710, 1890, 3), (1710, 1890, 4)]

/-- A reading of monitor `m` lies outside its window. -/
def railBad (m : Nat) (mv : Int) : Bool :=
  let w := railWindows.getD m (0, 0, 0)
  decide (mv < w.1) || decide ((w.2.1 : Int) < mv)

/-- Shutdown limit of a temperature sensor in 0.1 °C; corners from 256 (R610). -/
def shutdownLimit (n : Nat) : Int :=
  if 24 ≤ n ∧ n ≤ 31 then 1000 else if 32 ≤ n ∧ n ≤ 47 then 1250 else if 48 ≤ n ∧ n ≤ 55 then 900
  else if 58 ≤ n ∧ n ≤ 63 then 1000 else 1100

/-- A reading counts towards a fatal cause: a temperature above its limit, or an enabled rail outside its window in SURVEY or later. -/
def beyondLimit (s : State) (n : Nat) (v : Int) : Bool :=
  if n < 64 ∨ 256 ≤ n then decide (shutdownLimit n < v)
  else if n < 96 then s.squareUp && decide ((railWindows.getD (n - 64) (0, 0, 0)).2.2 ≤ s.power.railsUp) && railBad (n - 64) v
  else false

/-! ## Samples (R495 to R497) -/

def Sensor.empty : Sensor := ⟨none, 0, false, 0⟩
def State.sensor (s : State) (n : Nat) : Sensor := kget Sensor.empty s.garnet.sensors n

/-- A sensor that takes part: its last reading. -/
def State.sensed (s : State) (n : Nat) : Option Int := if (s.sensor n).failed then none else (s.sensor n).reading

/-- One sensor's sample: three implausible ones in a row fail it for good (R496). -/
def sampleSensor (s : State) (e : Nat × Option Int) : State :=
  let x := s.sensor e.1
  let put := fun (y : Sensor) => s.setGarnet fun g => { g with sensors := kset g.sensors e.1 y }
  if x.failed then s
  else match e.2 with
    | some v => put ⟨some v, 0, false, if beyondLimit s e.1 v then x.beyond + 1 else 0⟩
    | none =>
      if x.missed + 1 < 3 then put { x with missed := x.missed + 1, beyond := 0 }
      else (put ⟨none, 3, true, 0⟩).record 0x50D0 5 [] (some (5 * 2 ^ 28 + e.1))

/-- The causes that the samples have just completed (R565, R566). -/
def sampleCauses (s : State) (ns : List Nat) : List (Nat × Nat) :=
  (ns.filter fun n => (s.sensor n).beyond == 3).map fun n =>
    let v := ((s.sensor n).reading.getD 0)
    if 64 ≤ n ∧ n < 96 then (4, (n - 64) * 2 ^ 8 + encInt 16 v * 2 ^ 32) else (5, n + encInt 16 v * 2 ^ 32)

/-- Leak sensors that detect liquid. -/
def leakBits (s : State) : Nat :=
  b2n ((s.sensed 100).any (· != 0)) + 2 * b2n ((s.sensed 101).any (· != 0))

/-- `HEADROOM_W` follows cap and power (R497). -/
def refreshHeadroom (s : State) : State :=
  let w := s.dget 0x3000 3
  s.dset 0x3000 9 (if w = 0xFFFF then 0x7FFF else encInt 16 ((s.dget 0x3000 8 : Int) - w))

/-- The input and coolant entries (R496, R497): averages as measured, and the failed value of each that a failed sensor feeds. -/
def writeMeasures (s : State) (mv ma watts ripple : Nat) : State :=
  let bad := fun n => (s.sensor n).failed
  refreshHeadroom (s.dsets [
    (0x3000, 1, if bad 96 then ones 32 else min mv (ones 32)), (0x3000, 2, if bad 97 then ones 32 else min ma (ones 32)),
    (0x3000, 3, if bad 96 || bad 97 then 0xFFFF else min watts 0xFFFF), (0x3000, 4, if bad 96 then 0xFFFF else min ripple 0xFFFF),
    (0x3000, 5, match s.sensed 98 with
      | some v => encInt 16 v
      | none => 0x7FFF),
    (0x3000, 6, if bad 99 then ones 32 else ((s.sensor 99).reading.getD 0).toNat)])

/-- `LEAK` becomes 1 (R500): the detail holds the sensors. -/
def leakRises (s : State) (bitsSet : Nat) : State := enterFaulted (s.dset 0x3000 7 1) 3 (bitsSet % 4)

/-- SENSOR_SAMPLE (R495): `readings` by sensor number (temperatures in 0.1 °C, monitors in mV, `none`: implausible or no answer), the input's
10 ms averages and 1 ms ripple, and the corners' temperatures in °C. -/
def execSensorSample (readings : List (Nat × Option Int)) (mv ma watts ripple : Nat) (corners : List (Nat × Nat)) (s : State) :
    Host.Outcome State Fault Refusal :=
  if s.power.state = .off then .next s
  else
    let warm := corners.filter fun c => decide (c.1 < 272) && s.squareUp
    let all := (readings.filter fun e => decide (e.1 < 102)) ++ warm.map fun c => (256 + c.1, some ((10 * c.2 : Nat) : Int))
    let t := all.foldl sampleSensor s
    let u := writeMeasures (t.setGarnet fun g => { g with corners := warm.foldl (fun m c => kset m c.1 c.2) g.corners }) mv ma watts ripple
    let leak := leakBits u
    let rise := leak != 0 && u.dget 0x3000 7 == 0
    let v := u.dset 0x3000 7 (b2n (leak != 0))
    .next (enterFaultedAll v ((if rise then [(3, leak)] else []) ++ sampleCauses v (all.map (·.1))))

/-- The leak sensors of `sensors` that have not failed (R496). -/
def soundLeaks (s : State) (sensors : Nat) : Nat :=
  b2n (sensors.testBit 0 && !(s.sensor 100).failed) + 2 * b2n (sensors.testBit 1 && !(s.sensor 101).failed)

/-- LEAK (R500): a leak sensor detects liquid. -/
def execLeak (sensors : Nat) (s : State) : Host.Outcome State Fault Refusal :=
  let leaks := soundLeaks s sensors
  .next (if s.power.state = .off ∨ leaks = 0 ∨ s.dget 0x3000 7 = 1 then s else leakRises s leaks)

/-! ## The power budget (R499) and warnings (R602) -/

/-- Watts of a power class (R517). -/
def classCap (k : Nat) : Nat := if k = 0 then 1000 else if k = 1 then 1300 else if k = 2 then 1600 else 1800

/-- Whole °C by which the inlet exceeds `INLET_DERATE_C`. -/
def inletExcess (s : State) : Nat :=
  let d := s.dget 0x2070 2
  match s.sensed 98 with
  | some v => if d = 0 then 0 else (v - 10 * d).toNat / 10
  | none => 0

/-- The flow lies below the minimum of R609. -/
def lowFlow (s : State) : Bool := (s.sensed 99).any fun v => decide (v < 1500)

/-- `EFFECTIVE_CAP_W` (R499). -/
def effectiveCap (s : State) : Nat :=
  let c := classCap (s.dget 0x2070 1)
  let floor := 60 * c / 100
  if lowFlow s then floor else max floor (c - 20 * inletExcess s)

/-- CAP_EVALUATION (R499). -/
def execCapEvaluation (s : State) : Host.Outcome State Fault Refusal :=
  .next (if s.power.state = .off then s else refreshHeadroom (s.dset 0x3000 8 (effectiveCap s)))

/-- SUPPLY_WARNING_LOG (R602): at each minute, one entry for each condition that holds. -/
def execSupplyWarningLog (s : State) : Host.Outcome State Fault Refusal :=
  let mv := s.dget 0x3000 1
  let rip := s.dget 0x3000 4
  let t := if mv ≠ ones 32 ∧ 420000 < mv then s.logOpen 0x3000 1 2 else s
  .next (if s.power.state = .off then s else if rip ≠ 0xFFFF ∧ 8000 < rip then t.logOpen 0x3000 4 2 else t)

/-! ## Logs and flash (R501, R502, R521) -/

/-- LOG_WINDOW (R502). -/
def execLogWindow (s : State) : Host.Outcome State Fault Refusal :=
  let n := s.garnet.logDropped
  let t := s.setGarnet fun g => { g with logWindow := 0, logDropped := 0 }
  .next (if s.power.state = .off then s else if n = 0 then t else t.log 0x50D0 1 2 n 0)

/-- Entries of the RAM log that the flash log does not hold yet. -/
def uncopied (g : Garnet) : List LogEntry := match g.flashLog with
  | [] => g.ramLog
  | e :: _ => g.ramLog.takeWhile (·.sequence != e.sequence)

/-- RECORD_COPY_TO_FLASH (R274, R501, R521). -/
def execRecordCopyToFlash (s : State) : Host.Outcome State Fault Refusal :=
  let kept := keepCells s.garnet.flash (· == .flash)
  let records := keepCells s.dict (· == .record)
  .next (if s.power.state = .off then s else s.setGarnet fun g => { g with
    flash := records.foldl (fun m e => kset m e.1 e.2) kept
    flashHealth := s.zoning.health, flashRemap := s.zoning.remap
    flashLog := (uncopied g ++ g.flashLog).take 524288 })

/-! ## Images (R513) -/

/-- Largest image, header included. -/
def imageLimit : Nat := 67108864

/-- The field of `n` bytes at byte `lo` of an image. -/
def imageField (bs : List Byte) (lo n : Nat) : Nat := ofLe ((bs.drop lo).take n)

/-- Whether an image is valid under R513: 0, or the `FW_STATUS` reason, in the order of R513's list; an image of the wrong magic or
length reads as a digest failure. -/
def imageReason (s : State) (bs : List Byte) : Nat :=
  if imageLimit < bs.length ∨ imageLimit < 512 + imageField bs 12 4 then 11
  else if imageField bs 0 4 ≠ 0x574E5247 ∨ bs.length ≠ 512 + imageField bs 12 4 then 8
  else if Config.sha384 (bs.drop 512) ≠ imageField bs 16 48 then 8
  else
    let key := imageField bs 64 48
    if key ≠ Config.fusedKey false ∧ key ≠ Config.fusedKey true then 9
    else if Config.ecdsaValid key (Config.sha384 (bs.take 112)) (imageField bs 112 96) = false then 9
    else if imageField bs 8 4 < s.garnet.security then 10 else 0

/-! ## Firmware update (R514 to R516) -/

def fwStatus (s : State) : Nat := s.dget 0x7F00 6

/-- A change of `FW_STATUS` is logged and posted (R501, R511). -/
def setFwStatus (s : State) (v : Nat) : State :=
  if fwStatus s = v then s else garnetNotice ((s.dset 0x7F00 6 v).logOpen 0x7F00 6 0) 4 v

/-- The slot an update writes: the one that is not committed. -/
def updateSlot (g : Garnet) : FwSlot := if g.committed then g.slotA else g.slotB
def setUpdateSlot (g : Garnet) (x : FwSlot) : Garnet := if g.committed then { g with slotA := x } else { g with slotB := x }

/-- Bytes join the image at `FW_OFFSET`. -/
def appendImage (s : State) (bs : List Byte) : Nat × State :=
  let n := s.dget 0x7F00 3
  if imageLimit < n + bs.length then (abortRange, s)
  else
    let t := s.setGarnet fun g => setUpdateSlot g { updateSlot g with bytes := (updateSlot g).bytes ++ bs }
    (0, t.dset 0x7F00 3 (n + bs.length))

/-- A failed image or trial is counted (R515). -/
def fwFailed (s : State) (flag : Nat) : State := s.record 0x50D0 flag [(6, 1)] none

/-- `BEGIN`: accepted in `IDLE` and after a failure (DEDUCED from R514's sequence). -/
def fwBegin (s : State) : Nat × State :=
  if fwStatus s = 0 ∨ 8 ≤ fwStatus s then
    (0, setFwStatus ((s.setGarnet fun g => setUpdateSlot g FwSlot.empty).dset 0x7F00 3 0) 1)
  else (abortState, s)

/-- `FETCH` (R514); an unmapped source is counted under R26 and appends nothing. -/
def fwFetch (s : State) : Nat × State :=
  if fwStatus s ≠ 1 then (abortState, s)
  else
    let n := s.dget 0x7F00 5
    if imageLimit < s.dget 0x7F00 3 + n then (abortRange, s)
    else
      let r := deviceRead s 6 0 (s.dget 0x7F00 4) n
      match r.1 with
      | none => (abortRange, r.2)
      | some bs => appendImage r.2 (bs.map (·.1))

/-- `VERIFY` (R513, R515). -/
def fwVerify (s : State) : Nat × State :=
  if fwStatus s ≠ 1 then (abortState, s)
  else
    let bs := (updateSlot s.garnet).bytes
    let k := imageReason s bs
    if k = 0 then
      let x : FwSlot := ⟨imageField bs 4 4, imageField bs 8 4, Config.sha384 bs, true, bs⟩
      (0, setFwStatus (s.setGarnet fun g => setUpdateSlot g x) 2)
    else (0, fwFailed (setFwStatus s k) 4)

/-- `ACTIVATE`: the verified slot runs on trial. -/
def fwActivate (s : State) : Nat × State :=
  if fwStatus s = 2 then
    (0, garnetRestart (setFwStatus (s.setGarnet fun g => { g with trial := true, running := !g.committed }) 3))
  else (abortState, s)

/-- `COMMIT`: the stored security version never falls. -/
def fwCommit (s : State) : Nat × State :=
  if fwStatus s = 3 then
    (0, setFwStatus (s.setGarnet fun g => { g with
      trial := false, committed := g.running, security := max g.security (updateSlot g).security }) 0)
  else (abortState, s)

/-- A trial ends without `COMMIT`: the committed slot runs again. -/
def endTrial (s : State) : State :=
  if s.garnet.trial then garnetRestart (s.setGarnet fun g => { g with trial := false, running := g.committed }) else s

/-- `ABORT` (R514). -/
def fwAbort (s : State) : Nat × State :=
  if fwStatus s = 0 then (abortState, s)
  else (0, setFwStatus ((endTrial s).setGarnet fun g => setUpdateSlot g { updateSlot g with valid := false, version := 0 }) 0)

/-- `FW_COMMAND` (R516). -/
def fwCommand (v : Nat) (s : State) : Nat × State :=
  match v with
  | 1 => fwBegin s
  | 2 => fwFetch s
  | 3 => fwVerify s
  | 4 => fwActivate s
  | 5 => fwCommit s
  | 6 => fwAbort s
  | _ => (0, s)

/-- `FW_DATA`. -/
def fwData (bs : List Byte) (s : State) : Nat × State :=
  if bs.isEmpty then (0, s) else if fwStatus s ≠ 1 then (abortState, s) else appendImage s bs

/-- A flash write failed (R504): the previous value stays. -/
def flashFailed (s : State) : Nat × State := (abortFlash, s.flag 0x50D0 6)

/-- BEGIN (R514). -/
def execBeginUpdate (r : Requester) (s : State) : Host.Outcome State Fault Refusal := .next (guardedWrite s r 0x7F00 1 1 1 (fwCommand 1))

/-- FW_DATA (R516); `written`: the bytes reached flash. -/
def execFwData (r : Requester) (bytes : List Byte) (written : Bool) (s : State) : Host.Outcome State Fault Refusal :=
  .next (guardedWrite s r 0x7F00 2 bytes.length 0 fun t => if written then fwData bytes t else flashFailed t)

/-- FW_FETCH (R514). -/
def execFwFetch (r : Requester) (s : State) : Host.Outcome State Fault Refusal := .next (guardedWrite s r 0x7F00 1 1 2 (fwCommand 2))

/-- VERIFY (R513, R515). -/
def execVerifyImage (r : Requester) (s : State) : Host.Outcome State Fault Refusal := .next (guardedWrite s r 0x7F00 1 1 3 (fwCommand 3))

/-- ACTIVATE (R514). -/
def execActivateSlot (r : Requester) (s : State) : Host.Outcome State Fault Refusal := .next (guardedWrite s r 0x7F00 1 1 4 (fwCommand 4))

/-- COMMIT (R514). -/
def execCommitTrial (r : Requester) (s : State) : Host.Outcome State Fault Refusal := .next (guardedWrite s r 0x7F00 1 1 5 (fwCommand 5))

/-- ABORT (R514). -/
def execAbortUpdate (r : Requester) (s : State) : Host.Outcome State Fault Refusal := .next (guardedWrite s r 0x7F00 1 1 6 (fwCommand 6))

/-- TRIAL_TIMEOUT (R515). -/
def execTrialTimeout (s : State) : Host.Outcome State Fault Refusal :=
  .next (if s.power.state ≠ .off ∧ s.garnet.trial then fwFailed (setFwStatus (endTrial s) 12) 3 else s)

/-! ## Lease commands (R509, R510) -/

/-- A read of `LEASE_ACQUIRE`. -/
def leaseAcquire (r : Requester) (s : State) : Nat × State :=
  let h := s.dget 0x2060 4
  if holdsLease s r then (0, s)
  else if h = 0 then
    let t := (s.dset 0x2060 4 (holderCode r)).dset 0x2060 5 (if r.path = 2 then r.addr else 0)
    (0, (t.setGarnet fun g => { g with leasePort := if r.path = 2 then r.port else 0 }).logOpen 0x2060 4 0)
  else (h, s)

/-- A read of `LEASE_RELEASE`. -/
def leaseRelease (r : Requester) (s : State) : Nat × State :=
  if s.dget 0x2060 4 = 0 then (0, s)
  else if holdsLease s r then (0, freeLease s) else (s.dget 0x2060 4, s)

/-- A read that answers a value. -/
def answered (r : Requester) (s : State) (act : State → Nat × State) : State :=
  if s.power.state = .off then s
  else
    let e := act s
    e.2.reply r 0 e.1

/-- LEASE_ACQUIRE (R509). -/
def execLeaseAcquire (r : Requester) (s : State) : Host.Outcome State Fault Refusal := .next (answered r s (leaseAcquire r))

/-- LEASE_RELEASE (R509). -/
def execLeaseRelease (r : Requester) (s : State) : Host.Outcome State Fault Refusal := .next (answered r s (leaseRelease r))

/-- LEASE_EXPIRY (R510): the holder has been idle, or its path is down. -/
def execLeaseExpiry (s : State) : Host.Outcome State Fault Refusal := .next (if s.power.state = .off then s else endLease s)

/-! ## Defaults (R528) -/

/-- RESTORE_ALL_DEFAULTS (R528). -/
def execRestoreAllDefaults (r : Requester) (s : State) : Host.Outcome State Fault Refusal :=
  .next (guardedWrite s r 0x1011 1 4 0x64616F6C fun t => (0, t.setPower fun p => { p with restoreMark := true }))

end Sys2Proof.Machine
end

