-- ==== Sys2Proof/Machine/Power.lean ====
section
/-! DEFINITION. Supplies, straps, the slab power sequence, SURVEY, boot from PCIe and the module's resets (spec/01_architecture.md R36 to
R44; spec/17_bringup.md R541 to R562; spec/18_faults.md R565 to R569; spec/19_identity.md R597; spec/20_electrical.md R599 to R604). -/

namespace Sys2Proof.Machine

/-! ## Entry into STANDBY and OFF (R521, R562) -/

/-- What a port keeps while the Square is unpowered: what stands in its cage. -/
def Port.unpowered (x : Port) : Port :=
  { Port.empty with present := x.present, usable := x.usable, overBudget := x.overBudget, media := x.media, phy := x.phy, declared := x.declared }

/-- Entries that survive entry into STANDBY: F, R and X, and what Garnet measures itself; after 0x1011 no entry of persistence F (R528). -/
def standbyCells (s : State) : List (Nat × Nat) :=
  s.dict.filter fun e =>
    let p := keyPersist e.1
    p == .record || p == .fixed || (p == .flash && !s.power.restoreMark) || e.1 / 256 == 0x3000
      || (0x3040 ≤ e.1 / 256 && e.1 / 256 ≤ 0x3047 && (e.1 % 256 == 6 || e.1 % 256 == 0xD))

/-- Everything outside Garnet loses its contents: slabs, Square and Bedrock (R562). The stream stops as at entry into FAULTED (R552), so
evacuations that have not switched are counted as there (R298; assumption 65). -/
def squareLost (s : State) : State :=
  let a := loseBlocks (s.zoning.evac.foldl (abandonEvac 1) s) fun _ => true
  { a with
    mail := { a.mail.cleared with asleep := [1, 2, 3, 4].foldl sinsert a.mail.asleep }
    quartz := Quartz.reset
    net := { Net.reset with ports := a.net.ports.map fun e => (e.1, e.2.unpowered) }
    zoning := { a.zoning with evac := [], suspects := [] }
    blocks := [], plaza := [], contexts := [], cairn := [], parked := [], tenancy := Tenancy.empty, sets := []
    staging := [], sampled := []
    mem := [], poison := [] }

/-- `FAULT_BEAT` and the records before stay; the Garnet side of entry into STANDBY (R510, R517, R528). -/
def standbyGarnet (s : State) : State :=
  let g := s.garnet
  let keep := fun (e : Nat × Nat) => keyPersist e.1 != .flash
  s.setGarnet fun _ => { g with
    flash := if s.power.restoreMark then g.flash.filter keep else g.flash
    windows := [], corners := [], sensors := g.sensors.map fun e => (e.1, { e.2 with beyond := 0 })
    canNode := s.dget 0x2062 1 }

/-- Entry into STANDBY. -/
def enterStandby (s : State) : State :=
  let was := s.modState
  let a := endLease (squareLost { s with power := { s.power with state := .standby } })
  let b : State := { a with dict := standbyCells a }
  let d := standbyGarnet b
  noteState was { d with power := { d.power with
    request := none, followUp := false, railsUp := 0, microDone := false, healthDone := false, blocksDone := false
    microDigest := 0, bootLength := 0, bootStatus := 0, pcieUp := false, restoreMark := false } }

/-- OFF: only flash keeps anything (R521, R562). -/
def enterOff (s : State) : State :=
  let a := squareLost { s with power := { s.power with state := .off } }
  let g := a.garnet
  { a with
    dict := []
    power := { Power.reset with
      state := .off, straps := s.power.straps, presence := s.power.presence, bus400 := 0, bus12 := 0, switchOn := false,
      powerGood := false, restoreMark := s.power.restoreMark }
    garnet := { g with
      usdo := [], partials := [], kept := [], windows := [], leasePort := 0, sensors := [], corners := [], ramLog := []
      logNewest := (g.flashLog.head?.map (·.sequence)).getD 0
      logWindow := 0, logDropped := 0, nmt := 127, spdmSecond := 0, spdmCount := 0 } }

/-! ## Supplies (R43, R600, R604) -/

def supply400 (mv : Nat) : Bool := decide (360000 ≤ mv) && decide (mv ≤ 420000)
def supply12 (mv : Nat) : Bool := decide (10800 ≤ mv) && decide (mv ≤ 13200)

/-- PRESENCE_ASSERT (R600): the 12 V path is enabled, and the input switch closes after 100 ms from 360 V to 420 V. -/
def execPresenceAssert (bus400 bus12 : Nat) (s : State) : Host.Outcome State Fault Refusal :=
  .next (s.setPower fun p => { p with presence := true, bus400 := bus400, bus12 := bus12, switchOn := p.switchOn || supply400 bus400 })

/-- While the input switch is open, voltage and current behind it read 0 (R600). -/
def switchOpen (s : State) : State :=
  (s.setPower fun p => { p with switchOn := false }).dsets [(0x3000, 1, 0), (0x3000, 2, 0)]

/-- PRESENCE_DEASSERT (R600, R604). -/
def execPresenceDeassert (s : State) : Host.Outcome State Fault Refusal :=
  .next (if s.power.presence then
    let t := s.setPower fun p => { p with presence := false }
    if s.power.state = .off then t.setPower fun p => { p with switchOn := false } else switchOpen t
  else s)

/-- INPUT_SWITCH_TRIP (R600): `cause` 0 overvoltage, 1 fast current, 2 sustained current, changes nothing in what follows. -/
def execInputSwitchTrip (_cause : Nat) (s : State) : Host.Outcome State Fault Refusal :=
  .next (if s.power.switchOn = false then s
    else if s.power.state = .off then s.setPower fun p => { p with switchOn := false } else switchOpen s)

/-- INPUT_SWITCH_CLOSE (R600). -/
def execInputSwitchClose (bus400 : Nat) (s : State) : Host.Outcome State Fault Refusal :=
  .next (if s.power.presence && !s.power.switchOn && supply400 bus400 then
    s.setPower fun p => { p with switchOn := true, bus400 := bus400 } else s)

/-- SUPPLY_LOSS (R43): both supplies are absent. -/
def execSupplyLoss (s : State) : Host.Outcome State Fault Refusal := .next (if s.power.state = .off then s else enterOff s)

/-- INPUT_UNDERVOLTAGE (R43, R568): `lowest` is the lowest `INPUT_MV` sampled; STANDBY is unchanged. -/
def execInputUndervoltage (lowest : Nat) (s : State) : Host.Outcome State Fault Refusal :=
  .next (if s.squareUp && decide (lowest < 360000) then
    enterStandby ((enterFaulted s 1 lowest).setPower fun p => { p with surveyBarred := true, fromDown := false })
  else s)

/-! ## From power to STANDBY (R541 to R546, R597) -/

/-- Mean of a pin's samples in mV. -/
def pinMean (l : List Nat) : Nat := l.sum / l.length

/-- The code of a mean pin voltage (R544). -/
def strapCode (mv : Nat) : Nat := ([113, 337, 558, 773, 979, 1182, 1542].filter fun e => decide (e ≤ mv)).length

/-- `STRAP_SNAPSHOT` of the six pins' samples (R543). -/
def strapSnapshot (samples : List (List Nat)) : Nat :=
  (List.range 6).foldl (fun v i => v + strapCode (pinMean (samples.getD i [])) * 2 ^ (3 * i)) 0

/-- A pin is unstable when a sample differs from the mean by more than 50 mV (R545). -/
def pinUnstable (l : List Nat) : Bool := l.any fun x => decide (pinMean l + 50 < x) || decide (x + 50 < pinMean l)

/-- One log entry per unstable pin (R545). -/
def logStraps (s : State) (samples : List (List Nat)) : State :=
  (List.range 6).foldl (fun t i =>
    if pinUnstable (samples.getD i []) then t.log 0x2001 i 2 (pinMean (samples.getD i [])) 0 else t) s

/-- What the persistent region of flash gives back (R275, R521, R542, R597); a region that fails its HMAC gives nothing, which is logged. -/
def restoreFlash (s : State) (regionOk : Bool) : State :=
  if regionOk then
    { s with
      dict := s.garnet.flash.filter fun e => !(s.power.restoreMark && keyPersist e.1 == .flash)
      zoning := { Zoning.reset with
        health := s.garnet.flashHealth
        remap := s.garnet.flashRemap } }
  else
    let t : State := { s with
      dict := [], zoning := Zoning.reset
      garnet := { s.garnet with flash := [], seenPeers := [], flashHealth := [], flashRemap := [] } }
    t.logOpen 0x3061 0 2

/-- The slot the boot ROM starts (R515, R542): the trial slot while a trial is pending, else the committed one; the other where that fails.
`none`: neither is valid. -/
def bootSlot (g : Garnet) (committedOk otherOk : Bool) : Option Bool :=
  if g.trial && otherOk && (updateSlot g).valid then some !g.committed
  else if committedOk then some g.committed
  else if otherOk && (updateSlot g).valid then some !g.committed else none

/-- The first slot tried was not the one that started (R515, R542). -/
def bootedOther (s : State) (slot : Bool) : State :=
  let g := s.garnet
  let t := s.setGarnet fun g => { g with running := slot }
  if g.trial ∧ slot = g.committed then fwFailed (t.setGarnet fun g => { g with trial := false }) 3
  else if !g.trial ∧ slot ≠ g.committed then t.logOpen 0x7F00 0 2 else t

/-- POWER_GOOD (R541 to R546): 16 samples in mV of each strap pin; whether the committed and the other slot pass the boot ROM's check, and
whether the persistent region's HMAC holds. With no valid slot the boot ROM stops. -/
def execPowerGood (samples : List (List Nat)) (committedOk otherOk regionOk : Bool) (s : State) : Host.Outcome State Fault Refusal :=
  if s.power.state ≠ .off ∨ s.power.powerGood ∨ !(s.power.presence && (s.power.switchOn || supply12 s.power.bus12)) then .next s
  else
    let a := s.setPower fun p => { p with straps := strapSnapshot samples, powerGood := true }
    match bootSlot s.garnet committedOk otherOk with
    | none => .next a
    | some slot =>
      let b := (List.range 8).foldl declareCage (restoreFlash a regionOk)
      let d := logStraps (bootedOther (b.setPower fun p => { p with state := .standby, surveyBarred := false, fromDown := false }) slot) samples
      .next ((noteState .off (standbyGarnet d)).setPower (fun p => { p with restoreMark := false }) |>.emit (.can 2 0))

/-! ## The slab power sequence (R547 to R551) -/

/-- The input and the coolant allow `POWER_UP` (R547). -/
def powerReady (s : State) : Bool := supply400 (s.dget 0x3000 1) && s.dget 0x3000 7 == 0

/-- The first window check that fails: step, monitor (0xFF: the score PLL) and reading (R549). -/
def failedCheck (k : RailCheck) : Option (Nat × Nat × Nat) :=
  let bad := (List.range 32).filter fun m => (railWindows.getD m (0, 0, 0)).2.2 != 0 && railBad m (k.monitors.getD m 0)
  match ((List.range 8).findSome? fun i => bad.find? fun m => (railWindows.getD m (0, 0, 0)).2.2 == i) with
  | some m => some ((railWindows.getD m (0, 0, 0)).2.2, m, k.monitors.getD m 0)
  | none => if k.pllLocked then none else some (8, 0xFF, 0)

/-- `FAULT_DETAIL` of a failed check (R566). -/
def checkDetail (f : Nat × Nat × Nat) : Nat := f.1 + f.2.1 * 2 ^ 8 + f.2.2 % 2 ^ 16 * 2 ^ 32

/-- `AUTO_SURVEY` makes no further request (R551). -/
def barSurvey (s : State) : State := s.setPower fun p => { p with surveyBarred := true }

/-- A failure up to step 1's check: recorded, and the module stays in STANDBY (R549, R550). -/
def stayStandby (s : State) (cause detail : Nat) : State := endRequest (writeFault (barSurvey s) cause detail) 5

/-- The health map and the remap tables as Garnet keeps them serve the banks again; a copy that power cut short is `IN_USE` and poisoned
(R94, R97, R274). -/
def restoreMap (s : State) : State := finishCopies s fun _ => true

/-- Entry into SURVEY (R553, R559). -/
def enterSurvey (s : State) : State :=
  let was := s.modState
  let t := restoreMap (lockBinding ((endRequest s 1).dset 0x4070 4 0))
  noteState was { t with power := { t.power with
    state := .survey, railsUp := 8, microDone := false, healthDone := true, blocksDone := false, microDigest := 0
    bootLength := 0, bootStatus := if t.dget 0x2020 0 = 1 then 0 else 8, fromDown := false } }

/-- A leak or an undervoltage stops the sequence; a failed check ends it (R549, R550). -/
def sequenceFails (s : State) (f : Nat × Nat × Nat) : State :=
  if f.1 = 1 then stayStandby s 2 (checkDetail f)
  else (enterFaulted (barSurvey s) 2 (checkDetail f)).setPower fun p => { p with railsUp := 1 }

/-- What an event of R550 makes of the running sequence. -/
def sequenceEvent (s : State) (k : RailCheck) : State :=
  match k.event with
  | 1 => setTransition (enterStandby (barSurvey s)) 1
  | 2 => stayStandby s 1 k.arg
  | 3 => enterStandby (enterFaulted (barSurvey s) 1 k.arg)
  | _ => (leakRises (barSurvey s) k.arg).setPower fun p => { p with railsUp := k.step }

/-- `POWER_UP` from its acceptance (R548). -/
def powerSequence (s : State) (k : RailCheck) : State :=
  let t := (pendRequest s ⟨1, 0, 0⟩).setPower fun p => { p with surveyBarred := false }
  match failedCheck k with
  | some f => if k.event ≠ 0 ∧ k.step ≤ f.1 then sequenceEvent t k else sequenceFails t f
  | none => if k.event = 0 then enterSurvey t else sequenceEvent t k

/-- A state request as the effect of its write (R36 to R38): refused while another is pending, but for `RESET`, and where the state does not allow it. -/
def acceptRequest (s : State) (code : Nat) (ok : Bool) (effect : State → State) : Nat × State :=
  if (code != 8 && s.power.request.isSome) || !ok then (abortState, s) else (0, effect (s.dset 0x4000 2 code))

/-- `POWER_UP` as a dictionary write. -/
def acceptPowerUp (k : RailCheck) (s : State) : Nat × State :=
  acceptRequest s 1 (s.modState == .standby && powerReady s) fun t => powerSequence t k

def requestPowerUp (s : State) (r : Requester) (k : RailCheck) : State := guardedWrite s r 0x4000 2 1 1 (acceptPowerUp k)

/-- POWER_UP (R547, R548). -/
def execPowerUp (r : Requester) (check : RailCheck) (s : State) : Host.Outcome State Fault Refusal := .next (requestPowerUp s r check)

/-- AUTO_SURVEY (R44, R547, R551): the conditions have held for 100 ms. -/
def execAutoSurvey (check : RailCheck) (s : State) : Host.Outcome State Fault Refusal :=
  .next (if s.modState == .standby && s.dget 0x2010 0 == 1 && !s.power.fromDown && !s.power.surveyBarred && powerReady s
      && s.power.request.isNone then powerSequence s check else s)

/-! ## SURVEY (R553 to R557) -/

def inSurvey (s : State) : Bool := s.power.state == .survey

/-- The committed slot, whose microcode the engines take (R514). -/
def committedSlot (g : Garnet) : FwSlot := if g.committed then g.slotB else g.slotA

/-- MICROCODE_LOADED (R554, R560): from the committed slot, or the accepted PCIe image; port bring-up starts. -/
def execMicrocodeLoaded (s : State) : Host.Outcome State Fault Refusal :=
  .next (if inSurvey s && !s.power.microDone && decide (2 ≤ s.power.bootStatus) then
    startPorts (s.setPower fun p => { p with
      microDone := true, microDigest := if p.bootStatus = 2 then p.microDigest else (committedSlot s.garnet).digest })
  else s)

/-- The blocks that the check treats (R555). -/
def treatedBlocks (s : State) : List Nat := (List.range 1088).filter fun p => decide (healthOf s p ≤ 1)

/-- A block whose rails leave their window is set `FAILED` and logged (R555). -/
def checkFails (s : State) (p : Nat) : State := if healthOf s p ≤ 1 then (worsen s p 2).log 0x7030 2 2 p 0 else s

/-- BLOCK_CHECK (R555): `bad` blocks leave their windows; `touch` holds the errors that the reads met. -/
def execBlockCheck (bad : List Nat) (touch : Touch) (s : State) : Host.Outcome State Fault Refusal :=
  .next (if inSurvey s && s.power.microDone && s.power.healthDone && !s.power.blocksDone then
    let t := bad.foldl checkFails (loseBlocks s fun _ => true)
    let fine := touch.errors.filter fun e => e.place == 0 && (treatedBlocks t).contains e.block
    (senseAll 7 t fine).setPower fun p => { p with blocksDone := true }
  else s)

/-- A port is settled (R556). -/
def portSettled (s : State) (p : Nat) : Bool :=
  [portNoModule, portDisabled, portOverBudget, portActive, portSwitched, portQuarantined, portIncompatible].contains (portState s p)
    || (s.port p).timedOut

/-- Every item that is waited for is done. -/
def surveyComplete (s : State) : Bool :=
  s.power.microDone && s.power.healthDone && s.power.blocksDone && (List.range 8).all (portSettled s)

/-- SURVEY_DONE (R556): `limit`: 6 s have passed. -/
def execSurveyDone (limit : Bool) (s : State) : Host.Outcome State Fault Refusal :=
  .next (if inSurvey s && (limit || surveyComplete s) then
    noteState .survey (latchReserves (s.setPower fun p => { p with state := .up }))
  else s)

/-! ## Boot from PCIe (R558 to R561) -/

/-- `BOOT_STATUS` of a submitted image: 2 `ACCEPTED`, else the reason (R559, R560). -/
def bootOutcome (s : State) (bs : List Byte) : Nat :=
  let k := imageReason s bs
  if k = 0 then 2 else if k = 8 then 3 else if k = 9 then 4 else if k = 10 then 5 else 6

/-- A rejected or missing image: the committed slot's microcode is loaded (R560). -/
def bootRejected (s : State) (v : Nat) : State := (s.setPower fun p => { p with bootStatus := v }).logOpen 0x2020 0 2

/-- A submit of the boot image. -/
def submitImage (s : State) : State :=
  let n := s.power.bootLength
  if !inSurvey s || !s.power.pcieUp || s.dget 0x2020 0 != 1 || s.power.bootStatus != 0 then s
    else if n = 0 ∨ 67108864 < n then bootRejected s 6
    else
      let bs := memRead s.mem squareBase n
      let v := bootOutcome s bs
      if v = 2 then s.setPower fun p => { p with bootStatus := 2, microDigest := Config.sha384 bs } else bootRejected s v

/-- BOOT_SUBMIT (R559, R560). -/
def execBootSubmit (s : State) : Host.Outcome State Fault Refusal := .next (submitImage s)

/-- BOOT_IMAGE_TIMEOUT (R560). -/
def execBootImageTimeout (s : State) : Host.Outcome State Fault Refusal :=
  .next (if inSurvey s && s.power.bootStatus == 0 then bootRejected s 7 else s)

/-- PCIE_LINK_UP (R561): the endpoint is powered from SURVEY onwards. -/
def execPcieLinkUp (s : State) : Host.Outcome State Fault Refusal :=
  .next (if s.squareUp then s.setPower fun p => { p with pcieUp := true } else s)

/-! ## Down and reset (R38, R44, R552, R562) -/

/-- `RESET` completes in STANDBY. -/
def resetModule (s : State) : State :=
  setTransition (enterStandby (s.setPower fun p => { p with fromDown := false })) 1

def acceptReset (s : State) : Nat × State := acceptRequest s 8 true resetModule

def requestReset (s : State) (r : Requester) : State := guardedWrite s r 0x4000 2 1 8 acceptReset

/-- `POWER_DOWN` completes in STANDBY. -/
def powerDown (s : State) : State := setTransition ((enterStandby s).setPower fun p => { p with fromDown := true }) 1

def acceptPowerDown (s : State) : Nat × State := acceptRequest s 7 (s.modState == .ready) powerDown

def requestPowerDown (s : State) (r : Requester) : State := guardedWrite s r 0x4000 2 1 7 acceptPowerDown

/-- POWER_DOWN (R44, R552). -/
def execPowerDown (r : Requester) (s : State) : Host.Outcome State Fault Refusal := .next (requestPowerDown s r)

/-- RESET (R38, R42, R562). -/
def execResetRequest (r : Requester) (s : State) : Host.Outcome State Fault Refusal := .next (requestReset s r)

/-! ## Fatal faults (R565 to R569) -/

/-- Cause 10 sets its block `FAILED` (R565, R276). -/
def failBlocks (s : State) (causes : List (Nat × Nat)) : State :=
  causes.foldl (fun t c => if c.1 = 10 ∧ c.2 % 2048 < 1088 then worsen t (c.2 % 2048) 2 else t) s

/-- FATAL_FAULT (R565, R567, R568): causes and details detected in one tick; cause 1 leads on to STANDBY (R43). -/
def execFatalFault (causes : List (Nat × Nat)) (s : State) : Host.Outcome State Fault Refusal :=
  let l := causes.filter fun c => decide (1 ≤ c.1) && decide (c.1 ≤ 13)
  if !s.squareUp || l.isEmpty then .next s
  else
    let t := failBlocks (enterFaultedAll s l) l
    .next (if l.any (·.1 == 1) then enterStandby (barSurvey t) else t)

/-- FAULT_FOLLOWUP_RESET (R565). -/
def execFaultFollowupReset (s : State) : Host.Outcome State Fault Refusal :=
  .next (if s.power.state = .faulted ∧ s.power.followUp then resetModule s else s)

/-- FAULT_CAUSE_CLEAR (R569). -/
def execFaultCauseClear (r : Requester) (s : State) : Host.Outcome State Fault Refusal :=
  .next (guardedWrite s r 0x5000 1 4 0 fun t => (0, t.dset 0x5000 1 0))

end Sys2Proof.Machine
end

