-- ==== Sys2Proof/Machine/Tenancy.lean ====
section
/-! DEFINITION. `LOAD` to `UNLOAD`, tenant requests, stops, saves and reloads, the scheduler and the deadline monitor
(spec/01_architecture.md R36 to R42; spec/04_stream_model.md R129 to R151; spec/08_zoning.md R286; spec/13_tenancy.md R447 to
R473). -/

namespace Sys2Proof.Machine

/-- The home partition, and the context, of a tenant (R447). -/
def homeOfTenant (s : State) (t : Nat) : Nat := s.dget (0x6070 + t) 1

/-- `TENANT_FLAGS` as held: `STOP_CLASS` [7:4] and `HOST_PARKED` [0] (R450). -/
def tenantFlags (s : State) (t : Nat) : Nat := s.dget (0x6070 + t) 6
def stopClass (s : State) (t : Nat) : Nat := bits (tenantFlags s t) 4 4
def setHostParked (s : State) (t : Nat) (b : Bool) : State := s.dset (0x6070 + t) 6 (putBits (tenantFlags s t) 0 1 (b2n b))

/-- A field of a counter word raised by one; it stops at its largest value (R465). -/
def countField (v lo w : Nat) : Nat := putBits v lo w (min (bits v lo w + 1) (ones w))

/-- `ACCOUNT_WORD` counts in a mode (R465). -/
def account (s : State) (t mode lo w : Nat) : State :=
  if s.dget 0x6050 2 = mode then s.dset (0x6070 + t) 0x11 (countField (s.dget (0x6070 + t) 0x11) lo w) else s

def setTenancy (s : State) (f : Tenancy → Tenancy) : State := { s with tenancy := f s.tenancy }

/-! ## LOAD (R36, R129, R134, R286) -/

/-- The `n` bytes at `src` stand at `dst` as well; what stood there is gone. -/
def copyBytes (s : State) (src n dst : Nat) : State :=
  let t := eraseBytes s dst n
  let cells := s.mem.filter fun e => decide (src ≤ e.1) && decide (e.1 < src + n)
  { t with mem := cells.foldl (fun m e => memPut m (e.1 - src + dst) e.2) t.mem }

/-- The load status entries (R286). -/
def loadStatus (s : State) (c : Nat) (r : Refused) : State :=
  s.dsets [(0x7010 + c, 1, r.code), (0x7010 + c, 2, r.bundle), (0x7010 + c, 3, r.overlay), (0x7010 + c, 4, r.slot),
    (0x7010 + c, 5, r.detail), (0x7010 + c, 6, r.shortfall)]

/-- A refused load (R37, R286). -/
def refuseLoad (s : State) (c : Nat) (r : Refused) : State :=
  let t := (loadStatus s c r).dcount 0x5060 5 1
  setTransition (t.log (0x7010 + c) 1 2 (r.code + r.slot * 2 ^ 8 + r.bundle * 2 ^ 16) r.detail) 4

/-- The logical district map of a context (R301). -/
def mapDistricts (s : State) (c : Nat) (x : Ctx) : State := x.districts.foldl (fun t e => t.dset (0x7044 + c) (e.1 + 1) e.2) s

/-- The resident pages enter the store and the overlay pages the overlay reserve (R129, R130). -/
def placeImage (s : State) (c : Nat) (i : Image) : State :=
  let t := clearStore s c
  copyBytes (copyBytes t i.residentAt (pageBytes * i.residents) (bundleAddress t c 0)) i.overlayAt (pageBytes * i.overlays)
    (overlayStart t c)

/-- A program that passed every check is bound: its blocks come `ON` with their registers empty and their base registers as
Zoning writes them, and the tenant is `LOADED` (R36, R124, R282). -/
def bindProgram (s : State) (c t : Nat) (x : Ctx) : State :=
  let was := s
  let a := ((loadStatus (clearProgramCells s c) c (.plain 0)).dset (0x6060 + c) 5 t).dclear 0x7050 4
  let b := mapDistricts (placeImage { a with contexts := kset a.contexts c x } c (imageAt s)) c x
  let d := overBlocks b c fun l _ => { Block.empty with bases := x.loadedBases l }
  let e := ((clearMirror d c).dclear (0x6070 + t) 0xF).dclear (0x6070 + t) 6
  setTransition (settlePower was (setTenantState e t 1)) 1

/-- `LOAD` of a tenant into its home partition. A header in a reserve is an engine's unmapped access (R26) and no header. -/
def loadTenant (s : State) (t : Nat) : State :=
  let c := homeOfTenant s t
  match unmappedByte s c (imageAt s).base 128 with
  | some a => refuseLoad (unmapped s 2 a) c (.plain 1)
  | none => match loadCheck s c t with
    | .error r => refuseLoad s c r
    | .ok x => bindProgram s c t x

/-! ## UNLOAD (R41, R452) -/

/-- Evacuations of blocks that no program binds any more are discarded (R298). -/
def dropUnheld (s : State) : State :=
  let gone := s.zoning.evac.filter fun e => !blockHeld s e.block
  let t := gone.foldl (abandonEvac 3) s
  { t with zoning := { t.zoning with evac := t.zoning.evac.filter fun e => !gone.contains e } }

/-- A resident tenant is unloaded as R41; a parked or stuck one loses its save area and its flows close. -/
def unloadTenant (s : State) (t : Nat) : State :=
  let was := s
  let c := homeOfTenant s t
  let a := setTenancy s fun y => { y with stops := y.stops.filter (·.tenant != t) }
  let b := if s.resident c = some t then (unloadContext (abortSets a c) c 6).dclear (0x6060 + c) 5
    else dropUnheld (closeTenantFlows { a with parked := kerase a.parked t } t 6)
  let d := (b.dclear (0x6070 + t) 6).dclear (0x6070 + t) 0xF
  setTransition (settlePower was (setTenantState d t 0)) 1

/-! ## Accepting a request (R36 to R38, R311, R315, R438, R441, R452) -/

/-- `START` and `RESUME` need beats, and a period that the program bears. -/
def beatsAllow (s : State) (x : Ctx) : Bool :=
  decide (2 ≤ beatStatus s) && decide (beatStatus s ≤ 5) && periodAllows s x.minPeriod

/-- A move to or from the partition is waited for. -/
def moving (s : State) (c : Nat) : Bool := s.tenancy.moves.any fun m => homeOfTenant s m.tenant == c

/-- A request with a beat waits for it, or its beat has passed (R37). -/
def awaitBeat (s : State) (q : Request) (accept : State → State) : Nat × State :=
  if q.beat < s.beat + 2 then (0, setTransition s 3) else (0, accept (pendRequest s q))

/-- `START` (R36, R438, R441). -/
def requestStart (s : State) (t beat : Nat) : Nat × State :=
  let c := homeOfTenant s t
  let y := s.cairnOf c
  if s.tenantState t ≠ 1 ∨ s.resident c ≠ some t ∨ !beatsAllow s (s.ctx c) ∨ y.failed ∨ y.restore.isSome then (abortState, s)
  else if y.restored.any fun r => decide (beat < r.1) then (abortRange, s)
  else awaitBeat s ⟨3, beat, t⟩ fun u => account u t 0 0 64

/-- A request of a tenant: 2 `LOAD`, 3 `START`, 4 `HOLD`, 5 `RESUME`, 6 `UNLOAD`, as R36 codes them; 9 `PREEMPT`, 10 `RELEASE`. The
answer is an abort code, 0 where it is accepted. -/
def requestOf (s : State) (t code beat : Nat) : Nat × State :=
  let c := homeOfTenant s t
  let st := s.tenantState t
  if s.power.request.isSome || s.power.state != .up || !s.configured t then (abortState, s)
  else match code with
    | 2 => if st = 0 ∧ c < s.partitions ∧ s.resident c = none ∧ !moving s c then (0, loadTenant s t) else (abortState, s)
    | 3 => requestStart s t beat
    | 4 => if st = 2 then awaitBeat s ⟨4, beat, t⟩ id else (abortState, s)
    | 5 => if st = 6 ∧ beatsAllow s (s.ctx c) then awaitBeat s ⟨5, beat, t⟩ id else (abortState, s)
    | 6 => if st = 1 ∨ st = 4 ∨ st = 5 ∨ st = 6 then (0, unloadTenant s t) else (abortState, s)
    | 10 => if st = 4 then (0, setTransition (setHostParked s t false) 1) else (abortState, s)
    | _ => (abortState, s)

/-- `LOAD` to `UNLOAD` written to `STATE_REQUEST` act on tenant 0, where it is the only one (R453). -/
def stateOf (s : State) (code beat : Nat) : Nat × State :=
  if s.single then
    let r := requestOf s 0 code beat
    if r.1 = 0 then (0, r.2.dset 0x4000 2 code) else (r.1, s)
  else (abortState, s)

def writeStateRequest (s : State) (r : Requester) (code : Nat) (beat : State → Nat) : State :=
  guardedWrite s r 0x4000 2 1 code fun t => stateOf t code (beat t)

/-- LOAD (R36, R134). -/
def execLoadImage (r : Requester) (s : State) : Host.Outcome State Fault Refusal := .next (writeStateRequest s r 2 fun _ => 0)

/-- START (R36). -/
def execStart (r : Requester) (s : State) : Host.Outcome State Fault Refusal := .next (writeStateRequest s r 3 (·.dget 0x4000 3))

/-- HOLD (R40). -/
def execHold (r : Requester) (s : State) : Host.Outcome State Fault Refusal := .next (writeStateRequest s r 4 (·.dget 0x4000 4))

/-- RESUME (R36, R151). -/
def execResume (r : Requester) (s : State) : Host.Outcome State Fault Refusal := .next (writeStateRequest s r 5 (·.dget 0x4000 3))

/-- UNLOAD (R41). -/
def execUnload (r : Requester) (s : State) : Host.Outcome State Fault Refusal := .next (writeStateRequest s r 6 fun _ => 0)

/-! ## Starting and resuming (R147, R149, R151, R441, R459) -/

/-- A new wait begins with the bundle that issues next. -/
def freshWait (s : State) (c : Nat) : State :=
  (s.dset (0x4030 + c) 2 0).setCtx c fun x => { x with waitBeats := 0, waitTold := false }

/-- The run begins at beat `b`: at `ENTRY_ADDRESS`, or at the restart bundle of a restore. -/
def beginRun (s : State) (t b : Nat) : State :=
  let c := homeOfTenant s t
  let u := match (s.cairnOf c).restored with
    | some r => freshWait (s.dset (0x4030 + c) 5 ((if r.2.1 then r.2.2 else 0) + (b - r.1))) c
    | none => freshWait (clearMirror (newRun s c b) c) c
  let v := u.setCairn c fun y => { y with restored := none, started := true }
  setTenantState (v.dclear (0x6070 + t) 0xF) t 2

/-- One parked flow opens again, and its partner is told from which unit on (R459). -/
def resumeParked (s : State) (f : Nat) : State :=
  let x := s.flow f
  if x.state ≠ flowParked then s
  else resumeFlow (if x.rdma then s else sendControl s f 5 0 x.done) f x.done

/-- The flows that a stop of the context parked. -/
def resumeFlows (s : State) (c : Nat) : State :=
  ((s.ctx c).parked.foldl resumeParked s).setCtx c fun x => { x with parked := [] }

/-- The stream goes on at beat `b`, behind its schedule by the beats it stood (R151, R457). -/
def resumeRun (s : State) (t b : Nat) : State :=
  let c := homeOfTenant s t
  let u := s.dset (0x4030 + c) 5 (s.dget (0x4030 + c) 5 + (b - (s.ctx c).stopBeat))
  setTenantState (resumeFlows (freshWait u c) c) t 2

/-- START_AT_BEAT (R147, R149): the beat of the pending `START` or `RESUME` has come. -/
def execStartAtBeat (s : State) : Host.Outcome State Fault Refusal :=
  match s.power.request with
  | none => .next s
  | some q =>
    .next (if !(s.hasSchedule && s.quartz.begun && decide (q.beat ≤ s.beat)) then s
      else if q.code = 3 ∧ s.tenantState q.tenant = 1 then endRequest (beginRun s q.tenant q.beat) 1
      else if q.code = 5 ∧ s.tenantState q.tenant = 6 then endRequest (resumeRun s q.tenant q.beat) 1
      else s)

/-! ## Stopping (R40, R457, R458) -/

/-- The network operations of the bundle at the boundary that are unsatisfied, by flow. -/
def waitingFlows (s : State) (c : Nat) : List Nat :=
  let w := s.bundle c (s.pc c)
  [13, 14].filterMap fun o =>
    let x := slotWord w o
    let f := s.flow (bits x 36 18)
    let n := bits x 2 10
    let met := if bits x 54 2 = 1 then !kindMismatch f c [1, 7] && f.sends && holdsCredit s (bits x 36 18) n
      else !kindMismatch f c [2, 8] && f.receives && f.state == flowOpen && (List.range n).all fun i => f.hasLanded (unitNext f.issued i)
    if x = 0 ∨ n = 0 ∨ met then none else some (bits x 36 18)

/-- A flow is parked: its partner is told, and the case is recorded (R458). -/
def parkFlow (s : State) (t c f : Nat) : State :=
  let x := s.flow f
  if x.state ≠ flowOpen ∨ !tenantFlow s t f then s
  else
    let a := s.setFlow f { x with state := flowParked }
    let b := if x.rdma then a else sendControl a f 4 0 0
    let d := b.record 0x50B0 0 [(3, 1)] (some (tenancyCase b 0 t c 0xFF))
    (flowNotice d f).setCtx c fun y => { y with parked := sinsert y.parked f }

/-- The grace has run out. -/
def parkFlows (s : State) (t : Nat) : State :=
  let c := homeOfTenant s t
  (waitingFlows s c).foldl (fun u f => parkFlow u t c f) s

/-- The stream stops at the bundle boundary: a `HOLD` is done, and a pre-emption begins its save (R40, R454, R465). -/
def stopRun (s : State) (x : Stop) : State :=
  let t := x.tenant
  let c := homeOfTenant s t
  let ran := s.tenantState t == 2
  let q := b2n (bits (slotWord (s.bundle c (s.pc c)) 16) 37 3 == 5)
  let a := stopStream s c
  let b := a.dset (0x6070 + t) 6 (putBits (tenantFlags a t) 4 4 (if ran then s.dget (0x4030 + c) 2 else 0))
  let d := setTenancy (b.setCtx c fun y => { y with stopBeat := x.beat, stopQueue := q }) fun y =>
    { y with stops := y.stops.filter (·.tenant != t) }
  if x.preempt then
    let e := if ran then account d t 1 0 24 else d
    setTenancy (setTenantState e t 3) fun y => { y with moves := y.moves ++ [⟨t, false, false, ran, x.next⟩] }
  else setTenantState (endRequest d 1) t 6

/-- The bundle at the boundary waits for the network (R458). -/
def waitsForNet (s : State) (t : Nat) : Bool :=
  let k := s.dget (0x4030 + homeOfTenant s t) 2
  s.tenantState t == 2 && (k == 6 || k == 7)

/-- A stop begins: a network wait has its grace. -/
def beginStop (s : State) (x : Stop) : State :=
  if waitsForNet s x.tenant then
    if s.dget 0x6050 3 = 0 then stopRun (parkFlows s x.tenant) x
    else setTenancy s fun y => { y with stops := y.stops.filter (·.tenant != x.tenant) ++ [x] }
  else stopRun s x

/-- A pre-emption begins, or waits for a fast copy to end (R427, R457). -/
def beginPreempt (s : State) (t beat : Nat) (next : Option Nat) : State :=
  let c := homeOfTenant s t
  if (s.cairnOf c).copying.isSome then
    setTenancy (s.record 0x50B0 5 [] (some (tenancyCase s 5 t c 0xFF))) fun y =>
      { y with stops := y.stops ++ [⟨t, true, beat, true, next⟩] }
  else beginStop s ⟨t, true, beat, false, next⟩

/-- A stop of the tenant is in progress. -/
def stopping (s : State) (t : Nat) : Bool := s.tenancy.stops.any (·.tenant == t)

/-- The pending `HOLD` or `PREEMPT` whose beat has come; one that finds the tenant parked already is done. -/
def fireStop (s : State) : State := match s.power.request with
  | none => s
  | some q =>
    let st := s.tenantState q.tenant
    if !(s.hasSchedule && s.quartz.begun && decide (q.beat ≤ s.beat)) || stopping s q.tenant then s
    else if q.code = 4 ∧ st = 2 then beginStop s ⟨q.tenant, false, q.beat, false, none⟩
    else if q.code = 9 ∧ (st = 1 ∨ st = 2) then beginPreempt s q.tenant q.beat none
    else if q.code = 9 ∧ st = 4 then endRequest s 1
    else s

/-- HOLD_AT_BEAT (R40, R458): at each bundle boundary, stops whose network wait has ended within its grace stop here, and a due request stops the stream. -/
def execHoldAtBeat (s : State) : Host.Outcome State Fault Refusal :=
  .next (fireStop ((s.tenancy.stops.filter fun x => !x.deferred && !waitsForNet s x.tenant).foldl stopRun s))

/-- PREEMPT_GRACE_EXPIRY (R458). -/
def execPreemptGraceExpiry (t : Nat) (s : State) : Host.Outcome State Fault Refusal :=
  .next (match s.tenancy.stops.find? fun x => x.tenant == t && !x.deferred with
    | some x => if waitsForNet s t then stopRun (parkFlows s t) x else s
    | none => s)

/-! ## Tenant requests (R452) -/

/-- A value of `TENANT_REQUEST` as `requestOf` codes it, and the request. -/
def tenantRequest (s : State) (t v : Nat) : Nat × State :=
  let beat := s.dget (0x6070 + t) 4
  let r := if v = 0 then (0, s)
    else if v = 3 then
      let st := s.tenantState t
      if s.power.request.isSome || s.power.state != .up || stopping s t || !(st == 1 || st == 2) then (abortState, s)
      else if st = 1 then (0, beginPreempt (pendRequest (setHostParked s t true) ⟨9, s.beat, t⟩) t s.beat none)
      else awaitBeat s ⟨9, beat, t⟩ fun u => setHostParked u t true
    else requestOf s t (match v with
      | 1 => 2
      | 2 => 3
      | 4 => 10
      | 5 => 6
      | 6 => 4
      | _ => 5) beat
  if r.1 = 0 then (0, r.2.dset (0x6070 + t) 3 v) else (r.1, s)

def writeTenantRequest (s : State) (r : Requester) (t v : Nat) : State :=
  guardedWrite s r (0x6070 + t) 3 1 v fun u => if 7 < v then (abortRange, u) else tenantRequest u t v

/-- TENANT_LOAD (R452). -/
def execTenantLoad (r : Requester) (t : Nat) (s : State) : Host.Outcome State Fault Refusal := .next (writeTenantRequest s r t 1)

/-- TENANT_START (R452). -/
def execTenantStart (r : Requester) (t : Nat) (s : State) : Host.Outcome State Fault Refusal := .next (writeTenantRequest s r t 2)

/-- PREEMPT (R452, R457). -/
def execPreempt (r : Requester) (t : Nat) (s : State) : Host.Outcome State Fault Refusal := .next (writeTenantRequest s r t 3)

/-- RELEASE (R452). -/
def execReleaseTenant (r : Requester) (t : Nat) (s : State) : Host.Outcome State Fault Refusal := .next (writeTenantRequest s r t 4)

/-- TENANT_UNLOAD (R452). -/
def execTenantUnload (r : Requester) (t : Nat) (s : State) : Host.Outcome State Fault Refusal := .next (writeTenantRequest s r t 5)

/-- TENANT_HOLD (R452). -/
def execTenantHold (r : Requester) (t : Nat) (s : State) : Host.Outcome State Fault Refusal := .next (writeTenantRequest s r t 6)

/-- TENANT_RESUME (R452). -/
def execTenantResume (r : Requester) (t : Nat) (s : State) : Host.Outcome State Fault Refusal := .next (writeTenantRequest s r t 7)

/-! ## Saves (R454) -/

/-- The rows of a block as listed, by 2 MiB × logical block + offset in its window. -/
def savedRows (s : State) (l p : Nat) : List (Nat × List TByte) :=
  (listedRows s p).map fun k =>
    (l * windowBytes + k / 768 * bankBytes + k % 768 * 128, readTagged s (readTarget s p (k / 768) (k % 768)) 128)

/-- The program-bound entries of a context. -/
def programCells (s : State) (c : Nat) : List (Nat × Nat) :=
  s.dict.filter fun e => keyPersist e.1 == .program && entryContext (e.1 / 256) == some c

/-- Contributions in the Plazas of a partition (R447, R454). -/
def ownPlaza (s : State) (c : Nat) (e : Nat × Contribution) : Bool := bit (s.dget (0x6060 + c) 4) (e.1 / 4096)

/-- What a save copies. -/
def saveOf (s : State) (c : Nat) (ran : Bool) : Parked :=
  let x := s.ctx c
  let rows := x.blocks.flatMap fun e => savedRows s e.1 e.2
  let base := bundleAddress s c 0
  { context := x, regs := x.blocks.map fun e => (e.1, s.block e.2)
    mem := rows.flatMap fun r => ((List.range 128).map fun i => (r.1 + i, (r.2.getD i (0, false)).1)).filter (·.2 != memBlank)
    poison := (rows.filter fun r => anyTagged r.2).map (·.1)
    store := (s.mem.filter fun e => decide (base ≤ e.1) && decide (e.1 < base + pagesOf s c * pageBytes)).map fun e => (e.1 - base, e.2)
    plaza := s.plaza.filter (ownPlaza s c), cells := programCells s c, cairn := s.cairnOf c, ran := ran, saveBeat := s.beat }

/-- The move at the head has ended; a switch goes on with its reload. -/
def nextMove (s : State) (next : Option Nat) : State :=
  let t := setTenancy s fun y => { y with moves := y.moves.tail }
  match next with
  | none => t
  | some u => setTenancy (setTenantState t u 3) fun y => { y with moves := ⟨u, true, false, true, none⟩ :: y.moves }

/-- The tenant is `PARKED`; its record flows gain the entries of its arrival buffer (R454, R460). -/
def saveTenantState (s : State) (m : Move) : State :=
  let t := m.tenant
  let c := homeOfTenant s t
  let p := saveOf s c m.ran
  let a := clearProgramCells { s with
    parked := kset s.parked t p, contexts := kerase s.contexts c, plaza := s.plaza.filter fun e => !ownPlaza s c e } c
  let b := (a.setCairn c fun y => { Cairn.empty with policies := y.policies }).dclear (0x6060 + c) 5
  let d := setTenantState (b.dcount 0x50B0 2 1) t 4
  let e := grantParked (grantParked d t 0) t 1
  let done := match e.power.request with
    | some q => q.code == 9 && q.tenant == t
    | none => false
  nextMove (if done then endRequest e 1 else e) m.next

/-- SAVE (R454, R458): one move runs at a time (R455). -/
def execSaveTenant (t : Nat) (s : State) : Host.Outcome State Fault Refusal :=
  .next (match s.tenancy.moves.head? with
    | some m => if m.tenant = t ∧ m.reload = false then saveTenantState s m else s
    | none => s)

/-! ## Reloads (R456, R459, R460) -/

/-- The physical block that serves for `p` after a reload: `p`, or its district spare (R456). -/
def reloadBlock (s : State) (c : Nat) (others : List Nat) (p : Nat) : Option Nat :=
  let q := districtSpare p
  if usable s c p then some p else if usable s c q && !others.contains q then some q else none

/-- The binding of a parked tenant as a reload makes it. -/
def rebind (s : State) (c : Nat) : List (Nat × Nat) → List Nat → Option (List (Nat × Nat))
  | [], _ => some []
  | e :: r, others =>
    match reloadBlock s c others e.2 with
    | none => none
    | some p => (rebind s c r (p :: others)).map ((e.1, p) :: ·)

/-- The rows that a save lists. -/
def Parked.rows (p : Parked) (l : Nat) : List Nat :=
  ((p.mem.map fun (e : Nat × Byte) => e.1 / 128 * 128) ++ p.poison).foldl (fun a k => if k / windowBytes = l then sinsert a k else a) []

/-- One block's banks and registers are rebuilt, in its mirror too (R296). -/
def reloadBanks (p : Parked) (s : State) (e : Nat × Nat) : State :=
  let t := eraseBlocks s fun q => (mirrors s e.2).contains q
  ((p.rows e.1).foldl (fun u k =>
    let off := k % windowBytes
    let bad := p.poison.contains k
    storeRow u e.2 (off / bankBytes) (off % bankBytes / 128) 0 ((List.range 128).map fun i => (kget memBlank p.mem (k + i), bad))) t).setBlock
    e.2 fun _ => kget Block.empty p.regs e.1

/-- Buffered records enter their queues as entries are free (R460). -/
def refillAll (x : Ctx) : Ctx := (List.range 64).foldl (fun y _ => (y.refill 0).refill 1) x

/-- The partition's store pages, Plazas and entries as saved. -/
def reloadContext (s : State) (c : Nat) (p : Parked) : State :=
  let t := clearStore s c
  let base := bundleAddress s c 0
  { clearProgramCells t c with
    mem := p.store.foldl (fun m e => memPut m (base + e.1) e.2) t.mem
    plaza := p.plaza.foldl (fun l e => kset l e.1 e.2) (t.plaza.filter fun e => !ownPlaza t c e)
    dict := p.cells.foldl (fun l e => kset l e.1 e.2) (clearProgramCells t c).dict }

/-- The tenant is resident again; it waits for the next beat to run (R463). -/
def reloadTenantState (s : State) (m : Move) (p : Parked) (bound : List (Nat × Nat)) : State :=
  let was := s
  let t := m.tenant
  let c := homeOfTenant s t
  let x := refillAll { p.context with blocks := bound }
  let a := settlePower was { s with
    contexts := kset s.contexts c x, parked := kerase s.parked t
    zoning := { s.zoning with evac := s.zoning.evac.filter fun e =>
      !(p.context.blocks.any fun b => b.2 == e.block) || bound.any fun b => b.2 == e.block } }
  let b := (reloadContext (bound.foldl (reloadBanks p) a) c p).dset (0x6060 + c) 5 t
  let d := b.setCairn c fun y => { p.cairn with policies := y.policies }
  let e := grantRecords (grantRecords (resumeFlows d c) c 0) c 1
  setTenancy e fun y => { y with moves := match y.moves with
    | [] => []
    | z :: r => { z with ended := true } :: r }

/-- The swap-in is refused (R456). -/
def refuseSwapIn (s : State) (t : Nat) : State :=
  let a := s.record 0x50B0 1 [(7, 1)] (some (tenancyCase s 1 t (homeOfTenant s t) 0xFF))
  nextMove (setTenantState a t 5) none

/-- RELOAD (R456). -/
def execReloadTenant (t : Nat) (s : State) : Host.Outcome State Fault Refusal :=
  let c := homeOfTenant s t
  .next (match s.tenancy.moves.head?, kfind s.parked t with
    | some m, some p =>
      if m.tenant = t ∧ m.reload = true ∧ m.ended = false ∧ s.resident c = none then
        match rebind s c p.context.blocks (p.context.blocks.map (·.2)) with
        | some l => reloadTenantState s m p l
        | none => refuseSwapIn s t
      else s
    | _, _ => s)

/-! ## Scheduling (R461 to R464) -/

/-- The resident tenant of a partition is blocked, since the given beat (R461). -/
def blockedSince (s : State) (c : Nat) : Option Nat := match s.resident c with
  | none => none
  | some t =>
    let k := s.dget (0x4030 + c) 2
    let n := (s.ctx c).waitBeats
    if s.dget 0x6050 6 = c then none
    else if s.tenantState t = 2 ∧ (k = 4 ∨ k = 6 ∨ k = 7) ∧ s.dget 0x6050 4 ≤ n then some (s.beat - n)
    else if s.tenantState t = 1 ∧ s.dget (0x6070 + t) 0xF ≠ ones 64 then some (s.dget (0x6070 + t) 0xF)
    else none

/-- A parked tenant is runnable (R462). -/
def runnable (s : State) (t : Nat) : Bool := match kfind s.parked t with
  | none => false
  | some p =>
    let k := stopClass s t
    let x := p.context
    s.tenantState t == 4 && !bit (tenantFlags s t) 0 && p.ran &&
      (if k = 4 then !(x.admitQueue x.stopQueue).isEmpty || x.buffered x.stopQueue
       else if k = 6 ∨ k = 7 then x.parked.isEmpty || decide (p.saveBeat + s.dget 0x6050 5 ≤ s.beat)
       else true)

/-- The runnable parked tenant of a partition with the lowest ratio; the lower number wins a tie. -/
def bestRunnable (s : State) (c : Nat) : Option Nat :=
  ((homed s c).filter (runnable s)).foldl (fun m t => match m with
    | none => some t
    | some u =>
      if s.dget (0x6070 + t) 0x10 * s.dget (0x6070 + u) 2 < s.dget (0x6070 + u) 0x10 * s.dget (0x6070 + t) 2 then some t else m) none

/-- A reload starts. -/
def beginReload (s : State) (t : Nat) : State :=
  setTenancy (setTenantState s t 3) fun y => { y with moves := y.moves ++ [⟨t, true, false, true, none⟩] }

/-- Every resident tenant but the held ones is blocked. -/
def allBlocked (s : State) : Bool :=
  (List.range s.partitions).all fun c => match s.resident c with
    | none => true
    | some t => s.tenantState t == 6 || (blockedSince s c).isSome

/-- The partition whose tenant goes out: the oldest `BLOCK_BEAT`, the lower partition on a tie. -/
def victim (s : State) : Option Nat :=
  ((List.range s.partitions).filter fun c => (bestRunnable s c).isSome && (match s.resident c with
      | none => false
      | some t => s.tenantState t != 6 && !stopping s t)).foldl (fun m c => match m with
    | none => some c
    | some d => if (blockedSince s c).getD 0 < (blockedSince s d).getD 0 then some c else m) none

/-- The two rules of R463, while no move runs. -/
def decide463 (s : State) : State :=
  if !s.tenancy.moves.isEmpty then s
  else match (List.range s.partitions).find? fun c => (s.resident c).isNone && (bestRunnable s c).isSome with
    | some c => beginReload s ((bestRunnable s c).getD 0)
    | none =>
      if s.dget 0x6050 7 = 1 ∧ allBlocked s then match victim s with
        | some c => beginPreempt s (tenantOf s c) s.beat (bestRunnable s c)
        | none => s
      else s

/-- `WAIT_BEATS` of each runnable parked tenant (R465). -/
def countWaits (s : State) : State := ((List.range 8).filter (runnable s)).foldl (fun u t => account u t 1 24 40) s

/-- Deferred pre-emptions whose copy has ended begin; this beat is their P (R457). -/
def beginDeferred (s : State) : State :=
  (s.tenancy.stops.filter fun x => x.deferred && (s.cairnOf (homeOfTenant s x.tenant)).copying.isNone).foldl
    (fun u x => beginStop (setTenancy u fun y => { y with stops := y.stops.filter (·.tenant != x.tenant) })
      { x with deferred := false, beat := s.beat }) s

/-- Reloads that have ended run from this beat on. -/
def beginReloaded (s : State) : State :=
  (s.tenancy.moves.filter (·.ended)).foldl (fun u m => resumeRun u m.tenant s.beat)
    (setTenancy s fun y => { y with moves := y.moves.filter fun m => !m.ended })

/-- Corner-cycles of the beat that has ended, by tenant, as the corners' clocks gave them (R464). -/
def charge (s : State) (charges : List (Nat × Nat)) : State :=
  charges.foldl (fun (u : State) (e : Nat × Nat) => if e.1 < 8 ∧ (s.tenantState e.1 = 2 ∨ s.tenantState e.1 = 3) then u.dcount (0x6070 + e.1) 0x10 e.2 else u) s

/-- SCHEDULER_DECISION (R457, R463 to R465): the first cycle of a beat. -/
def execSchedulerDecision (charges : List (Nat × Nat)) (s : State) : Host.Outcome State Fault Refusal :=
  .next (if s.hasSchedule && s.quartz.begun && s.power.state == .up then
    decide463 (beginReloaded (beginDeferred (countWaits (charge s charges)))) else s)

/-! ## The deadline monitor (R466 to R469) -/

/-- `ARRIVAL_BEAT` + `DEADLINE_DELTA` of a record, where it has a deadline. -/
def deadlineOf (r : Nat) : Option Nat := if bits r 80 16 = 0 then none else some (bits r 192 64 + bits r 80 16)

/-- The fallback partition, where it runs a free-flow program and is not the context's own. -/
def fallbackFor (s : State) (c : Nat) : Option Nat :=
  let f := s.dget 0x6050 6
  if f < s.partitions ∧ f ≠ c ∧ s.running f ∧ (s.ctx f).freeFlow then some f else none

/-- The record that the monitor pushes. -/
def fallbackRecord (s : State) (c f r due : Nat) : Nat :=
  let v := putBits (putBits (putBits r 96 32 0) 20 4 ((s.ctx f).cfg 3)) 64 6 ((s.ctx c).cfg 2)
  putBits v 80 16 (if s.beat < due then due - s.beat else 1)

/-- The slot is marked switched. -/
def markSwitched (s : State) (c d : Nat) : State :=
  s.setCtx c fun x => { x with switched := sinsert x.switched d, trying := serase x.trying d }

/-- A trigger on slot `d` (R468, R469). -/
def trigger (s : State) (c d r due : Nat) : State := match fallbackFor s c with
  | none => (markSwitched s c d).record 0x50B0 4 [(6, 1)] (some (tenancyCase s 4 (tenantOf s c) c d))
  | some f =>
    if queueFree s f 0 = 0 then s.setCtx c fun x => { x with trying := sinsert x.trying d }
    else
      let v := fallbackRecord s c f r due
      let reason := recordFault (s.ctx f) 0 v
      let t := if reason ≠ 0 then recordInvalid s 0x3FFFF f reason else enqueueRecord s f 0 v
      ((markSwitched t c d).dcount (0x6080 + c) 3 1).record 0x50B0 2 [(4, 1)] (some (tenancyCase s 2 (tenantOf s c) c d))

/-- The slots of an armed context. -/
def checkDeadlines (s : State) (c : Nat) : State :=
  if (s.ctx c).loaded && s.dget (0x6080 + c) 1 == 1 then
    (s.ctx c).slots.foldl (fun t e => match e.2.fwd.bind fun r => (deadlineOf r).map fun due => (r, due) with
      | none => t
      | some (r, due) =>
        if due ≤ s.beat + s.dget (0x6080 + c) 2 ∧ !(t.ctx c).switched.contains e.1 then trigger t c e.1 r due else t) s
  else s

/-- DEADLINE_CHECK (R467): the first cycle of a beat. -/
def execDeadlineCheck (s : State) : Host.Outcome State Fault Refusal :=
  .next (if s.hasSchedule && s.quartz.begun && s.power.state == .up then (List.range 4).foldl checkDeadlines s else s)

end Sys2Proof.Machine
end

