-- ==== Sys2Proof/Machine/DictRead.lean ====
section
/-! DEFINITION. What a dictionary read returns: stored entries, and those measured or computed when they are read
(spec/15_garnet.md R494 to R505; spec/16_dictionary.md R519 to R536; the entry tables of the chapters they name). -/

namespace Sys2Proof.Machine

/-! ## Identity and firmware (R516, R527, R532) -/

/-- A byte string as an entry's value: byte 0 lowest (R6). -/
def asciiValue (l : List Nat) : Nat := l.foldr (fun c v => c % 256 + 256 * v) 0

/-- "G1-" and the board revision letter. -/
def hardwareVersion : Nat := asciiValue [0x47, 0x31, 0x2D, 0x41 + Config.boardRevision.val]

/-- The upper-case hexadecimal digit of a nibble. -/
def hexDigit (n : Nat) : Nat := if n < 10 then 0x30 + n else 0x37 + n

/-- A 32-bit number as 8 hexadecimal digits, the highest first. -/
def hexText (v : Nat) : Nat := asciiValue ((List.range 8).map fun i => hexDigit (bits v (4 * (7 - i)) 4))

/-- Firmware version of a slot; 0: invalid. -/
def slotVersion (x : FwSlot) : Nat := if x.valid then x.version else 0

def runningSlot (g : Garnet) : FwSlot := if g.running then g.slotB else g.slotA

/-- `SERIAL_NUMBER` is neither 0 nor all ones. -/
def serialValue : Nat := 1 + Config.serialNumber.toNat % (2 ^ 32 - 2)

/-- `ERROR_REGISTER`. -/
def errorRegister (s : State) : Nat :=
  b2n (s.modState == .faulted) + 4 * b2n (decide (s.dget 0x3000 1 < 360000)) + 8 * b2n (s.quartz.step == 16)

/-! ## Measurements and logs (R497, R501, R502) -/

/-- A sensor as an INTEGER16 or UNSIGNED16 entry; `bad` where it has failed or has not been read. -/
def sensorValue (s : State) (n bad : Nat) : Nat := match s.sensed n with
  | some v => encInt 16 v
  | none => bad

/-- A log entry's 32 bytes (R501). -/
def LogEntry.image (e : LogEntry) : Nat :=
  e.severity + e.event * 2 ^ 8 + e.source * 2 ^ 16 + e.sequence * 2 ^ 32 + e.detailA * 2 ^ 64 + e.detailB * 2 ^ 96 +
    e.beat * 2 ^ 128 + e.time * 2 ^ 192

/-- `LOG_ENTRY`: all ones where neither log holds the selected sequence. -/
def logEntry (s : State) : Nat :=
  let q := s.dget 0x3050 1
  match (s.garnet.ramLog ++ s.garnet.flashLog).find? fun e => e.sequence == q && q != 0 with
  | some e => e.image
  | none => ones 256

/-! ## Zoning's reports (R94, R275, R300 to R303) -/

/-- `BLOCK_HEALTH` of a physical block. -/
def healthWord (s : State) (p : Nat) : Nat :=
  let dry := (List.range 16).filter fun b => (List.range 16).all fun i => (s.remapEntry p b i).state != 0
  let bound := match boundBy s p with
    | some e => 2 ^ 11 + e.1 * 2 ^ 12
    | none => 0
  healthOf s p + 2 ^ 4 * b2n (s.zoning.evac.any (·.block == p)) + bound + dry.length * 2 ^ 16 +
    min 0xFF (kget 0xFF s.garnet.corners (cornerOf p)) * 2 ^ 24

/-- `UNUSABLE_BLOCKS`. -/
def unusableBlocks (s : State) : Nat := ((List.range 1088).filter fun p => healthOf s p != 0).length

/-- `REMAP_ENTRY_i` of the selected bank. -/
def remapWord (s : State) (i : Nat) : Nat :=
  let k := s.dget 0x7031 1
  let e := s.remapEntry (k / 16) (k % 16) i
  e.target + e.state * 2 ^ 12 + b2n (s.poison.contains (spareAddress (k / 16) (k % 16) i)) * 2 ^ 14 + b2n (e.state == 2) * 2 ^ 15

/-- Context, logical block and buffer of `BINDING_SELECT`. -/
def selectedContext (s : State) : Ctx := s.ctx (bits (s.dget 0x7040 1) 26 2)
def selectedBlock (s : State) : Nat := bits (s.dget 0x7040 1) 16 10
def selectedBuffer (s : State) : Buffer := (selectedContext s).buffer (bits (s.dget 0x7040 1) 0 16)

/-- `BINDING`: 0 while the selected context holds no program. -/
def bindingWord (s : State) : Nat :=
  let x := selectedContext s
  let b := selectedBuffer s
  let l := selectedBlock s
  let flags := b2n b.demoted * 2 ^ 61
  if !x.loaded then 0
  else if b.home = 1 then
    match kfind b.rowsAt l, x.phys l with
    | some row, some p => 1 * 2 ^ 62 + flags + p * 2 ^ 48 + row
    | _, _ => 0x7FF * 2 ^ 48
  else b.home * 2 ^ 62 + flags + 0x7FF * 2 ^ 48 + (if b.home = 0 then 0 else b.address % 2 ^ 48)

/-- `BINDING_SIZE`. -/
def bindingSize (s : State) : Nat :=
  let b := selectedBuffer s
  if !(selectedContext s).loaded ∨ b.home = 0 then 0
  else if b.home = 1 then (if b.demoted then b.stageRows else b.rows) else b.size

/-! ## Contexts, sets and tenants (R166, R233, R264, R387, R450, R461, R462) -/

/-- Entries of 0x4060 + c that are counted when they are read. -/
def stageCount (x : Ctx) (sub : Nat) : Nat := match sub with
  | 1 => x.fwdQueue.length
  | 2 => x.gradQueue.length
  | 3 => (x.slots.filter fun e => e.2.fwd.isSome).length
  | _ => x.stash.length

/-- The member that `MEMBER_SELECT` names. -/
def selectedSet (s : State) : Nat := bits (s.dget 0x6020 1) 16 3
def selectedMember (s : State) : Member := kget Member.none (s.redSet (selectedSet s)).members (bits (s.dget 0x6020 1) 0 10)

/-- The partition on which a tenant is resident. -/
def residence (s : State) (t : Nat) : Option Nat := (List.range 4).find? fun c => s.resident c == some t

/-- When a tenant was blocked, if it is. -/
def tenantBlocked (s : State) (t : Nat) : Option Nat := (residence s t).bind (blockedSince s)

/-- `TENANT_FLAGS`. -/
def tenantFlagWord (s : State) (t : Nat) : Nat :=
  tenantFlags s t + 2 * b2n (runnable s t) + 4 * b2n (tenantBlocked s t).isSome

/-! ## Reads -/

/-- The value of an entry that the table lists, as a reader sees it. -/
def shownValue (s : State) (idx sub : Nat) : Nat :=
  let c := idx % 4
  if idx = 0x1001 then errorRegister s
  else if idx = 0x1009 then hardwareVersion
  else if idx = 0x100A then hexText (runningSlot s.garnet).version
  else if idx = 0x1018 ∧ sub = 3 then 0x10001 + Config.boardRevision.val
  else if idx = 0x1018 ∧ sub = 4 then serialValue
  else if idx = 0x2001 then s.power.straps
  else if idx = 0x3010 ∧ sub = 2 then sensorValue s (s.dget 0x3010 1) 0x7FFF
  else if idx = 0x3020 ∧ sub = 2 then sensorValue s (64 + s.dget 0x3020 1) 0xFFFF
  else if idx = 0x3050 ∧ sub = 2 then logEntry s
  else if idx = 0x3050 ∧ sub = 3 then s.garnet.logNewest
  else if idx = 0x3060 then Config.identityDigest % 2 ^ 384
  else if idx = 0x4000 ∧ sub = 1 then s.modState.code
  else if idx / 16 = 0x403 ∧ sub = 0xA then (s.ctx c).backlog.length
  else if idx = 0x4040 then slackUsed s (sub - 1)
  else if idx / 16 = 0x406 ∧ sub ≤ 4 then stageCount (s.ctx c) sub
  else if idx = 0x4070 ∧ sub = 8 then floorPeriod s
  else if idx = 0x4070 ∧ sub = 9 then clusterRequest s
  else if idx = 0x6020 ∧ sub = 2 then (selectedMember s).address
  else if idx = 0x6020 ∧ sub = 3 then (selectedMember s).backup
  else if idx = 0x6020 ∧ sub = 4 then (selectedMember s).lastRole
  else if idx / 16 = 0x604 ∧ sub = 0x10 then policyOf s c (s.dget idx 0xF)
  else if idx / 16 = 0x607 ∧ sub = 6 then tenantFlagWord s (idx - 0x6070)
  else if idx / 16 = 0x607 ∧ sub = 0xF then (tenantBlocked s (idx - 0x6070)).getD (ones 64)
  else if idx = 0x7030 ∧ sub = 2 then healthWord s (s.dget 0x7030 1)
  else if idx = 0x7030 ∧ sub = 5 then unusableBlocks s
  else if idx = 0x7031 ∧ 2 ≤ sub then remapWord s (sub - 2)
  else if idx = 0x7040 ∧ sub = 2 then bindingWord s
  else if idx = 0x7040 ∧ sub = 3 then bindingSize s
  else if 0x7044 ≤ idx ∧ idx ≤ 0x7047 then kget 0xFF (s.ctx c).districts (sub - 1)
  else if idx = 0x7050 ∧ sub = 3 then s.zoning.evac.length
  else if idx = 0x7F00 ∧ sub = 7 then b2n s.garnet.running
  else if idx = 0x7F00 ∧ sub = 8 then slotVersion s.garnet.slotA
  else if idx = 0x7F00 ∧ sub = 9 then slotVersion s.garnet.slotB
  else if idx = 0x7F00 ∧ sub = 0xA then s.garnet.security
  else s.dget idx sub

/-- A program-bound entry whose context holds no program (R521). -/
def programless (s : State) (idx sub : Nat) : Bool :=
  keyPersist (dictKey idx sub) == .program && match entryContext idx with
    | some c => !(s.ctx c).loaded
    | none => !((List.range 4).any fun c => (s.ctx c).loaded)

/-- No program is loaded: the snapshots of 0x4040 read 0 (R233). -/
def noProgram (s : State) : Bool := !((List.range 4).any fun c => (s.ctx c).loaded)

/-- A read of any path: abort code, value, its bytes, and the state after it. Checks 1 and 2 apply; check 3 lets every read
pass (R505, R508). -/
def readEntry (s : State) (r : Requester) (idx sub : Nat) : Nat × Nat × Nat × State :=
  if checkEntry idx sub ≠ 0 then (checkEntry idx sub, 0, 0, s)
  else match dictLine idx sub with
    | none => (0, highestSub idx, 1, s)
    | some e =>
      if e.access = .wo then (0, 0, e.bytes, s)
      else if idx = 0x2060 ∧ sub = 1 then let a := leaseAcquire r s; (0, a.1, 4, a.2)
      else if idx = 0x2060 ∧ sub = 2 then let a := leaseRelease r s; (0, a.1, 4, a.2)
      else if memberOutside s idx sub || programless s idx sub || (idx == 0x4040 && noProgram s) then
        (0, dictDefault s.power.straps idx sub, e.bytes, s)
      else (0, shownValue s idx sub % 2 ^ (8 * e.bytes), e.bytes, s)

end Sys2Proof.Machine
end

