-- ==== Sys2Proof/Machine/DictWrite.lean ====
section
/-! DEFINITION. What a dictionary write does once it has passed the checks: the entries with an effect of their own, and storing the
others (spec/15_garnet.md R504, R505; spec/16_dictionary.md R519 to R540; the entry tables of the chapters they name). -/

namespace Sys2Proof.Machine

/-! ## Limits over several entries (R447, R450) -/

/-- No two of the partitions in use share a district or a Plaza, none has an empty district map, and pages and descriptor slots
suffice. -/
def partitionsFit (s : State) : Bool :=
  let ps := List.range s.partitions
  (ps.all fun p => districtMap s p != 0 && ps.all fun q => q == p ||
      (districtMap s p &&& districtMap s q == 0 && s.dget (0x6060 + p) 4 &&& s.dget (0x6060 + q) 4 == 0)) &&
    decide ((ps.map (pagesOf s)).sum ≤ 64) && decide ((ps.map (slotsOf s)).sum ≤ 128)

/-- Two ranges share nothing. -/
def apart (a n b m : Nat) : Bool := n == 0 || m == 0 || decide (a + n ≤ b) || decide (b + m ≤ a)

/-- Bedrock bytes that a tenant's entry asks for; the unwritten "all" of tenant 0 is what there is. -/
def askedBedrock (s : State) (t : Nat) : Nat :=
  if (kfind s.dict (dictKey (0x6070 + t) 0xD)).isSome then s.dget (0x6070 + t) 0xD * gib else tenantBedrock s t

/-- The tenants' flow and peer ranges are apart and within the module's, and the totals suffice. -/
def tenantsFit (s : State) : Bool :=
  let e := fun t sub => s.dget (0x6070 + t) sub
  let ts := s.tenants
  (ts.all fun t => decide (e t 7 + e t 8 ≤ 262144) && decide (e t 9 + e t 0xA ≤ 4096) && ts.all fun u => u == t ||
      (apart (e t 7) (e t 8) (e u 7) (e u 8) && apart (e t 9) (e t 0xA) (e u 9) (e u 0xA))) &&
    decide ((ts.map fun t => e t 0xB).sum ≤ 3072) && decide ((ts.map fun t => e t 0xC).sum ≤ 96) &&
    decide ((ts.map (askedBedrock s)).sum ≤ visibleBedrock s)

/-- The value is stored if the whole then fits. -/
def storeIf (s : State) (idx sub v : Nat) (fits : State → Bool) : Nat × State :=
  let t := storeEntry s idx sub v
  if fits t then (0, t) else (abortRange, s)

/-! ## Entries with an effect of their own -/

/-- `STATE_REQUEST` (R36). -/
def requestEffect (s : State) (v : Nat) (env : DictEnv) : Nat × State :=
  match v with
  | 0 => (0, s.dset 0x4000 2 0)
  | 1 => acceptPowerUp env.check s
  | 7 => acceptPowerDown s
  | 8 => acceptReset s
  | 3 => stateOf s 3 (s.dget 0x4000 3)
  | 4 => stateOf s 4 (s.dget 0x4000 4)
  | 5 => stateOf s 5 (s.dget 0x4000 3)
  | n => stateOf s n 0

/-- `LOADER_UNITS` and `LOADER_STATUS` of the flow that now serves the loader (R534, R536). -/
def loaderFollows (s : State) (f : Nat) : State :=
  let t :=
    if !isLoader s f || (s.flow f).done == 0 then s.dsets [(0x4001, 3, 0), (0x4001, 7, 0)] else loaderProgress s f
  grantLoader (if (s.flow f).state = flowPeerClosed then loaderClosed t f else t) f

/-- `FETCH` (R536). -/
def fetchImage (s : State) : State :=
  let f := s.dget 0x4001 5
  let g := s.dget 0x4001 2
  if isLoaderRequest s f && isLoader s g && (s.flow f).state == flowOpen && (s.flow g).state == flowOpen then
    sendFetch { s with net := { s.net with fetching := true } } f
  else s.dset 0x4001 7 6

/-- The entries of 0x4001 that more depends on. -/
def loaderEffect (s : State) (sub v : Nat) : Nat × State :=
  match sub with
  | 1 => let t := s.dset 0x4001 1 v; (0, grantLoader t (t.dget 0x4001 2))
  | 2 => (0, loaderFollows (s.dset 0x4001 2 v) v)
  | 6 => (0, if v = 1 then fetchImage s else s)
  | _ => (0, s.dset 0x4001 sub v)

/-- Every arithmetic flag that is implemented (R81). -/
def arithFlags : Nat := 0x7FF

/-- A write to a record entry (R81, R83, R524, R583): W1C flags clear, counters and first cases take their empty value. -/
def recordEffect (s : State) (idx sub v : Nat) : State :=
  if sub = 1 ∧ idx ≠ 0x5000 then
    let t := s.dset idx 1 (clearBits (s.dget idx 1) v)
    if idx = 0x5010 ∧ v &&& arithFlags = arithFlags then t.dclear 0x5010 2 else t
  else s.dset idx sub v

/-- `SET_COMMAND` (R386). -/
def setCommand (s : State) (n v : Nat) : Nat × State :=
  if v = 1 then formSet s n
  else if v = 2 ∧ s.red n 0xD ≠ setUnformed then (0, disbandSet s n) else (0, s)

/-- A member's entry changes while its set may be configured (R386, R387). -/
def memberEffect (s : State) (sub v : Nat) : Nat × State :=
  let n := selectedSet s
  let i := bits (s.dget 0x6020 1) 0 10
  if s.red n 0xD ≠ setUnformed ∧ s.red n 0xD ≠ setRefused then (abortState, s)
  else (0, s.setRed n fun x =>
    let m := kget Member.none x.members i
    { x with members := kput Member.none x.members i (if sub = 2 then { m with address := v } else { m with backup := v }) })

/-- `CKPT_COMMAND` and `BUFFER_POLICY` of a context (R429, R444). -/
def cairnEffect (s : State) (c sub v : Nat) : Nat × State :=
  if sub = 1 then (if v = 1 then takeHeld s c else if v = 2 then startRestore s c else (0, s))
  else if 2 < v then (abortRange, s)
  else (0, s.setCairn c fun y => { y with policies := kput 0 y.policies (s.dget (0x6040 + c) 0xF) v })

/-- `ACCOUNTING_MODE`: a write clears every account (R465). -/
def accountingEffect (s : State) (v : Nat) : State :=
  (List.range 8).foldl (fun t i => t.dclear (0x6070 + i) 0x11) (s.dset 0x6050 2 v)

/-- Entries of a tenant (R450, R452). -/
def tenantEffect (s : State) (t sub v : Nat) : Nat × State :=
  if sub = 3 then (if 7 < v then (abortRange, s) else tenantRequest s t v)
  else if sub = 1 ∨ (7 ≤ sub ∧ sub ≤ 0xD) then storeIf s (0x6070 + t) sub v tenantsFit
  else (0, s.dset (0x6070 + t) sub v)

/-- The reserves of R299 take effect at once in READY. -/
def reserveEffect (s : State) (sub v : Nat) : State :=
  let t := storeEntry s 0x7000 sub v
  if s.modState ≠ .ready then t
  else if sub = 4 then { t with zoning := { t.zoning with stashMiB := v } }
  else { t with zoning := { t.zoning with overlayMiB := v } }

/-- Reserved bits of the select entries read 0 (R9). -/
def selectValue (idx v : Nat) : Nat :=
  if idx = 0x6020 then bits v 0 10 + bits v 16 3 * 2 ^ 16 else bits v 0 28

/-- Links start again where the network's configuration changes in READY (R382). -/
def networkEffect (s : State) (sub v : Nat) : State :=
  let t := storeEntry s 0x2040 sub v
  if s.modState = .ready then startPorts t else t

/-! ## The write -/

/-- An accepted write's effect, by entry. -/
def entryEffect (s : State) (idx sub v : Nat) (env : DictEnv) : Nat × State :=
  let n := idx % 8
  if idx = 0x1011 then (0, s.setPower fun p => { p with restoreMark := true })
  else if idx = 0x2030 ∧ sub = 1 then (0, writeBeatSource s v)
  else if idx = 0x2040 then (0, networkEffect s sub v)
  else if idx = 0x2080 ∧ sub = 1 then admitPortWrite s v
  else if idx = 0x2080 ∧ sub = 2 then admitPeerWrite s v
  else if idx = 0x4000 ∧ sub = 2 then requestEffect s v env
  else if idx = 0x4001 then loaderEffect s sub v
  else if idx = 0x4070 ∧ sub = 0x10 then promoteMaster s v
  else if idx / 0x1000 = 5 then (0, recordEffect s idx sub v)
  else if idx / 16 = 0x601 ∧ sub = 1 then setCommand s n v
  else if idx = 0x6020 ∧ sub = 1 then (0, s.dset idx 1 (selectValue idx v))
  else if idx = 0x6020 then memberEffect s sub v
  else if idx / 16 = 0x604 ∧ (sub = 1 ∨ sub = 0x10) then cairnEffect s (idx % 4) sub v
  else if idx = 0x6050 ∧ sub = 1 then storeIf s idx sub v partitionsFit
  else if idx = 0x6050 ∧ sub = 2 then (0, accountingEffect s v)
  else if idx / 16 = 0x606 then storeIf s idx sub v partitionsFit
  else if idx / 16 = 0x607 then tenantEffect s n sub v
  else if idx = 0x7000 ∧ (sub = 4 ∨ sub = 5) then (0, reserveEffect s sub v)
  else if idx = 0x7030 ∧ sub = 3 then (0, markBlock s v 3)
  else if idx = 0x7030 ∧ sub = 4 then (0, markBlock s v 0)
  else if idx = 0x7040 ∧ sub = 1 then (0, s.dset idx 1 (selectValue idx v))
  else if idx = 0x7050 ∧ sub = 1 then (0, queueEvacuation s v)
  else if idx = 0x7F00 ∧ sub = 1 then fwCommand v s
  else (0, storeEntry s idx sub v)

/-- Entries whose write answers once it has reached flash (R504, R516, R595). -/
def reachesFlash (idx sub v : Nat) : Bool :=
  keyPersist (dictKey idx sub) == .flash || (idx == 0x7F00 && sub == 2) || (idx == 0x2080 && ((sub == 1 && v != 0xFF) || (sub == 2 && v != 0xFFFF)))

/-- The effect of an accepted write of the bytes of `v`; one that fails to reach flash leaves the value as it was (R504). -/
def writeEffect (idx sub len v : Nat) (env : DictEnv) (s : State) : Nat × State :=
  if reachesFlash idx sub v && !env.written then flashFailed s
  else if idx = 0x7F00 ∧ sub = 2 then fwData (leBytes len v) s
  else entryEffect s idx sub v env

/-- A write of any path: its abort code, and the state after it. -/
def writeEntry (s : State) (r : Requester) (idx sub len v : Nat) (env : DictEnv) : Nat × State :=
  let a := checkWrite s r idx sub len v
  if a ≠ 0 then (a, s) else writeEffect idx sub len v env s

/-- DICTIONARY_WRITE (R505): an entry without a command of its own; `len` bytes of `value`. -/
def execDictionaryWrite (r : Requester) (idx sub len value : Nat) (env : DictEnv) (s : State) : Host.Outcome State Fault Refusal :=
  .next (guardedWrite s r idx sub len (value % 2 ^ (8 * len)) (writeEffect idx sub len (value % 2 ^ (8 * len)) env))

/-- LOADER_FETCH (R536). -/
def execLoaderFetch (r : Requester) (s : State) : Host.Outcome State Fault Refusal :=
  .next (guardedWrite s r 0x4001 6 1 1 fun t => loaderEffect t 6 1)

/-- LOADER_NO_ANSWER (R536): 1 s after the `GET`. -/
def execLoaderNoAnswer (s : State) : Host.Outcome State Fault Refusal :=
  .next (if s.dget 0x4001 7 = 1 then s.dset 0x4001 7 5 else s)

end Sys2Proof.Machine
end

