-- ==== Sys2Proof/Machine/Paths.lean ====
section
/-! DEFINITION. The three dictionary paths: CAN FD, management datagrams, and the PCIe dictionary windows (spec/15_garnet.md R503 to R508;
spec/16_dictionary.md R519, R520). -/

namespace Sys2Proof.Machine

/-! ## CAN FD (R506) -/

/-- Data bytes of an expedited transfer, and of a segment (assumption 23). -/
def expeditedBytes : Nat := 56
def segmentBytes : Nat := 60

/-- The client node of a CAN request. -/
def canClient (node : Nat) : Requester := ⟨1, node, 0, 0⟩

/-- The node answers USDO: it is powered, and not stopped (R506). -/
def canServes (s : State) : Bool := s.power.state != .off && s.garnet.nmt != 4

def setUsdo (s : State) (node : Nat) (x : Usdo) : State := s.setGarnet fun g => { g with usdo := kset g.usdo node x }
def dropUsdo (s : State) (node : Nat) : State := s.setGarnet fun g => { g with usdo := kerase g.usdo node }

/-- An upload of a whole value, expedited or begun in segments. -/
def usdoUpload (s : State) (node idx sub : Nat) : State :=
  let e := readEntry s (canClient node) idx sub
  let t := dropUsdo e.2.2.2 node
  if e.1 ≠ 0 ∨ e.2.2.1 ≤ expeditedBytes then t.reply (canClient node) e.1 e.2.1
  else (setUsdo t node ⟨idx, sub, false, e.2.2.1, 0, leBytes e.2.2.1 e.2.1⟩).emit (.usdo node 1 e.2.2.1 [])

/-- The next segment of an upload; the last one ends it. -/
def usdoUploadSegment (s : State) (node count : Nat) : State := match kfind s.garnet.usdo node with
  | none => s.reply (canClient node) abortToggle 0
  | some x =>
    if x.download ∨ x.count ≠ count then (dropUsdo s node).reply (canClient node) abortToggle 0
    else
      let rest := x.bytes.drop segmentBytes
      let t := if rest.isEmpty then dropUsdo s node else setUsdo s node { x with count := count + 1, bytes := rest }
      t.emit (.usdo node 2 count (x.bytes.take segmentBytes))

/-- A download of bytes that are all here. -/
def usdoWrite (s : State) (node idx sub : Nat) (bs : List Byte) (env : DictEnv) : State :=
  let e := writeEntry (dropUsdo s node) (canClient node) idx sub bs.length (ofLe bs) env
  e.2.reply (canClient node) e.1 0

/-- The next segment of a download; the one that completes the stated size takes effect. -/
def usdoDownloadSegment (s : State) (node count : Nat) (bs : List Byte) (env : DictEnv) : State := match kfind s.garnet.usdo node with
  | none => s.reply (canClient node) abortToggle 0
  | some x =>
    let all := x.bytes ++ bs
    if !x.download ∨ x.count ≠ count ∨ x.size < all.length then (dropUsdo s node).reply (canClient node) abortToggle 0
    else if all.length = x.size then usdoWrite s node x.index x.sub all env
    else (setUsdo s node { x with count := count + 1, bytes := all }).emit (.usdo node 4 count [])

/-- USDO_TRANSFER (R506): a message from client `node`: `op` 1 upload of an entry, 2 upload segment `count`, 3 expedited download of
`bytes`, 4 a segmented download of `count` bytes begins, 5 download segment `count`; any other is an invalid command. -/
def execUsdoTransfer (node op idx sub count : Nat) (bytes : List Byte) (env : DictEnv) (s : State) : Host.Outcome State Fault Refusal :=
  .next (if !canServes s || node == 0 || decide (127 < node) then s
    else match op with
      | 1 => usdoUpload s node idx sub
      | 2 => usdoUploadSegment s node count
      | 3 => usdoWrite s node idx sub bytes env
      | 4 => (setUsdo s node ⟨idx, sub, true, count, 0, []⟩).emit (.usdo node 3 count [])
      | 5 => usdoDownloadSegment s node count bytes env
      | _ => (dropUsdo s node).reply (canClient node) abortToggle 0)

/-- USDO_IDLE_TIMEOUT (R506). -/
def execUsdoIdleTimeout (node : Nat) (s : State) : Host.Outcome State Fault Refusal :=
  .next (if (kfind s.garnet.usdo node).isSome then (dropUsdo s node).reply (canClient node) abortTimeout 0 else s)

/-- The NMT state changes; reset node acts as reset communication, which starts the node anew. -/
def nmtTo (s : State) (command : Nat) : State := match command with
  | 1 => s.setGarnet fun g => { g with nmt := 5 }
  | 2 => s.setGarnet fun g => { g with nmt := 4 }
  | 128 => s.setGarnet fun g => { g with nmt := 127 }
  | 129 => (s.setGarnet fun g => { g with nmt := 127, usdo := [] }).emit (.can 2 0)
  | 130 => (s.setGarnet fun g => { g with nmt := 127, usdo := [] }).emit (.can 2 0)
  | _ => s

/-- NMT_COMMAND (R506): to one node, or to all with node 0. -/
def execNmtCommand (command node : Nat) (s : State) : Host.Outcome State Fault Refusal :=
  .next (if s.power.state ≠ .off ∧ (node = 0 ∨ node = s.garnet.canNode) then nmtTo s command else s)

/-- HEARTBEAT (R506, R527): the period of 0x1017 has passed; 0: no heartbeat. -/
def execHeartbeat (s : State) : Host.Outcome State Fault Refusal :=
  .next (if s.power.state = .off ∨ s.dget 0x1017 0 = 0 then s else s.emit (.can 0 s.garnet.nmt))

/-! ## Management datagrams (R507) -/

/-- Fields of a datagram's header. -/
def headOffset (h : Nat) : Nat := bits h 224 32
def headSequence (h : Nat) : Nat := bits h 160 32
def headSession (h : Nat) : Nat := bits h 144 16
def headIndex (h : Nat) : Nat := bits h 128 16
def headSub (h : Nat) : Nat := bits h 120 8
def headLength (h : Nat) : Nat := bits h 108 12
def headLast (h : Nat) : Bool := bit h 12
def headOp (h : Nat) : Nat := bits h 8 4

/-- A request's header is valid, and its data are as long as it says. -/
def headValid (h : Nat) (data : List Byte) : Bool :=
  bits h 192 32 == 0 && headSession h != 0 && decide (headLength h ≤ 1024) && bits h 13 95 == 0 && bits h 4 4 == 1 && bits h 0 4 == 0
    && (headOp h == 1 || (headOp h == 2 && data.length == headLength h)) && decide (h < 2 ^ 256)

/-- The response to a request: its operation is 2 above, and the rest of the header names the same request. -/
def responseHead (h abort n : Nat) : Nat :=
  headOffset h * 2 ^ 224 + abort * 2 ^ 192 + bits h 120 72 * 2 ^ 120 + n * 2 ^ 108 + (headOp h + 2) * 2 ^ 8 + 2 ^ 4

/-- The partner behind a datagram. -/
def datagramClient (addr port h : Nat) : Requester := ⟨2, headSession h, addr, port⟩

/-- A response leaves, and stays kept as the last of its session, among the 16 most recently used. -/
def respond (s : State) (addr port h abort : Nat) (data : List Byte) : State :=
  let k : Kept := ⟨addr, port, headSession h, headSequence h, responseHead h abort data.length, data⟩
  let t := s.setGarnet fun g =>
    { g with kept := (k :: g.kept.filter fun e => !(e.addr == addr && e.port == port && e.session == headSession h)).take 16 }
  t.emit (.datagram addr port k.header data)

/-- A read: at most `DATA_LENGTH` bytes from `OFFSET`; length 0 checks existence and access alone. -/
def datagramReadEntry (s : State) (addr port h : Nat) : State :=
  if headLength h = 0 then respond s addr port h (checkEntry (headIndex h) (headSub h)) []
  else
    let e := readEntry s (datagramClient addr port h) (headIndex h) (headSub h)
    let data := ((leBytes e.2.2.1 e.2.1).drop (headOffset h)).take (headLength h)
    respond e.2.2.2 addr port h e.1 (if e.1 = 0 then data else [])

/-- The session's partial write. -/
def partialOf (s : State) (addr port session : Nat) : Option Partial :=
  s.garnet.partials.find? fun p => p.addr == addr && p.port == port && p.session == session

def dropPartial (s : State) (addr port session : Nat) : State :=
  s.setGarnet fun g => { g with partials := g.partials.filter fun p => !(p.addr == addr && p.port == port && p.session == session) }

/-- A write segment: one that does not start where the last ended, or is for another entry, is discarded. -/
def datagramWriteSegment (s : State) (addr port h : Nat) (data : List Byte) (env : DictEnv) : State :=
  let n := headSession h
  let p := partialOf s addr port n
  let had := (p.map (·.bytes)).getD []
  let other := p.any fun x => x.index != headIndex h || x.sub != headSub h
  if headOffset h ≠ had.length ∨ other then respond s addr port h abortToggle []
  else
    let all := had ++ data
    let t := dropPartial s addr port n
    if headLast h then
      let e := writeEntry t (datagramClient addr port h) (headIndex h) (headSub h) all.length (ofLe all) env
      respond e.2 addr port h e.1 []
    else
      let x : Partial := ⟨addr, port, n, headIndex h, headSub h, all⟩
      respond (t.setGarnet fun g => { g with partials := x :: g.partials }) addr port h 0 []

/-- A request datagram from a source address and UDP port: an invalid header is counted, and a repeated request receives its kept
response again. -/
def datagram (s : State) (addr port h : Nat) (data : List Byte) (env : DictEnv) : State :=
  if s.power.state = .off ∨ s.dget 0x2061 1 = 0 then s
  else if !headValid h data then s.dcount 0x50D0 4 1
  else
    match s.garnet.kept.find? fun k => k.addr == addr && k.port == port && k.session == headSession h && k.sequence == headSequence h with
    | some k =>
      (s.setGarnet fun g => { g with kept := k :: g.kept.filter fun e => e != k }).emit (.datagram addr port k.header k.bytes)
    | none =>
      if headOp h = 1 then datagramReadEntry s addr port h else datagramWriteSegment s addr port h data env

/-- READ (R507): a datagram without data. -/
def execDatagramRead (addr port header : Nat) (s : State) : Host.Outcome State Fault Refusal :=
  .next (datagram s addr port header [] ⟨true, ⟨[], true, 0, 0, 0⟩⟩)

/-- WRITE (R507). -/
def execDatagramWrite (addr port header : Nat) (data : List Byte) (env : DictEnv) (s : State) : Host.Outcome State Fault Refusal :=
  .next (datagram s addr port header data env)

/-- PARTIAL_WRITE_TIMEOUT (R507). -/
def execPartialWriteTimeout (addr port session : Nat) (s : State) : Host.Outcome State Fault Refusal :=
  .next (if (partialOf s addr port session).isSome then
    (dropPartial s addr port session).reply ⟨2, session, addr, port⟩ abortTimeout 0 else s)

/-! ## PCIe dictionary windows (R508) -/

def State.dictWindow (s : State) (f : Nat) : DictWindow := kget DictWindow.empty s.garnet.windows f
def State.setDictWindow (s : State) (f : Nat) (w : DictWindow) : State :=
  s.setGarnet fun g => { g with windows := kput DictWindow.empty g.windows f w }

/-- The functions serve their windows. -/
def windowServes (s : State) (f : Nat) : Bool := s.squareUp && s.power.pcieUp && decide (f < 4)

def DictWindow.index (w : DictWindow) : Nat := bits w.address 16 16
def DictWindow.sub (w : DictWindow) : Nat := bits w.address 8 8

/-- The outcome of a command: its abort code, and for a read the bytes that it returns. -/
def windowDone (s : State) (f abort status : Nat) : State := s.setDictWindow f { s.dictWindow f with abort := abort, status := status }

/-- A read command. -/
def windowRead (s : State) (f : Nat) : State :=
  let w := s.dictWindow f
  if 1024 < w.length then windowDone s f abortToggle 0
  else if w.length = 0 then windowDone s f (checkEntry w.index w.sub) 0
  else
    let e := readEntry s ⟨3, f, 0, 0⟩ w.index w.sub
    if e.1 ≠ 0 then windowDone e.2.2.2 f e.1 0
    else
      let bs := ((leBytes e.2.2.1 e.2.1).drop w.offset).take w.length
      let data := putBits w.data 0 (8 * bs.length) (ofLe bs)
      (e.2.2.2.setDictWindow f { w with data := data, abort := 0, status := bs.length })

/-- A segment follows what the window holds of the same entry. -/
def DictWindow.follows (w : DictWindow) : Bool :=
  decide (w.length ≤ 1024) && w.offset == w.segment.length && (w.segment.isEmpty || w.target == w.address)

/-- A segment with more to follow. -/
def windowSegment (s : State) (f : Nat) : State :=
  let w := s.dictWindow f
  if w.follows then s.setDictWindow f { w with segment := w.segment ++ leBytes w.length w.data, target := w.address, abort := 0 }
  else windowDone s f abortToggle w.status

/-- The segment that completes a value. -/
def windowWrite (s : State) (f : Nat) (env : DictEnv) : State :=
  let w := s.dictWindow f
  if w.follows then
    let all := w.segment ++ leBytes w.length w.data
    let t := s.setDictWindow f { w with segment := [] }
    let e := writeEntry t ⟨3, f, 0, 0⟩ w.index w.sub all.length (ofLe all) env
    if windowServes e.2 f then windowDone e.2 f e.1 w.status else e.2
  else windowDone s f abortToggle w.status

/-- DICT_COMMAND_READ (R508). -/
def execDictCommandRead (f : Nat) (s : State) : Host.Outcome State Fault Refusal := .next (if windowServes s f then windowRead s f else s)

/-- DICT_COMMAND_WRITE_SEGMENT (R508). -/
def execDictCommandWriteSegment (f : Nat) (s : State) : Host.Outcome State Fault Refusal :=
  .next (if windowServes s f then windowSegment s f else s)

/-- DICT_COMMAND_WRITE (R508). -/
def execDictCommandWrite (f : Nat) (env : DictEnv) (s : State) : Host.Outcome State Fault Refusal :=
  .next (if windowServes s f then windowWrite s f env else s)

end Sys2Proof.Machine
end

