-- ==== Sys2Proof/Machine/Attest.lean ====
section
/-! DEFINITION. The SPDM responder (spec/19_identity.md R584 to R590). An answer leaves as `Out.attest` on the medium that asked: 0 PCIe
function, 1 port, 2 peer. Its error is 0 none, 1 UnsupportedRequest, 2 Busy. -/

namespace Sys2Proof.Machine

/-! ## Measured state (R588) -/

/-- Body digest of a slot: header bytes 16 to 63 (R513). -/
def slotBody (x : FwSlot) : Nat := imageField x.bytes 16 48

/-- Digests of the loaded programs, in context order. -/
def programDigests (s : State) : List Byte :=
  (List.range 4).flatMap fun c => if (s.ctx c).loaded then leBytes 48 (s.ctx c).digest else List.replicate 48 0

/-- The binding registers, one byte each. -/
def bindingBytes (s : State) : List Byte := (List.range 16).map fun c => BitVec.ofNat 8 (mailBinding s c)

/-- A measurement block: 1 to 6. -/
def measurement (s : State) (i : Nat) : List Byte :=
  let x := runningSlot s.garnet
  match i with
  | 1 => leBytes 48 Config.bootRomDigest
  | 2 => leBytes 48 (slotBody x)
  | 3 => leBytes 48 s.power.microDigest
  | 4 => leBytes 4 x.version ++ leBytes 4 x.security
  | 5 => leBytes 48 (Config.sha384 (leBytes 4 s.power.straps ++ bindingBytes s))
  | 6 => leBytes 48 (Config.sha384 (programDigests s))
  | _ => []

/-! ## Certificates and signatures (R584, R587) -/

/-- The chain of slot 0. -/
def chainBytes (s : State) : List Byte :=
  Config.certificateChain (slotBody (runningSlot s.garnet)) (runningSlot s.garnet).security

/-- The Alias key's signature over what is signed. -/
def aliasSigns (s : State) (bs : List Byte) : List Byte :=
  leBytes 96 (Config.aliasSignature (slotBody (runningSlot s.garnet)) (runningSlot s.garnet).security (Config.sha384 bs)).toNat

/-! ## Requests -/

/-- A request can arrive on the medium (R587, R589, R590). -/
def asks (s : State) (medium target : Nat) : Bool :=
  s.squareUp && (match medium with
    | 0 => s.power.pcieUp && decide (target < 4)
    | 1 => decide (target < 8) && decide (portExchanging ≤ portState s target) && decide (portState s target ≤ portQuarantined)
    | 2 => (s.peer target).address != 0
    | _ => false)

/-- SPDM 1.2 and 1.3. -/
def spdmVersion (v : Nat) : Bool := v == 0x12 || v == 0x13

/-- A request's answer, or UnsupportedRequest. -/
def attest (s : State) (medium target code param : Nat) (ok : Bool) (bytes : List Byte) : State :=
  if !asks s medium target then s
  else if ok then s.emit (.attest medium target code 0 param bytes) else s.emit (.attest medium target code 1 param [])

/-- A CHALLENGE or GET_MEASUREMENTS: at most 64 in a second are answered (R590). -/
def attestLimited (s : State) (medium target code param second : Nat) (ok : Bool) (bytes : List Byte) : State :=
  let n := if s.garnet.spdmSecond = second then s.garnet.spdmCount else 0
  if !asks s medium target then s
  else if !ok then s.emit (.attest medium target code 1 param [])
  else if 64 ≤ n then s.emit (.attest medium target code 2 param [])
  else (s.setGarnet fun g => { g with spdmSecond := second, spdmCount := n + 1 }).emit (.attest medium target code 0 param bytes)

/-- GET_VERSION (R587). -/
def execGetVersion (medium target : Nat) (s : State) : Host.Outcome State Fault Refusal :=
  .next (attest s medium target 1 0 true [0x12, 0x13])

/-- GET_CAPABILITIES (R587): the answer names the requests and nothing else of DSP0274. -/
def execGetCapabilities (medium target version : Nat) (s : State) : Host.Outcome State Fault Refusal :=
  .next (attest s medium target 2 0 (spdmVersion version) [])

/-- NEGOTIATE_ALGORITHMS (R587): `offered`: the request offers ECDSA P-384 and SHA-384, which are taken. -/
def execNegotiateAlgorithms (medium target version : Nat) (offered : Bool) (s : State) : Host.Outcome State Fault Refusal :=
  .next (attest s medium target 3 0 (spdmVersion version && offered) [])

/-- GET_DIGESTS (R587): the digest of slot 0's chain. -/
def execGetDigests (medium target version : Nat) (s : State) : Host.Outcome State Fault Refusal :=
  .next (attest s medium target 4 0 (spdmVersion version) (leBytes 48 (Config.sha384 (chainBytes s))))

/-- GET_CERTIFICATE (R587): bytes of slot 0's chain. -/
def execGetCertificate (medium target version slot offset length : Nat) (s : State) : Host.Outcome State Fault Refusal :=
  .next (attest s medium target 5 offset (spdmVersion version && slot == 0) (((chainBytes s).drop offset).take length))

/-- CHALLENGE (R587): slot 0's chain digest, and the Alias key's signature over it and the nonce. -/
def execChallenge (medium target version slot nonce second : Nat) (s : State) : Host.Outcome State Fault Refusal :=
  let d := leBytes 48 (Config.sha384 (chainBytes s))
  .next (attestLimited s medium target 6 nonce second (spdmVersion version && slot == 0) (d ++ aliasSigns s (d ++ leBytes 32 nonce)))

/-- The blocks that a request for index `i` returns: 0 their number, 0xFF all of them. -/
def measured (s : State) (i : Nat) : List Byte :=
  if i = 0 then [6] else if i = 0xFF then (List.range 6).flatMap fun k => measurement s (k + 1) else measurement s i

/-- GET_MEASUREMENTS (R588); `signed`: the answer is signed with the nonce. -/
def execGetMeasurements (medium target version index : Nat) (signed : Bool) (nonce second : Nat) (s : State) :
    Host.Outcome State Fault Refusal :=
  let d := measured s index
  .next (attestLimited s medium target 7 index second (spdmVersion version && (decide (index ≤ 6) || index == 0xFF))
    (if signed then d ++ aliasSigns s (d ++ leBytes 32 nonce) else d))

end Sys2Proof.Machine
end

