-- ==== Sys2Proof/Machine/BeatEdge.lean ====
section
/-! DEFINITION. The beat's edge (spec/09_beat.md R308, R316, R328) and what each context does at it (spec/04_stream_model.md
R145, R159; spec/07_stage_execution.md R246; spec/13_tenancy.md R466). -/

namespace Sys2Proof.Machine

/-- A context at the edge: a wait of classes 2 to 8 counts the boundary, and the deadline monitor takes what is due. -/
def contextEdge (s : State) (c : Nat) : State :=
  if (s.ctx c).loaded then
    let k := s.dget (0x4030 + c) 2
    let t := if s.running c && decide (2 ≤ k) then s.setCtx c fun x => { x with waitBeats := x.waitBeats + 1 } else s
    armDue (mirrorMask t c) c
  else s

def enterBeat (s : State) : State := (List.range 4).foldl contextEdge s

/-- BEAT_EDGE (R308): the beat number advances by exactly 1, but at the anchor's own edge, which begins the anchor beat
(R316); a pending change of the period comes into force at its beat. Later edges are timed from the schedule's edge and not
from the time at which a late announce let this one fire (R329). What follows beat 2^64 − 1 the spec leaves open: the number
wraps to 0, and a pending beat beyond it is never reached (DESIGN CHOICE, log 68). -/
def execBeatEdge (cycles : Nat) (s : State) : Host.Outcome State Fault Refusal :=
  if !s.hasSchedule then .next s
  else
    let b := if s.quartz.begun then (s.beat + 1) % 2 ^ 64 else s.beat
    let take := pendingBeat s == some b
    let p := ((pendingChanges s).lookup b).getD (periodNow s)
    let move := slewMove p s.quartz.slew
    let t := s.dsets ([(0x4070, 5, b), (0x4070, 6, p), (0x4070, 0xF, cycles % 2 ^ 32)] ++
      (if take then [(0x4070, 0xC, ones 64), (0x4070, 0xD, 0)] else []))
    .next (enterBeat (sampleBeat { t with quartz := { t.quartz with
      begun := true, edge := s.quartz.due, slew := s.quartz.slew - move
      due := ((s.quartz.due : Int) + 1000 * p - move).toNat, nextEdge := ((s.quartz.due : Int) + 1000 * p - move).toNat
      earlier := s.quartz.earlier.filter fun e => b < e.1 } }))

end Sys2Proof.Machine
end

