-- ==== Sys2Proof/Machine/Pcie.lean ====
section
/-! DEFINITION. The PCIe endpoint: BAR0 and BAR2 of the four functions, their registers, and their resets (spec/01_architecture.md R22 to R30;
spec/03_blocks.md R124; spec/07_stage_execution.md R241, R242; spec/10_network.md R361; spec/12_cairn.md R425; spec/14_mailboxes.md R475 to
R490; spec/15_garnet.md R508; spec/17_bringup.md R559, R562; spec/18_faults.md R571, R578). -/

namespace Sys2Proof.Machine

/-! ## Apertures (R27 to R29) -/

/-- The reset value of `BAR2_APERTURE_n`: the base in [47:34], the enable in [0]. -/
def apertureReset (n : Nat) : Nat :=
  if n = 0 then 1 else if n ≤ 5 then (n + 3) * 2 ^ 34 + 1 else 0

def State.aperture (s : State) (f n : Nat) : Nat := kget (apertureReset n) s.net.apertures (8 * f + n)

/-- A write keeps the base and the enable. -/
def setAperture (s : State) (f n v : Nat) : State :=
  { s with net := { s.net with apertures := kput (apertureReset n) s.net.apertures (8 * f + n) (bits v 34 14 * 2 ^ 34 + bits v 0 1) } }

/-- The device address of a BAR2 offset: `none` where its aperture is disabled. -/
def apertureAddress (s : State) (f off : Nat) : Option Nat :=
  let v := s.aperture f (off / 2 ^ 34)
  if off < 2 ^ 37 ∧ bit v 0 = true then some (bits v 34 14 * 2 ^ 34 + off % 2 ^ 34) else none

/-! ## Registers -/

/-- First byte and bytes of the register that holds an offset from the first engine register: apertures, the flow and peer window, the
boot window, the admission windows, mailboxes and dictionary windows. -/
def registerSpan (s : State) (f o : Nat) : Option (Nat × Nat) :=
  let word := some (o / 4 * 4, 4)
  if 0x1000 ≤ o ∧ o < 0x1040 then some (o / 8 * 8, 8)
  else if 0x10_0000 ≤ o ∧ o < 0x10_000C then word
  else if 0x10_0040 ≤ o ∧ o < 0x10_0080 then some (0x10_0040, 64)
  else if 0x10_0100 ≤ o ∧ o < 0x10_010C then word
  else if 0x10_0120 ≤ o ∧ o < 0x10_0140 then some (0x10_0120, 32)
  else if 0x30_0000 ≤ o ∧ o < 0x30_000C then if f = 0 then word else none
  else if 0x40_0000 ≤ o ∧ o < 0x40_0000 + 0x1000 * s.partitions then
    if o % 0x1000 < 0x80 then some (o / 64 * 64, 64) else if o % 0x1000 < 0x88 then word else none
  else if 0x100_0000 ≤ o ∧ o < 0x101_0000 then
    let x := o % 0x1000
    if x < 4 then word
    else if 0x100 ≤ x ∧ x < 0x300 then
      if x % 0x100 < 8 then some (o / 8 * 8, 8) else if x % 0x100 < 0x28 then word else none
    else none
  else if 0x200_0000 ≤ o ∧ o < 0x204_0000 then
    let x := o % 0x1_0000
    if x < 0x18 then word else if 0x400 ≤ x ∧ x < 0x800 then some (o / 0x400 * 0x400, 0x400) else none
  else none

/-- `QUEUE_FREE` of a context (R242). -/
def queueFreeWord (s : State) (c : Nat) : Nat :=
  if (s.ctx c).loaded then
    queueFree s c 0 + queueFree s c 1 * 2 ^ 8 + landingFree (s.ctx c) 0 * 2 ^ 16 + landingFree (s.ctx c) 1 * 2 ^ 24
  else 0

/-- What a register reads as, without the effects of a read. -/
def registerValue (s : State) (f o : Nat) : Nat :=
  let w := s.netWindow f
  if o < 0x1040 then s.aperture f ((o - 0x1000) / 8)
  else if o < 0x20_0000 then
    match o - 0x10_0000 with
    | 0x000 => w.flowSelect
    | 0x008 => w.flowResult
    | 0x040 => w.flowData
    | 0x100 => w.peerSelect
    | 0x108 => w.peerResult
    | 0x120 => w.peerData
    | _ => 0
  else if o < 0x40_0000 then
    match o - 0x30_0000 with
    | 0 => s.power.bootLength
    | 8 => if s.dget 0x2020 0 = 1 then s.power.bootStatus else 8
    | _ => 0
  else if o < 0x100_0000 then
    let c := (o - 0x40_0000) / 0x1000
    match o % 0x1000 with
    | 0x00 => kget 0 s.staging (2 * c)
    | 0x40 => kget 0 s.staging (2 * c + 1)
    | 0x84 => queueFreeWord s c
    | _ => 0
  else if o < 0x200_0000 then (mailRegRead s (f + 1) ((o - 0x100_0000) / 0x1000) (o % 0x1000)).1
  else
    let d := s.dictWindow ((o - 0x200_0000) / 0x1_0000)
    match o % 0x1_0000 with
    | 0x00 => d.address
    | 0x04 => d.offset
    | 0x08 => d.length
    | 0x10 => d.status
    | 0x14 => d.abort
    | 0x400 => d.data
    | _ => 0

/-- A read of a register: only that of a mailbox `LOCK` acts (R480). -/
def registerRead (s : State) (f o : Nat) : Nat × State :=
  if 0x100_0000 ≤ o ∧ o < 0x200_0000 then mailRegRead s (f + 1) ((o - 0x100_0000) / 0x1000) (o % 0x1000)
  else (registerValue s f o, s)

/-- `FLOW_COMMAND` (R361, R362). -/
def flowRegister (s : State) (f v : Nat) : State := match v with
  | 0 => s
  | 1 => flowCommand f s (readFlow f)
  | 2 => flowCommand f s (writeFlow f)
  | 3 => flowCommand f s (openCommand f)
  | 4 => flowCommand f s closeCommand
  | _ => flowResult s f netBadField

/-- `PEER_COMMAND`. -/
def peerRegister (s : State) (f v : Nat) : State := match v with
  | 0 => s
  | 1 => peerCommand f s (readPeer f)
  | 2 => peerCommand f s (writePeer f)
  | _ => peerResult s f netBadField

/-- A write in the flow and peer window; the reserved bits of an image that no write may refuse read 0 (R9, R358, R359). -/
def netRegister (s : State) (f o v : Nat) : State :=
  let w := s.netWindow f
  match o - 0x10_0000 with
  | 0x000 => s.setNetWindow f { w with flowSelect := v % 2 ^ 18 }
  | 0x004 => flowRegister s f v
  | 0x040 => s.setNetWindow f { w with flowData := putBits v 384 16 0 }
  | 0x100 => s.setNetWindow f { w with peerSelect := v % 2 ^ 12 }
  | 0x104 => peerRegister s f v
  | 0x120 => s.setNetWindow f { w with peerData := putBits v 16 16 0 }
  | _ => s

/-- A write in the boot window: after SURVEY, and while it is not selected, it is discarded (R559). -/
def bootRegister (s : State) (o v : Nat) : State :=
  if !inSurvey s || s.dget 0x2020 0 != 1 then s
  else match o - 0x30_0000 with
    | 0 => s.setPower fun p => { p with bootLength := v }
    | 4 => if bit v 0 then submitImage s else s
    | _ => s

/-- A write in an admission window: the forward record goes first (R241). -/
def admitRegister (s : State) (c o v : Nat) : State :=
  match o % 0x1000 with
  | 0x00 => { s with staging := kset s.staging (2 * c) v }
  | 0x40 => { s with staging := kset s.staging (2 * c + 1) v }
  | 0x80 =>
    let t := if bit v 0 then pushRecord s c 0 else s
    if bit v 1 then pushRecord t c 1 else t
  | _ => s

/-- A write in a dictionary window; reserved bits are ignored (R9, R508). -/
def dictRegister (s : State) (f o v : Nat) (env : DictEnv) : State :=
  let w := s.dictWindow f
  match o % 0x1_0000 with
  | 0x00 => s.setDictWindow f { w with address := v / 256 * 256 }
  | 0x04 => s.setDictWindow f { w with offset := v }
  | 0x08 => s.setDictWindow f { w with length := v % 2 ^ 11 }
  | 0x0C => match v with
    | 0 => s
    | 1 => windowRead s f
    | 2 => windowSegment s f
    | 3 => windowWrite s f env
    | _ => windowDone s f abortToggle w.status
  | 0x400 => s.setDictWindow f { w with data := v }
  | _ => s

/-- A write of a register. -/
def registerWrite (s : State) (f o v : Nat) (env : DictEnv) : State :=
  if o < 0x1040 then setAperture s f ((o - 0x1000) / 8) v
  else if o < 0x20_0000 then netRegister s f o v
  else if o < 0x40_0000 then bootRegister s o v
  else if o < 0x100_0000 then admitRegister s ((o - 0x40_0000) / 0x1000) o v
  else if o < 0x200_0000 then
    let ch := (o - 0x100_0000) / 0x1000
    if o % 0x1000 = 0 then
      (if !channelUnused s ch && (sideA s ch == f + 1 || sideB s ch == f + 1) then s else mailViolation s (f + 1) ch 0)
    else mailRegWrite s (f + 1) ch (o % 0x1000) v
  else dictRegister s ((o - 0x200_0000) / 0x1_0000) o v env

/-- The registers that `n` bytes from offset `o` touch, ascending; `none` where a byte lies in no register. -/
def registersOf (s : State) (f o n : Nat) : Option (List (Nat × Nat)) :=
  (rangeFrom o n).foldr (fun x l => match l, registerSpan s f x with
    | some l, some e => some (if l.head? = some e then l else e :: l)
    | _, _ => none) (some [])

/-- Bytes of a register access that lie in register `e`. -/
def partOf (e : Nat × Nat) (o n : Nat) : Nat × Nat := (max o e.1, min (o + n) (e.1 + e.2))

/-- Registers read one after the other. -/
def readRegisters (f o n : Nat) (l : List (Nat × Nat)) (s : State) : List Byte × State :=
  l.foldl (fun r e =>
    let q := partOf e o n
    let v := registerRead r.2 f e.1
    (r.1 ++ ((leBytes e.2 v.1).drop (q.1 - e.1)).take (q.2 - q.1), v.2)) ([], s)

/-- What a write that carries some bytes of a register leaves in the others: `DOORBELL_STATUS` clears nothing there. -/
def registerKept (s : State) (f o : Nat) : Nat :=
  if 0x100_0000 ≤ o ∧ o < 0x200_0000 ∧ o % 0x100 = 0x1C then 0 else registerValue s f o

/-- Registers written one after the other: bytes that the access does not carry keep their value. -/
def writeRegisters (f o : Nat) (bs : List Byte) (env : DictEnv) (l : List (Nat × Nat)) (s : State) : State :=
  l.foldl (fun t e =>
    let q := partOf e o bs.length
    let old := registerKept t f e.1
    registerWrite t f e.1 (putBits old (8 * (q.1 - e.1)) (8 * (q.2 - q.1)) (ofLe ((bs.drop (q.1 - o)).take (q.2 - q.1)))) env) s

/-! ## Device accesses (R25 to R27, R30) -/

/-- The context whose blocks the logical windows show a function: its own, or that of the one configured tenant. -/
def windowContext (s : State) (f : Nat) : Nat :=
  if multiTenant s then f else match s.tenants with
    | t :: _ => s.dget (0x6070 + t) 1
    | [] => f

/-- The bytes of the object that a host drain of the function's context has posted and that awaits its answer (R25, R490). -/
def drainedObject (s : State) (f a n : Nat) : Bool := match drainCapture s f with
  | none => false
  | some (d, p) => d.host && d.waiting && within a n (objectAddress s f d) (objectAddress s f d + (drainObject s f p d).2.2.length)

/-- A read that completes with Unsupported Request. -/
def unsupported (s : State) (f : Nat) : State := s.emit (.completion f 1 false [])

/-- A read of memory by device address. -/
def readMemory (s : State) (f a n : Nat) : State :=
  let r := if drainedObject s f a n then (let bs := readTagged s a n; (some bs, hostPoison s 5 a bs))
    else deviceRead s 5 (windowContext s f) a n
  match r.1 with
  | none => unsupported r.2 f
  | some bs => r.2.emit (.completion f 0 (anyTagged bs) (bs.map (·.1)))

/-- The granules of Cairn that a write of device bytes meets (R425). -/
def writtenGranules (s : State) (c a n : Nat) : List Nat :=
  ((rangeFrom a n).map fun x => granuleAt (match windowAt s c x with
    | some w => w.1 * windowBytes + w.2
    | none => x)).foldl sinsert []

/-- A write of memory by device address; it waits for a fast copy that has still to read what it meets. -/
def writeMemory (s : State) (f a : Nat) (bs : List TByte) : State :=
  let c := windowContext s f
  whenGranulesFree s (writtenGranules s c a bs.length) fun t => deviceWrite t 5 c a bs

/-- An access outside a function's reach, or of no register, behaves as unmapped (R26, R30). -/
def unreached (s : State) (f a : Nat) (write : Bool) : State :=
  let t := unmapped s 0 a
  if write then t else unsupported t f

/-- A read by device address. -/
def hostRead (s : State) (f a n : Nat) : State :=
  if !functionReach s f a n && !drainedObject s f a n then unreached s f a false
  else if engineBase ≤ a ∧ a < storeBase then
    match registersOf s f (a - engineBase) n with
    | none => unreached s f (((lowestByte a n fun x => (registerSpan s f (x - engineBase)).isNone)).getD a) false
    | some l =>
      let r := readRegisters f (a - engineBase) n l s
      r.2.emit (.completion f 0 false r.1)
  else readMemory s f a n

/-- A write by device address, with its EP bit. -/
def hostWrite (s : State) (f a : Nat) (ep : Bool) (bs : List Byte) (env : DictEnv) : State :=
  if !functionReach s f a bs.length then unreached s f a true
  else if engineBase ≤ a ∧ a < storeBase then
    match registersOf s f (a - engineBase) bs.length with
    | none => unreached s f (((lowestByte a bs.length fun x => (registerSpan s f (x - engineBase)).isNone)).getD a) true
    | some l => writeRegisters f (a - engineBase) bs env l s
  else writeMemory s f a (bs.map fun b => (b, ep))

/-- PCIE_ACCESS (R26, R27): a request of function `f` at offset `off` of BAR0 (`bar` 0) or BAR2: a read of `n` bytes, or with `write` a write of
`bytes` with its EP bit. `errors` are those that the access's words met, and `env` what a dictionary command needs. An access through a
disabled aperture counts nothing. -/
def execPcieAccess (f bar off n : Nat) (write ep : Bool) (bytes : List Byte) (errors : List ReadError) (env : DictEnv) (s : State) :
    Host.Outcome State Fault Refusal :=
  let target := if bar = 0 then (if off < 2 ^ 26 then some (engineBase + off) else none)
    else if bar = 2 then apertureAddress s f off else none
  .next (if !windowServes s f then s
    else match target with
      | none => if write then s else unsupported s f
      | some a =>
        let t := senseAll 5 s errors
        if write then hostWrite t f a ep bytes env else hostRead t f a n)

/-! ## Resets (R487, R510, R562, R589) -/

/-- One function's apertures and staging registers return to their reset values, with its dictionary window. -/
def functionRegisters (s : State) (f : Nat) : State :=
  { s with
    net := { s.net with apertures := s.net.apertures.filter fun e => e.1 / 8 != f }
    staging := s.staging.filter fun e => e.1 / 2 != f
    garnet := { s.garnet with windows := kerase s.garnet.windows f } }

/-- One function is reset: its lease ends and its identity is reset. -/
def functionReset (s : State) (f : Nat) : State := identityReset (endFunctionLease (functionRegisters s f) f) (f + 1)

/-- FUNCTION_LEVEL_RESET (R562). -/
def execFunctionLevelReset (f : Nat) (s : State) : Host.Outcome State Fault Refusal :=
  .next (if windowServes s f then functionReset s f else s)

/-- PCIE_HOT_RESET (R562): every function, with the window registers; BAR0 is served again after the next link-up. -/
def execPcieHotReset (s : State) : Host.Outcome State Fault Refusal :=
  .next (if s.squareUp then
    let t := (List.range 4).foldl functionReset s
    State.setPower { t with net := { t.net with windows := [] } } fun p => { p with pcieUp := false }
  else s)

end Sys2Proof.Machine
end

