-- ==== Sys2Proof/Machine/Dispatch.lean ====
section
/-! DEFINITION. One arm per command: its meaning, or its refusal by name while it has none. -/

namespace Sys2Proof.Machine

def exec (i : Instr) (s : State) : Host.Outcome State Fault Refusal :=
  match i with
  | .powerGood samples committedOk otherOk regionOk => Sys2Proof.Machine.execPowerGood samples committedOk otherOk regionOk s
  | .presenceAssert bus400 bus12 => Sys2Proof.Machine.execPresenceAssert bus400 bus12 s
  | .presenceDeassert => Sys2Proof.Machine.execPresenceDeassert s
  | .inputSwitchTrip cause => Sys2Proof.Machine.execInputSwitchTrip cause s
  | .supplyLoss => Sys2Proof.Machine.execSupplyLoss s
  | .inputUndervoltage lowest => Sys2Proof.Machine.execInputUndervoltage lowest s
  | .autoSurvey check => Sys2Proof.Machine.execAutoSurvey check s
  | .powerUp r check => Sys2Proof.Machine.execPowerUp r check s
  | .microcodeLoaded => Sys2Proof.Machine.execMicrocodeLoaded s
  | .blockCheck bad touch => Sys2Proof.Machine.execBlockCheck bad touch s
  | .surveyDone limit => Sys2Proof.Machine.execSurveyDone limit s
  | .bootSubmit => Sys2Proof.Machine.execBootSubmit s
  | .bootImageTimeout => Sys2Proof.Machine.execBootImageTimeout s
  | .pcieLinkUp => Sys2Proof.Machine.execPcieLinkUp s
  | .loadImage r => Sys2Proof.Machine.execLoadImage r s
  | .start r => Sys2Proof.Machine.execStart r s
  | .startAtBeat => Sys2Proof.Machine.execStartAtBeat s
  | .hold r => Sys2Proof.Machine.execHold r s
  | .holdAtBeat => Sys2Proof.Machine.execHoldAtBeat s
  | .resume r => Sys2Proof.Machine.execResume r s
  | .unload r => Sys2Proof.Machine.execUnload r s
  | .powerDown r => Sys2Proof.Machine.execPowerDown r s
  | .resetRequest r => Sys2Proof.Machine.execResetRequest r s
  | .fatalFault causes => Sys2Proof.Machine.execFatalFault causes s
  | .faultFollowupReset => Sys2Proof.Machine.execFaultFollowupReset s
  | .faultCauseClear r => Sys2Proof.Machine.execFaultCauseClear r s
  | .nop c cls slots touch => Sys2Proof.Machine.execNop c cls slots touch s
  | .delay c n cls slots touch => Sys2Proof.Machine.execDelay c n cls slots touch s
  | .waitBeat c mode key delta offset since => Sys2Proof.Machine.execWaitBeat c mode key delta offset since s
  | .lateBeat c mode delta missed => Sys2Proof.Machine.execLateBeat c mode delta missed s
  | .loopOp c n last => Sys2Proof.Machine.execLoopOp c n last s
  | .jump c target => Sys2Proof.Machine.execJump c target s
  | .branch c negate cond target => Sys2Proof.Machine.execBranch c negate cond target s
  | .fence c => Sys2Proof.Machine.execFence c s
  | .overlayLoad c page store => Sys2Proof.Machine.execOverlayLoad c page store s
  | .backlogPush c cls length address => Sys2Proof.Machine.execBacklogPush c cls length address s
  | .checkpointAt c delta arg => Sys2Proof.Machine.execCheckpointAt c delta arg s
  | .evacWindow c delta arg => Sys2Proof.Machine.execEvacWindow c delta arg s
  | .deadlineArm c delta arg => Sys2Proof.Machine.execDeadlineArm c delta arg s
  | .endStream c => Sys2Proof.Machine.execEndStream c s
  | .mmAcc c sel pred fmtA fmtB steps h start transA aSel aOffset bSel bRow scale acc postinc touch => Sys2Proof.Machine.execMmAcc c sel pred fmtA fmtB steps h start transA aSel aOffset bSel bRow scale acc postinc touch s
  | .accStore c sel pred acc half bank row postinc touch => Sys2Proof.Machine.execAccStore c sel pred acc half bank row postinc touch s
  | .micaFill c sel pred quarter mode fmt reads dest row postinc touch => Sys2Proof.Machine.execMicaFill c sel pred quarter mode fmt reads dest row postinc touch s
  | .setBase c sel pred target mode va imm => Sys2Proof.Machine.execSetBase c sel pred target mode va imm s
  | .vadd c sel pred vd va vb => Sys2Proof.Machine.execVadd c sel pred vd va vb s
  | .vsub c sel pred vd va vb => Sys2Proof.Machine.execVsub c sel pred vd va vb s
  | .vmul c sel pred vd va vb => Sys2Proof.Machine.execVmul c sel pred vd va vb s
  | .vfma c sel pred vd va vb vc => Sys2Proof.Machine.execVfma c sel pred vd va vb vc s
  | .vmin c sel pred vd va vb => Sys2Proof.Machine.execVmin c sel pred vd va vb s
  | .vmax c sel pred vd va vb => Sys2Proof.Machine.execVmax c sel pred vd va vb s
  | .vcmp c sel pred vd va vb kind => Sys2Proof.Machine.execVcmp c sel pred vd va vb kind s
  | .vsel c sel pred vd va vb vc => Sys2Proof.Machine.execVsel c sel pred vd va vb vc s
  | .viadd c sel pred vd va vb => Sys2Proof.Machine.execViadd c sel pred vd va vb s
  | .vand c sel pred vd va vb => Sys2Proof.Machine.execVand c sel pred vd va vb s
  | .vor c sel pred vd va vb => Sys2Proof.Machine.execVor c sel pred vd va vb s
  | .vxor c sel pred vd va vb => Sys2Proof.Machine.execVxor c sel pred vd va vb s
  | .vshift c sel pred vd va vb kind imm amount => Sys2Proof.Machine.execVshift c sel pred vd va vb kind imm amount s
  | .vcvt c sel pred vd va src dst round ovf adv tensor => Sys2Proof.Machine.execVcvt c sel pred vd va src dst round ovf adv tensor s
  | .vquant c sel pred vd va vb dst round adv tensor => Sys2Proof.Machine.execVquant c sel pred vd va vb dst round adv tensor s
  | .vperm c sel pred vd va kind arg => Sys2Proof.Machine.execVperm c sel pred vd va kind arg s
  | .vexp2 c sel pred vd va => Sys2Proof.Machine.execVexp2 c sel pred vd va s
  | .vlog2 c sel pred vd va => Sys2Proof.Machine.execVlog2 c sel pred vd va s
  | .vrcp c sel pred vd va => Sys2Proof.Machine.execVrcp c sel pred vd va s
  | .vrsqrt c sel pred vd va => Sys2Proof.Machine.execVrsqrt c sel pred vd va s
  | .vsqrt c sel pred vd va => Sys2Proof.Machine.execVsqrt c sel pred vd va s
  | .vtanh c sel pred vd va => Sys2Proof.Machine.execVtanh c sel pred vd va s
  | .vreduceSum c sel pred vd va => Sys2Proof.Machine.execVreduceSum c sel pred vd va s
  | .vreduceMax c sel pred vd va => Sys2Proof.Machine.execVreduceMax c sel pred vd va s
  | .vload c sel pred vd width bank half row postinc touch => Sys2Proof.Machine.execVload c sel pred vd width bank half row postinc touch s
  | .vstore c sel pred vd size bank offset row scales sbank srow sbyte postinc touch => Sys2Proof.Machine.execVstore c sel pred vd size bank offset row scales sbank srow sbyte postinc touch s
  | .vaccRead c sel pred vd row half touch => Sys2Proof.Machine.execVaccRead c sel pred vd row half touch s
  | .vpred c sel pred dest va mode invert => Sys2Proof.Machine.execVpred c sel pred dest va mode invert s
  | .flagsRead c sel pred vd => Sys2Proof.Machine.execFlagsRead c sel pred vd s
  | .flagsClear c sel pred mask => Sys2Proof.Machine.execFlagsClear c sel pred mask s
  | .micaLoad c slot standby sel pred quarter mode fmt reads dest row postinc touch => Sys2Proof.Machine.execMicaLoad c slot standby sel pred quarter mode fmt reads dest row postinc touch s
  | .copyBank c slot standby sel pred sbank srow dbank drow rows postinc touch => Sys2Proof.Machine.execCopyBank c slot standby sel pred sbank srow dbank drow rows postinc touch s
  | .copyAvenue c slot standby sel pred dir delta lbank lrow rbank rrow beats lat postinc touch => Sys2Proof.Machine.execCopyAvenue c slot standby sel pred dir delta lbank lrow rbank rrow beats lat postinc touch s
  | .copySquare c slot standby sel pred dir bank row buffer offset rows postinc touch => Sys2Proof.Machine.execCopySquare c slot standby sel pred dir bank row buffer offset rows postinc touch s
  | .copyBedrock c slot standby sel pred dir bank row buffer offset rows postinc touch => Sys2Proof.Machine.execCopyBedrock c slot standby sel pred dir bank row buffer offset rows postinc touch s
  | .copySb c slot standby dir sq sqOffset br brOffset length touch => Sys2Proof.Machine.execCopySb c slot standby dir sq sqOffset br brOffset length touch s
  | .stashPageRelease c => Sys2Proof.Machine.execStashPageRelease c s
  | .netSend c f buffer offset length last touch => Sys2Proof.Machine.execNetSend c f buffer offset length last touch s
  | .netRecv c f buffer offset length last => Sys2Proof.Machine.execNetRecv c f buffer offset length last s
  | .plazaSend c plaza sel pred slotBase bank row half sum touch => Sys2Proof.Machine.execPlazaSend c plaza sel pred slotBase bank row half sum touch s
  | .plazaDrain c plaza sel pred bank row half sum touch => Sys2Proof.Machine.execPlazaDrain c plaza sel pred bank row half sum touch s
  | .qSend c sel pred q delta vreg part fmt last => Sys2Proof.Machine.execQSend c sel pred q delta vreg part fmt last s
  | .qRecv c sel pred q vreg part touch => Sys2Proof.Machine.execQRecv c sel pred q vreg part touch s
  | .qClose c sel pred q => Sys2Proof.Machine.execQClose c sel pred q s
  | .admitFwd c d sels => Sys2Proof.Machine.execAdmitFwd c d sels s
  | .admitGrad c d sels => Sys2Proof.Machine.execAdmitGrad c d sels s
  | .waitTimeout c => Sys2Proof.Machine.execWaitTimeout c s
  | .rowMigration p bank spare touch => Sys2Proof.Machine.execRowMigration p bank spare touch s
  | .patrolScrub touch => Sys2Proof.Machine.execPatrolScrub touch s
  | .evacRequest r value => Sys2Proof.Machine.execEvacRequest r value s
  | .evacPrepare touch => Sys2Proof.Machine.execEvacPrepare touch s
  | .evacSwitch c => Sys2Proof.Machine.execEvacSwitch c s
  | .mapOut r value => Sys2Proof.Machine.execMapOut r value s
  | .returnToService r value => Sys2Proof.Machine.execReturnToService r value s
  | .admitPushFwd c => Sys2Proof.Machine.execAdmitPushFwd c s
  | .admitPushGrad c => Sys2Proof.Machine.execAdmitPushGrad c s
  | .beatEdge cycles => Sys2Proof.Machine.execBeatEdge cycles s
  | .beatSourceWrite r value => Sys2Proof.Machine.execBeatSourceWrite r value s
  | .acquisitionStart now present settled near => Sys2Proof.Machine.execAcquisitionStart now present settled near s
  | .beatLock => Sys2Proof.Machine.execBeatLock s
  | .ptpMessage m => Sys2Proof.Machine.execPtpMessage m s
  | .timeSourceLost => Sys2Proof.Machine.execTimeSourceLost s
  | .holdoverExpiry => Sys2Proof.Machine.execHoldoverExpiry s
  | .stretchRequestFrame body now => Sys2Proof.Machine.execStretchRequestFrame body now s
  | .stretchRequestSend now => Sys2Proof.Machine.execStretchRequestSend now s
  | .scheduleIssue now stayedLow => Sys2Proof.Machine.execScheduleIssue now stayedLow s
  | .scheduleAnnounce body now => Sys2Proof.Machine.execScheduleAnnounce body now s
  | .announceForward => Sys2Proof.Machine.execAnnounceForward s
  | .thermalEvaluation => Sys2Proof.Machine.execThermalEvaluation s
  | .masterLost => Sys2Proof.Machine.execMasterLost s
  | .promoteMaster r value => Sys2Proof.Machine.execPromoteMaster r value s
  | .cageInsert p media phy declared usable => Sys2Proof.Machine.execCageInsert p media phy declared usable s
  | .cageRemove p => Sys2Proof.Machine.execCageRemove p s
  | .cagePowerSample p average => Sys2Proof.Machine.execCagePowerSample p average s
  | .cageOvercurrent p => Sys2Proof.Machine.execCageOvercurrent p s
  | .linkUp p delay rx => Sys2Proof.Machine.execLinkUp p delay rx s
  | .identityRecheck p => Sys2Proof.Machine.execIdentityRecheck p s
  | .linkDown p => Sys2Proof.Machine.execLinkDown p s
  | .capabilityFrame p body => Sys2Proof.Machine.execCapabilityFrame p body s
  | .capabilityTimeout p => Sys2Proof.Machine.execCapabilityTimeout p s
  | .dataFrame frame => Sys2Proof.Machine.execDataFrame frame s
  | .ackFrame frame => Sys2Proof.Machine.execAckFrame frame s
  | .ackSend f => Sys2Proof.Machine.execAckSend f s
  | .retransmitTimeout f u => Sys2Proof.Machine.execRetransmitTimeout f u s
  | .flowBreak f => Sys2Proof.Machine.execFlowBreak f s
  | .openFrame frame => Sys2Proof.Machine.execOpenFrame frame s
  | .openRetry f => Sys2Proof.Machine.execOpenRetry f s
  | .rejectFrame frame => Sys2Proof.Machine.execRejectFrame frame s
  | .closeFrame frame => Sys2Proof.Machine.execCloseFrame frame s
  | .parkFrame frame => Sys2Proof.Machine.execParkFrame frame s
  | .resumeFrame frame => Sys2Proof.Machine.execResumeFrame frame s
  | .addressResolution p address => Sys2Proof.Machine.execAddressResolution p address s
  | .flowRead fn => Sys2Proof.Machine.execFlowRead fn s
  | .flowWrite fn => Sys2Proof.Machine.execFlowWrite fn s
  | .flowOpen fn => Sys2Proof.Machine.execFlowOpen fn s
  | .flowClose fn => Sys2Proof.Machine.execFlowClose fn s
  | .peerRead fn => Sys2Proof.Machine.execPeerRead fn s
  | .peerWrite fn => Sys2Proof.Machine.execPeerWrite fn s
  | .rdmaCreditPoll f => Sys2Proof.Machine.execRdmaCreditPoll f s
  | .rdmaResponse f kind seq value bytes => Sys2Proof.Machine.execRdmaResponse f kind seq value bytes s
  | .congestionNotification f => Sys2Proof.Machine.execCongestionNotification f s
  | .form r n => Sys2Proof.Machine.execForm r n s
  | .disband r n => Sys2Proof.Machine.execDisband r n s
  | .formationRecord n m generation digest members algorithm group policy veto headroom => Sys2Proof.Machine.execFormationRecord n m generation digest members algorithm group policy veto headroom s
  | .formationRetry n => Sys2Proof.Machine.execFormationRetry n s
  | .reduce f record => Sys2Proof.Machine.execReduce f record s
  | .gather f record => Sys2Proof.Machine.execGather f record s
  | .partialUnit unit => Sys2Proof.Machine.execPartialUnit unit s
  | .recordsUnit unit => Sys2Proof.Machine.execRecordsUnit unit s
  | .scalesUnit unit => Sys2Proof.Machine.execScalesUnit unit s
  | .takeoverNotice unit => Sys2Proof.Machine.execTakeoverNotice unit s
  | .abortNotice unit => Sys2Proof.Machine.execAbortNotice unit s
  | .gatherUnit unit => Sys2Proof.Machine.execGatherUnit unit s
  | .lateShardUnit unit => Sys2Proof.Machine.execLateShardUnit unit s
  | .reductionDeadline n k granted => Sys2Proof.Machine.execReductionDeadline n k granted s
  | .summaryDelivery n => Sys2Proof.Machine.execSummaryDelivery n s
  | .takeCheckpoint r c => Sys2Proof.Machine.execTakeCheckpoint r c s
  | .restoreGeneration r c => Sys2Proof.Machine.execRestoreGeneration r c s
  | .fastCopyGranule c touch => Sys2Proof.Machine.execFastCopyGranule c touch s
  | .fastCopyEnd c cycles => Sys2Proof.Machine.execFastCopyEnd c cycles s
  | .granuleWait c addresses => Sys2Proof.Machine.execGranuleWait c addresses s
  | .drainGeneration c => Sys2Proof.Machine.execDrainGeneration c s
  | .durableAnswer unit => Sys2Proof.Machine.execDurableAnswer unit s
  | .claimResult unit => Sys2Proof.Machine.execClaimResult unit s
  | .verifyResult unit => Sys2Proof.Machine.execVerifyResult unit s
  | .dataLast unit => Sys2Proof.Machine.execDataLast unit s
  | .absentAnswer unit => Sys2Proof.Machine.execAbsentAnswer unit s
  | .ckptTimeout c => Sys2Proof.Machine.execCkptTimeout c s
  | .peerGet unit => Sys2Proof.Machine.execPeerGet unit s
  | .hostDrainAnswer ch => Sys2Proof.Machine.execHostDrainAnswer ch s
  | .tenantLoad r t => Sys2Proof.Machine.execTenantLoad r t s
  | .tenantStart r t => Sys2Proof.Machine.execTenantStart r t s
  | .preempt r t => Sys2Proof.Machine.execPreempt r t s
  | .releaseTenant r t => Sys2Proof.Machine.execReleaseTenant r t s
  | .tenantUnload r t => Sys2Proof.Machine.execTenantUnload r t s
  | .tenantHold r t => Sys2Proof.Machine.execTenantHold r t s
  | .tenantResume r t => Sys2Proof.Machine.execTenantResume r t s
  | .preemptGraceExpiry t => Sys2Proof.Machine.execPreemptGraceExpiry t s
  | .schedulerDecision charges => Sys2Proof.Machine.execSchedulerDecision charges s
  | .saveTenant t => Sys2Proof.Machine.execSaveTenant t s
  | .reloadTenant t => Sys2Proof.Machine.execReloadTenant t s
  | .deadlineCheck => Sys2Proof.Machine.execDeadlineCheck s
  | .lockAccess ident ch dir write => Sys2Proof.Machine.execLockAccess ident ch dir write s
  | .producer ident ch dir value => Sys2Proof.Machine.execProducer ident ch dir value s
  | .consumer ident ch dir value => Sys2Proof.Machine.execConsumer ident ch dir value s
  | .ringSet ident ch dir size value => Sys2Proof.Machine.execRingSet ident ch dir size value s
  | .doorbellSet ident ch dir value => Sys2Proof.Machine.execDoorbellSet ident ch dir value s
  | .doorbellStatus ident ch dir value => Sys2Proof.Machine.execDoorbellStatus ident ch dir value s
  | .doorbellMask ident ch dir value => Sys2Proof.Machine.execDoorbellMask ident ch dir value s
  | .identityReset ident => Sys2Proof.Machine.execIdentityReset ident s
  | .noticePost ch => Sys2Proof.Machine.execNoticePost ch s
  | .hardwareReceiverTake ch dir => Sys2Proof.Machine.execHardwareReceiverTake ch dir s
  | .watchdogRestart => Sys2Proof.Machine.execWatchdogRestart s
  | .sensorSample readings mv ma watts ripple corners => Sys2Proof.Machine.execSensorSample readings mv ma watts ripple corners s
  | .capEvaluation => Sys2Proof.Machine.execCapEvaluation s
  | .leak sensors => Sys2Proof.Machine.execLeak sensors s
  | .supplyWarningLog => Sys2Proof.Machine.execSupplyWarningLog s
  | .logWindow => Sys2Proof.Machine.execLogWindow s
  | .dictionaryWrite r idx sub len value env => Sys2Proof.Machine.execDictionaryWrite r idx sub len value env s
  | .usdoTransfer node op idx sub count bytes env => Sys2Proof.Machine.execUsdoTransfer node op idx sub count bytes env s
  | .usdoIdleTimeout node => Sys2Proof.Machine.execUsdoIdleTimeout node s
  | .nmtCommand command node => Sys2Proof.Machine.execNmtCommand command node s
  | .heartbeat => Sys2Proof.Machine.execHeartbeat s
  | .datagramRead addr port header => Sys2Proof.Machine.execDatagramRead addr port header s
  | .datagramWrite addr port header data env => Sys2Proof.Machine.execDatagramWrite addr port header data env s
  | .partialWriteTimeout addr port session => Sys2Proof.Machine.execPartialWriteTimeout addr port session s
  | .dictCommandRead f => Sys2Proof.Machine.execDictCommandRead f s
  | .dictCommandWriteSegment f => Sys2Proof.Machine.execDictCommandWriteSegment f s
  | .dictCommandWrite f env => Sys2Proof.Machine.execDictCommandWrite f env s
  | .leaseAcquire r => Sys2Proof.Machine.execLeaseAcquire r s
  | .leaseRelease r => Sys2Proof.Machine.execLeaseRelease r s
  | .leaseExpiry => Sys2Proof.Machine.execLeaseExpiry s
  | .beginUpdate r => Sys2Proof.Machine.execBeginUpdate r s
  | .fwData r bytes written => Sys2Proof.Machine.execFwData r bytes written s
  | .fwFetch r => Sys2Proof.Machine.execFwFetch r s
  | .verifyImage r => Sys2Proof.Machine.execVerifyImage r s
  | .activateSlot r => Sys2Proof.Machine.execActivateSlot r s
  | .commitTrial r => Sys2Proof.Machine.execCommitTrial r s
  | .abortUpdate r => Sys2Proof.Machine.execAbortUpdate r s
  | .trialTimeout => Sys2Proof.Machine.execTrialTimeout s
  | .restoreAllDefaults r => Sys2Proof.Machine.execRestoreAllDefaults r s
  | .admitPort r value => Sys2Proof.Machine.execAdmitPort r value s
  | .admitPeer r value => Sys2Proof.Machine.execAdmitPeer r value s
  | .loaderFetch r => Sys2Proof.Machine.execLoaderFetch r s
  | .loaderNoAnswer => Sys2Proof.Machine.execLoaderNoAnswer s
  | .getVersion medium target => Sys2Proof.Machine.execGetVersion medium target s
  | .getCapabilities medium target version => Sys2Proof.Machine.execGetCapabilities medium target version s
  | .negotiateAlgorithms medium target version offered => Sys2Proof.Machine.execNegotiateAlgorithms medium target version offered s
  | .getDigests medium target version => Sys2Proof.Machine.execGetDigests medium target version s
  | .getCertificate medium target version slot offset length => Sys2Proof.Machine.execGetCertificate medium target version slot offset length s
  | .challenge medium target version slot nonce second => Sys2Proof.Machine.execChallenge medium target version slot nonce second s
  | .getMeasurements medium target version index signed nonce second => Sys2Proof.Machine.execGetMeasurements medium target version index signed nonce second s
  | .pcieAccess f bar off n write ep bytes errors env => Sys2Proof.Machine.execPcieAccess f bar off n write ep bytes errors env s
  | .functionLevelReset f => Sys2Proof.Machine.execFunctionLevelReset f s
  | .pcieHotReset => Sys2Proof.Machine.execPcieHotReset s
  | .ppsEdge now offset => Sys2Proof.Machine.execPpsEdge now offset s
  | .inputSwitchClose bus400 => Sys2Proof.Machine.execInputSwitchClose bus400 s
  | .linkTrainingLimit p => Sys2Proof.Machine.execLinkTrainingLimit p s
  | .landingEntryFree c q => Sys2Proof.Machine.execLandingEntryFree c q s
  | .receiveUnitsFreed f => Sys2Proof.Machine.execReceiveUnitsFreed f s
  | .peerExchangeTimeout peer => Sys2Proof.Machine.execPeerExchangeTimeout peer s
  | .spdmResponse target code chain device valid => Sys2Proof.Machine.execSpdmResponse target code chain device valid s
  | .identityCheckTimeout target => Sys2Proof.Machine.execIdentityCheckTimeout target s
  | .pathUsableAgain f path => Sys2Proof.Machine.execPathUsableAgain f path s
  | .qpRateRecovery f => Sys2Proof.Machine.execQpRateRecovery f s
  | .receiverWake ident => Sys2Proof.Machine.execReceiverWake ident s
  | .recordCopyToFlash => Sys2Proof.Machine.execRecordCopyToFlash s

end Sys2Proof.Machine
end

