-- ==== Sys2Proof/WellFormed.lean ====
section
/-! DEFINITION. Well-formed commands: each operand lies in the field that spells it (spec/05_bundle_reference.md for slots;
the dictionary, mailbox and frame chapters for the rest). The meanings do not rely on it; the statements may. -/

namespace Sys2Proof

/-- Every value fits the width beside it. -/
def fits (l : List (Nat × Nat)) : Bool := l.all fun e => decide (e.1 < 2 ^ e.2)

/-- A path code of R503, with an identity of the path: a node-ID, a session or a function number. -/
def Requester.wf (r : Requester) : Bool :=
  fits [(r.addr, 128), (r.port, 16)] &&
  (if r.path = 1 then fits [(r.id, 7)] else if r.path = 2 then fits [(r.id, 16)] else r.path == 3 && fits [(r.id, 2)])

/-- A frame arrives on a port or inside the Square, with an IP source, a UDP port, a 64 B header and at most 4,096 bytes (R352, R353). -/
def FrameIn.wf (x : FrameIn) : Bool := decide (x.port ≤ 8) && fits [(x.source, 128), (x.dport, 16), (x.header, 512)] && decide (x.body.length ≤ 4096)

/-- A beat control frame arrives on a port, with an IP source and a 64 B body (R321). -/
def BeatFrame.wf (x : BeatFrame) : Bool := fits [(x.port, 3), (x.source, 128), (x.body, 512)]

/-- A unit of an engine's flow: a 64 B header and the bytes after it (R354, R403, R433). -/
def EngineUnit.wf (x : EngineUnit) : Bool := fits [(x.flow, 18), (x.header, 512), (x.map, 64)] && decide (x.body.length ≤ 4032)

/-- The well-formed commands. -/
def wellFormed : Instr → Bool
  | .powerGood _ _ _ _ => true
  | .presenceAssert _ _ => true
  | .presenceDeassert => true
  | .inputSwitchTrip _ => true
  | .supplyLoss => true
  | .inputUndervoltage _ => true
  | .autoSurvey _ => true
  | .powerUp r _ => r.wf
  | .microcodeLoaded => true
  | .blockCheck _ _ => true
  | .surveyDone _ => true
  | .bootSubmit => true
  | .bootImageTimeout => true
  | .pcieLinkUp => true
  | .loadImage r => r.wf
  | .start r => r.wf
  | .startAtBeat => true
  | .hold r => r.wf
  | .holdAtBeat => true
  | .resume r => r.wf
  | .unload r => r.wf
  | .powerDown r => r.wf
  | .resetRequest r => r.wf
  | .fatalFault _ => true
  | .faultFollowupReset => true
  | .faultCauseClear r => r.wf
  | .nop c cls slots _ => fits [(c, 2), (cls, 2), (slots, 8)]
  | .delay c n cls slots _ => fits [(c, 2), (n, 24), (cls, 2), (slots, 8)]
  | .waitBeat c mode key delta offset _ => fits [(c, 2), (mode, 1), (key, 1), (delta, 24), (offset, 28)]
  | .lateBeat c mode delta _ => fits [(c, 2), (mode, 1), (delta, 24)]
  | .loopOp c n last => fits [(c, 2), (n, 24), (last, 16)]
  | .jump c target => fits [(c, 2), (target, 16)]
  | .branch c negate cond target => fits [(c, 2), (negate, 1), (cond, 5), (target, 16)]
  | .fence c => fits [(c, 2)]
  | .overlayLoad c page store => fits [(c, 2), (page, 12), (store, 6)]
  | .backlogPush c cls length address => fits [(c, 2), (cls, 2), (length, 13), (address, 16)]
  | .checkpointAt c delta arg => fits [(c, 2), (delta, 24), (arg, 16)]
  | .evacWindow c delta arg => fits [(c, 2), (delta, 24), (arg, 16)]
  | .deadlineArm c delta arg => fits [(c, 2), (delta, 24), (arg, 16)]
  | .endStream c => fits [(c, 2)]
  | .mmAcc c sel pred fmtA fmtB steps h start transA aSel aOffset bSel bRow scale acc postinc _ =>
      fits [(c, 2), (sel, 6), (pred, 3), (fmtA, 4), (fmtB, 4), (steps, 8), (h, 5), (start, 2), (transA, 1), (aSel, 3),
      (aOffset, 6), (bSel, 3), (bRow, 4), (scale, 4), (acc, 4), (postinc, 1)]
  | .accStore c sel pred acc half bank row postinc _ =>
      fits [(c, 2), (sel, 6), (pred, 3), (acc, 4), (half, 1), (bank, 4), (row, 6), (postinc, 1)]
  | .micaFill c sel pred quarter mode fmt reads dest row postinc _ =>
      fits [(c, 2), (sel, 6), (pred, 3), (quarter, 3), (mode, 2), (fmt, 4), (reads, 3), (dest, 2), (row, 6), (postinc, 1)]
  | .setBase c sel pred target mode va imm => fits [(c, 2), (sel, 6), (pred, 3), (target, 5), (mode, 2), (va, 5), (imm, 36)]
  | .vadd c sel pred vd va vb => fits [(c, 2), (sel, 6), (pred, 3), (vd, 5), (va, 5), (vb, 5)]
  | .vsub c sel pred vd va vb => fits [(c, 2), (sel, 6), (pred, 3), (vd, 5), (va, 5), (vb, 5)]
  | .vmul c sel pred vd va vb => fits [(c, 2), (sel, 6), (pred, 3), (vd, 5), (va, 5), (vb, 5)]
  | .vfma c sel pred vd va vb vc => fits [(c, 2), (sel, 6), (pred, 3), (vd, 5), (va, 5), (vb, 5), (vc, 5)]
  | .vmin c sel pred vd va vb => fits [(c, 2), (sel, 6), (pred, 3), (vd, 5), (va, 5), (vb, 5)]
  | .vmax c sel pred vd va vb => fits [(c, 2), (sel, 6), (pred, 3), (vd, 5), (va, 5), (vb, 5)]
  | .vcmp c sel pred vd va vb kind => fits [(c, 2), (sel, 6), (pred, 3), (vd, 5), (va, 5), (vb, 5), (kind, 3)]
  | .vsel c sel pred vd va vb vc => fits [(c, 2), (sel, 6), (pred, 3), (vd, 5), (va, 5), (vb, 5), (vc, 5)]
  | .viadd c sel pred vd va vb => fits [(c, 2), (sel, 6), (pred, 3), (vd, 5), (va, 5), (vb, 5)]
  | .vand c sel pred vd va vb => fits [(c, 2), (sel, 6), (pred, 3), (vd, 5), (va, 5), (vb, 5)]
  | .vor c sel pred vd va vb => fits [(c, 2), (sel, 6), (pred, 3), (vd, 5), (va, 5), (vb, 5)]
  | .vxor c sel pred vd va vb => fits [(c, 2), (sel, 6), (pred, 3), (vd, 5), (va, 5), (vb, 5)]
  | .vshift c sel pred vd va vb kind imm amount =>
      fits [(c, 2), (sel, 6), (pred, 3), (vd, 5), (va, 5), (vb, 5), (kind, 2), (imm, 1), (amount, 5)]
  | .vcvt c sel pred vd va src dst round ovf adv tensor =>
      fits [(c, 2), (sel, 6), (pred, 3), (vd, 5), (va, 5), (src, 4), (dst, 4), (round, 1), (ovf, 1), (adv, 1), (tensor,
      16)]
  | .vquant c sel pred vd va vb dst round adv tensor =>
      fits [(c, 2), (sel, 6), (pred, 3), (vd, 5), (va, 5), (vb, 5), (dst, 4), (round, 1), (adv, 1), (tensor, 16)]
  | .vperm c sel pred vd va kind arg => fits [(c, 2), (sel, 6), (pred, 3), (vd, 5), (va, 5), (kind, 3), (arg, 6)]
  | .vexp2 c sel pred vd va => fits [(c, 2), (sel, 6), (pred, 3), (vd, 5), (va, 5)]
  | .vlog2 c sel pred vd va => fits [(c, 2), (sel, 6), (pred, 3), (vd, 5), (va, 5)]
  | .vrcp c sel pred vd va => fits [(c, 2), (sel, 6), (pred, 3), (vd, 5), (va, 5)]
  | .vrsqrt c sel pred vd va => fits [(c, 2), (sel, 6), (pred, 3), (vd, 5), (va, 5)]
  | .vsqrt c sel pred vd va => fits [(c, 2), (sel, 6), (pred, 3), (vd, 5), (va, 5)]
  | .vtanh c sel pred vd va => fits [(c, 2), (sel, 6), (pred, 3), (vd, 5), (va, 5)]
  | .vreduceSum c sel pred vd va => fits [(c, 2), (sel, 6), (pred, 3), (vd, 5), (va, 5)]
  | .vreduceMax c sel pred vd va => fits [(c, 2), (sel, 6), (pred, 3), (vd, 5), (va, 5)]
  | .vload c sel pred vd width bank half row postinc _ =>
      fits [(c, 2), (sel, 6), (pred, 3), (vd, 5), (width, 2), (bank, 4), (half, 1), (row, 6), (postinc, 1)]
  | .vstore c sel pred vd size bank offset row scales sbank srow sbyte postinc _ =>
      fits [(c, 2), (sel, 6), (pred, 3), (vd, 5), (size, 3), (bank, 4), (offset, 3), (row, 6), (scales, 1), (sbank, 4),
      (srow, 6), (sbyte, 7), (postinc, 2)]
  | .vaccRead c sel pred vd row half _ => fits [(c, 2), (sel, 6), (pred, 3), (vd, 5), (row, 4), (half, 1)]
  | .vpred c sel pred dest va mode invert => fits [(c, 2), (sel, 6), (pred, 3), (dest, 3), (va, 5), (mode, 1), (invert, 1)]
  | .flagsRead c sel pred vd => fits [(c, 2), (sel, 6), (pred, 3), (vd, 5)]
  | .flagsClear c sel pred mask => fits [(c, 2), (sel, 6), (pred, 3), (mask, 11)]
  | .micaLoad c slot standby sel pred quarter mode fmt reads dest row postinc _ =>
      fits [(c, 2), (slot, 2), (standby, 1), (sel, 6), (pred, 3), (quarter, 3), (mode, 2), (fmt, 4), (reads, 3), (dest, 2),
      (row, 6), (postinc, 1)]
  | .copyBank c slot standby sel pred sbank srow dbank drow rows postinc _ =>
      fits [(c, 2), (slot, 2), (standby, 1), (sel, 6), (pred, 3), (sbank, 4), (srow, 6), (dbank, 4), (drow, 6), (rows, 8),
      (postinc, 2)]
  | .copyAvenue c slot standby sel pred dir delta lbank lrow rbank rrow beats lat postinc _ =>
      fits [(c, 2), (slot, 2), (standby, 1), (sel, 6), (pred, 3), (dir, 1), (delta, 11), (lbank, 4), (lrow, 6), (rbank, 4),
      (rrow, 6), (beats, 8), (lat, 7), (postinc, 1)]
  | .copySquare c slot standby sel pred dir bank row buffer offset rows postinc _ =>
      fits [(c, 2), (slot, 2), (standby, 1), (sel, 6), (pred, 3), (dir, 1), (bank, 4), (row, 6), (buffer, 12), (offset,
      14), (rows, 8), (postinc, 1)]
  | .copyBedrock c slot standby sel pred dir bank row buffer offset rows postinc _ =>
      fits [(c, 2), (slot, 2), (standby, 1), (sel, 6), (pred, 3), (dir, 1), (bank, 4), (row, 6), (buffer, 12), (offset,
      14), (rows, 8), (postinc, 1)]
  | .copySb c slot standby dir sq sqOffset br brOffset length _ =>
      fits [(c, 2), (slot, 2), (standby, 1), (dir, 1), (sq, 12), (sqOffset, 8), (br, 12), (brOffset, 9), (length, 8)]
  | .stashPageRelease c => fits [(c, 2)]
  | .netSend c f buffer offset length last _ => fits [(c, 2), (f, 18), (buffer, 12), (offset, 12), (length, 10), (last, 1)]
  | .netRecv c f buffer offset length last => fits [(c, 2), (f, 18), (buffer, 12), (offset, 12), (length, 10), (last, 1)]
  | .plazaSend c plaza sel pred slotBase bank row half sum _ =>
      fits [(c, 2), (plaza, 4), (sel, 6), (pred, 3), (slotBase, 6), (bank, 4), (row, 6), (half, 1), (sum, 6)]
  | .plazaDrain c plaza sel pred bank row half sum _ =>
      fits [(c, 2), (plaza, 4), (sel, 6), (pred, 3), (bank, 4), (row, 6), (half, 1), (sum, 6)]
  | .qSend c sel pred q delta vreg part fmt last =>
      fits [(c, 2), (sel, 6), (pred, 3), (q, 4), (delta, 11), (vreg, 5), (part, 2), (fmt, 4), (last, 1)]
  | .qRecv c sel pred q vreg part _ => fits [(c, 2), (sel, 6), (pred, 3), (q, 4), (vreg, 5), (part, 2)]
  | .qClose c sel pred q => fits [(c, 2), (sel, 6), (pred, 3), (q, 4)]
  | .admitFwd c d _ => fits [(c, 2), (d, 7)]
  | .admitGrad c d _ => fits [(c, 2), (d, 7)]
  | .waitTimeout c => fits [(c, 2)]
  | .rowMigration p bank spare _ => fits [(p, 11), (bank, 4), (spare, 4)]
  | .patrolScrub _ => true
  | .evacRequest r value => r.wf && fits [(value, 16)]
  | .evacPrepare _ => true
  | .evacSwitch c => fits [(c, 2)]
  | .mapOut r value => r.wf && fits [(value, 16)]
  | .returnToService r value => r.wf && fits [(value, 16)]
  | .admitPushFwd c => fits [(c, 2)]
  | .admitPushGrad c => fits [(c, 2)]
  | .beatEdge _ => true
  | .beatSourceWrite r value => r.wf && fits [(value, 8)]
  | .acquisitionStart _ _ _ _ => true
  | .beatLock => true
  | .ptpMessage _ => true
  | .timeSourceLost => true
  | .holdoverExpiry => true
  | .stretchRequestFrame body _ => body.wf
  | .stretchRequestSend _ => true
  | .scheduleIssue _ _ => true
  | .scheduleAnnounce body _ => body.wf
  | .announceForward => true
  | .thermalEvaluation => true
  | .masterLost => true
  | .promoteMaster r value => r.wf && fits [(value, 8)]
  | .cageInsert p _ _ _ _ => fits [(p, 3)]
  | .cageRemove p => fits [(p, 3)]
  | .cagePowerSample p _ => fits [(p, 3)]
  | .cageOvercurrent p => fits [(p, 3)]
  | .linkUp p _ _ => fits [(p, 3)]
  | .identityRecheck p => fits [(p, 3)]
  | .linkDown p => fits [(p, 3)]
  | .capabilityFrame p body => fits [(p, 3), (body, 1024)]
  | .capabilityTimeout p => fits [(p, 3)]
  | .dataFrame frame => frame.wf
  | .ackFrame frame => frame.wf
  | .ackSend f => fits [(f, 18)]
  | .retransmitTimeout f _ => fits [(f, 18)]
  | .flowBreak f => fits [(f, 18)]
  | .openFrame frame => frame.wf
  | .openRetry f => fits [(f, 18)]
  | .rejectFrame frame => frame.wf
  | .closeFrame frame => frame.wf
  | .parkFrame frame => frame.wf
  | .resumeFrame frame => frame.wf
  | .addressResolution p _ => fits [(p, 3)]
  | .flowRead fn => fits [(fn, 2)]
  | .flowWrite fn => fits [(fn, 2)]
  | .flowOpen fn => fits [(fn, 2)]
  | .flowClose fn => fits [(fn, 2)]
  | .peerRead fn => fits [(fn, 2)]
  | .peerWrite fn => fits [(fn, 2)]
  | .rdmaCreditPoll f => fits [(f, 18)]
  | .rdmaResponse f _ _ _ _ => fits [(f, 18)]
  | .congestionNotification f => fits [(f, 18)]
  | .form r n => r.wf && fits [(n, 3)]
  | .disband r n => r.wf && fits [(n, 3)]
  | .formationRecord n m _ _ _ _ _ _ _ _ => fits [(n, 3), (m, 10)]
  | .formationRetry n => fits [(n, 3)]
  | .reduce f record => fits [(f, 18), (record, 512)]
  | .gather f record => fits [(f, 18), (record, 512)]
  | .partialUnit unit => unit.wf
  | .recordsUnit unit => unit.wf
  | .scalesUnit unit => unit.wf
  | .takeoverNotice unit => unit.wf
  | .abortNotice unit => unit.wf
  | .gatherUnit unit => unit.wf
  | .lateShardUnit unit => unit.wf
  | .reductionDeadline n k _ => fits [(n, 3), (k, 10)]
  | .summaryDelivery n => fits [(n, 3)]
  | .takeCheckpoint r c => r.wf && fits [(c, 2)]
  | .restoreGeneration r c => r.wf && fits [(c, 2)]
  | .fastCopyGranule c _ => fits [(c, 2)]
  | .fastCopyEnd c _ => fits [(c, 2)]
  | .granuleWait c _ => fits [(c, 2)]
  | .drainGeneration c => fits [(c, 2)]
  | .durableAnswer unit => unit.wf
  | .claimResult unit => unit.wf
  | .verifyResult unit => unit.wf
  | .dataLast unit => unit.wf
  | .absentAnswer unit => unit.wf
  | .ckptTimeout c => fits [(c, 2)]
  | .peerGet unit => unit.wf
  | .hostDrainAnswer ch => fits [(ch, 4)]
  | .tenantLoad r t => r.wf && fits [(t, 3)]
  | .tenantStart r t => r.wf && fits [(t, 3)]
  | .preempt r t => r.wf && fits [(t, 3)]
  | .releaseTenant r t => r.wf && fits [(t, 3)]
  | .tenantUnload r t => r.wf && fits [(t, 3)]
  | .tenantHold r t => r.wf && fits [(t, 3)]
  | .tenantResume r t => r.wf && fits [(t, 3)]
  | .preemptGraceExpiry t => fits [(t, 3)]
  | .schedulerDecision _ => true
  | .saveTenant t => fits [(t, 3)]
  | .reloadTenant t => fits [(t, 3)]
  | .deadlineCheck => true
  | .lockAccess ident ch dir _ => fits [(ident, 4), (ch, 4), (dir, 1)]
  | .producer ident ch dir value => fits [(ident, 4), (ch, 4), (dir, 1), (value, 32)]
  | .consumer ident ch dir value => fits [(ident, 4), (ch, 4), (dir, 1), (value, 32)]
  | .ringSet ident ch dir _ value => fits [(ident, 4), (ch, 4), (dir, 1), (value, 64)]
  | .doorbellSet ident ch dir value => fits [(ident, 4), (ch, 4), (dir, 1), (value, 32)]
  | .doorbellStatus ident ch dir value => fits [(ident, 4), (ch, 4), (dir, 1), (value, 32)]
  | .doorbellMask ident ch dir value => fits [(ident, 4), (ch, 4), (dir, 1), (value, 32)]
  | .identityReset ident => fits [(ident, 4)]
  | .noticePost ch => fits [(ch, 4)]
  | .hardwareReceiverTake ch dir => fits [(ch, 4), (dir, 1)]
  | .watchdogRestart => true
  | .sensorSample _ _ _ _ _ _ => true
  | .capEvaluation => true
  | .leak _ => true
  | .supplyWarningLog => true
  | .logWindow => true
  | .dictionaryWrite r idx sub _ _ _ => r.wf && fits [(idx, 16), (sub, 8)]
  | .usdoTransfer node _ idx sub _ _ _ => fits [(node, 7), (idx, 16), (sub, 8)]
  | .usdoIdleTimeout node => fits [(node, 7)]
  | .nmtCommand command node => fits [(command, 8), (node, 7)]
  | .heartbeat => true
  | .datagramRead addr port header => fits [(addr, 128), (port, 16), (header, 256)]
  | .datagramWrite addr port header _ _ => fits [(addr, 128), (port, 16), (header, 256)]
  | .partialWriteTimeout addr port session => fits [(addr, 128), (port, 16), (session, 16)]
  | .dictCommandRead f => fits [(f, 2)]
  | .dictCommandWriteSegment f => fits [(f, 2)]
  | .dictCommandWrite f _ => fits [(f, 2)]
  | .leaseAcquire r => r.wf
  | .leaseRelease r => r.wf
  | .leaseExpiry => true
  | .beginUpdate r => r.wf
  | .fwData r _ _ => r.wf
  | .fwFetch r => r.wf
  | .verifyImage r => r.wf
  | .activateSlot r => r.wf
  | .commitTrial r => r.wf
  | .abortUpdate r => r.wf
  | .trialTimeout => true
  | .restoreAllDefaults r => r.wf
  | .admitPort r value => r.wf && fits [(value, 8)]
  | .admitPeer r value => r.wf && fits [(value, 16)]
  | .loaderFetch r => r.wf
  | .loaderNoAnswer => true
  | .getVersion _ _ => true
  | .getCapabilities _ _ _ => true
  | .negotiateAlgorithms _ _ _ _ => true
  | .getDigests _ _ _ => true
  | .getCertificate _ _ _ slot _ _ => fits [(slot, 2)]
  | .challenge _ _ _ slot _ _ => fits [(slot, 2)]
  | .getMeasurements _ _ _ _ _ _ _ => true
  | .pcieAccess f _ _ _ _ _ _ _ _ => fits [(f, 2)]
  | .functionLevelReset f => fits [(f, 2)]
  | .pcieHotReset => true
  | .ppsEdge _ _ => true
  | .inputSwitchClose _ => true
  | .linkTrainingLimit p => fits [(p, 3)]
  | .landingEntryFree c q => fits [(c, 2), (q, 1)]
  | .receiveUnitsFreed f => fits [(f, 18)]
  | .peerExchangeTimeout _ => true
  | .spdmResponse _ _ _ _ _ => true
  | .identityCheckTimeout _ => true
  | .pathUsableAgain f path => fits [(f, 18), (path, 6)]
  | .qpRateRecovery f => fits [(f, 18)]
  | .receiverWake ident => fits [(ident, 4)]
  | .recordCopyToFlash => true

end Sys2Proof
end

