-- ==== Sys2Proof/Safety.lean ====
section
/-! DEFINITION. What counts as a safe step, and the terms in which the statements speak of what a step leaves unchanged. -/

namespace Sys2Proof.Machine

/-- A state from which the next step answers a state: no fault, no refusal. -/
def SafeStep (s : State) : Prop := ∃ t, step s = .next t

/-- The first `n` steps each answer a state. -/
def SafeRun : Nat → State → Prop
  | 0, _ => True
  | n + 1, s => ∃ t, step s = .next t ∧ SafeRun n t

/-- Dictionary entries outside the list read as before. -/
def CellsKept (s t : State) (l : List (Nat × Nat)) : Prop :=
  ∀ idx sub, sub < 256 → (idx, sub) ∉ l → t.dget idx sub = s.dget idx sub

/-- Dictionary entries of indices outside the list read as before. -/
def IndexKept (s t : State) (l : List Nat) : Prop :=
  ∀ idx sub, sub < 256 → idx ∉ l → t.dget idx sub = s.dget idx sub

/-- Every byte of device memory reads as before, with the same poison. -/
def MemoryKept (s t : State) : Prop :=
  (∀ a, memByte t.mem a = memByte s.mem a) ∧ ∀ a, poisoned t a = poisoned s a

/-- Bytes outside the `n` from `a` read as before. -/
def MemoryKeptBut (s t : State) (a n : Nat) : Prop := ∀ x, x < a ∨ a + n ≤ x → memByte t.mem x = memByte s.mem x

/-- Within the controller only its log has changed (R501, R502). -/
def LogOnly (s t : State) : Prop :=
  t.garnet = { s.garnet with
    ramLog := t.garnet.ramLog, logNewest := t.garnet.logNewest, logWindow := t.garnet.logWindow, logDropped := t.garnet.logDropped }

/-- What a record in the dictionary may change (R583): the dictionary, the log and the count of free values. -/
def RecordOnly (s t : State) : Prop :=
  t = { s with dict := t.dict, garnet := t.garnet, freeCount := t.freeCount } ∧ LogOnly s t

/-- The Square, the slabs and Bedrock hold nothing (R562). -/
def SquareEmpty (t : State) : Prop :=
  t.mem = [] ∧ t.poison = [] ∧ t.blocks = [] ∧ t.plaza = [] ∧ t.contexts = [] ∧ t.cairn = [] ∧ t.parked = [] ∧ t.sets = [] ∧
  t.staging = [] ∧ t.sampled = [] ∧ t.net.flows = [] ∧ t.net.peers = [] ∧ t.zoning.evac = [] ∧ t.quartz = Quartz.reset ∧
  t.mail.dirs = [] ∧ t.mail.locked = false

/-- A dictionary write of `len` bytes passes every check of R505, in a powered module. -/
def Accepted (s : State) (r : Requester) (idx sub len v : Nat) : Prop :=
  s.power.state ≠ .off ∧ checkWrite s r idx sub len v = 0

end Sys2Proof.Machine
end

