-- ==== Sys2Proof/Certificates/Slice0/Obligations.lean ====
section
/-! DEFINITION. The statements for the provers: what the commands of each family do, what they leave alone, and what every step
keeps. -/

open Sys2Proof Sys2Proof.Machine

/-! ## The queue, and reset -/

/-- A step runs the command at the front of the queue on the state with the queue's rest; with no command waiting the block idles
(assumption 1: the model's choice). -/
def Obligations.StepRunsFrontCommand : Prop :=
  ∀ (c : Instr) (rest : List Instr) (s : State),
    (s.pending = c :: rest → step s = exec c { s with pending := rest }) ∧ (s.pending = [] → step s = .next s)

/-- No command is refused, and nothing but a slot's reserved encoding stops the machine. -/
def Obligations.NoCommandIsRefused : Prop :=
  ∀ (c : Instr) (s : State), (∀ r, exec c s ≠ .refused r) ∧ ∀ f, exec c s = .fault f → f = .reservedEncoding

/-- After reset the module stands in STANDBY, memory is clean, and entries that the spec gives a default read it (R35, R36, R37, R521). -/
def Obligations.ResetState : Prop :=
  State.reset.modState = .standby ∧ Memory.wf State.reset.mem = true ∧ State.reset.pending = [] ∧
  State.reset.dget 0x4000 5 = 0 ∧ State.reset.dget 0x2010 0 = 1 ∧ State.reset.dget 0x4070 6 = 0 ∧
  State.reset.dget 0x6050 1 = 1 ∧ State.reset.dget 0x6070 1 = 0 ∧ State.reset.dget 0x5000 1 = 0 ∧
  ∀ a, memByte State.reset.mem a = 0

/-! ## Supplies and module states -/

/-- The presence contact, the input switch and its trips (R600, R604). -/
def Obligations.SupplyContactsAndSwitch : Prop :=
  ∀ (s : State) (bus400 bus12 cause : Nat),
    exec (.presenceAssert bus400 bus12) s = .next { s with power := { s.power with
      presence := true, bus400 := bus400, bus12 := bus12
      switchOn := s.power.switchOn || (decide (360000 ≤ bus400) && decide (bus400 ≤ 420000)) } } ∧
    (s.power.presence = true → s.power.state ≠ .off → ∃ t, exec .presenceDeassert s = .next t ∧
      t = { s with power := { s.power with presence := false, switchOn := false }, dict := t.dict } ∧
      t.dget 0x3000 1 = 0 ∧ t.dget 0x3000 2 = 0 ∧ CellsKept s t [(0x3000, 1), (0x3000, 2)]) ∧
    (s.power.presence = true → s.power.state = .off → exec .presenceDeassert s =
      .next { s with power := { s.power with presence := false, switchOn := false } }) ∧
    (s.power.switchOn = true → s.power.state ≠ .off → ∃ t, exec (.inputSwitchTrip cause) s = .next t ∧
      t = { s with power := { s.power with switchOn := false }, dict := t.dict } ∧
      t.dget 0x3000 1 = 0 ∧ t.dget 0x3000 2 = 0 ∧ CellsKept s t [(0x3000, 1), (0x3000, 2)]) ∧
    (s.power.switchOn = true → s.power.state = .off → exec (.inputSwitchTrip cause) s =
      .next { s with power := { s.power with switchOn := false } }) ∧
    (s.power.presence = true → s.power.switchOn = false → 360000 ≤ bus400 → bus400 ≤ 420000 →
      exec (.inputSwitchClose bus400) s =
        .next { s with power := { s.power with switchOn := true, bus400 := bus400 } })

/-- A supply fault, `POWER_DOWN`, `RESET` and the `RESET` that follows a fault leave the module in the state its supply can hold, with the
Square, the slabs and Bedrock empty (R38, R43, R44, R552, R562, R565). -/
def Obligations.PowerLossEmptiesSquare : Prop :=
  ∀ (s : State) (r : Requester) (lowest : Nat),
    (s.power.state ≠ .off → ∃ t, exec .supplyLoss s = .next t ∧ t.power.state = .off ∧ t.dict = [] ∧
      t.garnet.ramLog = [] ∧ t.garnet.flash = s.garnet.flash ∧ t.garnet.flashLog = s.garnet.flashLog ∧ SquareEmpty t) ∧
    (s.squareUp = true → lowest < 360000 → ∃ t, exec (.inputUndervoltage lowest) s = .next t ∧
      t.power.state = .standby ∧ t.power.surveyBarred = true ∧ SquareEmpty t) ∧
    (s.power.request = none → s.modState = .ready → Accepted s r 0x4000 2 1 7 →
      ∃ t, exec (.powerDown r) s = .next t ∧ t.power.state = .standby ∧ t.power.fromDown = true ∧ t.power.railsUp = 0 ∧
        t.dget 0x4000 5 = 1 ∧ t.out.head? = some (.answer r 0 0) ∧ SquareEmpty t) ∧
    (Accepted s r 0x4000 2 1 8 → ∃ t, exec (.resetRequest r) s = .next t ∧ t.power.state = .standby ∧
      t.power.request = none ∧ t.power.fromDown = false ∧ t.power.railsUp = 0 ∧ t.dget 0x4000 5 = 1 ∧
      t.out.head? = some (.answer r 0 0) ∧ SquareEmpty t) ∧
    (s.power.state = .faulted → s.power.followUp = true → ∃ t, exec .faultFollowupReset s = .next t ∧
      t.power.state = .standby ∧ t.power.followUp = false ∧ t.dget 0x4000 5 = 1 ∧ SquareEmpty t)

/-- Power-good samples the straps, starts the committed slot and reaches STANDBY, with the boot-up message (R541 to R546, R506). -/
def Obligations.PowerGoodReachesStandby : Prop :=
  ∀ (s : State) (samples : List (List Nat)) (otherOk regionOk : Bool),
    s.power.state = .off → s.power.powerGood = false → s.power.presence = true →
    (s.power.switchOn = true ∨ (10800 ≤ s.power.bus12 ∧ s.power.bus12 ≤ 13200)) → s.garnet.trial = false →
    ∃ t, exec (.powerGood samples true otherOk regionOk) s = .next t ∧ t.power.state = .standby ∧ t.power.powerGood = true ∧
      t.power.straps = strapSnapshot samples ∧ t.garnet.running = s.garnet.committed ∧ t.mem = s.mem ∧ t.contexts = s.contexts ∧
      t.out = .can 2 0 :: s.out

/-- `POWER_UP`, by request or by `AUTO_SURVEY`, whose checks all pass enters SURVEY with every rail on and the mailbox bindings locked
(R44, R477, R547, R548, R551, R553). -/
def Obligations.PowerUpEntersSurvey : Prop :=
  ∀ (s : State) (r : Requester) (k : RailCheck),
    s.modState = .standby → powerReady s = true → s.power.request = none → failedCheck k = none → k.event = 0 →
    (Accepted s r 0x4000 2 1 1 → ∃ t, exec (.powerUp r k) s = .next t ∧ t.power.state = .survey ∧ t.power.railsUp = 8 ∧
      t.power.request = none ∧ t.dget 0x4000 5 = 1 ∧ t.mail.locked = true ∧
      (∀ ch, ch < 16 → nth 0 t.mail.binding ch = s.dget 0x2050 (ch + 1)) ∧ t.out.head? = some (.answer r 0 0)) ∧
    (s.dget 0x2010 0 = 1 → s.power.fromDown = false → s.power.surveyBarred = false →
      ∃ t, exec (.autoSurvey k) s = .next t ∧ t.power.state = .survey ∧ t.power.railsUp = 8 ∧ t.power.request = none ∧
        t.dget 0x4000 5 = 1 ∧ t.mail.locked = true ∧ ∀ ch, ch < 16 → nth 0 t.mail.binding ch = s.dget 0x2050 (ch + 1))

/-- The items of the survey, and what ends it (R299, R554 to R556, R559 to R561). -/
def Obligations.SurveySteps : Prop :=
  ∀ (s : State) (bad : List Nat) (limit : Bool),
    (s.power.state = .survey → s.power.microDone = false → s.power.bootStatus = 2 ∨ 3 ≤ s.power.bootStatus →
      ∃ t, exec .microcodeLoaded s = .next t ∧ t.power = { s.power with
        microDone := true
        microDigest := if s.power.bootStatus = 2 then s.power.microDigest else (committedSlot s.garnet).digest } ∧ t.mem = s.mem) ∧
    (s.power.state = .survey → s.power.microDone = true → s.power.healthDone = true → s.power.blocksDone = false →
      ∃ t, exec (.blockCheck bad ⟨[], []⟩) s = .next t ∧ t.power = { s.power with blocksDone := true } ∧
        (∀ p ∈ bad, healthOf s p ≤ 1 → healthOf t p = 2) ∧ (∀ p, p ∉ bad → healthOf t p = healthOf s p) ∧
        t.blocks = [] ∧ ∀ a, a < blockEnd → memByte t.mem a = 0) ∧
    (s.power.state = .survey → limit = true ∨ surveyComplete s = true →
      ∃ t, exec (.surveyDone limit) s = .next t ∧ t.power = { s.power with state := .up } ∧
        t.zoning = { s.zoning with stashMiB := s.dget 0x7000 4, overlayMiB := s.dget 0x7000 5 }) ∧
    (s.power.state = .survey → s.power.pcieUp = true → s.dget 0x2020 0 = 1 → s.power.bootStatus = 0 → s.power.bootLength ≠ 0 →
      s.power.bootLength ≤ 67108864 → ∃ t, exec .bootSubmit s = .next t ∧
        t.power.bootStatus = bootOutcome s (memRead s.mem squareBase s.power.bootLength) ∧ t.mem = s.mem ∧
        (t.power.bootStatus = 2 → t = { s with power := { s.power with
          bootStatus := 2, microDigest := Config.sha384 (memRead s.mem squareBase s.power.bootLength) } }) ∧
        (t.power.bootStatus ≠ 2 → t.power.microDigest = s.power.microDigest)) ∧
    (s.power.state = .survey → s.power.bootStatus = 0 → ∃ t, exec .bootImageTimeout s = .next t ∧
      t.power = { s.power with bootStatus := 7 } ∧ RecordOnly { s with power := { s.power with bootStatus := 7 } } t) ∧
    (s.squareUp = true → exec .pcieLinkUp s = .next { s with power := { s.power with pcieUp := true } })

/-- A fatal cause writes the fault record and enters FAULTED: every context stops and the slabs are held in reset (R565, R567); a write
of 0 clears the cause alone (R569). -/
def Obligations.FatalFaultEntersFaulted : Prop :=
  ∀ (s : State) (r : Requester) (k d : Nat),
    (s.squareUp = true → s.power.state ≠ .faulted → 2 ≤ k → k ≤ 13 →
      ∃ t, exec (.fatalFault [(k, d)]) s = .next t ∧ t.power.state = .faulted ∧ t.dget 0x5000 1 = k ∧
        t.dget 0x5000 2 = d % 2 ^ 64 ∧ t.dget 0x5000 3 = s.beatStamp ∧ t.contexts = [] ∧ t.plaza = [] ∧ t.blocks = [] ∧
        t.parked = [] ∧ t.zoning.evac = [] ∧ (k = 10 → d % 2048 < 1088 → healthOf t (d % 2048) = 2) ∧
        t.out.head? = some (.can 1 k)) ∧
    (Accepted s r 0x5000 1 4 0 → ∃ t, exec (.faultCauseClear r) s = .next t ∧ t = { s with dict := t.dict, out := t.out } ∧
      t.out = .answer r 0 0 :: s.out ∧ t.dget 0x5000 1 = 0 ∧ CellsKept s t [(0x5000, 1)])

/-! ## Cages, links and identity -/

/-- Cages report, lose and exceed their power; a settled port; an answered address (R343 to R345, R348, R357, R556, R608). -/
def Obligations.CageCommands : Prop :=
  ∀ (s : State) (p media phy declared average address : Nat) (usable : Bool), p < 8 →
    let used := usable && phy == phyOf media
    (s.power.state ≠ .off → linksRun s = false → exec (.cageInsert p media phy declared usable) s =
      .next ((s.setPort p { Port.empty with
        present := true, usable := used, media := media, phy := phyOf media, declared := declared }).dset (0x3040 + p) 6 declared)) ∧
    (linksRun s = true → bit (s.dget 0x2040 4) p = true → ∃ t, exec (.cageInsert p media phy declared usable) s = .next t ∧
      t.mem = s.mem ∧ t.dget (0x3040 + p) 6 = declared ∧
      (declared ≤ s.dget 0x2040 5 → portState t p = 3 ∧ t.port p = { Port.empty with
        present := true, powered := true, usable := used, media := media, phy := phyOf media, declared := declared }) ∧
      (s.dget 0x2040 5 < declared → portState t p = 2 ∧ t.port p = { Port.empty with
        present := true, overBudget := true, usable := used, media := media, phy := phyOf media, declared := declared })) ∧
    (∃ t, exec (.cageRemove p) s = .next t ∧ t.port p = Port.empty ∧ t.dget (0x3040 + p) 6 = 0 ∧ t.mem = s.mem ∧
      portState t p = if linksRun s && !bit (s.dget 0x2040 4) p then 1 else 0) ∧
    ((s.port p).powered = true → average ≤ s.dget 0x2040 5 →
      exec (.cagePowerSample p average) s = .next (s.dset (0x3040 + p) 5 (min average 0xFFFF))) ∧
    ((s.port p).powered = true → s.dget 0x2040 5 < average → ∃ t, exec (.cagePowerSample p average) s = .next t ∧
      portState t p = 2 ∧ (t.port p).powered = false ∧ (t.port p).overBudget = true ∧ bit (t.dget 0x5080 1) 6 = true ∧ t.mem = s.mem) ∧
    ((s.port p).powered = true → ∃ t, exec (.cageOvercurrent p) s = .next t ∧
      portState t p = 2 ∧ (t.port p).powered = false ∧ (t.port p).overBudget = true ∧ bit (t.dget 0x5080 1) 6 = true ∧ t.mem = s.mem) ∧
    (portState s p = 3 → exec (.linkTrainingLimit p) s = .next (s.setPort p { s.port p with timedOut := true })) ∧
    (portState s p = 7 ∨ portState s p = 8 → address = ownAddress s →
      exec (.addressResolution p address) s = .next { s with out := .resolved p address :: s.out })

/-- Links come up and measure their delay, exchange capabilities, time out and drop (R319, R343, R346, R348 to R351, R373, R591). -/
def Obligations.LinkAndExchange : Prop :=
  ∀ (s : State) (p rx body i : Nat) (exchanges : List Nat), p < 8 →
    let copper := (s.port p).media = 1 ∨ (s.port p).media = 2
    (linksRun s = true → portState s p = 3 → (s.port p).usable = true →
      (∃ t, exec (.linkUp p none rx) s = .next t ∧ t = { s with dict := t.dict } ∧ portState t p = 4 ∧
        t.dget (0x3040 + p) 2 = (s.port p).phy ∧ t.dget (0x3040 + p) 3 = (s.port p).media ∧
        t.dget (0x3040 + p) 7 = (if copper then 0xFFFF else rx) ∧
        CellsKept s t [(0x3040 + p, 1), (0x3040 + p, 2), (0x3040 + p, 3), (0x3040 + p, 7), (0x3040 + p, 0xD)]) ∧
      ∃ t, exec (.linkUp p (some exchanges) rx) s = .next t ∧ portState t p = 5 ∧
        t.dget (0x3040 + p) 2 = (s.port p).phy ∧ t.dget (0x3040 + p) 3 = (s.port p).media ∧
        t.dget (0x3040 + p) 7 = (if copper then 0xFFFF else rx) ∧ t.dget 0x3030 (p + 1) = linkDelay exchanges ∧
        t.dget (0x3040 + p) 4 = cableLength (s.port p).media (linkDelay exchanges) ∧ t.mem = s.mem ∧
        t.out = .capability p (ownCapability s p) :: s.out) ∧
    (linksRun s = true → portState s p = 4 → ∃ t, exec (.linkUp p (some exchanges) rx) s = .next t ∧ portState t p = 5 ∧
      t.dget 0x3030 (p + 1) = linkDelay exchanges ∧
      t.dget (0x3040 + p) 4 = cableLength (s.port p).media (linkDelay exchanges) ∧
      (linkDelay exchanges = ones 32 → bit (t.dget 0x5070 1) 5 = true) ∧ t.mem = s.mem ∧
      t.out = .capability p (ownCapability s p) :: s.out) ∧
    (4 ≤ portState s p → ∃ t, exec (.linkDown p) s = .next t ∧ portState t p = 3 ∧
      (t.port p).phase = 0 ∧ (t.port p).digest = 0 ∧ t.mem = s.mem) ∧
    (linksRun s = true → portState s p = 5 → bits body 0 8 = 0x11 → bits body 344 8 ≠ 0xFF → bit body 384 = true →
      ∃ t, exec (.capabilityFrame p body) s = .next t ∧ portState t p = 6 ∧ (t.port p).phase = 1 ∧
        (t.port p).digest = bits body 640 384 ∧ (t.port p).mac = bits body 464 48 ∧ t.dget (0x3040 + p) 9 = 1 ∧
        t.dget (0x3040 + p) 0xC = bits body 512 128 ∧ t.out.head? = some (.spdm p 4 0) ∧ t.mem = s.mem) ∧
    (portState s p = 5 → ∃ t, exec (.capabilityTimeout p) s = .next t ∧ portState t p = 8 ∧ t.mem = s.mem) ∧
    (linksRun s = true → portState s p = 9 → (s.port p).reason = 5 → (s.port p).phase = 0 →
      ∃ t, exec (.identityRecheck p) s = .next t ∧ t = { s with net := t.net, out := .spdm p 4 0 :: s.out } ∧
        t.port p = { s.port p with phase := 1 }) ∧
    ((s.peer i).state = 1 → (s.peer i).phase = 4 →
      exec (.peerExchangeTimeout i) s = .next (s.setPeer i { s.peer i with state := 5, phase := 0 }))

/-- How an identity check of a port ends, and the operator's admission (R591, R595). -/
def Obligations.IdentityOutcome : Prop :=
  ∀ (s : State) (r : Requester) (p chain device v : Nat), p < 8 →
    (linksRun s = true → (s.port p).phase = 3 → (s.port p).device = (s.port p).digest → s.dget 0x3061 (p + 1) = (s.port p).digest →
      ∃ t, exec (.spdmResponse p 6 chain device true) s = .next t ∧ portState t p = 7 ∧ (t.port p).phase = 0 ∧ (t.port p).reason = 0) ∧
    (linksRun s = true → (s.port p).phase = 3 → (s.port p).device = (s.port p).digest → s.dget 0x3061 (p + 1) = 0 →
      (s.port p).digest ≠ 0 → s.dget 0x2080 3 = 0 → ∃ t, exec (.spdmResponse p 6 chain device true) s = .next t ∧
        portState t p = 9 ∧ (t.port p).phase = 0 ∧ (t.port p).reason = 2) ∧
    (linksRun s = true → (s.port p).phase = 3 → ∃ t, exec (.spdmResponse p 6 chain device false) s = .next t ∧
      portState t p = 9 ∧ (t.port p).phase = 0 ∧ (t.port p).reason = 4) ∧
    (linksRun s = true → 1 ≤ (s.port p).phase → (s.port p).phase ≤ 3 → ∃ t, exec (.identityCheckTimeout p) s = .next t ∧
      portState t p = 9 ∧ (t.port p).phase = 0 ∧ (t.port p).reason = 5) ∧
    (Accepted s r 0x2080 1 1 p → portState s p = 9 → (s.port p).reason = 2 ∨ (s.port p).reason = 3 →
      ∃ t, exec (.admitPort r p) s = .next t ∧ portState t p = 7 ∧ (t.port p).reason = 0 ∧
        t.dget 0x3061 (p + 1) = (s.port p).digest ∧ t.out.head? = some (.answer r 0 0)) ∧
    (Accepted s r 0x2080 2 2 v → v ≠ 0xFFFF → (s.peer v).state = 3 → (s.peer v).reason = 2 ∨ (s.peer v).reason = 3 →
      ∃ t, exec (.admitPeer r v) s = .next t ∧ (t.peer v).state = 2 ∧ (t.peer v).reason = 0 ∧
        seenPeer t v = (s.peer v).digest ∧ t.out = .answer r 0 0 :: s.out)

/-! ## The sequencer -/

/-- What the issue of a bundle and a transfer to `target` leave: the program counter, the loops, no wait, one more bundle issued (R142,
R157, R166); no other entry, no byte of memory and no other part of the machine changes. -/
def Issued (s t : State) (c target : Nat) (loops : List Loop) : Prop :=
  t = { s with dict := t.dict, contexts := t.contexts, blocks := t.blocks } ∧
  t.pc c = target % 2 ^ 16 ∧ (t.ctx c).loops = loops ∧ t.dget (0x4030 + c) 2 = 0 ∧
  t.dget (0x4030 + c) 6 = countUp (entryBytes (0x4030 + c) 6) (s.dget (0x4030 + c) 6) 1 ∧
  CellsKept s t [(0x4030 + c, 1), (0x4030 + c, 2), (0x4030 + c, 6)]

/-- The loops whose body holds `target` (R143). -/
def loopsAround (l : List Loop) (target : Nat) : List Loop :=
  l.filter fun x => decide (x.first ≤ target) && decide (target ≤ x.last)

/-- A bundle runs on to the next one: outside every loop that is the bundle after it (R142, R143). -/
def RunsOn (s t : State) (c : Nat) : Prop :=
  Issued s t c (afterBundle (s.ctx c).loops (s.pc c)).1 (afterBundle (s.ctx c).loops (s.pc c)).2

/-- A bundle whose records of class `cls` fill a run of `cycles` cycles (R155, R164, R425): no class is no fill; a class fills, and the
bundle issues after it; and a fill write into a granule that a fast copy has not read holds the bundle in class 8. -/
def FillsAndRunsOn (command : Instr) (s : State) (c cls cycles : Nat) (touch : Touch) : Prop :=
  let r := fillRun c cls touch 256 cycles (senseAll 0 (issues c s) touch.errors)
  (cls = 0 → ∃ t, exec command s = .next t ∧ RunsOn s t c) ∧
  (cls ≠ 0 → r.1 = [] → ∃ t, exec command s = .next t ∧ t.pc c = (afterBundle (r.2.ctx c).loops (s.pc c)).1 % 2 ^ 16 ∧
    (t.ctx c).loops = (afterBundle (r.2.ctx c).loops (s.pc c)).2 ∧ t.dget (0x4030 + c) 2 = 0 ∧
    t.dget (0x4030 + c) 6 = countUp (entryBytes (0x4030 + c) 6) (r.2.dget (0x4030 + c) 6) 1 ∧
    t = { r.2 with dict := t.dict, contexts := t.contexts, blocks := t.blocks }) ∧
  (cls ≠ 0 → r.1 ≠ [] → c < 4 → s.dget (0x4030 + c) 2 = 0 → ∃ t, exec command s = .next t ∧ t.dget (0x4030 + c) 2 = 8 ∧
    t.pc c = s.pc c ∧ t.mem = s.mem ∧ t.blocks = s.blocks)

/-- Control operations that transfer or run on (R142 to R144, R146): `NOP` and `DELAY` in every form, `LOOP`, `JUMP`, `BRANCH`, `FENCE`.
Outside every loop control runs on to the next bundle; at a loop's last bundle it goes round or leaves, and a transfer ends every loop whose
body it leaves (R143). -/
def Obligations.ControlTransfers : Prop :=
  (∀ (a first n i : Nat) (outer : List Loop),
    afterBundle [] a = (a + 1, []) ∧
    (i + 1 < n → afterBundle (⟨first, a, n, i⟩ :: outer) a = (first, ⟨first, a, n, i + 1⟩ :: outer)) ∧
    (n ≤ i + 1 → afterBundle (⟨first, a, n, i⟩ :: outer) a = afterBundle outer a) ∧
    ∀ last, last ≠ a → afterBundle (⟨first, last, n, i⟩ :: outer) a = (a + 1, ⟨first, last, n, i⟩ :: outer)) ∧
  ∀ (s : State) (c cls slots n last target negate cond : Nat) (touch : Touch), s.running c = true →
    (cls < 4 → slots < 256 → (cls = 0 ↔ slots = 0) →
      FillsAndRunsOn (.nop c cls slots touch) s c cls 1 touch ∧
      (n < 2 ^ 24 → FillsAndRunsOn (.delay c n cls slots touch) s c cls (n + 1) touch)) ∧
    (∃ t, exec (.fence c) s = .next t ∧ RunsOn s t c) ∧
    (0 < n → n < 2 ^ 24 → last < 1024 * pagesOf s c → s.pc c < last → (s.ctx c).loops.length < 4 →
      ∃ t, exec (.loopOp c n last) s = .next t ∧ Issued s t c (s.pc c + 1) (⟨s.pc c + 1, last, n, 0⟩ :: (s.ctx c).loops)) ∧
    (last < 1024 * pagesOf s c → s.pc c < last → (s.ctx c).loops.length < 4 → ∃ t, exec (.loopOp c 0 last) s = .next t ∧
      Issued s t c (afterBundle (s.ctx c).loops last).1 (afterBundle (s.ctx c).loops last).2) ∧
    (target < 1024 * pagesOf s c → ∃ t, exec (.jump c target) s = .next t ∧
      Issued s t c target (loopsAround (afterBundle (s.ctx c).loops (s.pc c)).2 target)) ∧
    (target < 1024 * pagesOf s c → negate < 2 → cond < 11 → condition s c cond = (negate == 0) →
      ∃ t, exec (.branch c negate cond target) s = .next t ∧
        Issued s t c target (loopsAround (afterBundle (s.ctx c).loops (s.pc c)).2 target)) ∧
    (target < 1024 * pagesOf s c → negate < 2 → cond < 11 → condition s c cond = (negate == 1) →
      ∃ t, exec (.branch c negate cond target) s = .next t ∧ RunsOn s t c)

/-- A `WAIT_BEAT` issues in its target cycle and names its beat, and the cut of a due checkpoint is taken there; in every other cycle it
waits in class 1 (R149, R155, R157). A late beat (R150, R333): under the hold policy `BEAT_SKIP` rises and the case is counted; under the
fault policy the module enters FAULTED with cause 6. -/
def Obligations.BeatWaits : Prop :=
  ∀ (s : State) (c mode key delta offset since missed : Nat),
    s.running c = true → waitLegal s c mode key delta offset = true →
    let target := namedBeat s c mode delta + s.dget (0x4030 + c) 5
    (s.hasSchedule = true → s.quartz.begun = true → target ≤ s.beat → since = offset → (s.cairnOf c).armed = none →
      ∃ t, exec (.waitBeat c mode key delta offset since) s = .next t ∧
        t.dget (0x4030 + c) 4 = namedBeat s c mode delta ∧ t.dget (0x4030 + c) 2 = 0 ∧
        t.pc c = (afterBundle (s.ctx c).loops (s.pc c)).1 % 2 ^ 16 ∧
        (t.ctx c).keyBeat = (if key = 1 then namedBeat s c mode delta else (s.ctx c).keyBeat) ∧
        t = { s with dict := t.dict, contexts := t.contexts, blocks := t.blocks } ∧
        CellsKept s t [(0x4030 + c, 1), (0x4030 + c, 2), (0x4030 + c, 4), (0x4030 + c, 6)]) ∧
    (s.hasSchedule = true → s.quartz.begun = true → target ≤ s.beat → since = offset → (s.cairnOf c).armed ≠ none →
      ∃ t, exec (.waitBeat c mode key delta offset since) s = .next t ∧
        t.dget (0x4030 + c) 4 = namedBeat s c mode delta ∧ t.dget (0x4030 + c) 2 = 0) ∧
    (s.hasSchedule = false ∨ s.quartz.begun = false ∨ s.beat < target ∨ since ≠ offset →
      ∃ t, exec (.waitBeat c mode key delta offset since) s = .next t ∧
        t.dget (0x4030 + c) 2 = 1 ∧ t.pc c = s.pc c ∧
        t.dget (0x4030 + c) 0x11 = countUp (entryBytes (0x4030 + c) 0x11) (s.dget (0x4030 + c) 0x11) 1 ∧
        t = { s with dict := t.dict, contexts := t.contexts } ∧ CellsKept s t [(0x4030 + c, 2), (0x4030 + c, 0x11)]) ∧
    (c < 4 → s.hasSchedule = true → target ≤ s.beat →
      ((s.ctx c).faultLate = false → ∃ t, exec (.lateBeat c mode delta missed) s = .next t ∧ RecordOnly s t ∧
        t.dget (0x4030 + c) 5 = countUp (entryBytes (0x4030 + c) 5) (s.dget (0x4030 + c) 5) 1 ∧
        t.dget (0x4080 + c) 1 = countUp (entryBytes (0x4080 + c) 1) (s.dget (0x4080 + c) 1) 1 ∧
        t.dget (0x4080 + c) 2 = namedBeat s c mode delta ∧
        t.dget (0x4080 + c) 3 = max (s.dget (0x4080 + c) 3) (min missed (ones 32)) ∧ bit (t.dget 0x5070 1) 0 = true ∧
        t.dget 0x5070 2 = countUp (entryBytes 0x5070 2) (s.dget 0x5070 2) 1 ∧
        IndexKept s t [0x4030 + c, 0x4080 + c, 0x5070, 0x50D0]) ∧
      ((s.ctx c).faultLate = true → ∃ t, exec (.lateBeat c mode delta missed) s = .next t ∧
        t.power.state = .faulted ∧ t.dget 0x5000 1 = 6 ∧ t.contexts = []))

/-- `OVERLAY_LOAD` copies the page's bytes into the store page and leaves every other byte (R130). `STASH_PAGE_RELEASE` (R257): the pages
that have been read `STASH_READS` times are free, and the others stay mapped. -/
def Obligations.OverlayAndStashPages : Prop :=
  (∀ (s : State) (c page store : Nat), s.running c = true → page < (s.ctx c).overlays → store < pagesOf s c →
    ∃ t, exec (.overlayLoad c page store) s = .next t ∧
      (∀ i, i < 131072 → memByte t.mem (bundleAddress s c (1024 * store) + i) =
        memByte s.mem (overlayStart s c + 131072 * page + i)) ∧
      MemoryKeptBut s t (bundleAddress s c (1024 * store)) 131072 ∧
      kfind (t.ctx c).overlaid store = some page ∧ t.dget (0x4030 + c) 2 = 0 ∧
      t = { s with dict := t.dict, contexts := t.contexts, blocks := t.blocks, mem := t.mem, poison := t.poison } ∧
      CellsKept s t [(0x4030 + c, 1), (0x4030 + c, 2), (0x4030 + c, 6)]) ∧
  ∀ (s : State) (c : Nat), (s.ctx c).cfg 7 ≠ 0 →
    ∃ t, exec (.stashPageRelease c) s = .next t ∧ t = { s with contexts := t.contexts, dict := t.dict } ∧
      t.ctx c = { s.ctx c with stash := (t.ctx c).stash, holding := (t.ctx c).holding } ∧ (∀ d, d ≠ c → t.ctx d = s.ctx d) ∧
      CellsKept s t [(0x4060 + c, 5)] ∧
      (∀ d, (s.ctx c).holding = some d → (stashHold t c d = true → (t.ctx c).holding = some d ∧ t.dict = s.dict) ∧
        (stashHold t c d = false → (t.ctx c).holding = none ∧ t.dget (0x4060 + c) 5 = 0)) ∧
      ∀ e, e ∈ (t.ctx c).stash ↔ e ∈ (s.ctx c).stash ∧
        e.2.read < (s.ctx c).cfg 7 * min (2 ^ 20) ((s.ctx c).cfg 6 * 1024 - e.1 % 65536 * 2 ^ 20)

/-- Fill records, engine requests and the end of the stream (R147, R163, R293, R303, R418, R466). -/
def Obligations.ServiceRequests : Prop :=
  ∀ (s : State) (c cls length address delta arg : Nat), s.running c = true → c < 4 → delta < 2 ^ 24 →
    (1 ≤ cls → cls < 4 → 1 ≤ length → length ≤ 4096 → address < 1024 * pagesOf s c → (s.ctx c).backlog.length < 256 →
      ∃ t, exec (.backlogPush c cls length address) s = .next t ∧
        (t.ctx c).backlog = (s.ctx c).backlog ++ [⟨address, length, cls⟩] ∧ t.mem = s.mem ∧
        CellsKept s t [(0x4030 + c, 1), (0x4030 + c, 2), (0x4030 + c, 6)]) ∧
    (arg < 2 → refusalOf s c = 0 → ∃ t, exec (.checkpointAt c delta arg) s = .next t ∧
      (t.cairnOf c).armed = some ((s.dget (0x4030 + c) 4 + delta) % 2 ^ 64, arg) ∧ t.mem = s.mem) ∧
    (29 ≤ arg → arg < 2 ^ 16 → ∃ t, exec (.evacWindow c delta arg) s = .next t ∧ (t.ctx c).window = true ∧
      t.dget 0x7050 4 = countUp (entryBytes 0x7050 4) (s.dget 0x7050 4) 1 ∧ t.mem = s.mem) ∧
    (arg < 2 ^ 16 → s.dget 0x6050 6 ≠ c → s.hasSchedule = true → (s.dget (0x4030 + c) 4 + delta) % 2 ^ 64 ≤ s.beat →
      ∃ t, exec (.deadlineArm c delta arg) s = .next t ∧ t.dget (0x6080 + c) 1 = bits arg 15 1 ∧
        t.dget (0x6080 + c) 2 = bits arg 0 15 ∧ t.mem = s.mem) ∧
    (arg < 2 ^ 16 → s.dget 0x6050 6 ≠ c → s.beat < (s.dget (0x4030 + c) 4 + delta) % 2 ^ 64 →
      ∃ t, exec (.deadlineArm c delta arg) s = .next t ∧
        (t.ctx c).arming = (s.ctx c).arming ++ [((s.dget (0x4030 + c) 4 + delta) % 2 ^ 64, arg)] ∧ t.mem = s.mem)

/-- `END_STREAM` ends the program: its tenant is LOADED and its backlog is empty (R147, R451); a named wait that has lasted beyond its
limit is reported once (R159). -/
def Obligations.StreamEndsAndLongWaits : Prop :=
  ∀ (s : State) (c : Nat), s.running c = true → c < 4 →
    (∃ t, exec (.endStream c) s = .next t ∧ t.tenantState (tenantOf s c) = 1 ∧ (t.ctx c).backlog = [] ∧
      (t.cairnOf c).armed = none ∧ t.dget (0x6070 + tenantOf s c) 0xF = s.beat) ∧
    (2 ≤ s.dget (0x4030 + c) 2 → s.dget (0x4030 + c) 9 ≠ 0 → s.dget (0x4030 + c) 9 < (s.ctx c).waitBeats →
      (s.ctx c).waitTold = false → ∃ t, exec (.waitTimeout c) s = .next t ∧ (t.ctx c).waitTold = true ∧
        bit (t.dget 0x5030 1) 0 = true ∧ t.dget 0x5030 2 = countUp (entryBytes 0x5030 2) (s.dget 0x5030 2) 1 ∧
        t.pc c = s.pc c ∧ t.power = s.power)

/-! ## Stream requests and tenants -/

/-- No restore runs, has failed, or awaits its `START` (R437, R438, R441). -/
def NoRestore (s : State) (c : Nat) : Prop :=
  (s.cairnOf c).failed = false ∧ (s.cairnOf c).restore = none ∧ (s.cairnOf c).restored = none

/-- The requests of `STATE_REQUEST` beside `RESET`: the value written, and the states from which R36 lets each go. -/
def stateRequests (r : Requester) (k : RailCheck) : List (Instr × Nat × List ModState) :=
  [(.powerUp r k, 1, [.standby]), (.loadImage r, 2, [.ready]), (.start r, 3, [.loaded]), (.hold r, 4, [.running]),
    (.resume r, 5, [.held]), (.unload r, 6, [.loaded, .held]), (.powerDown r, 7, [.ready])]

/-- The requests of `TENANT_REQUEST`, with the value written (R452). -/
def tenantRequests (r : Requester) (t : Nat) : List (Instr × Nat) :=
  [(.tenantLoad r t, 1), (.tenantStart r t, 2), (.preempt r t, 3), (.releaseTenant r t, 4), (.tenantUnload r t, 5),
    (.tenantHold r t, 6), (.tenantResume r t, 7)]

/-- Only one request is pending at a time (R38): one written while another is pending, or from another state, is answered with
0x0800_0022 and changes nothing else; `RESET` is accepted in every powered state, cancels what is pending and completes `DONE`. -/
def Obligations.OneRequestAtATime : Prop :=
  ∀ (s : State) (r : Requester) (k : RailCheck) (t : Nat), t < 8 →
    (∀ e ∈ stateRequests r k, Accepted s r 0x4000 2 1 e.2.1 →
      s.power.request.isSome = true ∨ ((e.2.1 = 1 ∨ e.2.1 = 7 ∨ ∀ u, u < 8 → 0 < u → s.tenantState u = 0) ∧
        s.modState ∉ e.2.2) →
      exec e.1 s = .next { s with out := .answer r 0x08000022 0 :: s.out }) ∧
    (∀ e ∈ tenantRequests r t, Accepted s r (0x6070 + t) 3 1 e.2 → s.power.request.isSome = true →
      exec e.1 s = .next { s with out := .answer r 0x08000022 0 :: s.out }) ∧
    (s.power.state ≠ .off → stateAccepts s 0x4000 2 = true) ∧
    (Accepted s r 0x4000 2 1 8 → ∃ u, exec (.resetRequest r) s = .next u ∧ u.modState = .standby ∧ u.power.request = none ∧
      u.dget 0x4000 5 = 1 ∧ u.out.head? = some (.answer r 0 0))

/-- Requests that wait for a beat are pending with `TRANSITION_STATUS` 2, on tenant 0 through `STATE_REQUEST` and on any tenant through
`TENANT_REQUEST` (R36 to R38, R452, R453, R457). -/
def Obligations.RequestsBecomePending : Prop :=
  ∀ (s : State) (r : Requester) (t : Nat), t < 8 → s.power.state = .up → s.power.request = none → s.configured t = true →
    (t = 0 → s.single = true → s.tenantState 0 = 1 → s.resident (homeOfTenant s 0) = some 0 →
      beatsAllow s (s.ctx (homeOfTenant s 0)) = true → NoRestore s (homeOfTenant s 0) →
      s.beat + 2 ≤ s.dget 0x4000 3 → Accepted s r 0x4000 2 1 3 →
      ∃ u, exec (.start r) s = .next u ∧ u.power.request = some ⟨3, s.dget 0x4000 3, 0⟩ ∧ u.dget 0x4000 5 = 2 ∧
        u.dget 0x4000 2 = 3 ∧ u.out = .answer r 0 0 :: s.out ∧ u.mem = s.mem ∧ u.contexts = s.contexts) ∧
    (t = 0 → s.single = true → s.tenantState 0 = 2 → s.beat + 2 ≤ s.dget 0x4000 4 → Accepted s r 0x4000 2 1 4 →
      ∃ u, exec (.hold r) s = .next u ∧ u.power.request = some ⟨4, s.dget 0x4000 4, 0⟩ ∧ u.dget 0x4000 5 = 2 ∧
        u.dget 0x4000 2 = 4 ∧ u.out = .answer r 0 0 :: s.out ∧ u.mem = s.mem ∧ u.contexts = s.contexts) ∧
    (t = 0 → s.single = true → s.tenantState 0 = 6 → beatsAllow s (s.ctx (homeOfTenant s 0)) = true →
      s.beat + 2 ≤ s.dget 0x4000 3 → Accepted s r 0x4000 2 1 5 →
      ∃ u, exec (.resume r) s = .next u ∧ u.power.request = some ⟨5, s.dget 0x4000 3, 0⟩ ∧ u.dget 0x4000 5 = 2 ∧
        u.dget 0x4000 2 = 5 ∧ u.out = .answer r 0 0 :: s.out ∧ u.mem = s.mem ∧ u.contexts = s.contexts) ∧
    (s.tenantState t = 1 → s.resident (homeOfTenant s t) = some t → beatsAllow s (s.ctx (homeOfTenant s t)) = true →
      NoRestore s (homeOfTenant s t) → s.beat + 2 ≤ s.dget (0x6070 + t) 4 → Accepted s r (0x6070 + t) 3 1 2 →
      ∃ u, exec (.tenantStart r t) s = .next u ∧ u.power.request = some ⟨3, s.dget (0x6070 + t) 4, t⟩ ∧
        u.dget 0x4000 5 = 2 ∧ u.dget (0x6070 + t) 3 = 2 ∧ u.out = .answer r 0 0 :: s.out ∧ u.mem = s.mem) ∧
    (s.tenantState t = 2 → s.beat + 2 ≤ s.dget (0x6070 + t) 4 → Accepted s r (0x6070 + t) 3 1 6 →
      ∃ u, exec (.tenantHold r t) s = .next u ∧ u.power.request = some ⟨4, s.dget (0x6070 + t) 4, t⟩ ∧
        u.dget 0x4000 5 = 2 ∧ u.dget (0x6070 + t) 3 = 6 ∧ u.out = .answer r 0 0 :: s.out ∧ u.mem = s.mem) ∧
    (s.tenantState t = 6 → beatsAllow s (s.ctx (homeOfTenant s t)) = true → s.beat + 2 ≤ s.dget (0x6070 + t) 4 →
      Accepted s r (0x6070 + t) 3 1 7 → ∃ u, exec (.tenantResume r t) s = .next u ∧
        u.power.request = some ⟨5, s.dget (0x6070 + t) 4, t⟩ ∧ u.dget 0x4000 5 = 2 ∧ u.dget (0x6070 + t) 3 = 7 ∧
        u.out = .answer r 0 0 :: s.out ∧ u.mem = s.mem) ∧
    (s.tenantState t = 2 → stopping s t = false → s.beat + 2 ≤ s.dget (0x6070 + t) 4 → Accepted s r (0x6070 + t) 3 1 3 →
      ∃ u, exec (.preempt r t) s = .next u ∧ u.power.request = some ⟨9, s.dget (0x6070 + t) 4, t⟩ ∧
        u.dget 0x4000 5 = 2 ∧ bit (tenantFlags u t) 0 = true ∧ u.out = .answer r 0 0 :: s.out ∧ u.mem = s.mem) ∧
    (s.tenantState t = 4 → Accepted s r (0x6070 + t) 3 1 4 → ∃ u, exec (.releaseTenant r t) s = .next u ∧
      bit (tenantFlags u t) 0 = false ∧ u.dget 0x4000 5 = 1 ∧ u.power = s.power ∧ u.out = .answer r 0 0 :: s.out ∧ u.mem = s.mem)

/-- `LOAD` binds the program that its checks pass, or leaves the module as it was with the refusal reported (R36, R134, R286, R452); an image header
that nothing answers, or in a reserve, is refused as no header and counted (R25, R26, R534);
`UNLOAD` discards the program of a resident tenant: the tenant is `EMPTY`, and its partition has no resident (R41, R452). -/
def Obligations.LoadAndUnload : Prop :=
  ∀ (s : State) (r : Requester) (t : Nat), t < 8 → s.power.state = .up → s.power.request = none → s.configured t = true →
    homeOfTenant s t < 4 →
    (s.tenantState t = 0 → homeOfTenant s t < s.partitions → s.resident (homeOfTenant s t) = none →
      moving s (homeOfTenant s t) = false →
      (∀ a, unmappedByte s (homeOfTenant s t) (imageAt s).base 128 = some a → Accepted s r (0x6070 + t) 3 1 1 →
        ∃ u, exec (.tenantLoad r t) s = .next u ∧ u.out.head? = some (.answer r 0 0) ∧ u.dget 0x4000 5 = 4 ∧
          u.dget (0x7010 + homeOfTenant s t) 1 = 1 ∧ bit (u.dget 0x5001 1) 2 = true ∧ u.tenantState t = 0 ∧ u.mem = s.mem ∧
          u.contexts = s.contexts) ∧
      (unmappedByte s (homeOfTenant s t) (imageAt s).base 128 = none → t = 0 → s.single = true → Accepted s r 0x4000 2 1 2 → ∃ u, exec (.loadImage r) s = .next u ∧
        u.out.head? = some (.answer r 0 0) ∧
        match loadCheck s (homeOfTenant s 0) 0 with
        | .error e => u.dget 0x4000 5 = 4 ∧ u.dget (0x7010 + homeOfTenant s 0) 1 = e.code ∧
            u.dget (0x7010 + homeOfTenant s 0) 2 = e.bundle ∧ u.tenantState 0 = 0 ∧ u.mem = s.mem ∧ u.contexts = s.contexts
        | .ok x => u.dget 0x4000 5 = 1 ∧ u.dget (0x7010 + homeOfTenant s 0) 1 = 0 ∧ u.tenantState 0 = 1 ∧
            u.resident (homeOfTenant s 0) = some 0 ∧ u.ctx (homeOfTenant s 0) = x) ∧
      (unmappedByte s (homeOfTenant s t) (imageAt s).base 128 = none → Accepted s r (0x6070 + t) 3 1 1 →
        ∃ u, exec (.tenantLoad r t) s = .next u ∧ u.out.head? = some (.answer r 0 0) ∧
        match loadCheck s (homeOfTenant s t) t with
        | .error e => u.dget 0x4000 5 = 4 ∧ u.dget (0x7010 + homeOfTenant s t) 1 = e.code ∧
            u.dget (0x7010 + homeOfTenant s t) 2 = e.bundle ∧ u.tenantState t = 0 ∧ u.mem = s.mem ∧ u.contexts = s.contexts
        | .ok x => u.dget 0x4000 5 = 1 ∧ u.dget (0x7010 + homeOfTenant s t) 1 = 0 ∧ u.tenantState t = 1 ∧
            u.resident (homeOfTenant s t) = some t ∧ u.ctx (homeOfTenant s t) = x)) ∧
    (s.resident (homeOfTenant s t) = some t → s.tenantState t = 1 ∨ s.tenantState t = 6 →
      (t = 0 → s.single = true → Accepted s r 0x4000 2 1 6 → ∃ u, exec (.unload r) s = .next u ∧ u.tenantState 0 = 0 ∧
        u.resident (homeOfTenant s 0) = none ∧ (u.ctx (homeOfTenant s 0)).loaded = false ∧ u.dget 0x4000 5 = 1 ∧
        u.out.head? = some (.answer r 0 0)) ∧
      (Accepted s r (0x6070 + t) 3 1 5 → ∃ u, exec (.tenantUnload r t) s = .next u ∧ u.tenantState t = 0 ∧
        u.resident (homeOfTenant s t) = none ∧ (u.ctx (homeOfTenant s t)).loaded = false ∧ u.dget 0x4000 5 = 1 ∧
        u.out.head? = some (.answer r 0 0)))

/-- The beat of a pending `START`, `RESUME` or `HOLD` arrives (R40, R147, R149, R151). -/
def Obligations.PendingRequestsFire : Prop :=
  ∀ (s : State) (t b : Nat), t < 8 → homeOfTenant s t < 4 → s.hasSchedule = true → s.quartz.begun = true → b ≤ s.beat →
    (s.power.request = some ⟨3, b, t⟩ → s.tenantState t = 1 → (s.cairnOf (homeOfTenant s t)).restored = none →
      ∃ u, exec .startAtBeat s = .next u ∧ u.tenantState t = 2 ∧ u.power.request = none ∧ u.dget 0x4000 5 = 1 ∧
        u.pc (homeOfTenant s t) = (s.ctx (homeOfTenant s t)).entry ∧ u.dget (0x4030 + homeOfTenant s t) 3 = b ∧
        u.dget (0x4030 + homeOfTenant s t) 5 = 0 ∧ (u.ctx (homeOfTenant s t)).loops = [] ∧ (u.ctx (homeOfTenant s t)).backlog = []) ∧
    (s.power.request = some ⟨5, b, t⟩ → s.tenantState t = 6 → ∃ u, exec .startAtBeat s = .next u ∧ u.tenantState t = 2 ∧
      u.power.request = none ∧ u.dget 0x4000 5 = 1 ∧ u.pc (homeOfTenant s t) = s.pc (homeOfTenant s t) ∧
      u.dget (0x4030 + homeOfTenant s t) 5 =
        s.dget (0x4030 + homeOfTenant s t) 5 + (b - (s.ctx (homeOfTenant s t)).stopBeat)) ∧
    (s.power.request = some ⟨4, b, t⟩ → s.tenantState t = 2 → s.tenancy.stops = [] → waitsForNet s t = false →
      ∃ u, exec .holdAtBeat s = .next u ∧ u.tenantState t = 6 ∧ u.power.request = none ∧ u.dget 0x4000 5 = 1 ∧
        u.pc (homeOfTenant s t) = s.pc (homeOfTenant s t) ∧ (u.ctx (homeOfTenant s t)).stopBeat = b ∧ u.tenancy.stops = [])

/-- A save parks a tenant with what it held; a network wait's grace ends; the scheduler brings a parked tenant back (R454, R457, R458,
R463), and a reload makes it resident again, or `STUCK` where its blocks cannot be bound (R456). -/
def Obligations.SavesAndScheduling : Prop :=
  ∀ (s : State) (t b : Nat), t < 8 → homeOfTenant s t < 4 →
    (s.tenancy.moves = [⟨t, false, false, true, none⟩] → s.tenantState t = 3 → s.power.request = none →
      ∃ u, exec (.saveTenant t) s = .next u ∧ u.tenantState t = 4 ∧ u.resident (homeOfTenant s t) = none ∧
        u.tenancy.moves = [] ∧ (u.ctx (homeOfTenant s t)).loaded = false ∧
        (kfind u.parked t).map (fun p => p.regs) = some ((s.ctx (homeOfTenant s t)).blocks.map fun e => (e.1, s.block e.2)) ∧
        (kfind u.parked t).map (fun p => p.ran) = some true) ∧
    (s.tenancy.stops = [⟨t, true, b, false, none⟩] → waitsForNet s t = true →
      ∃ u, exec (.preemptGraceExpiry t) s = .next u ∧ u.tenantState t = 3 ∧ u.tenancy.stops = [] ∧
        u.tenancy.moves = s.tenancy.moves ++ [⟨t, false, false, true, none⟩] ∧
        (u.ctx (homeOfTenant s t)).stopBeat = b) ∧
    (s.hasSchedule = true → s.quartz.begun = true → s.power.state = .up → s.tenancy = Tenancy.empty → s.partitions = 1 →
      s.resident 0 = none → bestRunnable s 0 = some t → ∃ u, exec (.schedulerDecision []) s = .next u ∧
        u.tenantState t = 3 ∧ u.tenancy.moves = [⟨t, true, false, true, none⟩]) ∧
    (∀ p, s.tenancy.moves = [⟨t, true, false, true, none⟩] → s.tenantState t = 3 → kfind s.parked t = some p →
      s.resident (homeOfTenant s t) = none →
      (∀ l, rebind s (homeOfTenant s t) p.context.blocks (p.context.blocks.map (·.2)) = some l →
        ∃ u, exec (.reloadTenant t) s = .next u ∧ u.resident (homeOfTenant s t) = some t ∧ kfind u.parked t = none ∧
          (u.ctx (homeOfTenant s t)).blocks = l ∧ u.tenancy.moves = [⟨t, true, true, true, none⟩]) ∧
      (rebind s (homeOfTenant s t) p.context.blocks (p.context.blocks.map (·.2)) = none →
        ∃ u, exec (.reloadTenant t) s = .next u ∧ u.tenantState t = 5 ∧ u.tenancy.moves = [] ∧
          bit (u.dget 0x50B0 1) 1 = true ∧ kfind u.parked t = some p))

/-- An armed slot whose deadline has come: its fallback record joins the fallback partition's forward queue once, or the case is recorded
where no partition serves (R467 to R469). -/
def Obligations.DeadlinePushesFallback : Prop :=
  ∀ (s : State) (c d r g due : Nat), c < 4 → s.hasSchedule = true → s.quartz.begun = true → s.power.state = .up →
    (s.ctx c).loaded = true → s.dget (0x6080 + c) 1 = 1 → (∀ e, e < 4 → e ≠ c → s.dget (0x6080 + e) 1 ≠ 1) →
    (s.ctx c).slots = [(d, ⟨some r, g⟩)] → deadlineOf r = some due → due ≤ s.beat + s.dget (0x6080 + c) 2 →
    (s.ctx c).switched = [] →
    (fallbackFor s c = none → ∃ t, exec .deadlineCheck s = .next t ∧ (t.ctx c).switched = [d] ∧
      bit (t.dget 0x50B0 1) 4 = true ∧ t.dget 0x50B0 6 = countUp (entryBytes 0x50B0 6) (s.dget 0x50B0 6) 1 ∧ t.mem = s.mem) ∧
    (∀ f, fallbackFor s c = some f → queueFree s f 0 ≠ 0 → recordFault (s.ctx f) 0 (fallbackRecord s c f r due) = 0 →
      ∃ t, exec .deadlineCheck s = .next t ∧ (t.ctx c).switched = [d] ∧
        (t.ctx f).fwdQueue = (s.ctx f).fwdQueue ++ [putBits (fallbackRecord s c f r due) 192 64 s.beat] ∧
        t.dget (0x6080 + c) 3 = countUp (entryBytes (0x6080 + c) 3) (s.dget (0x6080 + c) 3) 1 ∧
        bit (t.dget 0x50B0 1) 2 = true ∧ t.mem = s.mem)

/-! ## The vector unit -/

/-- A lane of a vector register. -/
def laneOf (s : State) (a : Actor) (r l : Nat) : Lane := ((s.block a.phys).vreg r).getD l Lane.zero

/-- An operation in blocks that may be named: the context runs, the descriptor is valid, and no block acts twice (R138, R140). -/
def MayAct (s : State) (c sel pred : Nat) : Prop :=
  s.running c = true ∧ ((s.ctx c).desc sel).valid = true ∧ sel < 64 ∧ pred < 8 ∧
    ((actors s c sel pred).map (·.phys)).Nodup ∧ ∀ a ∈ actors s c sel pred, a.phys < 1088

/-- Only the acting blocks change, beside the arithmetic and poison records and the log. -/
def ActorsOnly (s t : State) (c sel pred : Nat) : Prop :=
  t = { s with blocks := t.blocks, dict := t.dict, garnet := t.garnet, freeCount := t.freeCount } ∧ LogOnly s t ∧
  IndexKept s t [0x5010, 0x50E0, 0x50D0] ∧ ∀ p, p ∉ (actors s c sel pred).map (·.phys) → t.block p = s.block p

/-- Register `vd` of every acting block takes the lanes that `f` gives it; the block's other registers, its accumulators, Mica, queues,
predicates and base registers are as before, and its flags gain those of `g`. -/
def VectorResult (s t : State) (c sel pred vd : Nat) (f : Actor → Nat → Lane) (g : Actor → Events) : Prop :=
  ActorsOnly s t c sel pred ∧ ∀ a ∈ actors s c sel pred,
    (∀ l, l < 64 → laneOf t a vd l = f a l) ∧ ((t.block a.phys).vreg vd).length = 64 ∧
    (∀ r, r ≠ vd → (t.block a.phys).vreg r = (s.block a.phys).vreg r) ∧
    t.block a.phys = { s.block a.phys with
      vregs := (t.block a.phys).vregs, flags := (s.block a.phys).flags ||| (g a).flags }

/-- INT32 operations, shifts and the select (R188, R572): flags do not change, and a poisoned source lane poisons its result lane. -/
def Obligations.IntegerVectorOps : Prop :=
  ∀ (s : State) (c sel pred vd va vb vc kind amount : Nat), MayAct s c sel pred → vd < 32 → va < 32 → vb < 32 → vc < 32 →
    (∃ t, exec (.viadd c sel pred vd va vb) s = .next t ∧ VectorResult s t c sel pred vd (fun a l =>
      ⟨(laneOf s a va l).bits + (laneOf s a vb l).bits, (laneOf s a va l).poison || (laneOf s a vb l).poison⟩) fun _ => .none) ∧
    (∃ t, exec (.vand c sel pred vd va vb) s = .next t ∧ VectorResult s t c sel pred vd (fun a l =>
      ⟨(laneOf s a va l).bits &&& (laneOf s a vb l).bits, (laneOf s a va l).poison || (laneOf s a vb l).poison⟩) fun _ => .none) ∧
    (∃ t, exec (.vor c sel pred vd va vb) s = .next t ∧ VectorResult s t c sel pred vd (fun a l =>
      ⟨(laneOf s a va l).bits ||| (laneOf s a vb l).bits, (laneOf s a va l).poison || (laneOf s a vb l).poison⟩) fun _ => .none) ∧
    (∃ t, exec (.vxor c sel pred vd va vb) s = .next t ∧ VectorResult s t c sel pred vd (fun a l =>
      ⟨(laneOf s a va l).bits ^^^ (laneOf s a vb l).bits, (laneOf s a va l).poison || (laneOf s a vb l).poison⟩) fun _ => .none) ∧
    (kind < 3 → amount < 32 → ∃ t, exec (.vshift c sel pred vd va 0 kind 1 amount) s = .next t ∧
      VectorResult s t c sel pred vd (fun a l =>
        let x := (laneOf s a va l).bits
        ⟨if kind = 0 then x <<< amount else if kind = 1 then x >>> amount else x.sshiftRight amount, (laneOf s a va l).poison⟩)
        fun _ => .none) ∧
    (kind < 3 → ∃ t, exec (.vshift c sel pred vd va vb kind 0 0) s = .next t ∧
      VectorResult s t c sel pred vd (fun a l =>
        let x := (laneOf s a va l).bits
        let n := (laneOf s a vb l).bits.toNat % 32
        ⟨if kind = 0 then x <<< n else if kind = 1 then x >>> n else x.sshiftRight n,
          (laneOf s a va l).poison || (laneOf s a vb l).poison⟩) fun _ => .none) ∧
    (∃ t, exec (.vsel c sel pred vd va vb vc) s = .next t ∧ VectorResult s t c sel pred vd (fun a l =>
      ⟨if (laneOf s a vc l).bits.toNat % 2 ^ 31 ≠ 0 then (laneOf s a va l).bits else (laneOf s a vb l).bits,
        (laneOf s a va l).poison || (laneOf s a vb l).poison || (laneOf s a vc l).poison⟩) fun _ => .none)

/-- The lane that an FP32 operation makes of source lanes, and the flags of all lanes: a poisoned lane's flags are dropped (R71, R572). -/
def fpLane (op : List Nat → Nat × Events) (s : State) (srcs : List Nat) (a : Actor) (l : Nat) : Lane :=
  ⟨BitVec.ofNat 32 (op (srcs.map fun r => (laneOf s a r l).bits.toNat)).1, srcs.any fun r => (laneOf s a r l).poison⟩
def fpEvents (op : List Nat → Nat × Events) (s : State) (srcs : List Nat) (a : Actor) : Events :=
  Events.all ((List.range 64).map fun l =>
    if srcs.any fun r => (laneOf s a r l).poison then .none else (op (srcs.map fun r => (laneOf s a r l).bits.toNat)).2)

/-- FP32 operations lane by lane (R71, R79, R80, R188). -/
def Obligations.FloatVectorOps : Prop :=
  ∀ (s : State) (c sel pred vd va vb vc kind : Nat), MayAct s c sel pred → vd < 32 → va < 32 → vb < 32 → vc < 32 →
    (∀ e ∈ [(Instr.vadd c sel pred vd va vb, addOp), (.vsub c sel pred vd va vb, subOp), (.vmul c sel pred vd va vb, mulOp),
        (.vmin c sel pred vd va vb, minOp), (.vmax c sel pred vd va vb, maxOp)],
      ∃ t, exec e.1 s = .next t ∧ VectorResult s t c sel pred vd (fpLane e.2 s [va, vb]) (fpEvents e.2 s [va, vb])) ∧
    (kind < 6 → ∃ t, exec (.vcmp c sel pred vd va vb kind) s = .next t ∧
      VectorResult s t c sel pred vd (fpLane (cmpOp kind) s [va, vb]) (fpEvents (cmpOp kind) s [va, vb])) ∧
    (∃ t, exec (.vfma c sel pred vd va vb vc) s = .next t ∧
      VectorResult s t c sel pred vd (fpLane fmaOp s [va, vb, vc]) (fpEvents fmaOp s [va, vb, vc])) ∧
    (∀ e ∈ [(Instr.vexp2 c sel pred vd va, opExp2), (.vlog2 c sel pred vd va, opLog2), (.vrcp c sel pred vd va, opRcp),
        (.vrsqrt c sel pred vd va, opRsqrt), (.vsqrt c sel pred vd va, opSqrt), (.vtanh c sel pred vd va, opTanh)],
      ∃ t, exec e.1 s = .next t ∧ VectorResult s t c sel pred vd (fpLane (unary e.2) s [va]) (fpEvents (unary e.2) s [va]))

/-- Values that the arithmetic rules give outright (R79, R80, R188): the special operands of the single-operand functions, each with
the flags that it sets, and sums, products and comparisons of special values. -/
def Obligations.FloatSpecialValues : Prop :=
  (∀ x, x < 2 ^ 32 →
    let v := dec32 x
    (v.isNan = true → ∀ f ∈ [opExp2, opLog2, opRcp, opRsqrt, opSqrt, opTanh], f x = (0x7FC00000, flagNanInput)) ∧
    (∀ n, v = .inf n → opExp2 x = (if n then 0 else 0x7F800000, flagInfInput) ∧
      opRcp x = (if n then 0x80000000 else 0, flagInfInput) ∧ opTanh x = (if n then 0xBF800000 else 0x3F800000, flagInfInput) ∧
      ∀ f ∈ [opLog2, opSqrt], f x = if n then (0x7FC00000, flagInfInput ||| flagNanGenerated) else (0x7F800000, flagInfInput)) ∧
    (∀ n e, v = .num n 0 e → opExp2 x = (0x3F800000, 0) ∧ opLog2 x = (0xFF800000, 0) ∧ opSqrt x = (x, 0) ∧ opTanh x = (x, 0) ∧
      ∀ f ∈ [opRcp, opRsqrt], f x = (if n then 0xFF800000 else 0x7F800000, 0)) ∧
    (∀ m e, v = .num true m e → m ≠ 0 → ∀ f ∈ [opLog2, opRsqrt, opSqrt], f x = (0x7FC00000, flagNanGenerated)) ∧
    (∀ m e, v = .num false m e → v.lt (.num false 128 0) = false → opExp2 x = (0x7F800000, flagFpOverflow)) ∧
    (∀ m e, v = .num true m e → v.lt (.num true 149 0) = true → opExp2 x = (0, 0)) ∧
    (∀ n m e, v = .num n m e → m ≠ 0 → (subOp [x, x]).1 = 0) ∧
    (v.isNan = true → ∀ y, y < 2 ^ 32 → ∀ f ∈ [addOp, mulOp, minOp, maxOp], (f [x, y]).1 = 0x7FC00000 ∧ (f [y, x]).1 = 0x7FC00000) ∧
    (v.isNan = true → ∀ y k, y < 2 ^ 32 → k < 6 → (cmpOp k [x, y]).1 = 0)) ∧
  (addOp [0x3F800000, 0x3F800000]).1 = 0x40000000 ∧ (mulOp [0x40000000, 0xC0400000]).1 = 0xC0C00000 ∧
  (fmaOp [0x40000000, 0x40400000, 0x3F800000]).1 = 0x40E00000 ∧ (addOp [0x7F800000, 0xFF800000]).1 = 0x7FC00000 ∧
  (maxOp [0x80000000, 0]).1 = 0 ∧ (minOp [0, 0x80000000]).1 = 0x80000000 ∧ (opSqrt 0x40800000).1 = 0x40000000 ∧
  opLog2 0x3F800000 = (0, 0)

/-- Reductions, permutation, the reads of flags and accumulators, and predicates (R82, R117, R188, R191, R192). -/
def Obligations.CrossLaneOps : Prop :=
  ∀ (s : State) (c sel pred vd va kind arg row half dest mode invert mask : Nat), MayAct s c sel pred → vd < 32 → va < 32 →
    (∀ e ∈ [(Instr.vreduceSum c sel pred vd va, sumPair), (.vreduceMax c sel pred vd va, maxPair)],
      ∃ t, exec e.1 s = .next t ∧ ActorsOnly s t c sel pred ∧ ∀ a ∈ actors s c sel pred,
        (∀ l, 0 < l → l < 64 → laneOf t a vd l = Lane.zero) ∧
        (laneOf t a vd 0).poison = ((List.range 64).any fun l => (laneOf s a va l).poison) ∧
        (laneOf t a vd 0).bits = BitVec.ofNat 32 (reduceTree e.2 6 ((List.range 64).map fun l =>
          ⟨(laneOf s a va l).bits.toNat, (laneOf s a va l).poison, .none⟩)).value ∧
        ∀ r, r ≠ vd → (t.block a.phys).vreg r = (s.block a.phys).vreg r) ∧
    (kind < 4 → arg < 64 → kind ≠ 3 ∨ arg = 0 → ∃ t, exec (.vperm c sel pred vd va kind arg) s = .next t ∧
      VectorResult s t c sel pred vd (fun a l => laneOf s a va (if kind = 0 then (l + 64 - arg) % 64
        else if kind = 1 then l ^^^ arg else if kind = 2 then arg else 63 - l)) fun _ => .none) ∧
    (row < 16 → half < 2 → ∃ t, exec (.vaccRead c sel pred vd row half ⟨[], []⟩) s = .next t ∧
      ActorsOnly s t c sel pred ∧ ∀ a ∈ actors s c sel pred, ∀ l, l < 64 →
        laneOf t a vd l = ((s.block a.phys).accRow row).getD (64 * half + l) Lane.zero) ∧
    (∃ t, exec (.flagsRead c sel pred vd) s = .next t ∧ VectorResult s t c sel pred vd (fun a l =>
      if l = 0 then ⟨BitVec.ofNat 32 (s.block a.phys).flags, false⟩ else Lane.zero) fun _ => .none) ∧
    (mask < 2 ^ 11 → ∃ t, exec (.flagsClear c sel pred mask) s = .next t ∧ t = { s with blocks := t.blocks } ∧
      (∀ p, p ∉ (actors s c sel pred).map (·.phys) → t.block p = s.block p) ∧ ∀ a ∈ actors s c sel pred,
        t.block a.phys = { s.block a.phys with flags := (t.block a.phys).flags } ∧
        ∀ i, bit (t.block a.phys).flags i = (bit (s.block a.phys).flags i && !bit mask i)) ∧
    (0 < dest → dest < 8 → mode < 2 → invert < 2 → ∃ t, exec (.vpred c sel pred dest va mode invert) s = .next t ∧
      ActorsOnly s t c sel pred ∧ ∀ a ∈ actors s c sel pred,
        t.block a.phys = { s.block a.phys with preds := (t.block a.phys).preds } ∧
        (∀ i, i ≠ dest → bit (t.block a.phys).preds i = bit (s.block a.phys).preds i) ∧
        bit (t.block a.phys).preds dest = ((if mode = 0
          then ((s.block a.phys).vreg va).any fun x => nonzeroLane x.bits.toNat
          else ((s.block a.phys).vreg va).all fun x => nonzeroLane x.bits.toNat) != (invert == 1)))

/-- Register `target` of every acting block will read `v` in the next bundle; operations of this one still see every register as it was. -/
def NextBundleSees (s t : State) (c sel pred target : Nat) (v : Actor → Int) : Prop :=
  t = { s with blocks := t.blocks } ∧ ∀ a ∈ actors s c sel pred,
    ((t.block a.phys).nextValue target : Int) = v a ∧ (t.block a.phys).srIndex = (s.block a.phys).srIndex ∧
    ∀ i, (t.block a.phys).base i = (s.block a.phys).base i ∧
      (i ≠ target → (t.block a.phys).nextValue i = (s.block a.phys).nextValue i)

/-- `SET_BASE` (R141, R192): a base register, or `SR_INDEX` (16), is set, advanced modulo its width, or taken from two lanes. -/
def Obligations.SetBaseTakesEffectNextBundle : Prop :=
  ∀ (s : State) (c sel pred target va imm : Nat), MayAct s c sel pred → target ≤ 16 → va < 32 → imm < 2 ^ 36 →
    (target = 16 ∨ imm < 2 ^ 10 → ∃ t, exec (.setBase c sel pred target 0 0 imm) s = .next t ∧
      NextBundleSees s t c sel pred target fun _ => imm) ∧
    (∃ t, exec (.setBase c sel pred target 1 0 imm) s = .next t ∧ NextBundleSees s t c sel pred target fun a =>
      (((s.block a.phys).nextValue target : Int) + sext 36 imm) % (if target = 16 then 2 ^ 48 else 2 ^ 10)) ∧
    (∃ t, exec (.setBase c sel pred 16 2 va 0) s = .next t ∧ NextBundleSees s t c sel pred 16 fun a =>
      (((laneOf s a va 0).bits.toNat + (laneOf s a va 1).bits.toNat % 2 ^ 16 * 2 ^ 32 : Nat) : Int))

/-- Conversions between formats and into MX blocks (R58, R72 to R75, R189): the packed elements, each with the poison of its source. -/
def Obligations.ConversionOps : Prop :=
  ∀ (s : State) (c sel pred vd va vb src dst round ovf adv tensor : Nat), MayAct s c sel pred → vd < 32 → va < 32 → vb < 32 →
    round < 2 → adv < 2 → tensor < 2 ^ 16 →
    (cvtLegal src dst round ovf = true → ∃ t, exec (.vcvt c sel pred vd va src dst round ovf adv tensor) s = .next t ∧
      ActorsOnly s t c sel pred ∧ ∀ a ∈ actors s c sel pred,
        (t.block a.phys).vreg vd = packLanes (elementBits dst)
          ((unpackLanes (elementBits src) ((s.block a.phys).vreg va)).zipIdx.map fun e =>
            ((if dst = 0 then upConvert src e.1.1
              else downConvert dst (roundingOf s c sel a.phys round tensor e.2) (ovf == 1) e.1.1).1, e.1.2)) ∧
        (t.block a.phys).nextValue 16 = (if adv = 1 then ((s.block a.phys).nextValue 16 + 64) % 2 ^ 48
          else (s.block a.phys).nextValue 16) ∧
        ∀ r, r ≠ vd → (t.block a.phys).vreg r = (s.block a.phys).vreg r) ∧
    (4 ≤ dst → dst ≤ 8 → ∃ t, exec (.vquant c sel pred vd va 0 dst round adv tensor) s = .next t ∧
      ActorsOnly s t c sel pred ∧ ∀ a ∈ actors s c sel pred,
        let lo := quantBlock s c sel a.phys dst round tensor 0 (((s.block a.phys).vreg va).take 32) none
        let hi := quantBlock s c sel a.phys dst round tensor 32 (((s.block a.phys).vreg va).drop 32) none
        (t.block a.phys).vreg vd = (packLanes (elementBits dst) (lo.1 ++ hi.1)).set 16
          ⟨BitVec.ofNat 32 (lo.2.1 + 256 * hi.2.1), lo.2.2.2 || hi.2.2.2⟩ ∧
        ∀ r, r ≠ vd → (t.block a.phys).vreg r = (s.block a.phys).vreg r) ∧
    (va % 2 = 0 → ∃ t, exec (.vquant c sel pred vd va vb 9 round adv tensor) s = .next t ∧
      ActorsOnly s t c sel pred ∧ ∀ a ∈ actors s c sel pred,
        let q := quantBlock s c sel a.phys 9 round tensor 0 ((s.block a.phys).vreg va ++ (s.block a.phys).vreg (va + 1))
          (some (laneOf s a vb 0))
        (t.block a.phys).vreg vd = (packLanes (elementBits 9) q.1).set 16 ⟨BitVec.ofNat 32 q.2.1, q.2.2.2⟩ ∧
        ∀ r, r ≠ vd → (t.block a.phys).vreg r = (s.block a.phys).vreg r)

/-! ## Banks, accumulators, Mica and the movers -/

/-- Stores of the acting blocks meet no running fast copy, and no block is mirrored for an evacuation (R296, R425). -/
def StoresDirectly (s : State) (c sel pred : Nat) : Prop :=
  MayAct s c sel pred ∧ (s.cairnOf c).copying = none ∧ s.zoning.evac = []

/-- Address `x` lies outside the `n` bytes at offset `off` of every place where the row stands (R95, R97). -/
def OutsideRow (s : State) (p bank row off n x : Nat) : Prop :=
  ∀ y ∈ writeTargets s p bank row, x < y + off ∨ y + off + n ≤ x

/-- The bytes `bs` stand at offset `off` of every place of the row. -/
def RowHolds (s t : State) (p bank row off : Nat) (bs : List Byte) : Prop :=
  ∀ y ∈ writeTargets s p bank row, memRead t.mem (y + off) bs.length = bs

/-- The row that a destination selector makes of a slot's row field, in an acting block (R290). -/
def outRow (s : State) (c sel row : Nat) (a : Actor) : Nat := (s.block a.phys).rowOf ((s.ctx c).desc sel).selOut row
def auxRow (s : State) (c sel row : Nat) (a : Actor) : Nat := (s.block a.phys).rowOf ((s.ctx c).desc sel).selAux row

/-- The bytes of a list of lanes. -/
def bytesOf (l : List Lane) : List Byte := l.flatMap fun x => leBytes 4 x.bits.toNat

/-- `VLOAD` (R191): 256 B from two adjacent banks, or 128 B or 64 B widened; nothing is stored. -/
def Obligations.VectorLoads : Prop :=
  ∀ (s : State) (c sel pred vd width bank half row postinc : Nat), MayAct s c sel pred →
    loadLegal vd width bank half row postinc = true →
    (∀ a ∈ actors s c sel pred, (s.block a.phys).rowOf ((s.ctx c).desc sel).selA row < 768) →
    ∃ t, exec (.vload c sel pred vd width bank half row postinc ⟨[], []⟩) s = .next t ∧ t = { s with blocks := t.blocks } ∧
      (∀ p, p ∉ (actors s c sel pred).map (·.phys) → t.block p = s.block p) ∧ ∀ a ∈ actors s c sel pred,
        let r := (s.block a.phys).rowOf ((s.ctx c).desc sel).selA row
        (∀ v, v ≠ vd → (t.block a.phys).vreg v = (s.block a.phys).vreg v) ∧
        (t.block a.phys).acc = (s.block a.phys).acc ∧ (t.block a.phys).flags = (s.block a.phys).flags ∧
        ∀ l, l < 64 →
          (width = 0 → laneOf t a vd l = (fun (x : List TByte) => (⟨BitVec.ofNat 32 (ofLe (x.map (·.1))), anyTagged x⟩ : Lane)) (readTagged s
              (if l < 32 then readTarget s a.phys bank r + 4 * l else readTarget s a.phys (bank + 1) r + 4 * (l - 32)) 4)) ∧
          (width = 1 → (laneOf t a vd l).bits = BitVec.ofNat 32 (upConvert 1 (readLe s (readTarget s a.phys bank r + 2 * l) 2)).1) ∧
          (width = 2 ∨ width = 3 → (laneOf t a vd l).bits =
            BitVec.ofNat 32 (upConvert width (readLe s (readTarget s a.phys bank r + 64 * half + l) 1)).1)

/-- `VSTORE` and `ACC_STORE` (R110, R191): what they store, and that every other byte of memory, register and entry stays. An access
beyond row 767 stores nothing and is recorded (R121). -/
def Obligations.VectorStores : Prop :=
  (∀ (s : State) (t : Touch) (p bank row off : Nat) (bs : List TByte), 768 ≤ row → bs ≠ [] →
    RecordOnly s (writeRow s t p bank row off bs) ∧ bit ((writeRow s t p bank row off bs).dget 0x5020 1) 4 = true ∧
      (writeRow s t p bank row off bs).dget 0x5020 6 = countUp (entryBytes 0x5020 6) (s.dget 0x5020 6) 1) ∧
  ∀ (s : State) (c sel pred vd size bank offset row sbank srow sbyte acc half postinc : Nat) (met : List (Nat × Nat)),
    StoresDirectly s c sel pred →
    (storeLegal vd size bank offset row 0 sbank srow sbyte postinc = true → (∀ a ∈ actors s c sel pred, outRow s c sel row a < 768) →
      ∃ t, exec (.vstore c sel pred vd size bank offset row 0 sbank srow sbyte postinc ⟨[], met⟩) s = .next t ∧
        (∀ a ∈ actors s c sel pred,
          (size = 0 → RowHolds s t a.phys bank (outRow s c sel row a) 0 (bytesOf (((s.block a.phys).vreg vd).take 32)) ∧
            RowHolds s t a.phys (bank + 1) (outRow s c sel row a) 0
              ((bytesOf (((s.block a.phys).vreg vd).drop 32)).take 128)) ∧
          (0 < size → RowHolds s t a.phys bank (outRow s c sel row a) (16 * offset)
            ((bytesOf ((s.block a.phys).vreg vd)).take (storeSize size)))) ∧
        (∀ x, (∀ a ∈ actors s c sel pred, (size = 0 → OutsideRow s a.phys bank (outRow s c sel row a) 0 128 x ∧
            OutsideRow s a.phys (bank + 1) (outRow s c sel row a) 0 128 x) ∧
          (0 < size → OutsideRow s a.phys bank (outRow s c sel row a) (16 * offset) (storeSize size) x)) →
          memByte t.mem x = memByte s.mem x) ∧
        (∀ p r, (t.block p).vreg r = (s.block p).vreg r ∧ (t.block p).accRow r = (s.block p).accRow r) ∧
        IndexKept s t [0x5010, 0x5021, 0x50D0]) ∧
    (storeLegal vd size bank offset row 1 sbank srow sbyte postinc = true →
      (∀ a ∈ actors s c sel pred, outRow s c sel row a < 768 ∧ auxRow s c sel srow a < 768) →
      ∃ t, exec (.vstore c sel pred vd size bank offset row 1 sbank srow sbyte postinc ⟨[], met⟩) s = .next t ∧
        (∀ a ∈ actors s c sel pred, RowHolds s t a.phys sbank (auxRow s c sel srow a) sbyte
          ((leBytes 4 (laneOf s a vd 16).bits.toNat).take (if size = 2 ∧ sbyte % 2 = 1 then 1 else 2))) ∧
        (∀ x, (∀ a ∈ actors s c sel pred,
            OutsideRow s a.phys bank (outRow s c sel row a) (16 * offset) (storeSize size) x ∧
            OutsideRow s a.phys sbank (auxRow s c sel srow a) sbyte (if size = 2 ∧ sbyte % 2 = 1 then 1 else 2) x) →
          memByte t.mem x = memByte s.mem x)) ∧
    (acc < 16 → half < 2 → bank < 16 → bank % 2 = 0 → row < 64 → postinc < 2 →
      (∀ a ∈ actors s c sel pred, outRow s c sel row a < 768 ∧ ((s.block a.phys).accRow acc).length = 128) →
      ∃ t, exec (.accStore c sel pred acc half bank row postinc ⟨[], met⟩) s = .next t ∧
        (∀ a ∈ actors s c sel pred,
          RowHolds s t a.phys bank (outRow s c sel row a) 0
            (bytesOf ((((s.block a.phys).accRow acc).drop (64 * half)).take 32)) ∧
          RowHolds s t a.phys (bank + 1) (outRow s c sel row a) 0
            (bytesOf ((((s.block a.phys).accRow acc).drop (64 * half + 32)).take 32))) ∧
        (∀ x, (∀ a ∈ actors s c sel pred, OutsideRow s a.phys bank (outRow s c sel row a) 0 128 x ∧
            OutsideRow s a.phys (bank + 1) (outRow s c sel row a) 0 128 x) → memByte t.mem x = memByte s.mem x) ∧
        (∀ p r, (t.block p).vreg r = (s.block p).vreg r ∧ (t.block p).accRow r = (s.block p).accRow r) ∧
        IndexKept s t [0x5010, 0x5021, 0x50D0])

/-- `MM_ACC` (R62, R108, R181, R182): each of the rows from `ACC_ROW` holds the sums over the group steps, and nothing is stored. -/
def Obligations.MultiplyAccumulates : Prop :=
  ∀ (s : State) (c sel pred : Nat) (f : MmFields), MayAct s c sel pred → mmLegal f = true →
    let command := Instr.mmAcc c sel pred f.fmtA f.fmtB f.steps f.h f.start f.transA f.aSel f.aOffset f.bSel f.bRow f.scale
      f.acc f.postinc ⟨[], []⟩
    (f.h = 0 → exec command s = .next s) ∧
    (0 < f.h → ∃ t, exec command s = .next t ∧
      t = { s with blocks := t.blocks, dict := t.dict, garnet := t.garnet, freeCount := t.freeCount } ∧
      IndexKept s t [0x5010, 0x5020, 0x50E0, 0x50D0] ∧
      (∀ p, p ∉ (actors s c sel pred).map (·.phys) → t.block p = s.block p) ∧ ∀ a ∈ actors s c sel pred,
        let b := s.block a.phys
        let d := (s.ctx c).desc sel
        let rows := (readBankRows s a.phys ((rangeFrom f.bRow (if f.bSel = 0 then f.steps else 0)).map (b.rowOf d.selB))).1
        let scales := (readBankRows s a.phys ((rangeFrom (f.scale + loadRows f.fmtA f.fmtB f.start f.h)
          (scaleRows f.fmtA f.fmtB f.steps f.h)).map (b.rowOf d.selAux))).1
        (∀ h, h < f.h → (t.block a.phys).accRow (f.acc + h) =
          lanesFrom (macRow b (s.ctx c) f rows scales h (startRow s b d a.phys f h).1)) ∧
        (∀ r, r < f.acc ∨ f.acc + f.h ≤ r → (t.block a.phys).accRow r = b.accRow r) ∧
        (t.block a.phys).vregs = b.vregs ∧ (t.block a.phys).mica = b.mica ∧ (t.block a.phys).queues = b.queues ∧
        (t.block a.phys).preds = b.preds)

/-- `MICA_FILL` and the mover's `MICA_LOAD` (R186): section 16 × (`DEST` + i) + k of the quarter holds row i of bank k. -/
def Obligations.MicaFills : Prop :=
  ∀ (s : State) (c sel pred slot quarter mode fmt reads dest row postinc : Nat), MayAct s c sel pred →
    micaFillLegal quarter mode fmt reads dest row postinc = true →
    (∀ a ∈ actors s c sel pred, ∀ i, i < reads → (s.block a.phys).rowOf ((s.ctx c).desc sel).selA (row + i) < 768) →
    ∀ command ∈ [Instr.micaFill c sel pred quarter mode fmt reads dest row postinc ⟨[], []⟩,
        .micaLoad c (slot % 4) 0 sel pred quarter mode fmt reads dest row postinc ⟨[], []⟩],
      ∃ t, exec command s = .next t ∧ t = { s with blocks := t.blocks } ∧
        (∀ p, p ∉ (actors s c sel pred).map (·.phys) → t.block p = s.block p) ∧ ∀ a ∈ actors s c sel pred,
          let q := quarterA (s.ctx c) quarter
          (∀ i k, i < reads → k < 16 → (t.block a.phys).section (q * 64 + 16 * (dest + i) + k) =
            (memRead s.mem (readTarget s a.phys k ((s.block a.phys).rowOf ((s.ctx c).desc sel).selA (row + i))) 128,
              anyTagged (readTagged s
                (readTarget s a.phys k ((s.block a.phys).rowOf ((s.ctx c).desc sel).selA (row + i))) 128))) ∧
          (∀ j, j < q * 64 + 16 * dest ∨ q * 64 + 16 * (dest + reads) ≤ j →
            (t.block a.phys).section j = (s.block a.phys).section j) ∧
          (t.block a.phys).vregs = (s.block a.phys).vregs ∧ (t.block a.phys).acc = (s.block a.phys).acc

/-- Transfers that do not meet one another: every row lies in its bank and in a block of the module, no row that is read is written, and no two writes fall
on the same bytes. -/
def Apart (ts : List Transfer) : Prop :=
  (∀ x ∈ ts, x.row < 768 ∧ x.bank < 16 ∧ x.phys < 1088 ∧
    ∀ p ∈ x.puts, p.2.2.2.1 < 768 ∧ p.2.2.1 < 16 ∧ p.2.1 < 1088) ∧
  (∀ x ∈ ts, ∀ y ∈ ts, ∀ p ∈ y.puts, (p.2.1, p.2.2.1, p.2.2.2.1) ≠ (x.phys, x.bank, x.row)) ∧
  ((ts.flatMap (·.puts)).map fun p => (p.2.1, p.2.2.1, p.2.2.2.1, p.2.2.2.2.1)).Nodup

/-- Every transfer's bytes have reached their places, and no other byte of memory has changed. -/
def Transferred (s t : State) (ts : List Transfer) : Prop :=
  (∀ x ∈ ts, ∀ p ∈ x.puts, RowHolds s t p.2.1 p.2.2.1 p.2.2.2.1 p.2.2.2.2.1
    (memRead s.mem (readTarget s x.phys x.bank x.row + p.2.2.2.2.1) p.2.2.2.2.2)) ∧
  ∀ z, (∀ x ∈ ts, ∀ p ∈ x.puts, OutsideRow s p.2.1 p.2.2.1 p.2.2.2.1 p.2.2.2.2.1 p.2.2.2.2.2 z) →
    memByte t.mem z = memByte s.mem z

/-- `COPY_BANK` and `COPY_AVENUE` (R199, R200): the rows and beats that the slot names reach their destinations. -/
def Obligations.BankAndAvenueCopies : Prop :=
  ∀ (s : State) (c slot sel pred sbank srow dbank drow rows postinc dir delta lbank lrow rbank rrow beats lat : Nat),
    StoresDirectly s c sel pred → slot < 4 →
    (sbank < 16 → srow < 64 → dbank < 16 → drow < 64 → rows < 256 → postinc < 4 →
      Apart (bankTransfers s ((s.ctx c).desc sel) sbank srow dbank drow rows (actors s c sel pred)) →
      ∃ t, exec (.copyBank c slot 0 sel pred sbank srow dbank drow rows postinc ⟨[], []⟩) s = .next t ∧
        Transferred s t (bankTransfers s ((s.ctx c).desc sel) sbank srow dbank drow rows (actors s c sel pred)) ∧
        t = { s with mem := t.mem, poison := t.poison, blocks := t.blocks }) ∧
    (dir < 2 → 0 < delta → delta < 2 ^ 11 → lbank < 16 → lrow < 64 → rbank < 16 → rrow < 64 → beats < 256 → lat < 128 →
      (if dir = 0 then 8 else 16) ≤ lat → postinc < 2 →
      Apart (avenueTransfers s (s.ctx c) ((s.ctx c).desc sel) dir delta lbank lrow rbank rrow beats lat (actors s c sel pred)) →
      ∃ t, exec (.copyAvenue c slot 0 sel pred dir delta lbank lrow rbank rrow beats lat postinc ⟨[], []⟩) s = .next t ∧
        Transferred s t (avenueTransfers s (s.ctx c) ((s.ctx c).desc sel) dir delta lbank lrow rbank rrow beats lat
          (actors s c sel pred)) ∧
        t = { s with mem := t.mem, poison := t.poison, blocks := t.blocks })

/-- `COPY_SQUARE`, `COPY_BEDROCK` and `COPY_SB` (R197, R199): rows between banks and a buffer, and 4 KiB units between buffers; every other
byte stays. -/
def Obligations.BufferCopies : Prop :=
  ∀ (s : State) (c slot sel pred dir bank row buffer offset rows postinc sq sqOffset br brOffset length : Nat),
    StoresDirectly s c sel pred → slot < 4 → dir < 2 →
    (bank < 16 → row < 64 → buffer < 4096 → offset < 2 ^ 14 → rows < 256 → postinc < 2 →
      ((s.ctx c).buffer buffer).cls ≠ 5 → squareBase ≤ ((s.ctx c).buffer buffer).address →
      ((s.ctx c).buffer buffer).address + 4096 * offset + 128 * (1024 * rows) ≤ bedrockEnd →
      (∀ a ∈ actors s c sel pred, ∀ i, i < rows →
        (s.block a.phys).rowOf (if dir = 0 then ((s.ctx c).desc sel).selA else ((s.ctx c).desc sel).selOut) (row + i) < 768) →
      (∀ a ∈ actors s c sel pred, ((List.range rows).map fun i =>
        (s.block a.phys).rowOf ((s.ctx c).desc sel).selOut (row + i)).Nodup) →
      let at' := fun (a : Actor) i => ((s.ctx c).buffer buffer).address + 4096 * offset + 128 * (a.rank * rows + i)
      ∀ command ∈ [Instr.copySquare c slot 0 sel pred dir bank row buffer offset rows postinc ⟨[], []⟩,
          .copyBedrock c slot 0 sel pred dir bank row buffer offset rows postinc ⟨[], []⟩],
        ∃ t, exec command s = .next t ∧ t = { s with mem := t.mem, poison := t.poison, blocks := t.blocks } ∧
          (dir = 0 → (∀ a ∈ actors s c sel pred, ∀ i, i < rows → memRead t.mem (at' a i) 128 =
              memRead s.mem (readTarget s a.phys bank ((s.block a.phys).rowOf ((s.ctx c).desc sel).selA (row + i))) 128) ∧
            ∀ x, (∀ a ∈ actors s c sel pred, ∀ i, i < rows → x < at' a i ∨ at' a i + 128 ≤ x) →
              memByte t.mem x = memByte s.mem x) ∧
          (dir = 1 → (∀ a ∈ actors s c sel pred, ∀ i, i < rows →
              RowHolds s t a.phys bank ((s.block a.phys).rowOf ((s.ctx c).desc sel).selOut (row + i)) 0
                (memRead s.mem (at' a i) 128)) ∧
            ∀ x, (∀ a ∈ actors s c sel pred, ∀ i, i < rows →
              OutsideRow s a.phys bank ((s.block a.phys).rowOf ((s.ctx c).desc sel).selOut (row + i)) 0 128 x) →
              memByte t.mem x = memByte s.mem x)) ∧
    (sq < 4096 → sqOffset < 256 → br < 4096 → brOffset < 512 → length < 256 →
      ((s.ctx c).buffer sq).cls ≠ 5 → ((s.ctx c).buffer br).cls ≠ 5 →
      let a := ((s.ctx c).buffer sq).address + 65536 * sqOffset
      let b := ((s.ctx c).buffer br).address + 65536 * brOffset
      (a + 4096 * length ≤ b ∨ b + 4096 * length ≤ a) →
      ∃ t, exec (.copySb c slot 0 dir sq sqOffset br brOffset length ⟨[], []⟩) s = .next t ∧
        t = { s with mem := t.mem, poison := t.poison } ∧
        (dir = 0 → (∀ i, i < 4096 * length → memByte t.mem (b + i) = memByte s.mem (a + i)) ∧
          MemoryKeptBut s t b (4096 * length)) ∧
        (dir = 1 → (∀ i, i < 4096 * length → memByte t.mem (a + i) = memByte s.mem (b + i)) ∧
          MemoryKeptBut s t a (4096 * length)))

/-! ## Plazas, queues, network slots and admission -/

/-- `PLAZA_SEND` and `PLAZA_DRAIN` (R203, R204, R228, R230): contributions stand in their slots; a drain stores the ascending sum, +0 for
an empty register, and clears the register. -/
def Obligations.PlazaSumsStand : Prop :=
  ∀ (s : State) (c plaza pl sel pred slotBase bank row half sum : Nat),
    plaza < 16 → bank < 16 → row < 64 → half < 2 → sum < 64 → kfind (s.ctx c).plazas plaza = some pl →
    (MayAct s c sel pred → slotBase < 64 → slotBase + (selectedActors (s.ctx c) sel).length ≤ 64 →
      slackUsed s pl + (selectedActors (s.ctx c) sel).length ≤ 64 →
      (∀ a ∈ actors s c sel pred, (s.block a.phys).rowOf ((s.ctx c).desc sel).selA row < 768) →
      ∃ t, exec (.plazaSend c plaza sel pred slotBase bank row half sum ⟨[], []⟩) s = .next t ∧ t = { s with plaza := t.plaza } ∧
        (∀ a ∈ actors s c sel pred,
          let l := lanesOf 16 (((readRow s a.phys bank ((s.block a.phys).rowOf ((s.ctx c).desc sel).selA row)).1.drop
            (64 * half)).take 64)
          kfind t.plaza (plazaKey pl sum (slotBase + a.rank)) = some ⟨l.map (·.bits), l.any (·.poison)⟩) ∧
        ∀ k, (∀ a ∈ actors s c sel pred, k ≠ plazaKey pl sum (slotBase + a.rank)) → kfind t.plaza k = kfind s.plaza k) ∧
    (StoresDirectly s c sel pred → ((s.ctx c).desc sel).selected.length = 1 →
      (∀ a ∈ actors s c sel pred, outRow s c sel row a < 768) →
      ∃ t, exec (.plazaDrain c plaza sel pred bank row half sum ⟨[], []⟩) s = .next t ∧
        (∀ a ∈ actors s c sel pred, RowHolds s t a.phys bank (outRow s c sel row a) (64 * half)
          ((List.range 16).flatMap fun l => leBytes 4 (plazaSum (plazaSlots s pl sum) l).value)) ∧
        (∀ x, (∀ a ∈ actors s c sel pred, OutsideRow s a.phys bank (outRow s c sel row a) (64 * half) 64 x) →
          memByte t.mem x = memByte s.mem x) ∧
        t.plaza = s.plaza.filter (fun e => e.1 / 64 != 64 * pl + sum) ∧
        IndexKept s t [0x5010, 0x5021, 0x5040, 0x50D0, 0x50E0] ∧
        (plazaSlots s pl sum = [] → actors s c sel pred ≠ [] →
          t.dget 0x5040 5 = countUp (entryBytes 0x5040 5) (s.dget 0x5040 5) 1))

/-- `Q_SEND`, `Q_RECV` and `Q_CLOSE` (R205, R206, R219 to R221): payloads join their target queues or are discarded where those are closed,
and leave from the head. -/
def Obligations.QueuesDeliverInOrder : Prop :=
  ∀ (s : State) (c sel pred q delta vreg part fmt last : Nat), MayAct s c sel pred → q < 16 → vreg < 32 → part < 4 →
    (delta < 2 ^ 11 → fmt < 12 → last < 2 →
      let targets := (actors s c sel pred).filterMap fun a => queueTarget (s.ctx c) a.logical delta
      let shut := targets.filter fun p => ((s.block p).queue q).closed;
      (∀ p ∈ targets, ((s.block p).queue q).closed = true ∨ ((s.block p).queue q).entries.length < 64) → targets.Nodup →
      ∃ t, exec (.qSend c sel pred q delta vreg part fmt last) s = .next t ∧
        t = { s with blocks := t.blocks, dict := t.dict, garnet := t.garnet, freeCount := t.freeCount } ∧
        IndexKept s t [0x5040, 0x50D0] ∧
        t.dget 0x5040 2 = (if shut = [] then s.dget 0x5040 2
          else countUp (entryBytes 0x5040 2) (s.dget 0x5040 2) shut.length) ∧
        (∀ p, shut.head? = some p → bit (t.dget 0x5040 1) 0 = true ∧
          t.dget 0x5040 4 = if s.dget 0x5040 4 = ones 64 then queueCase s c 0 p q else s.dget 0x5040 4) ∧
        (∀ a ∈ actors s c sel pred, ∀ p, queueTarget (s.ctx c) a.logical delta = some p →
          (((s.block p).queue q).closed = true → t.block p = s.block p) ∧
          (((s.block p).queue q).closed = false →
            (t.block p).queue q = { (s.block p).queue q with entries := ((s.block p).queue q).entries ++
              [⟨bytesOf (partLanes ((s.block a.phys).vreg vreg) part),
                queueTag fmt last ((partLanes ((s.block a.phys).vreg vreg) part).any (·.poison))⟩] } ∧
            ∀ r, r ≠ q → (t.block p).queue r = (s.block p).queue r)) ∧
        ∀ p, p ∉ targets → t.block p = s.block p) ∧
    ((∀ a ∈ actors s c sel pred, ((s.block a.phys).queue q).entries ≠ []) →
      ∃ t, exec (.qRecv c sel pred q vreg part ⟨[], []⟩) s = .next t ∧ t = { s with blocks := t.blocks } ∧
        (∀ p, p ∉ (actors s c sel pred).map (·.phys) → t.block p = s.block p) ∧
        ∀ a ∈ actors s c sel pred, ∀ e r, ((s.block a.phys).queue q).entries = e :: r →
          (t.block a.phys).queue q = { (s.block a.phys).queue q with
            head := (((s.block a.phys).queue q).head + 1) % 64, entries := r } ∧
          (t.block a.phys).vreg vreg = ((s.block a.phys).vreg vreg).take (16 * part) ++
            lanesOf 16 (e.payload.map fun y => (y, bit e.tag 3)) ++ ((s.block a.phys).vreg vreg).drop (16 * part + 16) ∧
          ∀ v, v ≠ vreg → (t.block a.phys).vreg v = (s.block a.phys).vreg v) ∧
    (∃ t, exec (.qClose c sel pred q) s = .next t ∧ t = { s with blocks := t.blocks } ∧
      (∀ p, p ∉ (actors s c sel pred).map (·.phys) → t.block p = s.block p) ∧
      ∀ a ∈ actors s c sel pred, (t.block a.phys).queue q = { (s.block a.phys).queue q with closed := true } ∧
        ∀ r, r ≠ q → (t.block a.phys).queue r = (s.block a.phys).queue r)

/-- `NET_SEND` puts its units into the retransmit store in order, `NET_RECV` moves past the landed ones, and the units of the receive
before are freed; a send short of credit waits in class 7 (R202, R354, R366, R367). -/
def Obligations.NetworkSlots : Prop :=
  ∀ (s : State) (c f buffer offset length last : Nat), s.running c = true → netLegal s c f buffer offset length last = true →
    0 < length → (s.flow f).ctx = c →
    ((s.flow f).kind = 1 → holdsCredit s f length = true → (s.flow f).issued < 2 ^ 32 →
      (∀ y ∈ (s.flow f).store, unitAfter (s.flow f).issued y.seq = true) →
      ∃ t, exec (.netSend c f buffer offset length last ⟨[], []⟩) s = .next t ∧
        (t.flow f).issued = unitNext (s.flow f).issued length ∧
        (t.flow f).store.map (fun y => (y.seq, y.bytes, y.last)) = (s.flow f).store.map (fun y => (y.seq, y.bytes, y.last)) ++
          (List.range length).map (fun j => (unitNext (s.flow f).issued j,
            (readBuffer s c ((s.ctx c).buffer buffer) (4096 * (offset + j)) 4096).1.map (·.1), last == 1 && j + 1 == length)) ∧
        (∀ g, g ≠ f → t.flow g = s.flow g) ∧ t.mem = s.mem ∧ t.blocks = s.blocks ∧ t.contexts = s.contexts ∧
        IndexKept s t [0x50E0, 0x50D0]) ∧
    ((s.flow f).kind = 1 → holdsCredit s f length = false → s.dget (0x4030 + c) 2 = 0 ∨ 7 ≤ s.dget (0x4030 + c) 2 →
      ∃ t, exec (.netSend c f buffer offset length last ⟨[], []⟩) s = .next t ∧ t.dget (0x4030 + c) 2 = 7 ∧ t.pc c = s.pc c ∧
        t.dget (0x4030 + c) 0x17 = countUp (entryBytes (0x4030 + c) 0x17) (s.dget (0x4030 + c) 0x17) 1 ∧
        t.flow f = { s.flow f with wanted := length } ∧ (∀ g, g ≠ f → t.flow g = s.flow g) ∧ t.mem = s.mem ∧ t.blocks = s.blocks) ∧
    ((s.flow f).kind = 2 → (s.flow f).state = 2 → (∀ i, i < length → (s.flow f).hasLanded (unitNext (s.flow f).issued i) = true) →
      ∃ t, exec (.netRecv c f buffer offset length last) s = .next t ∧
        t.flow f = { s.flow f with covered := (s.flow f).issued, issued := unitNext (s.flow f).issued length } ∧
        (∀ g, g ≠ f → t.flow g = s.flow g) ∧ t.mem = s.mem ∧ t.blocks = s.blocks ∧
        ((s.flow f).buffer = buffer → offset = (s.flow f).issued % (s.flow f).window → offset + length ≤ (s.flow f).window →
          t.dict = s.dict) ∧
        ((s.flow f).buffer ≠ buffer → bit (t.dget 0x5080 1) 4 = true ∧
          t.dget 0x5080 7 = countUp (entryBytes 0x5080 7) (s.dget 0x5080 7) 1)) ∧
    ((s.flow f).kind = 2 → (s.flow f).state = 2 → unitAfter (s.flow f).covered (s.flow f).freed = true →
      ∃ t, exec (.receiveUnitsFreed f) s = .next t ∧ t = { s with net := t.net } ∧ (t.flow f).freed = (s.flow f).covered ∧
        (t.flow f).credit = (if unitAfter ((s.flow f).covered + (s.flow f).window) (s.flow f).credit = true
          then ((s.flow f).covered + (s.flow f).window) % 2 ^ 32 else (s.flow f).credit) ∧ ∀ g, g ≠ f → t.flow g = s.flow g)

/-- The admission of records (R239 to R241, R244 to R248): the head record fills its slot and leaves its queue; a gradient record that does
not follow its slot's forward record enters FAULTED with cause 7; a stash pressure hold waits in class 4 (R259, R264); a host push joins its queue or is recorded. -/
def Obligations.RecordsAreAdmitted : Prop :=
  ∀ (s : State) (c d r g own : Nat) (sels rest : List Nat), c < 4 →
    (s.running c = true → d < 128 → d < slotsOf s c → (∀ i ∈ sels, headerOk s c i 0 = true) → (s.cairnOf c).copying = none →
      ((s.ctx c).fwdQueue = r :: rest → stashHold s c d = false → (s.ctx c).switched = [] → (s.ctx c).trying = [] →
        (s.ctx c).arrivals = [] → ∃ t, exec (.admitFwd c d sels) s = .next t ∧
          kfind (t.ctx c).slots d = some ⟨some r, 0⟩ ∧ (∀ e, e ≠ d → kfind (t.ctx c).slots e = kfind (s.ctx c).slots e) ∧
          (t.ctx c).fwdQueue = rest ∧ (t.ctx c).gradQueue = (s.ctx c).gradQueue ∧
          (∀ i ∈ sels, kfind (t.ctx c).working i = some d) ∧
          t.dget (0x4060 + c) 8 = countUp (entryBytes (0x4060 + c) 8) (s.dget (0x4060 + c) 8) 1 ∧ t.blocks = s.blocks ∧
          (recPoison r = true → bit (t.dget 0x5050 1) 3 = true) ∧ (mirrorBuffer (s.ctx c) = none → t.mem = s.mem) ∧
          ∀ b, mirrorBuffer (s.ctx c) = some b → memRead t.mem (b.address + 128 * d) 128 = leBytes 64 r ++ leBytes 64 0 ∧
            MemoryKeptBut s t (b.address + 128 * d) 128) ∧
      ((s.ctx c).fwdQueue = r :: rest → stashHold s c d = true → s.dget (0x4030 + c) 2 = 0 ∨ 4 ≤ s.dget (0x4030 + c) 2 →
        ∃ t, exec (.admitFwd c d sels) s = .next t ∧ t.dget (0x4030 + c) 2 = 4 ∧ t.dget (0x4060 + c) 5 ≠ 0 ∧ t.pc c = s.pc c ∧
          t.dget (0x4060 + c) 7 = countUp (entryBytes (0x4060 + c) 7) (s.dget (0x4060 + c) 7) 1 ∧ t.mem = s.mem ∧
          (s.dget (0x4060 + c) 5 = 0 → bit (t.dget 0x5050 1) 0 = true ∧ (t.ctx c).holding = some d) ∧
          (t.ctx c).fwdQueue = r :: rest ∧ (t.ctx c).slots = (s.ctx c).slots ∧ t.blocks = s.blocks) ∧
      ((s.ctx c).gradQueue = r :: rest → kfind (s.ctx c).slots d = some ⟨some own, g⟩ → recMicrobatch own = recMicrobatch r →
        recStep own = recStep r → (s.ctx c).arrivals = [] → ∃ t, exec (.admitGrad c d sels) s = .next t ∧
          kfind (t.ctx c).slots d = some ⟨some own, r⟩ ∧ (t.ctx c).gradQueue = rest ∧
          (t.ctx c).fwdQueue = (s.ctx c).fwdQueue ∧ (∀ i ∈ sels, kfind (t.ctx c).working i = some d) ∧
          t.dget (0x4060 + c) 9 = countUp (entryBytes (0x4060 + c) 9) (s.dget (0x4060 + c) 9) 1 ∧ t.blocks = s.blocks) ∧
      ((s.ctx c).gradQueue = r :: rest → kfind (s.ctx c).slots d = some ⟨some own, g⟩ →
        recMicrobatch own ≠ recMicrobatch r ∨ recStep own ≠ recStep r → ∃ t, exec (.admitGrad c d sels) s = .next t ∧
          t.power.state = .faulted ∧ t.dget 0x5000 1 = 7 ∧ t.contexts = [])) ∧
    (s.squareUp = true → ∀ q, q < 2 →
      let push := if q = 0 then Instr.admitPushFwd c else .admitPushGrad c
      let record := kget 0 s.staging (2 * c + q)
      (queueFree s c q ≠ 0 → recordFault (s.ctx c) q record = 0 → ∃ t, exec push s = .next t ∧
        t = { s with contexts := t.contexts } ∧ (t.ctx c).admitQueue q = (s.ctx c).admitQueue q ++ [putBits record 192 64 s.beat] ∧
        (t.ctx c).admitQueue (1 - q) = (s.ctx c).admitQueue (1 - q)) ∧
      (queueFree s c q ≠ 0 → recordFault (s.ctx c) q record ≠ 0 → ∃ t, exec push s = .next t ∧ RecordOnly s t ∧
        bit (t.dget 0x5050 1) 1 = true ∧ t.dget 0x5050 2 = countUp (entryBytes 0x5050 2) (s.dget 0x5050 2) 1) ∧
      (queueFree s c q = 0 → ∃ t, exec push s = .next t ∧ RecordOnly s t ∧ bit (t.dget 0x5050 1) 4 = true ∧
        t.dget 0x5050 5 = countUp (entryBytes 0x5050 5) (s.dget 0x5050 5) 1)) ∧
    ∀ q, q < 2 → ((s.ctx c).landing q).due ≠ 0 → ∃ t, exec (.landingEntryFree c q) s = .next t ∧
      (t.ctx c).landing q = { (s.ctx c).landing q with
        due := ((s.ctx c).landing q).due - 1, freed := ((s.ctx c).landing q).freed + 1 } ∧ t.mem = s.mem ∧ t.dict = s.dict

/-! ## Flows -/

/-- Nothing but a function's flow and peer window changes, and it becomes `w`. -/
def WindowOnly (s t : State) (fn : Nat) (w : NetWindow) : Prop :=
  t = { s with net := { s.net with windows := t.net.windows } } ∧ t.netWindow fn = w ∧ ∀ g, g ≠ fn → t.netWindow g = s.netWindow g

/-- A function's flow and peer windows (R361 to R365): an accepted command has its effect and result 0; another has its result code alone. -/
def Obligations.FlowWindows : Prop :=
  ∀ (s : State) (fn : Nat), s.squareUp = true → fn < 4 →
    let w := s.netWindow fn
    let f := w.flowSelect
    let i := w.peerSelect
    let x := s.flow f
    (f < 2 ^ 18 → flowInRange s fn f = true →
      (∃ t, exec (.flowRead fn) s = .next t ∧ WindowOnly s t fn { w with flowData := x.image, flowResult := 0 }) ∧
      (x.state = 0 → imageBad w.flowData = false → ∃ t, exec (.flowWrite fn) s = .next t ∧ t = { s with net := t.net } ∧
        t.flow f = x.written w.flowData ∧ t.netWindow fn = { w with flowResult := 0 } ∧ ∀ g, g ≠ f → t.flow g = s.flow g) ∧
      (x.state ≠ 0 → (∃ t, exec (.flowWrite fn) s = .next t ∧ WindowOnly s t fn { w with flowResult := 2 })) ∧
      (x.state = 0 → imageBad w.flowData = true → (∃ t, exec (.flowWrite fn) s = .next t ∧ WindowOnly s t fn { w with flowResult := 3 })) ∧
      (peerInRange s fn x.peer = true → x.state = 0 → x.kind = 2 → openBad s x = false → 0 < x.window →
        (flowCtx s f).loaded = true → windowBufferOk (flowCtx s f) x = true → (s.peer x.peer).state = 2 →
        peerUnusable (knowPeer s x.peer) x = false → ∃ t, exec (.flowOpen fn) s = .next t ∧ t = { s with net := t.net } ∧
          t.flow f = { x with state := 2, credit := x.window, retx := 0, issued := 0, done := 0, landed := [], freed := 0,
                              covered := 0, store := [], polled := 0, rate := fullRate, wanted := 0, unacked := 0,
                              ackPort := 8 } ∧
          t.netWindow fn = { w with flowResult := 0 } ∧ ∀ g, g ≠ f → t.flow g = s.flow g) ∧
      (x.state ≠ 0 → peerInRange s fn x.peer = true → (∃ t, exec (.flowOpen fn) s = .next t ∧ WindowOnly s t fn { w with flowResult := 2 })) ∧
      (x.state = 2 → x.kind = 2 → ∃ t, exec (.flowClose fn) s = .next t ∧ t = { s with net := t.net, out := t.out } ∧
        t.out = controlOut s f (pathFor s f 0 0).2 2 0 0 :: s.out ∧ t.flow f = { x with state := 0, store := [], landed := [] } ∧
        t.netWindow fn = { w with flowResult := 0 } ∧ ∀ g, g ≠ f → t.flow g = s.flow g) ∧
      (x.state = 2 → x.kind = 1 → x.store ≠ [] → ∃ t, exec (.flowClose fn) s = .next t ∧ t = { s with net := t.net } ∧
        t.flow f = { x with state := 3 } ∧ t.netWindow fn = { w with flowResult := 0 } ∧ ∀ g, g ≠ f → t.flow g = s.flow g) ∧
      (x.state = 0 → (∃ t, exec (.flowClose fn) s = .next t ∧ WindowOnly s t fn { w with flowResult := 2 }))) ∧
    (f < 2 ^ 18 → flowInRange s fn f = false → ∀ command ∈ [Instr.flowRead fn, .flowWrite fn, .flowOpen fn, .flowClose fn],
      ∃ t, exec command s = .next t ∧ WindowOnly s t fn { w with flowResult := 6 }) ∧
    (i < 2 ^ 12 → peerInRange s fn i = true →
      (∃ t, exec (.peerRead fn) s = .next t ∧ WindowOnly s t fn { w with peerData := (s.peer i).image, peerResult := 0 }) ∧
      ((∀ e ∈ s.net.flows, e.2.peer = i → e.2.state = 0) → ∃ t, exec (.peerWrite fn) s = .next t ∧
        t = { s with net := t.net, garnet := t.garnet } ∧ t.peer i = (s.peer i).written w.peerData ∧
        t.netWindow fn = { w with peerResult := 0 } ∧ (bits w.peerData 128 128 ≠ (s.peer i).address → seenPeer t i = 0) ∧
        ∀ j, j ≠ i → t.peer j = s.peer j) ∧
      ((∃ e ∈ s.net.flows, e.2.peer = i ∧ e.2.state ≠ 0) →
        (∃ t, exec (.peerWrite fn) s = .next t ∧ WindowOnly s t fn { w with peerResult := 2 })))

/-- A frame of kind `k` that passes the checks of R352 to R357 on a port that carries flow frames. -/
def Comes (s : State) (r : FrameIn) (k : Nat) : Prop :=
  linksRun s = true ∧ r.port ≤ 8 ∧ r.dport = s.dget 0x2040 3 ∧ r.dport ∉ [319, 320, 4791] ∧ r.ce = false ∧ r.crcOk = true ∧ r.kind = k ∧ carries s r = true ∧ headerValid s r = true

/-- A flow control frame of a type. -/
def Controls (s : State) (r : FrameIn) (kind : Nat) : Prop := Comes s r 5 ∧ controlValid r = true ∧ controlType r = kind

/-- What a flow control frame does to the flow it names (R363, R365, R372), and an `OPEN` sent again. -/
def Obligations.FlowControlFrames : Prop :=
  ∀ (s : State) (r : FrameIn),
    let f := r.dest
    let x := s.flow f
    (Controls s r 1 → (∀ i ∈ peersAt s (controlSender r), (s.peer i).state ≠ 3) →
      (x.state = 0 → exec (.openFrame r) s = .next { s with out := rejectOut s r 1 :: s.out }) ∧
      (x.state = 2 → x.kind = 2 → (s.peer x.peer).address = controlSender r → x.peerFlow = r.src → (s.peer x.peer).state ≠ 4 →
        ∃ t, exec (.openFrame r) s = .next t ∧ t = { s with net := t.net, out := ackOut s f r.port :: s.out } ∧
          t.flow f = { x with unacked := 0, ackPort := r.port } ∧ (∀ g, g ≠ f → t.flow g = s.flow g) ∧
          ∀ i, i < 64 → bit x.ackMap i = x.landed.contains (unitNext x.done (1 + i)))) ∧
    (x.state = 1 → (s.peer x.peer).state = 2 → (pathFor s f 0 0).2 ≠ 9 →
      exec (.openRetry f) s = .next { s with out := controlOut s f (pathFor s f 0 0).2 1 0 0 :: s.out }) ∧
    (Controls s r 3 → x.state = 1 → ∃ t, exec (.rejectFrame r) s = .next t ∧ RecordOnly s t ∧ bit (t.dget 0x5080 1) 10 = true ∧
      t.dget 0x5080 0xB = countUp (entryBytes 0x5080 0xB) (s.dget 0x5080 0xB) 1) ∧
    (Controls s r 2 → x.state = 2 → x.kind = 2 → setOfFlow s f = none → ∃ t, exec (.closeFrame r) s = .next t ∧
      t.flow f = { x with state := 4, store := [], landed := [] } ∧ bit (t.dget 0x5080 1) 3 = true ∧
      t.dget 0x5080 6 = countUp (entryBytes 0x5080 6) (s.dget 0x5080 6) 1) ∧
    (Controls s r 4 → x.state = 2 → x.rdma = false → ∃ t, exec (.parkFrame r) s = .next t ∧
      t.flow f = { x with state := 6, credit := if x.sends = true then x.done else x.credit }) ∧
    (Controls s r 5 → x.state = 6 → x.sends = false → exec (.resumeFrame r) s = .next (s.setFlow f { x with state := 2 })) ∧
    (Controls s r 5 → x.state = 6 → x.kind = 1 → x.store = [] → ∃ t, exec (.resumeFrame r) s = .next t ∧
      t.flow f = { x with state := 2, done := if unitAfter (controlSeq r) x.done = true then controlSeq r else x.done } ∧
      t.mem = s.mem ∧ t.dict = s.dict)

/-- Data and acknowledgements (R354, R355, R357, R366, R367, R369 to R371): a new unit within credit lands at its place and is marked; one
landed before, one beyond credit and one for a closed flow are counted; an `ACK` frees what it covers. -/
def Obligations.UnitsLandAndAreAcknowledged : Prop :=
  ∀ (s : State) (r : FrameIn) (f u : Nat),
    (r.dest = f → Comes s r 1 → (s.flow f).state = 2 → (s.flow f).kind = 2 →
      ((s.flow f).hasLanded r.seq = true → ∃ t, exec (.dataFrame r) s = .next t ∧
        t = { s with dict := t.dict, net := t.net, out := t.out } ∧ CellsKept s t [(0x5080, 0xA)] ∧
        t.flow f = { s.flow f with unacked := 0 } ∧ (∀ g, g ≠ f → t.flow g = s.flow g) ∧
        t.dget 0x5080 0xA = countUp (entryBytes 0x5080 0xA) (s.dget 0x5080 0xA) 1) ∧
      ((s.flow f).hasLanded r.seq = false → unitAfter (s.flow f).credit r.seq = false →
        ∃ t, exec (.dataFrame r) s = .next t ∧ RecordOnly s t ∧ bit (t.dget 0x5080 1) 1 = true ∧
          t.dget 0x5080 3 = countUp (entryBytes 0x5080 3) (s.dget 0x5080 3) 1) ∧
      ((s.flow f).hasLanded r.seq = false → unitAfter (s.flow f).credit r.seq = true →
        (∀ c, c < 4 → (s.cairnOf c).copying = none) →
        let a := ((flowCtx s f).buffer (s.flow f).buffer).address + 4096 * (r.seq % (s.flow f).window)
        let z := (s.flow f).mark r.seq
        ∃ t, exec (.dataFrame r) s = .next t ∧ t.flow f = { z with
            ackPort := r.port, unacked := if unitAfter r.seq z.done = true ∨ 8 ≤ z.unacked + 1 then 0 else z.unacked + 1 } ∧
          (∀ i, i < 4096 → memByte t.mem (a + i) = r.body.getD i 0) ∧ MemoryKeptBut s t a 4096 ∧
          (∀ g, g ≠ f → t.flow g = s.flow g) ∧ (r.map = 0 → t.dict = s.dict) ∧
          (r.map ≠ 0 → t.dget 0x5080 8 = countUp (entryBytes 0x5080 8) (s.dget 0x5080 8) 1))) ∧
    (Comes s r 1 → (s.flow r.dest).state = 0 → r.rejected = true → ∃ t, exec (.dataFrame r) s = .next t ∧ RecordOnly s t ∧
      bit (t.dget 0x5080 1) 0 = true ∧ t.dget 0x5080 2 = countUp (entryBytes 0x5080 2) (s.dget 0x5080 2) 1) ∧
    (r.dest = f → Comes s r 2 → (s.flow f).state = 2 → (s.flow f).kind = 1 → ∃ t, exec (.ackFrame r) s = .next t ∧
      (t.flow f).store.map (·.seq) = ((s.flow f).store.filter fun y => !ackCovers r.seq r.map y.seq).map (·.seq) ∧
      (t.flow f).done = (if unitAfter r.seq (s.flow f).done = true then r.seq else (s.flow f).done) ∧
      (t.flow f).credit = (if unitAfter r.credit (s.flow f).credit = true then r.credit % 2 ^ 32 else (s.flow f).credit) ∧
      t.mem = s.mem) ∧
    ((s.flow f).state = 2 → (s.flow f).kind = 2 → ∃ t, exec (.ackSend f) s = .next t ∧
      t = { s with net := t.net, out := ackOut s f (s.flow f).ackPort :: s.out } ∧ t.flow f = { s.flow f with unacked := 0 } ∧
      ∀ g, g ≠ f → t.flow g = s.flow g) ∧
    (∀ y, (s.flow f).state = 2 → (s.flow f).kind = 1 → u < 2 ^ 32 → (s.flow f).unit? u = some y → y.port ≠ 9 →
      (pathFor (pathTimeout s f y.path) f u (min 255 (y.attempt + 1))).2 ≠ 9 →
      ∃ t z, exec (.retransmitTimeout f u) s = .next t ∧ (t.flow f).unit? u = some z ∧ z.attempt = min 255 (y.attempt + 1) ∧
        z.resent = true ∧ z.bytes = y.bytes ∧ (t.flow f).retx = min 0xFFFF ((s.flow f).retx + 1) ∧
        t.dget 0x5080 4 = countUp (entryBytes 0x5080 4) (s.dget 0x5080 4) 1 ∧ t.mem = s.mem) ∧
    ((s.flow f).state = 2 → (s.flow f).kind = 1 → (s.flow f).store ≠ [] → setOfFlow s f = none →
      ∃ t, exec (.flowBreak f) s = .next t ∧ t.flow f = { s.flow f with state := 5, store := [], landed := [] } ∧
        bit (t.dget 0x5080 1) 2 = true ∧ t.dget 0x5080 5 = countUp (entryBytes 0x5080 5) (s.dget 0x5080 5) 1) ∧
    ((s.flow f).state = 3 → (s.flow f).kind = 1 → ∃ t, exec (.flowBreak f) s = .next t ∧
      t = { s with net := t.net, out := controlOut s f (pathFor s f 0 0).2 2 0 0 :: s.out } ∧
      t.flow f = { s.flow f with state := 0, store := [], landed := [] } ∧ ∀ g, g ≠ f → t.flow g = s.flow g)

/-- Queue pairs to a host (R373, R376 to R378): counts, reads that land, the rate, and a path barred for 1 ms. -/
def Obligations.QueuePairs : Prop :=
  ∀ (s : State) (f path seq value : Nat) (bs : List Byte), (s.flow f).state = 2 →
    let p := pathFor s f 0 0
    let short := unitAhead (s.flow f).credit (s.flow f).issued
    ((s.flow f).kind = 8 → exec (.rdmaCreditPoll f) s = .next { s with out := rdmaOut s f p.2 p.1 2 0 [] :: s.out }) ∧
    ((s.flow f).kind = 7 → 2 ^ 31 ≤ short ∨ short < max 1 (s.flow f).wanted →
      exec (.rdmaCreditPoll f) s = .next { s with out := rdmaOut s f p.2 p.1 2 0 [] :: s.out }) ∧
    ((s.flow f).kind = 7 → ∃ t, exec (.rdmaResponse f 2 seq value bs) s = .next t ∧ t = { s with net := t.net } ∧
      t.flow f = { s.flow f with credit := if unitAfter (value + (s.flow f).window) (s.flow f).credit = true
        then (value + (s.flow f).window) % 2 ^ 32 else (s.flow f).credit } ∧ ∀ g, g ≠ f → t.flow g = s.flow g) ∧
    ((s.flow f).kind = 8 → seq < 2 ^ 32 → ((s.flow f).unit? seq).isSome = true → (∀ c, c < 4 → (s.cairnOf c).copying = none) →
      let a := ((flowCtx s f).buffer (s.flow f).buffer).address + 4096 * (seq % (s.flow f).window)
      ∃ t, exec (.rdmaResponse f 1 seq value bs) s = .next t ∧ t = { s with net := t.net, mem := t.mem, poison := t.poison } ∧
        (∀ i, i < 4096 → memByte t.mem (a + i) = bs.getD i 0) ∧ MemoryKeptBut s t a 4096 ∧
        t.flow f = ({ s.flow f with store := (s.flow f).store.filter (·.seq != seq) } : Flow).mark seq) ∧
    ((s.flow f).rdma = true → ∃ t, exec (.congestionNotification f) s = .next t ∧ t = { s with net := t.net } ∧
      t.flow f = { s.flow f with rate := (s.flow f).rate / 2 } ∧ ∀ g, g ≠ f → t.flow g = s.flow g) ∧
    ((s.flow f).rdma = true → ∃ t, exec (.qpRateRecovery f) s = .next t ∧ t = { s with net := t.net } ∧
      t.flow f = { s.flow f with rate := min fullRate ((s.flow f).rate + fullRate / 16) } ∧ ∀ g, g ≠ f → t.flow g = s.flow g) ∧
    ∃ t, exec (.pathUsableAgain f path) s = .next t ∧ t.net.barred = s.net.barred.filter (· != f * 64 + path) ∧
      (∀ g, g ≠ f → t.flow g = s.flow g) ∧ t.mem = s.mem

/-! ## Zoning and the beat -/

/-- Migration, scrubbing, evacuation and the operator's marks (R92, R95 to R97, R99, R101, R103, R292, R296 to
R300, R303). -/
def Obligations.ZoningCommands : Prop :=
  ∀ (s : State) (r : Requester) (p bank i row c l : Nat), p < 1088 →
    let q := districtSpare p
    (bank < 16 → i < 16 → s.remapEntry p bank i = ⟨1, row⟩ → portsReserved s p = false →
      ∃ t, exec (.rowMigration p bank i ⟨[], []⟩) s = .next t ∧ t = { s with mem := t.mem, poison := t.poison, zoning := t.zoning } ∧
        t.remapEntry p bank i = ⟨2, row⟩ ∧ (∀ j, remapOf s p bank row 2 = some j → t.remapEntry p bank j = ⟨3, 0⟩) ∧
        (∀ j, j < 16 → j ≠ i → remapOf s p bank row 2 ≠ some j → t.remapEntry p bank j = s.remapEntry p bank j) ∧
        memRead t.mem (spareAddress p bank i) 128 = memRead s.mem (readTarget s p bank row) 128 ∧
        MemoryKeptBut s t (spareAddress p bank i) 128) ∧
    (∀ met, bank < 16 → i < 16 → s.remapEntry p bank i = ⟨1, row⟩ → portsReserved s p = false →
      metMask ⟨[], met⟩ (rowAddress p bank row) &&& byteMask 0 128 ≠ 0 →
      ∃ t, exec (.rowMigration p bank i ⟨[], met⟩) s = .next t ∧ t.remapEntry p bank i = ⟨2, row⟩ ∧
        bit (t.dget 0x5021 1) 1 = true ∧ t.dget 0x5021 4 = countUp (entryBytes 0x5021 4) (s.dget 0x5021 4) 1 ∧
        MemoryKeptBut s t (spareAddress p bank i) 128) ∧
    (s.dget 0x7020 2 ≠ 0 → s.dget 0x7020 1 ≠ 1 → blockPower s p ≠ 0 → kget [] s.zoning.suspects (p * 16 + bank) = [] →
      ∃ t, exec (.patrolScrub ⟨[⟨0, p, bank, row, none⟩], []⟩) s = .next t ∧ t.mem = s.mem ∧ bit (t.dget 0x5020 1) 0 = true ∧
        t.dget 0x5020 2 = countUp (entryBytes 0x5020 2) (s.dget 0x5020 2) 1 ∧
        kget [] t.zoning.suspects (p * 16 + bank) = [(row, 1)]) ∧
    (Accepted s r 0x7050 1 2 p → boundBy s p = some (c, l) → (∀ e ∈ s.zoning.evac, e.block ≠ p) →
      (boundBy s q = none → usable s c q = true → ∃ t, exec (.evacRequest r p) s = .next t ∧
        t = { s with zoning := { s.zoning with evac := s.zoning.evac ++ [⟨p, 0⟩] }, out := .answer r 0 0 :: s.out }) ∧
      ((boundBy s q).isSome = true ∨ usable s c q = false → ∃ t, exec (.evacRequest r p) s = .next t ∧ t.zoning = s.zoning ∧ t.mem = s.mem ∧
        bit (t.dget 0x5060 1) 1 = true ∧ t.dget 0x5060 3 = countUp (entryBytes 0x5060 3) (s.dget 0x5060 3) 1 ∧
        t.out = .answer r 0 0 :: s.out)) ∧
    (s.zoning.evac = [⟨p, 0⟩] → boundBy s p = some (c, l) → boundBy s q = none →
      (healthOf s q = 0 → ∃ t, exec (.evacPrepare ⟨[], []⟩) s = .next t ∧ t.zoning.evac = [⟨p, 2⟩] ∧
        (∀ b k, b < 16 → k < 768 → memRead t.mem (readTarget t q b k) 128 = memRead s.mem (readTarget s p b k) 128) ∧
        (∀ a, bankOwner a ≠ some q → memByte t.mem a = memByte s.mem a) ∧ t.contexts = s.contexts) ∧
      (healthOf s q ≠ 0 → ∃ t, exec (.evacPrepare ⟨[], []⟩) s = .next t ∧ t.zoning.evac = [] ∧ t.mem = s.mem ∧
        bit (t.dget 0x5060 1) 2 = true ∧ t.contexts = s.contexts)) ∧
    ((s.ctx c).window = true → s.zoning.evac = [⟨p, 3⟩] → boundBy s p = some (c, l) → healthOf s q = 0 →
      ∃ t, exec (.evacSwitch c) s = .next t ∧ t.zoning.evac = [] ∧ (t.ctx c).window = false ∧
        (t.ctx c).blocks = (s.ctx c).blocks.map (fun b => if b.2 = p then (b.1, q) else b) ∧ t.block q = s.block p ∧
        bit (t.dget 0x5060 1) 0 = true ∧ t.dget 0x5060 2 = countUp (entryBytes 0x5060 2) (s.dget 0x5060 2) 1) ∧
    (Accepted s r 0x7030 3 2 p → ∃ t, exec (.mapOut r p) s = .next t ∧ healthOf t p = 3 ∧
      (∀ b, b ≠ p → healthOf t b = healthOf s b) ∧ t.dict = s.dict ∧ t.contexts = s.contexts ∧ t.out = .answer r 0 0 :: s.out) ∧
    (Accepted s r 0x7030 4 2 p → ∃ t, exec (.returnToService r p) s = .next t ∧ healthOf t p = 0 ∧
      (∀ b, b ≠ p → healthOf t b = healthOf s b) ∧ t.dict = s.dict ∧ t.contexts = s.contexts ∧ t.out = .answer r 0 0 :: s.out)

/-- The beat number, the status, and where they come from (R308, R312, R314, R316 to R319, R328, R332). What follows beat 2^64 - 1 is
the model's choice (assumption 68). -/
def Obligations.BeatNumberAndStatus : Prop :=
  ∀ (s : State) (r : Requester) (now cycles v : Nat) (offset : Int) (m : PtpMessage) (present settled near : Bool),
    (s.hasSchedule = true → s.quartz.begun = true → ∃ t, exec (.beatEdge cycles) s = .next t ∧
      t.beat = (s.beat + 1) % 2 ^ 64 ∧ t.quartz.begun = true ∧ t.quartz.edge = s.quartz.due ∧
      periodNow t = ((pendingChanges s).lookup ((s.beat + 1) % 2 ^ 64)).getD (periodNow s) ∧
      (pendingBeat s = some ((s.beat + 1) % 2 ^ 64) → pendingBeat t = none ∧
        ((∀ e ∈ s.quartz.earlier, e.1 < (s.beat + 1) % 2 ^ 64) → periodNow t = pendingPeriod s)) ∧
      (pendingBeat s ≠ some ((s.beat + 1) % 2 ^ 64) → pendingBeat t = pendingBeat s ∧
        (s.quartz.earlier = [] → periodNow t = periodNow s))) ∧
    (s.hasSchedule = true → s.quartz.begun = false → ∃ t, exec (.beatEdge cycles) s = .next t ∧ t.beat = s.beat ∧
      t.quartz.begun = true) ∧
    (Accepted s r 0x2030 1 1 v → ∃ t, exec (.beatSourceWrite r v) s = .next t ∧ beatSource t = v ∧
      t.out = .answer r 0 0 :: s.out ∧ t.mem = s.mem ∧
      (s.modState = .ready → t.hasSchedule = false ∧ beatStatus t = 0 ∧ t.beat = 0) ∧
      (s.modState ≠ .ready → t.quartz = s.quartz ∧ beatStatus t = beatStatus s)) ∧
    (s.power.microDone = true → s.squareUp = true → beatStatus s ≤ 1 →
      (beatSource s ≤ 1 → exec (.acquisitionStart now true settled near) s = .next (s.dset 0x4070 4 1)) ∧
      (2 ≤ beatSource s → exec (.acquisitionStart now present false near) s = .next (s.dset 0x4070 4 1)) ∧
      (beatSource s = 2 → referenceQualified s near = false → s.quartz.waitFrom = none →
        ∃ t, exec (.acquisitionStart now true true near) s = .next t ∧ beatStatus t = 1 ∧
          t = { s with dict := t.dict, quartz := { s.quartz with waitFrom := some now } } ∧ CellsKept s t [(0x4070, 4)]) ∧
      (2 ≤ beatSource s → beatSource s = 3 ∨ present = false ∨ referenceQualified s near = true ∨
          s.quartz.waitFrom.getD now + 5000000000 ≤ now → ∃ t, exec (.acquisitionStart now present true near) s = .next t ∧
        t.quartz.external = (beatSource s == 2 && present && referenceQualified s near) ∧
        beatStatus t = (if beatSource s = 3 then 5 else 2) ∧ periodNow t = s.dget 0x4070 1 ∧
        t.beat = s.dget 0x4070 3 % 2 ^ 64 ∧ t.quartz.begun = false ∧
        t.quartz.nextEdge = 1000 * ((now / 1000000000 + 2) * 1000000000) ∧ t.mem = s.mem)) ∧
    (s.hasSchedule = true → (16 ≤ s.quartz.aligned ∧ isFollower s = true) ∨ isMaster s = true → beatStatus s = 1 ∨ beatStatus s = 3 ∨ beatStatus s = 4 →
      exec .beatLock s = .next (s.dset 0x4070 4 2)) ∧
    (ptpSupported s m = true → s.squareUp = true →
      (m.kind = 1 → exec (.ptpMessage m) s = .next { s with out := .ptp m.port 9 :: s.out }) ∧
      (m.kind = 0 → (∃ d, s.quartz.ptp = some ⟨d, m.port⟩) → m.usable = true → isFollower s = true →
        delayKnown s m.port = true → 1 ≤ beatStatus s → m.offset.natAbs ≤ 10000 → ∃ t, exec (.ptpMessage m) s = .next t ∧ t = { s with dict := t.dict, quartz := t.quartz } ∧
          CellsKept s t [(0x4070, 0xE)] ∧ t.dget 0x4070 0xE = encInt 32 m.offset ∧ t.quartz.aligned = s.quartz.aligned + 1)) ∧
    (isFollower s = true → beatStatus s = 2 → ∃ t, exec .timeSourceLost s = .next t ∧
      t = { s with dict := t.dict, quartz := { s.quartz with aligned := 0, ptp := none, ppsRun := 0 } } ∧ beatStatus t = 3 ∧
      CellsKept s t [(0x4070, 4)]) ∧
    (beatStatus s = 3 → ∃ t, exec .holdoverExpiry s = .next t ∧ beatStatus t = 4 ∧ RecordOnly s t ∧
      bit (t.dget 0x5070 1) 7 = true ∧ t.dget 0x5070 5 = countUp (entryBytes 0x5070 5) (s.dget 0x5070 5) 1) ∧
    (isFollower s = true → s.squareUp = true → ∃ t, exec .masterLost s = .next t ∧ RecordOnly s t ∧
      bit (t.dget 0x5070 1) 2 = true) ∧
    (Accepted s r 0x4070 0x10 1 1 → 2 ≤ beatStatus s → beatStatus s ≤ 4 → ∃ t, exec (.promoteMaster r 1) s = .next t ∧
      t = { s with dict := t.dict, out := .answer r 0 0 :: s.out, quartz := { s.quartz with
        master := ownAddress s, announce := s.quartz.announce.map fun a => { a with master := ownAddress s } } } ∧
      isMaster t = true ∧ CellsKept s t [(0x4070, 0x10)]) ∧
    (s.squareUp = true → isFollower s = true → beatSource s = 1 → 1 ≤ beatStatus s →
      let off := offset - s.dget 0x2030 6
      (off.natAbs ≤ 10000 → ∃ t, exec (.ppsEdge now offset) s = .next t ∧ t = { s with dict := t.dict, quartz := t.quartz } ∧
        t.dget 0x4070 0xE = encInt 32 off ∧ t.quartz.ppsLast = now ∧ t.quartz.aligned = s.quartz.aligned + 1 ∧
        CellsKept s t [(0x4070, 0xE)]) ∧
      (s.hasSchedule = true → beatStatus s = 2 → 1000000 < off.natAbs → ∃ t, exec (.ppsEdge now offset) s = .next t ∧
        t = { s with dict := t.dict, quartz := t.quartz } ∧ beatStatus t = 3 ∧ t.quartz.aligned = 0 ∧
        CellsKept s t [(0x4070, 4)]))

/-- Stretch requests, new schedules and announces, and the thermal step (R312, R313, R322 to R328, R330). A follower
takes announces from its beat parent alone, which is the model's reading of R312 (assumption 68). -/
def Obligations.StretchAndAnnounce : Prop :=
  ∀ (s : State) (p src body now : Nat) (low : Bool),
    (s.squareUp = true → beatSource s ≠ 3 → portCarriesBeat s p = true →
      (requestValid body = true → bits body 384 128 ∈ beatChildren s → ∃ t, exec (.stretchRequestFrame ⟨p, src, body⟩ now) s = .next t ∧
        t = { s with quartz := { s.quartz with
          children := (bits body 384 128, ⟨bits body 160 32, bits body 256 128, now⟩) ::
            s.quartz.children.filter fun c => decide (now ≤ c.2.time + 300000000)
          clock := now } } ∧
        clusterRequest t = forwarded t now ∧ bits body 160 32 ≤ clusterRequest t) ∧
      (requestValid body = false → ∃ t, exec (.stretchRequestFrame ⟨p, src, body⟩ now) s = .next t ∧ RecordOnly s t ∧
        bit (t.dget 0x5070 1) 6 = true ∧ t.dget 0x5070 6 = countUp (entryBytes 0x5070 6) (s.dget 0x5070 6) 1)) ∧
    (s.squareUp = true → isFollower s = true → beatParent s ≠ 0 → ∃ t, exec (.stretchRequestSend now) s = .next t ∧
      t.out = .beatFrame (beatParent s) 1 (requestBody (ownAddress s) (limitingAddress s now) s.beat (forwarded s now)
        ((s.quartz.requestSeq + 1) % 2 ^ 32)) :: s.out ∧
      t = { s with quartz := { s.quartz with requestSeq := (s.quartz.requestSeq + 1) % 2 ^ 32, clock := now }, out := t.out } ∧
      clusterRequest t = forwarded s now) ∧
    (s.hasSchedule = true → isMaster s = true → beatSource s ≠ 3 →
      let target := max (s.dget 0x4070 1) (forwarded s now)
      (lastPeriod s < target ∨ (target < lastPeriod s ∧ low = true) → ∃ t, exec (.scheduleIssue now low) s = .next t ∧
        t.dget 0x4070 0xD = target ∧ t.dget 0x4070 0xB = (s.dget 0x4070 0xB + 1) % 2 ^ 32 ∧ clusterRequest t = forwarded s now ∧
        t.dget 0x4070 0xC = max (firstBeatFrom s ((1000 * now + 1000000 * s.dget 0x4070 2 : Nat) : Int)) ((pendingBeat s).getD 0) ∧
        t.quartz.announce = some ⟨ownAddress s, t.dget 0x4070 0xC, ((heldEdge s (t.dget 0x4070 0xC)) / 1000).toNat, now, target,
          s.dget 0x4070 1, t.dget 0x4070 0xB⟩ ∧ t.quartz.master = ownAddress s ∧ t.mem = s.mem ∧
        CellsKept s t [(0x4070, 0xB), (0x4070, 0xC), (0x4070, 0xD)]) ∧
      (lastPeriod s = target ∨ (target < lastPeriod s ∧ low = false) →
        exec (.scheduleIssue now low) s = .next { s with quartz := { s.quartz with clock := now } })) ∧
    (s.squareUp = true → beatSource s ≠ 3 → portCarriesBeat s p = true → announceValid body = false → ∃ t, exec (.scheduleAnnounce ⟨p, src, body⟩ now) s = .next t ∧
      RecordOnly s t ∧ bit (t.dget 0x5070 1) 6 = true) ∧
    (s.squareUp = true → isMaster s = true → portCarriesBeat s p = true → announceValid body = true → ∃ t, exec (.scheduleAnnounce ⟨p, src, body⟩ now) s = .next t ∧
      RecordOnly s t ∧ bit (t.dget 0x5070 1) 3 = true) ∧
    (s.squareUp = true → isMaster s = false → beatSource s = 0 → portCarriesBeat s p = true → announceValid body = true →
      src = beatParent s →
      let M := bits body 320 64
      let off := heldEdge s M - 1000 * (bits body 256 64 : Int)
      (s.hasSchedule = false → ∃ t, exec (.scheduleAnnounce ⟨p, src, body⟩ now) s = .next t ∧ periodNow t = bits body 160 32 ∧
        t.dget 0x4070 0xB = bits body 96 32 ∧ t.quartz.master = bits body 384 128 ∧ t.quartz.basePeriod = bits body 128 32 ∧
        pendingBeat t = none ∧ t.mem = s.mem) ∧
      (s.hasSchedule = true → bits body 384 128 = s.quartz.master → seqNewer (bits body 96 32) (s.dget 0x4070 0xB) = true →
        (off.natAbs ≤ 1000000 → nextBeat s ≤ M → ∃ t, exec (.scheduleAnnounce ⟨p, src, body⟩ now) s = .next t ∧
          t = { s with dict := t.dict, quartz := t.quartz } ∧ t.dget 0x4070 0xC = M ∧ t.dget 0x4070 0xD = bits body 160 32 ∧
          t.dget 0x4070 0xB = bits body 96 32 ∧ t.quartz.due = s.quartz.due ∧
          CellsKept s t [(0x4070, 0xB), (0x4070, 0xC), (0x4070, 0xD)]) ∧
        (1000000 < off.natAbs → ∃ t, exec (.scheduleAnnounce ⟨p, src, body⟩ now) s = .next t ∧ RecordOnly s t ∧ beatStatus t = 4 ∧
          bit (t.dget 0x5070 1) 3 = true ∧ IndexKept s t [0x4070, 0x5070, 0x50D0]))) ∧
    (isMaster s = false → announceValid body = true → src ≠ beatParent s → exec (.scheduleAnnounce ⟨p, src, body⟩ now) s = .next s) ∧
    (∀ a, s.squareUp = true → isMaster s = true ∨ beatSource s ≠ 3 → s.quartz.announce = some a → exec .announceForward s =
      .next { s with out := ((beatChildren s).map fun c => Out.beatFrame c 2 (announceBody a)).reverse ++ s.out }) ∧
    (thermalRaise s = true → s.quartz.step < 16 → ∃ t, exec .thermalEvaluation s = .next t ∧
      t = { s with dict := t.dict, quartz := { s.quartz with
        step := s.quartz.step + 1, limitRun := 0, calm := if thermalCalm s = true then s.quartz.calm + 1 else 0 } } ∧
      t.dget 0x4070 7 = (if s.hasSchedule = true then thermalRequest s (s.quartz.step + 1) else 0) ∧ CellsKept s t [(0x4070, 7)]) ∧
    (thermalRaise s = false → thermalCalm s = true → 9 ≤ s.quartz.calm → 0 < s.quartz.step → ∃ t,
      exec .thermalEvaluation s = .next t ∧ t.quartz.step = s.quartz.step - 1 ∧
      t.dget 0x4070 7 = (if s.hasSchedule = true then thermalRequest s (s.quartz.step - 1) else 0) ∧ CellsKept s t [(0x4070, 7)])

/-! ## Mailboxes -/

/-- A write that R479 or R481 discards: nothing but its record changes (R492). -/
def MailDiscards (s t : State) (flag sub : Nat) : Prop :=
  RecordOnly s t ∧ bit (t.dget 0x50C0 1) flag = true ∧ t.dget 0x50C0 sub = countUp (entryBytes 0x50C0 sub) (s.dget 0x50C0 sub) 1

/-- Locks, rings and doorbells (R478 to R481, R484 to R486): the register written, the notice that leaves, and what is discarded. -/
def Obligations.MailboxRegisters : Prop :=
  ∀ (s : State) (ident ch dir v : Nat), ch < 16 → dir < 2 → v < 2 ^ 32 →
    let m := mailDir s ch dir
    let receiver := mailReceiver s ch dir
    (maySend s ident ch dir = true →
      (m.lock = 0 → exec (.lockAccess ident ch dir false) s =
        .next ((setMailDir s ch dir { m with lock := ident }).emit (.mailRead ident 0))) ∧
      (m.lock ≠ 0 → ∃ t, exec (.lockAccess ident ch dir false) s = .next t ∧
        t = { s with mail := t.mail, out := .mailRead ident m.lock :: s.out } ∧ ∀ c d, mailDir t c d = mailDir s c d) ∧
      (m.lock = ident → exec (.lockAccess ident ch dir true) s = .next (setMailDir s ch dir { m with lock := 0 })) ∧
      (m.lock ≠ ident → m.lock ≠ 0 → ∃ t, exec (.lockAccess ident ch dir true) s = .next t ∧ MailDiscards s t 1 3) ∧
      (m.lock = ident → m.size ≠ 0 → (v + 2 ^ 32 - m.producer) % 2 ^ 32 % 32 = 0 → (v + 2 ^ 32 - m.consumer) % 2 ^ 32 ≤ m.size →
        exec (.producer ident ch dir v) s = .next (setMailDir s ch dir { m with producer := v })) ∧
      (m.lock ≠ ident ∨ m.size < (v + 2 ^ 32 - m.consumer) % 2 ^ 32 → ∃ t, exec (.producer ident ch dir v) s = .next t ∧
        MailDiscards s t 2 4) ∧
      (let n := { m with status := m.status ||| v % 2 ^ 16 };
        (n.pending = false ∨ m.pending = true → exec (.doorbellSet ident ch dir v) s = .next (setMailDir s ch dir n)) ∧
        (n.pending = true → m.pending = false → 1 ≤ receiver → receiver ≤ 4 → receiver ∉ s.mail.asleep → exec (.doorbellSet ident ch dir v) s =
          .next ((setMailDir s ch dir n).emit (.msix (receiver - 1) (2 * (ch % 4) + dir)))) ∧
        (n.pending = true → m.pending = false → receiver ∈ s.mail.asleep → ∃ t, exec (.doorbellSet ident ch dir v) s = .next t ∧
          t = { s with mail := t.mail, out := if bit m.wake 0 = true then .wake receiver :: s.out else s.out } ∧
          mailDir t ch dir = { n with owed := true }))) ∧
    (mayReceive s ident ch dir = true →
      ((v + 2 ^ 32 - m.consumer) % 2 ^ 32 % 32 = 0 → (v + 2 ^ 32 - m.consumer) % 2 ^ 32 ≤ ringUsed m →
        exec (.consumer ident ch dir v) s = .next (setMailDir s ch dir { m with consumer := v })) ∧
      (ringUsed m < (v + 2 ^ 32 - m.consumer) % 2 ^ 32 → ∃ t, exec (.consumer ident ch dir v) s = .next t ∧ MailDiscards s t 2 4) ∧
      (m.producer = m.consumer → m.base % 4096 = 0 → ringSizeOk v = true → v = 0 ∨ ringPlaced s ch m.base v = true →
        exec (.ringSet ident ch dir true v) s = .next (setMailDir s ch dir { m with size := v })) ∧
      (m.producer ≠ m.consumer → ∀ size, ∃ t, exec (.ringSet ident ch dir size v) s = .next t ∧ MailDiscards s t 0 2) ∧
      exec (.doorbellStatus ident ch dir v) s = .next (setMailDir s ch dir { m with status := clearBits m.status (v % 2 ^ 16) }) ∧
      (m.status &&& v % 2 ^ 16 = 0 → exec (.doorbellMask ident ch dir v) s = .next (setMailDir s ch dir { m with mask := v % 2 ^ 16 })) ∧
      (m.pending = false → m.status &&& v % 2 ^ 16 ≠ 0 → 1 ≤ receiver → receiver ≤ 4 → receiver ∉ s.mail.asleep →
        exec (.doorbellMask ident ch dir v) s =
          .next ((setMailDir s ch dir { m with mask := v % 2 ^ 16 }).emit (.msix (receiver - 1) (2 * (ch % 4) + dir))))) ∧
    (maySend s ident ch dir = false → ∀ command ∈ [Instr.producer ident ch dir v, .doorbellSet ident ch dir v],
      ∃ t, exec command s = .next t ∧ MailDiscards s t 0 2) ∧
    (mayReceive s ident ch dir = false → ∀ command ∈ [Instr.consumer ident ch dir v, .ringSet ident ch dir true v,
        .doorbellStatus ident ch dir v, .doorbellMask ident ch dir v],
      ∃ t, exec command s = .next t ∧ MailDiscards s t 0 2)

/-- Identities that are reset or wake, notices that wait, and the records that a hardware receiver meets (R482, R483, R485, R487, R489). -/
def Obligations.MailboxAgents : Prop :=
  ∀ (s : State) (ident ch dir : Nat), ch < 16 → dir < 2 →
    let m := mailDir s ch dir
    (ident ≠ 0 → ∃ t, exec (.identityReset ident) s = .next t ∧ ident ∈ t.mail.asleep ∧ t.mail.binding = s.mail.binding ∧
      t.mem = s.mem ∧ IndexKept s t [0x50C0, 0x50D0] ∧ ∀ c d, c < 16 → d < 2 → mailDir t c d = { mailDir s c d with
        lock := if (mailDir s c d).lock = ident then 0 else (mailDir s c d).lock, owed := (mailDir t c d).owed }) ∧
    (∃ t, exec (.receiverWake ident) s = .next t ∧ ident ∉ t.mail.asleep ∧ t.dict = s.dict ∧ t.mem = s.mem ∧
      ∀ c d, c < 16 → d < 2 → (channelUnused s c = true ∨ mailReceiver s c d ≠ ident → mailDir t c d = mailDir s c d) ∧
        (channelUnused s c = false → mailReceiver s c d = ident → mailDir t c d = { mailDir s c d with owed := false } ∧
          ((mailDir s c d).owed = true → (mailDir s c d).pending = true → 1 ≤ ident → ident ≤ 4 →
            Out.msix (ident - 1) (2 * (c % 4) + d) ∈ t.out))) ∧
    (∀ n rest, (mailDir s ch 1).unposted = n :: rest → ringTakes (mailDir s ch 1) = true →
      let x := mailDir s ch 1
      ∃ t, exec (.noticePost ch) s = .next t ∧ t.dict = s.dict ∧
        memRead t.mem (x.base + x.producer % x.size) 32 = leBytes 32 (noticeRecord n.kind n.tag x.seq (mailSender s ch 1)) ∧
        MemoryKeptBut s t (x.base + x.producer % x.size) 32 ∧
        mailDir t ch 1 = { x with
          unposted := rest, producer := (x.producer + 32) % 2 ^ 32, seq := (x.seq + 1) % 2 ^ 32
          status := setBit x.status 0, owed := (mailDir t ch 1).owed }) ∧
    (recordWaits s ch dir = true → 5 ≤ mailReceiver s ch dir → mailReceiver s ch dir ≤ 7 →
      (∀ len, ringRecord s ch dir = some (len, false) → ∃ t, exec (.hardwareReceiverTake ch dir) s = .next t ∧
        mailDir t ch dir = { m with consumer := (m.consumer + len) % 2 ^ 32 } ∧ t.mem = s.mem ∧
        bit (t.dget 0x50C0 1) 3 = true ∧ t.dget 0x50C0 5 = countUp (entryBytes 0x50C0 5) (s.dget 0x50C0 5) 1) ∧
      (∀ len, ringRecord s ch dir = some (len, true) → exec (.hardwareReceiverTake ch dir) s =
        .next (setMailDir s ch dir { m with consumer := (m.consumer + len) % 2 ^ 32 })) ∧
      (ringRecord s ch dir = none → ∃ t, exec (.hardwareReceiverTake ch dir) s = .next t ∧
        mailDir t ch dir = { m with consumer := m.producer } ∧ t.mem = s.mem ∧
        bit (t.dget 0x50C0 1) 3 = true ∧ t.dget 0x50C0 5 = countUp (entryBytes 0x50C0 5) (s.dget 0x50C0 5) 1))

/-! ## Garnet -/

/-- The controller restarts: the lease is free, what the paths held is lost, and the CAN FD node starts anew (R494, R506, R510). -/
def Restarted (t : State) : Prop :=
  t.dget 0x2060 4 = 0 ∧ t.garnet.usdo = [] ∧ t.garnet.partials = [] ∧ t.garnet.kept = [] ∧ t.garnet.nmt = 127 ∧ 5 ∈ t.mail.asleep

/-- The firmware update (R504, R513 to R516): what each command does in the state that takes it, and how it is answered. -/
def Obligations.FirmwareUpdate : Prop :=
  ∀ (s : State) (r : Requester) (bs : List Byte),
    (Accepted s r 0x7F00 1 1 1 →
      (fwStatus s = 0 ∨ 8 ≤ fwStatus s → ∃ t, exec (.beginUpdate r) s = .next t ∧ fwStatus t = 1 ∧ t.dget 0x7F00 3 = 0 ∧
        updateSlot t.garnet = FwSlot.empty ∧ t.garnet.committed = s.garnet.committed ∧ t.out.head? = some (.answer r 0 0)) ∧
      (1 ≤ fwStatus s → fwStatus s < 8 → exec (.beginUpdate r) s = .next { s with out := .answer r 0x08000022 0 :: s.out })) ∧
    (Accepted s r 0x7F00 2 bs.length 0 → bs ≠ [] →
      (fwStatus s = 1 → s.dget 0x7F00 3 + bs.length ≤ 67108864 → ∃ t, exec (.fwData r bs true) s = .next t ∧
        t = { s with dict := t.dict, garnet := t.garnet, out := .answer r 0 0 :: s.out } ∧
        (updateSlot t.garnet).bytes = (updateSlot s.garnet).bytes ++ bs ∧ t.dget 0x7F00 3 = s.dget 0x7F00 3 + bs.length ∧
        CellsKept s t [(0x7F00, 3)]) ∧
      ∃ t, exec (.fwData r bs false) s = .next t ∧ (updateSlot t.garnet).bytes = (updateSlot s.garnet).bytes ∧
        bit (t.dget 0x50D0 1) 6 = true ∧ t.out = .answer r 0x08000000 0 :: s.out ∧ t.mem = s.mem) ∧
    (Accepted s r 0x7F00 1 1 2 → fwStatus s = 1 → s.dget 0x7F00 3 + s.dget 0x7F00 5 ≤ 67108864 →
      (∀ x, s.dget 0x7F00 4 ≤ x → x < s.dget 0x7F00 4 + s.dget 0x7F00 5 → (memKey s 0 x).isSome = true) →
      ∃ t, exec (.fwFetch r) s = .next t ∧ t.dget 0x7F00 3 = s.dget 0x7F00 3 + s.dget 0x7F00 5 ∧ t.mem = s.mem ∧
        (updateSlot t.garnet).bytes = (updateSlot s.garnet).bytes ++
          (readKeys s 0 (s.dget 0x7F00 4) (s.dget 0x7F00 5)).map (·.1) ∧ t.out = .answer r 0 0 :: s.out) ∧
    (Accepted s r 0x7F00 1 1 3 → fwStatus s = 1 →
      let k := imageReason s (updateSlot s.garnet).bytes
      ∃ t, exec (.verifyImage r) s = .next t ∧ fwStatus t = (if k = 0 then 2 else k) ∧
        (k = 0 → (updateSlot t.garnet).valid = true ∧ (updateSlot t.garnet).bytes = (updateSlot s.garnet).bytes ∧
          (updateSlot t.garnet).security = imageField (updateSlot s.garnet).bytes 8 4) ∧
        (k ≠ 0 → bit (t.dget 0x50D0 1) 4 = true ∧ t.dget 0x50D0 6 = countUp (entryBytes 0x50D0 6) (s.dget 0x50D0 6) 1) ∧
        t.garnet.committed = s.garnet.committed ∧ t.garnet.security = s.garnet.security ∧ t.out.head? = some (.answer r 0 0)) ∧
    (Accepted s r 0x7F00 1 1 4 → fwStatus s = 2 → ∃ t, exec (.activateSlot r) s = .next t ∧ fwStatus t = 3 ∧
      t.garnet.trial = true ∧ t.garnet.running = !s.garnet.committed ∧ t.garnet.committed = s.garnet.committed ∧ Restarted t ∧
      t.out.head? = some (.answer r 0 0)) ∧
    (Accepted s r 0x7F00 1 1 5 → fwStatus s = 3 → ∃ t, exec (.commitTrial r) s = .next t ∧ fwStatus t = 0 ∧
      t.garnet.trial = false ∧ t.garnet.committed = s.garnet.running ∧
      t.garnet.security = max s.garnet.security (updateSlot s.garnet).security ∧ t.out.head? = some (.answer r 0 0)) ∧
    (Accepted s r 0x7F00 1 1 6 → fwStatus s ≠ 0 → ∃ t, exec (.abortUpdate r) s = .next t ∧ fwStatus t = 0 ∧
      (updateSlot t.garnet).valid = false ∧ t.garnet.trial = false ∧ t.garnet.committed = s.garnet.committed ∧
      (s.garnet.trial = true → t.garnet.running = s.garnet.committed ∧ Restarted t) ∧ t.out.head? = some (.answer r 0 0)) ∧
    (s.power.state ≠ .off → s.garnet.trial = true → ∃ t, exec .trialTimeout s = .next t ∧ fwStatus t = 12 ∧
      t.garnet.trial = false ∧ t.garnet.running = s.garnet.committed ∧ Restarted t ∧ bit (t.dget 0x50D0 1) 3 = true)

/-- What Garnet measures, limits, logs and copies (R494 to R502, R521, R528, R536, R565, R602, R610). -/
def Obligations.GarnetSupervision : Prop :=
  ∀ (s : State) (r : Requester) (n mv ma watts ripple sensors : Nat) (x : Int), s.power.state ≠ .off →
    (∃ t, exec .watchdogRestart s = .next t ∧ Restarted t ∧ bit (t.dget 0x50D0 1) 0 = true ∧
      t.dget 0x50D0 2 = countUp (entryBytes 0x50D0 2) (s.dget 0x50D0 2) 1 ∧ t.power = s.power ∧ t.garnet.running = s.garnet.running) ∧
    (n < 96 → (s.sensor n).failed = false → leakBits s = 0 →
      (beyondLimit s n x = false → ∃ t, exec (.sensorSample [(n, some x)] mv ma watts ripple []) s = .next t ∧
        t = { s with dict := t.dict, garnet := t.garnet } ∧ t.sensor n = ⟨some x, 0, false, 0⟩ ∧
        (∀ k, k ≠ n → t.sensor k = s.sensor k) ∧ t.dget 0x3000 7 = 0 ∧ IndexKept s t [0x3000] ∧
        t.dget 0x3000 1 = (if (s.sensor 96).failed = true then ones 32 else min mv (ones 32)) ∧
        t.dget 0x3000 3 = (if (s.sensor 96).failed = true ∨ (s.sensor 97).failed = true then 0xFFFF else min watts 0xFFFF)) ∧
      ((s.sensor n).missed = 2 → ∃ t, exec (.sensorSample [(n, none)] mv ma watts ripple []) s = .next t ∧
        (t.sensor n).failed = true ∧ bit (t.dget 0x50D0 1) 5 = true ∧ t.power = s.power) ∧
      (n < 64 → shutdownLimit n < x → (s.sensor n).beyond = 2 → s.power.state ≠ .faulted →
        ∃ t, exec (.sensorSample [(n, some x)] mv ma watts ripple []) s = .next t ∧ t.power.state = .faulted ∧
          t.dget 0x5000 1 = 5 ∧ t.power.followUp = true)) ∧
    (∃ t, exec .capEvaluation s = .next t ∧ t = { s with dict := t.dict } ∧ t.dget 0x3000 8 = effectiveCap s ∧
      CellsKept s t [(0x3000, 8), (0x3000, 9)]) ∧
    (s.power.state ≠ .faulted → soundLeaks s sensors ≠ 0 → s.dget 0x3000 7 ≠ 1 → ∃ t, exec (.leak sensors) s = .next t ∧
      t.power.state = .faulted ∧ t.dget 0x5000 1 = 3 ∧ t.dget 0x3000 7 = 1 ∧ t.power.followUp = true) ∧
    (s.dget 0x3000 1 ≤ 420000 → s.dget 0x3000 4 ≤ 8000 → exec .supplyWarningLog s = .next s) ∧
    (420000 < s.dget 0x3000 1 → s.dget 0x3000 1 ≠ ones 32 → s.dget 0x3000 4 ≤ 8000 → s.garnet.logWindow < 256 →
      ∃ t e, exec .supplyWarningLog s = .next t ∧ t = { s with freeCount := s.freeCount + 1, garnet := t.garnet } ∧ LogOnly s t ∧
        t.garnet.ramLog = (e :: s.garnet.ramLog).take 4096 ∧ e.source = 0x3000 ∧ e.event = 1 ∧ e.severity = 2) ∧
    (s.garnet.logDropped = 0 → exec .logWindow s = .next { s with garnet := { s.garnet with logWindow := 0, logDropped := 0 } }) ∧
    (0 < s.garnet.logDropped → ∃ t e, exec .logWindow s = .next t ∧ LogOnly s t ∧ t.garnet.logDropped = 0 ∧ t.garnet.logWindow = 1 ∧
      t.garnet.ramLog = (e :: s.garnet.ramLog).take 4096 ∧ e.source = 0x50D0 ∧ e.event = 1 ∧
      e.detailA = s.garnet.logDropped % 2 ^ 32) ∧
    (∃ t, exec .recordCopyToFlash s = .next t ∧ t = { s with garnet := t.garnet } ∧ t.garnet.flashHealth = s.zoning.health ∧
      t.garnet.flashRemap = s.zoning.remap ∧ t.garnet.flashLog = (uncopied s.garnet ++ s.garnet.flashLog).take 524288 ∧
      (∀ k, keyPersist k = .flash → kfind t.garnet.flash k = kfind s.garnet.flash k) ∧
      (ksorted s.dict = true → ∀ k, keyPersist k = .record → kfind t.garnet.flash k = kfind s.dict k)) ∧
    (Accepted s r 0x1011 1 4 0x64616F6C → exec (.restoreAllDefaults r) s =
      .next { s with power := { s.power with restoreMark := true }, out := .answer r 0 0 :: s.out }) ∧
    (Accepted s r 0x4001 6 1 1 →
      let f := s.dget 0x4001 5
      let g := s.dget 0x4001 2
      (isLoaderRequest s f = false ∨ isLoader s g = false → ∃ t, exec (.loaderFetch r) s = .next t ∧
        t = { s with dict := t.dict, out := .answer r 0 0 :: s.out } ∧ t.dget 0x4001 7 = 6 ∧ CellsKept s t [(0x4001, 7)]) ∧
      (isLoaderRequest s f = true → isLoader s g = true → (s.flow g).state = 2 → holdsCredit s f 1 = true →
        ∃ t, exec (.loaderFetch r) s = .next t ∧ t.dget 0x4001 7 = 1 ∧ (t.flow f).issued = unitNext (s.flow f).issued 1 ∧
          t.net.fetching = false ∧ t.mem = s.mem ∧ t.out.head? = some (.answer r 0 0))) ∧
    (s.dget 0x4001 7 = 1 → exec .loaderNoAnswer s = .next (s.dset 0x4001 7 5))

/-! ## Reduction sets -/

/-- `FORM`, the records of the members, `DISBAND`, and the delivery of a summary (R387, R389, R390, R396, R412): a set whose entries do not
fit is refused with status 4; a formed one has had every other member's record; a delivered summary fills the status entries. -/
def Obligations.SetsFormAndDeliver : Prop :=
  ∀ (s : State) (r : Requester) (n m generation digest members algorithm group policy veto headroom : Nat), n < 8 →
    let missing := (partners s n).filter fun k => !(s.redSet n).arrived.contains k
    let record := Instr.formationRecord n m generation digest members algorithm group policy veto headroom
    (Accepted s r (0x6010 + n) 1 1 1 →
      (s.red n 0xD ≠ 0 → s.red n 0xD ≠ 3 →
        exec (.form r n) s = .next { s with out := .answer r 0x08000022 0 :: s.out }) ∧
      (s.red n 0xD = 0 ∨ s.red n 0xD = 3 → formValid s n = false → ∃ t, exec (.form r n) s = .next t ∧
        t = { s with dict := t.dict, garnet := t.garnet, freeCount := t.freeCount, sets := t.sets
                     out := .answer r 0 0 :: s.out } ∧ LogOnly s t ∧
        t.red n 0xD = 3 ∧ t.red n 0xE = 4 ∧ bit (t.dget 0x5090 1) 0 = true ∧
        t.dget 0x5090 5 = countUp (entryBytes 0x5090 5) (s.dget 0x5090 5) 1) ∧
      (s.red n 0xD = 0 ∨ s.red n 0xD = 3 → formValid s n = true → ∃ t, exec (.form r n) s = .next t ∧
        t.out.head? = some (.answer r 0 0) ∧ t.mem = s.mem ∧ t.contexts = s.contexts ∧ t.red n 0xF = memberDigest s n ∧
        (∀ k, memberOf t n k = memberOf s n k) ∧ (t.redSet n).lastStep = none ∧ (t.redSet n).step = none ∧
        t.dget (0x6030 + n) 8 = (partners s n).length ∧
        (partners s n = [] → t.red n 0xD = 2 ∧ t.red n 0xE = 1 ∧ ((s.flow (s.red n 8)).state = 2 →
          t.flow (s.red n 8) = (s.flow (s.red n 8)).grant ((s.flow (s.red n 8)).done + 2))) ∧
        (partners s n ≠ [] → t.red n 0xD = 1 ∧ t.red n 0xE = 0) ∧
        (partners s n = [m] → holdsCredit s (sendFlow s n m) 1 = true →
          (t.flow (sendFlow s n m)).issued = unitNext (s.flow (sendFlow s n m)).issued 1))) ∧
    (m ∈ partners s n →
      (s.red n 0xD = 1 → generation = 1 → [1, digest, members, algorithm, group, policy, veto, headroom] = formationFields s n →
        let left := missing.filter (· != m)
        ∃ t, exec record s = .next t ∧ t = { s with dict := t.dict, net := t.net, sets := t.sets } ∧
          CellsKept s t [(0x6010 + n, 0xD), (0x6010 + n, 0xE), (0x6030 + n, 8)] ∧ t.dget (0x6030 + n) 8 = left.length ∧
          t.red n 0xD = (if left = [] then 2 else 1) ∧ (left = [] → t.red n 0xE = 1)) ∧
      (s.red n 0xD = 1 → generation ≠ 1 → ∃ t, exec record s = .next t ∧ t.red n 0xD = 3 ∧ t.red n 0xE = 2 ∧
        bit (t.dget 0x5090 1) 0 = true ∧ t.mem = s.mem ∧ t.sets = s.sets) ∧
      (s.red n 0xD = 1 → generation = 1 → [1, digest, members, algorithm, group, policy, veto, headroom] ≠ formationFields s n →
        ∃ t, exec record s = .next t ∧ t.red n 0xD = 3 ∧ t.red n 0xE = 3 ∧ bit (t.dget 0x5090 1) 0 = true ∧ t.mem = s.mem ∧
          t.sets = s.sets) ∧
      (s.red n 0xD = 2 → holdsCredit s (sendFlow s n m) 1 = true → ∃ t, exec record s = .next t ∧ t.mem = s.mem ∧
        t.sets = s.sets ∧ (t.flow (sendFlow s n m)).issued = unitNext (s.flow (sendFlow s n m)).issued 1)) ∧
    (s.red n 0xD ≠ 1 → exec (.formationRetry n) s = .next s) ∧
    (s.red n 0xD = 1 → missing = [m] → holdsCredit s (sendFlow s n m) 1 = true → (s.flow (sendFlow s n m)).kind = 5 →
      (s.flow (recvFlow s n m)).state = 2 → ∃ t, exec (.formationRetry n) s = .next t ∧ t.mem = s.mem ∧ t.sets = s.sets ∧
        (t.flow (sendFlow s n m)).issued = unitNext (s.flow (sendFlow s n m)).issued 1) ∧
    (Accepted s r (0x6010 + n) 1 1 2 →
      (s.red n 0xD = 0 → exec (.disband r n) s = .next { s with out := .answer r 0 0 :: s.out }) ∧
      (s.red n 0xD ≠ 0 → (s.redSet n).step = none → s.power.state ≠ .faulted → ∃ t, exec (.disband r n) s = .next t ∧
        t.out.head? = some (.answer r 0 0) ∧ t.mem = s.mem ∧ t.red n 0xD = 0 ∧ t.red n 0xE = 0 ∧
        CellsKept s t [(0x6010 + n, 0xD), (0x6010 + n, 0xE)] ∧
        t.redSet n = { RedSet.empty with members := (s.redSet n).members } ∧
        ∀ f, (f ∈ partnerFlows s n ++ [s.red n 8, s.red n 9] → (t.flow f).state = 0) ∧
          (f ∉ partnerFlows s n ++ [s.red n 8, s.red n 9] → t.flow f = s.flow f))) ∧
    ∀ v rest, (s.redSet n).summaries = v :: rest →
      (holdsCredit s (s.red n 9) 1 = false → exec (.summaryDelivery n) s = .next s) ∧
      (holdsCredit s (s.red n 9) 1 = true → ∃ t, exec (.summaryDelivery n) s = .next t ∧
        t.redSet n = { s.redSet n with summaries := rest } ∧ t.mem = s.mem ∧ t.contexts = s.contexts ∧
        (t.flow (s.red n 9)).issued = unitNext (s.flow (s.red n 9)).issued 1 ∧
        t.dget (0x6030 + n) 1 = bits v 344 32 ∧ t.dget (0x6030 + n) 3 = sumBumps v ∧ t.dget (0x6030 + n) 4 = sumTotal v ∧
        t.dget (0x6030 + n) 7 = sumStatus v ∧
        t.dget (0x6030 + n) 2 = countUp (entryBytes (0x6030 + n) 2) (s.dget (0x6030 + n) 2) 1 ∧
        (sumVeto v = true → bit (t.dget 0x5090 1) 3 = true ∧
          t.dget 0x5090 4 = countUp (entryBytes 0x5090 4) (s.dget 0x5090 4) 1))

/-- A request unit that its set takes up at once (R393, R394). -/
def Requested (s : State) (n f r : Nat) : Prop :=
  s.squareUp = true ∧ s.power.state ≠ .faulted ∧ s.red n 0xD = 2 ∧ s.red n 8 = f ∧ s.red n 4 = (s.flow f).ctx ∧
  (s.redSet n).step = none ∧ (s.redSet n).waiting = [] ∧ (s.redSet n).outbox = [] ∧ reqSet r = n ∧ r < 2 ^ 512 ∧ n < 8

/-- The step has ended with the summary `v`; its number is the set's last one (R396). -/
def Concluded (s t : State) (n r v : Nat) : Prop :=
  (t.redSet n).step = none ∧ (t.redSet n).lastStep = some (reqStep r) ∧ (t.redSet n).summaries = (s.redSet n).summaries ++ [v]

/-- What an item of a unit has become in the step that took it: the first copy stays (R404, R407, R408, R411, R413, R414). -/
def ItemHeld (own : Nat) (x y : RedStep) (m : RedMsg) : Prop :=
  (m.phase = 2 → kfind y.pieces (pieceKey m.role m.sender m.index) =
    some ((kfind x.pieces (pieceKey m.role m.sender m.index)).getD m.item)) ∧
  (m.phase = 3 → kfind y.records m.index = some ((kfind x.records m.index).getD m.value)) ∧
  (m.phase = 4 → kfind y.scales m.index = some ((kfind x.scales m.index).getD m.value)) ∧
  (m.phase = 7 → m.index ∈ y.gathered) ∧
  (m.phase = 8 → x.stopped = true → m.index < 2 ^ 40 → kfind y.finals (itemKey 0 own m.index) =
    some ((kfind x.finals (itemKey 0 own m.index)).getD m.item))

/-- The steps of a set (R391 to R394, R396, R403 to R409, R414): what a request begins, what a unit brings, and how a step is missed,
aborted or handed on. -/
def Obligations.ReductionSteps : Prop :=
  ∀ (s : State) (n f r k : Nat) (granted : List Nat) (u : EngineUnit),
    let x := tenantContext s (s.red n 4) (requestTenant s n)
    let request := if reqKind r = 2 then Instr.gather f r else .reduce f r
    let place := redAddress x (reqResult r) 0
    let scalesAt := fun count => ceilDiv (32 * count) 4096 * 4096
    (s.squareUp = true → r < 2 ^ 512 → reqSet r = n → (s.red n 0xD ≠ 2 ∨ s.red n 8 ≠ f ∨ s.red n 4 ≠ (s.flow f).ctx) →
      ∃ t, exec request s = .next t ∧ RecordOnly s t ∧ bit (t.dget 0x5090 1) 4 = true ∧
        t.dget 0x5090 6 = countUp (entryBytes 0x5090 6) (s.dget 0x5090 6) 1) ∧
    (Requested s n f r →
      (requestOk s n r x = false → s.red n 0xA = 0 → ∃ t, exec request s = .next t ∧
        Concluded s t n r (emptySummary s n r 1 false 0) ∧ bit (t.dget 0x5090 1) 4 = true ∧ bit (t.dget 0x5090 1) 1 = true ∧
        t.dget 0x5090 6 = countUp (entryBytes 0x5090 6) (s.dget 0x5090 6) 1 ∧
        t.dget 0x5090 2 = countUp (entryBytes 0x5090 2) (s.dget 0x5090 2) 1) ∧
      (requestOk s n r x = false → s.red n 0xA ≠ 0 → ∃ t, exec request s = .next t ∧ t.power.state = .faulted ∧
        t.dget 0x5000 1 = 8) ∧
      (requestOk s n r x = true → reqElements r = 0 → ∃ t, exec request s = .next t ∧ t.mem = s.mem ∧
        Concluded s t n r (emptySummary s n r 2 false 0)) ∧
      (requestOk s n r x = true → reqElements r ≠ 0 → reqKind r = 1 → 2 ≤ s.red n 2 → ownIndex s n < s.red n 2 →
        ∃ t y, exec request s = .next t ∧ (t.redSet n).step = some y ∧ y.request = r ∧ y.beat = s.beat ∧
          y.tenant = requestTenant s n ∧ (t.redSet n).lastStep = (s.redSet n).lastStep ∧
          ∀ m ∈ partners s n, t.flow (recvFlow s n m) =
            (s.flow (recvFlow s n m)).grant ((s.flow (recvFlow s n m)).done + 64)) ∧
      (requestOk s n r x = true → reqElements r ≠ 0 → reqKind r = 1 → s.red n 2 = 1 → ownIndex s n = 0 → reqUpdate r = false →
        ∃ t v, exec request s = .next t ∧ Concluded s t n r v ∧ sumStatus v = 0 ∧
          MemoryKeptBut s t place (shardBytes (reqBlocks r)) ∧
          ∀ st : RedStep, st.request = r → st.tenant = requestTenant s n → ∀ b, b < reqBlocks r →
            memRead t.mem (place + 32 * b) 32 = leBytes 32 (leafOf s n st b).1.elems ∧
            (memByte t.mem (place + scalesAt (reqBlocks r) + b)).toNat = (leafOf s n st b).1.scale) ∧
      (requestOk s n r x = true → reqElements r ≠ 0 → reqKind r = 2 → ownIndex s n < s.red n 2 →
        let first := shardFirst (reqBlocks r) (s.red n 2) (ownIndex s n)
        let count := shardCount (reqBlocks r) (s.red n 2) (ownIndex s n)
        let source := redAddress x (reqContrib r) 0
        ∃ t, exec request s = .next t ∧ MemoryKeptBut s t place (shardBytes (reqBlocks r)) ∧
          (count < reqBlocks r → ∃ y, (t.redSet n).step = some y ∧ y.request = r) ∧
          (count = reqBlocks r → Concluded s t n r (emptySummary s n r 0 false 0)) ∧
          ∀ i, i < count → memRead t.mem (place + 32 * (first + i)) 32 = memRead s.mem (source + 32 * i) 32 ∧
            memByte t.mem (place + scalesAt (reqBlocks r) + (first + i)) = memByte s.mem (source + scalesAt count + i))) ∧
    ∀ st, n < 8 → (s.redSet n).step = some st → (s.redSet n).waiting = [] → (∀ c, c < 4 → (s.cairnOf c).copying = none) →
      s.squareUp = true → s.power.state ≠ .faulted →
      let own := ownIndex s n
      let commands := [(2, Instr.partialUnit u), (3, .recordsUnit u), (4, .scalesUnit u), (7, .gatherUnit u), (8, .lateShardUnit u)]
      (setOfRecv s u.flow = some n → unitValid u = false →
        ∀ e ∈ (5, Instr.takeoverNotice u) :: (6, .abortNotice u) :: commands, exec e.2 s = .next (s.dcount 0x5080 2 1)) ∧
      (setOfRecv s u.flow = some n → unitValid u = true → ∀ e ∈ commands, unitPhase u = e.1 →
        (unitAfter (unitStep u) (reqStep st.request) = true → ∃ t, exec e.2 s = .next t ∧ t.mem = s.mem ∧
          Concluded s t n st.request (emptySummary s n st.request 3 false 0) ∧ bit (t.dget 0x5090 1) 5 = true) ∧
        (unitStep u = reqStep st.request → sameStep st.request u = false → s.red n 0xA = 0 → ∃ t, exec e.2 s = .next t ∧
          Concluded s t n st.request (emptySummary s n st.request 1 false 0) ∧ bit (t.dget 0x5090 1) 4 = true ∧
          t.dget 0x5090 6 = countUp (entryBytes 0x5090 6) (s.dget 0x5090 6) 1) ∧
        (unitStep u = reqStep st.request → sameStep st.request u = true → ∃ t, exec e.2 s = .next t ∧
          ((∃ v, Concluded s t n st.request v ∧ sumStatus v = 0) ∨
            ∃ y, (t.redSet n).step = some y ∧ y.request = st.request ∧ ∀ m ∈ unitMsgs n own u, ItemHeld own st y m) ∧
          (unitPhase u = 7 → reqKind st.request = 2 → ∀ m ∈ unitMsgs n own u, m.index ∉ st.gathered → m.index < stepBlocks st →
            memRead t.mem (redAddress (stepCtx s n st) (reqResult st.request) 0 + 32 * m.index) 32 = leBytes 32 m.item.elems))) ∧
      (setOfRecv s u.flow = some n → unitValid u = true → unitStep u = reqStep st.request →
        (unitPhase u = 5 → sameStep st.request u = true → kfind st.taken (unitRole u) = none →
          (memberOf s n (unitRole u)).backup < s.red n 2 → ∃ t, exec (.takeoverNotice u) s = .next t ∧
            bit (t.dget 0x5090 1) 2 = true ∧ t.dget 0x5090 3 = countUp (entryBytes 0x5090 3) (s.dget 0x5090 3) 1 ∧
            (memberOf t n (unitRole u)).lastRole = 1 ∧ ((t.redSet n).step = none ∨ ∃ y, (t.redSet n).step = some y ∧
              kfind y.taken (unitRole u) = some (memberOf s n (unitRole u)).backup ∧ (unitRole u = own → y.stopped = true))) ∧
        (unitPhase u = 6 → s.red n 0xA = 0 → ∃ t, exec (.abortNotice u) s = .next t ∧
          Concluded s t n st.request (emptySummary s n st.request 1 false 0) ∧ bit (t.dget 0x5090 1) 1 = true ∧
          t.dget 0x5090 2 = countUp (entryBytes 0x5090 2) (s.dget 0x5090 2) 1 ∧
          (reqKind st.request = 1 → ∀ i, i < 32 * shardCount (stepBlocks st) (s.red n 2) own →
            memByte t.mem (redAddress (stepCtx s n st) (reqResult st.request) 0 + i) = 0)) ∧
        (unitPhase u = 6 → s.red n 0xA ≠ 0 → ∃ t, exec (.abortNotice u) s = .next t ∧ t.power.state = .faulted ∧
          t.dget 0x5000 1 = 8)) ∧
      (s.beat < st.beat + reqDelta st.request → exec (.reductionDeadline n k granted) s = .next s) ∧
      (reqDelta st.request ≠ 0 → st.beat + reqDelta st.request ≤ s.beat → k ∉ granted → k ≠ own →
        (∃ m ∈ (s.redSet n).outbox, m.role = k ∧ m.member = k ∧ m.late = false) →
        ((memberOf s n k).backup = own → ∃ t, exec (.reductionDeadline n k granted) s = .next t ∧
          bit (t.dget 0x5090 1) 2 = true ∧ t.dget 0x5090 3 = countUp (entryBytes 0x5090 3) (s.dget 0x5090 3) 1 ∧
          (memberOf t n k).lastRole = 1 ∧
          ((t.redSet n).step = none ∨ ∃ y, (t.redSet n).step = some y ∧ kfind y.taken k = some own)) ∧
        ((memberOf s n k).backup ≠ own → (memberOf s n k).backup ∉ granted → s.red n 0xA = 0 →
          ∃ t, exec (.reductionDeadline n k granted) s = .next t ∧
            Concluded s t n st.request (emptySummary s n st.request 1 false 1) ∧ (memberOf t n k).lastRole = 2))

/-! ## Checkpoints -/

/-- The generation in a slot of a context. -/
def captureAt (s : State) (c k : Nat) : Option Capture := kfind (s.cairnOf c).slots k

/-- Cuts, fast copies, drains and what a peer asks for (R418 to R425, R432 to R436, R440, R483, R490). -/
def Obligations.CheckpointsCopyAndDrain : Prop :=
  ∀ (s : State) (r : Requester) (c cycles ch : Nat) (addresses : List Nat) (u : EngineUnit), c < 4 →
    let y := s.cairnOf c
    let g := s.ck c 0xE
    let heldBeat := if s.single = true then s.dget 0x4000 4 else s.dget (0x6070 + tenantOf s c) 4
    (Accepted s r (0x6040 + c) 1 1 1 →
      (contextHeld s c = false → exec (.takeCheckpoint r c) s = .next { s with out := .answer r 0x08000022 0 :: s.out }) ∧
      (contextHeld s c = true → refusalOf s c = 0 → ∃ t p, exec (.takeCheckpoint r c) s = .next t ∧ t.mem = s.mem ∧
        t.contexts = s.contexts ∧ t.out = .answer r 0 0 :: s.out ∧ t.ck c 0xE = (g + 1) % 2 ^ 32 ∧ t.ck c 0x13 = heldBeat ∧
        t.ck c 0x11 = (if y.restore.isSome = true then 4 else 2) ∧ (t.cairnOf c).copying = some (g % 2) ∧
        captureAt t c (g % 2) = some p ∧ p.generation = g ∧ p.cutBeat = heldBeat ∧ p.restart = s.pc c ∧
        p.pending = captureGranules s c ∧ p.policies = y.policies ∧ p.mem = [] ∧ p.done = false ∧ bit p.flags 3 = true) ∧
      (contextHeld s c = true → refusalOf s c ≠ 0 → ∃ t, exec (.takeCheckpoint r c) s = .next t ∧ t.cairn = s.cairn ∧
        t.mem = s.mem ∧ bit (t.dget 0x50A0 1) 0 = true ∧
        t.dget 0x50A0 2 = countUp (entryBytes 0x50A0 2) (s.dget 0x50A0 2) 1)) ∧
    (∀ k p, y.copying = some k → captureAt s c k = some p →
      (∀ a, p.nextGranule = some a → ∃ t q, exec (.fastCopyGranule c ⟨[], []⟩) s = .next t ∧ t.mem = s.mem ∧
        captureAt t c k = some q ∧ q.pending = p.pending.filter (· != a) ∧ (t.cairnOf c).copying = some k ∧
        (a < 2 ^ 52 → ∀ x, (a * 65536 ≤ x ∧ x < a * 65536 + 65536 → kget 0 q.mem x = memByte s.mem x) ∧
          (x < a * 65536 ∨ a * 65536 + 65536 ≤ x → kget 0 q.mem x = kget 0 p.mem x))) ∧
      (p.pending = [] → ∃ t, exec (.fastCopyEnd c cycles) s = .next t ∧ t = { s with dict := t.dict, cairn := t.cairn } ∧
        captureAt t c k = some { p with done := true } ∧ (t.cairnOf c).copying = none ∧ t.ck c 0x14 = cycles % 2 ^ 32 ∧
        CellsKept s t [(0x6040 + c, 0x11), (0x6040 + c, 0x14)]) ∧
      (p.pending ≠ [] → exec (.fastCopyEnd c cycles) s = .next s)) ∧
    (let held := (addresses.map granuleAt).filter (pendingGranules s c).contains;
      (held = [] → exec (.granuleWait c addresses) s = .next s) ∧
      (held ≠ [] → s.running c = true → ∃ t, exec (.granuleWait c addresses) s = .next t ∧ t.dget (0x4030 + c) 2 = 8 ∧
        t.pc c = s.pc c ∧ t.mem = s.mem ∧
        t.dget (0x4030 + c) 0x18 = countUp (entryBytes (0x4030 + c) 0x18) (s.dget (0x4030 + c) 0x18) 1 ∧
        (s.dget (0x4030 + c) 2 = 8 → t.cairn = s.cairn ∧ t.dget 0x50A0 4 = s.dget 0x50A0 4) ∧
        (s.dget (0x4030 + c) 2 ≠ 8 → bit (t.dget 0x50A0 1) 2 = true ∧
          t.dget 0x50A0 4 = countUp (entryBytes 0x50A0 4) (s.dget 0x50A0 4) 1 ∧
          ∀ k p, y.copying = some k → captureAt s c k = some p → ∃ q, captureAt t c k = some q ∧ ∀ a ∈ held, a ∈ q.demanded))) ∧
    (∀ k p, y.drain = none → nextDrain s c = some (k, p) → captureAt s c k = some p →
      let first := drainFlow s c (p.replica % s.ck c 6)
      (s.ck c 6 = 0 → s.ck c 3 ≠ 1 → ∃ t, exec (.drainGeneration c) s = .next t ∧ t.mem = s.mem ∧ (t.cairnOf c).drain = none ∧
        captureAt t c k = some { p with drained := true } ∧ bit (t.dget 0x50A0 1) 3 = true ∧
        t.dget 0x50A0 5 = countUp (entryBytes 0x50A0 5) (s.dget 0x50A0 5) 1) ∧
      (s.ck c 6 ≠ 0 → s.ck c 3 ≠ 1 → ∃ t, exec (.drainGeneration c) s = .next t ∧ t.mem = s.mem ∧
        captureAt t c k = some { p with drained := true } ∧
        (holdsCredit s first 1 = true → (t.cairnOf c).drain = some ⟨k, 0, 0, 1, 1, true, false⟩ ∧
          (t.flow first).issued = unitNext (s.flow first).issued 1) ∧
        (holdsCredit s first 1 = false → (t.cairnOf c).drain = some ⟨k, 0, 0, 1, 0, false, false⟩ ∧ t.net = s.net))) ∧
    (∀ d p, drainOn s u.flow = some c → drainCapture s c = some (d, p) →
      let answers := [Instr.durableAnswer u, .claimResult u, .verifyResult u]
      let named := nameFields u.header = nameFields (drainObject s c p d).1
      (cairnValid u.header = false → (s.flow u.flow).kind = 6 → (s.flow u.flow).engine = 2 → ∀ e ∈ answers, exec e s = .next (s.dcount 0x5080 2 1)) ∧
      (cairnValid u.header = true → nameFields u.header ≠ nameFields (drainObject s c p d).1 →
        ∀ e ∈ answers, exec e s = .next s) ∧
      (cairnValid u.header = true → named → cairnOp u.header = 8 → d.op = 1 →
        (d.step = 0 → ∃ t e, exec (.durableAnswer u) s = .next t ∧ t.mem = s.mem ∧ (t.cairnOf c).drain = some e ∧
          e.step = 1 ∧ e.shard = 0 ∧ e.op = 1) ∧
        (d.step = 1 → d.shard + 1 < (shardsOf s c p).length → ∃ t e, exec (.durableAnswer u) s = .next t ∧ t.mem = s.mem ∧
          (t.cairnOf c).drain = some e ∧ e.step = 1 ∧ e.shard = d.shard + 1) ∧
        (d.step = 3 → ∃ t, exec (.durableAnswer u) s = .next t ∧ t = { s with dict := t.dict, cairn := t.cairn } ∧
          (t.cairnOf c).drain = none ∧ t.ck c 0x12 = p.generation ∧ CellsKept s t [(0x6040 + c, 0x11), (0x6040 + c, 0x12)])) ∧
      (cairnValid u.header = true → named → cairnOp u.header = 9 → d.op = 3 → d.step = 1 →
        ∃ t q, exec (.claimResult u) s = .next t ∧ t.mem = s.mem ∧ captureAt t c d.slot = some q ∧
          writerOf q d.shard = cairnArg u.header ∧
          (cairnArg u.header = p.replica → ∃ e, (t.cairnOf c).drain = some e ∧ e.step = 1 ∧ e.shard = d.shard ∧ e.op = 1) ∧
          (cairnArg u.header ≠ p.replica → d.shard + 1 < (shardsOf s c p).length → ∃ e, (t.cairnOf c).drain = some e ∧
            e.step = 1 ∧ e.shard = d.shard + 1)) ∧
      (cairnValid u.header = true → named → cairnOp u.header = 10 → d.op = 4 → d.step = 2 →
        ∃ t e, exec (.verifyResult u) s = .next t ∧ t.mem = s.mem ∧ (t.cairnOf c).drain = some e ∧
          (bit (cairnArg u.header) 0 = false → e.step = 2 ∧ e.shard = d.shard ∧ e.op = 1 ∧
            ∃ q, captureAt t c d.slot = some q ∧ writerOf q d.shard = p.replica) ∧
          (bit (cairnArg u.header) 0 = true → nextVerify s c p d (d.shard + 1) = none → e.step = 3 ∧ e.op = 1))) ∧
    ((recordWaits s ch 0 = false ∨ mailReceiver s ch 0 ≠ 8) → exec (.hostDrainAnswer ch) s = .next s) ∧
    (∀ d p, recordWaits s ch 0 = true → mailReceiver s ch 0 = 8 → ringRecord s ch 0 = some (96, false) →
      hostAwaits s ch = some (c, d, p) → d.step = 3 →
      let m := mailDir s ch 0
      let inline := readLe s (m.base + m.consumer % m.size + 32) 64
      bits (ringHeader s m) 16 16 = 1 → cairnOp inline = 8 → nameFields inline = nameFields (drainObject s c p d).1 →
      ∃ t, exec (.hostDrainAnswer ch) s = .next t ∧ (t.cairnOf c).drain = none ∧ t.ck c 0x12 = p.generation ∧
        (mailDir t ch 0).consumer = (m.consumer + 96) % 2 ^ 32 ∧
        (∀ i, i < (drainObject s c p d).2.2.length → memByte t.mem (objectAddress s c d + i) = 0) ∧
        MemoryKeptBut s t (objectAddress s c d) (drainObject s c p d).2.2.length) ∧
    ((s.flow u.flow).kind ≠ 6 ∨ (s.flow u.flow).engine ≠ 2 → exec (.peerGet u) s = .next s) ∧
    ((s.flow u.flow).kind = 6 → (s.flow u.flow).engine = 2 →
      let k := (s.flow u.flow).ctx
      (cairnValid u.header = false → exec (.peerGet u) s = .next (s.dcount 0x5080 2 1)) ∧
      (cairnValid u.header = true → cairnOp u.header = 4 ∨ cairnOp u.header = 5 → (s.cairnOf k).serving = [] →
        ∀ f, answerFlow s u.flow = some f →
          (holdsCredit s f 1 = false → ∃ t w, exec (.peerGet u) s = .next t ∧ t.net = s.net ∧ t.mem = s.mem ∧
            (t.cairnOf k).serving = [w] ∧ w.flow = f ∧ w.op = cairnOp u.header ∧ w.piece = 0) ∧
          (holdsCredit s f 1 = true → (cairnOp u.header = 4 ∨ ∀ o, servedObject s k u.header = some o → o.2.length ≤ 4032) →
            ∃ t, exec (.peerGet u) s = .next t ∧ t.mem = s.mem ∧ (t.cairnOf k).serving = [] ∧
              (t.flow f).issued = unitNext (s.flow f).issued 1)))

/-- A restore that fails is recorded and awaits nothing (R438). -/
def RestoreFails (s t : State) (c : Nat) : Prop :=
  (t.cairnOf c).restore = none ∧ (t.cairnOf c).failed = true ∧ bit (t.dget 0x50A0 1) 4 = true ∧
  t.dget 0x50A0 6 = countUp (entryBytes 0x50A0 6) (s.dget 0x50A0 6) 1 ∧ t.mem = s.mem

/-- Restores (R428, R433, R434, R437 to R439, R441): manifests and shards are asked for one by one, a shard whose digest agrees lands in its
buffer, and the last one ends the restore. -/
def Obligations.RestoresLandShards : Prop :=
  ∀ (s : State) (r : Requester) (c : Nat) (u : EngineUnit), c < 4 →
    let start : Restore := ⟨s.ck c 0xB, firstGets s c, [], false, none, none, 0, false, []⟩
    let part := (List.range (cairnBytes u.header)).map fun i => u.body.getD i 0
    (Accepted s r (0x6040 + c) 1 1 2 → ∀ w, s.power.state = .up → s.resident c = some w →
      (s.tenantState w ≠ 1 ∨ (s.cairnOf c).started = true ∨ (s.cairnOf c).restore.isSome = true →
        exec (.restoreGeneration r c) s = .next { s with out := .answer r 0x08000022 0 :: s.out }) ∧
      (s.tenantState w = 1 → (s.cairnOf c).started = false → (s.cairnOf c).restore = none →
        ∀ f h, currentGet s c start = some (f, h) → ∃ t, exec (.restoreGeneration r c) s = .next t ∧ t.mem = s.mem ∧
          t.out.head? = some (.answer r 0 0) ∧ t.ck c 0x11 = 4 ∧ (t.cairnOf c).restored = none ∧
          (t.cairnOf c).restore = some { start with asked := holdsCredit s f 1 } ∧
          (holdsCredit s f 1 = true → (t.flow f).issued = unitNext (s.flow f).issued 1) ∧
          (holdsCredit s f 1 = false → t.net = s.net))) ∧
    (∀ x get, restoreOn s u.flow = some (c, x, get) →
      (cairnValid u.header = false → (s.flow u.flow).kind = 6 → (s.flow u.flow).engine = 2 →
        ∀ e ∈ [Instr.dataLast u, .absentAnswer u], exec e s = .next (s.dcount 0x5080 2 1)) ∧
      (cairnValid u.header = true → nameFields u.header ≠ nameFields get →
        ∀ e ∈ [Instr.dataLast u, .absentAnswer u], exec e s = .next s) ∧
      (cairnValid u.header = true → nameFields u.header = nameFields get → 4032 * cairnPiece u.header = x.bytes.length →
        let whole := x.bytes.map (·.1) ++ part
        (cairnOp u.header = 11 → ∃ t y, exec (.dataLast u) s = .next t ∧ t = { s with dict := t.dict, cairn := t.cairn } ∧
          (t.cairnOf c).restore = some y ∧ y.bytes.map (·.1) = whole ∧ y.todo = x.todo ∧ y.shard = x.shard) ∧
        (cairnOp u.header = 12 → ∀ peer parity rest, x.todo = (peer, parity) :: rest → rest ≠ [] →
          ∃ t y, exec (.dataLast u) s = .next t ∧ t.mem = s.mem ∧ (t.cairnOf c).restore = some y ∧ y.todo = rest ∧ y.bytes = [] ∧
            (readManifest whole = none → y.invalid = true ∧ y.found = x.found) ∧
            ∀ m, readManifest whole = some m → y.found = x.found ++ [(peer, m)]) ∧
        (cairnOp u.header = 12 → x.todo = [] → ∀ f, (restorePlan x)[x.shard]? = some f →
          (Config.sha384 whole ≠ f.digest → ∃ t, exec (.dataLast u) s = .next t ∧ RestoreFails s t c) ∧
          (Config.sha384 whole = f.digest → entryKind f.entry = 3 ∨ entryKind f.entry = 4 →
            ((s.ctx c).buffer (entryBuffer f.entry)).cls ≠ 5 →
            let a := ((s.ctx c).buffer (entryBuffer f.entry)).address
            ∃ t, exec (.dataLast u) s = .next t ∧ memRead t.mem a whole.length = whole ∧ MemoryKeptBut s t a whole.length ∧
              (x.shard + 1 < (restorePlan x).length → ∃ y, (t.cairnOf c).restore = some y ∧ y.shard = x.shard + 1 ∧ y.bytes = []) ∧
              ∀ g, x.governing = some g → (restorePlan x).length = x.shard + 1 → (t.cairnOf c).restore = none ∧
                (t.cairnOf c).failed = false ∧
                (t.cairnOf c).restored = some (g.cutBeat, bit g.flags 3, s.dget (0x4030 + c) 5) ∧
                t.dget 0x4020 1 = g.seed ∧ t.ck c 0xE = (g.generation + 1) % 2 ^ 32))) ∧
      (cairnValid u.header = true → cairnOp u.header = 13 → nameFields u.header = nameFields get →
        (x.todo = [] → ∃ t, exec (.absentAnswer u) s = .next t ∧ RestoreFails s t c) ∧
        ∀ e rest, x.todo = e :: rest →
          (rest ≠ [] → ∃ t y, exec (.absentAnswer u) s = .next t ∧ t.mem = s.mem ∧ (t.cairnOf c).restore = some y ∧
            y.todo = rest ∧ y.found = x.found) ∧
          (rest = [] → x.found = [] → ∃ t, exec (.absentAnswer u) s = .next t ∧ RestoreFails s t c))) ∧
    ((s.cairnOf c).restore.isSome = true → ∃ t, exec (.ckptTimeout c) s = .next t ∧ RestoreFails s t c) ∧
    ((s.cairnOf c).restore = none → (s.cairnOf c).drain.isSome = true → ∃ t, exec (.ckptTimeout c) s = .next t ∧
      (t.cairnOf c).drain = none ∧ bit (t.dget 0x50A0 1) 3 = true ∧ t.mem = s.mem ∧
      t.dget 0x50A0 5 = countUp (entryBytes 0x50A0 5) (s.dget 0x50A0 5) 1) ∧
    ((s.cairnOf c).restore = none → (s.cairnOf c).drain = none → exec (.ckptTimeout c) s = .next s)

/-! ## The dictionary paths -/

/-- What the module holds of a client's USDO transfer, and what it has just sent it; all else stays (R506). -/
def UsdoStep (s t : State) (node : Nat) (x : Option Usdo) (o : Out) : Prop :=
  t = { s with garnet := { s.garnet with usdo := t.garnet.usdo }, out := o :: s.out } ∧ kfind t.garnet.usdo node = x

/-- Dictionary writes (R504, R505, R521): the first failing check is answered and nothing else changes; a plain entry takes the value, and
flash with it; one whose flash write fails keeps it. Messages on CAN FD (R506). -/
def Obligations.DictionaryWritesAndCan : Prop :=
  ∀ (s : State) (r : Requester) (idx sub len v node op count command : Nat) (bs : List Byte) (env : DictEnv),
    s.power.state ≠ .off →
    (v < 2 ^ (8 * len) → checkWrite s r idx sub len v ≠ 0 → exec (.dictionaryWrite r idx sub len v env) s =
      .next { s with out := .answer r (checkWrite s r idx sub len v) 0 :: s.out }) ∧
    (v < 2 ^ (8 * len) → sub < 256 → Accepted s r idx sub len v → idx / 0x1000 = 2 → (idx, sub) ≠ (0x2030, 1) → idx ≠ 0x2040 →
      idx ≠ 0x2080 →
      (env.written = true → ∃ t, exec (.dictionaryWrite r idx sub len v env) s = .next t ∧
        t = { s with dict := t.dict, garnet := { s.garnet with flash := t.garnet.flash }, out := .answer r 0 0 :: s.out } ∧
        t.dget idx sub = v ∧ CellsKept s t [(idx, sub)] ∧
        (keyPersist (dictKey idx sub) = .flash → kfind t.garnet.flash (dictKey idx sub) = some v)) ∧
      (env.written = false → keyPersist (dictKey idx sub) = .flash → ∃ t, exec (.dictionaryWrite r idx sub len v env) s = .next t ∧
        t.dget idx sub = s.dget idx sub ∧ t.out = .answer r 0x08000000 0 :: s.out ∧ bit (t.dget 0x50D0 1) 6 = true ∧
        t.garnet.flash = s.garnet.flash)) ∧
    (v < 2 ^ (8 * len) → Accepted s r 0x5020 1 len v → ∃ t, exec (.dictionaryWrite r 0x5020 1 len v env) s = .next t ∧
      t = { s with dict := t.dict, out := .answer r 0 0 :: s.out } ∧ t.dget 0x5020 1 = clearBits (s.dget 0x5020 1) v ∧
      CellsKept s t [(0x5020, 1)]) ∧
    (s.garnet.nmt ≠ 4 → 0 < node → node < 128 →
      (idx ≠ 0x2060 →
        let e := readEntry s (canClient node) idx sub
        e.1 ≠ 0 ∨ e.2.2.1 ≤ 56 → ∃ t, exec (.usdoTransfer node 1 idx sub count bs env) s = .next t ∧
          UsdoStep s t node none (.answer (canClient node) e.1 e.2.1)) ∧
      (∀ x, kfind s.garnet.usdo node = some x → x.download = false → x.count = count →
        ∃ t, exec (.usdoTransfer node 2 idx sub count bs env) s = .next t ∧
          UsdoStep s t node (if x.bytes.length ≤ 60 then none else some { x with count := count + 1, bytes := x.bytes.drop 60 })
            (.usdo node 2 count (x.bytes.take 60))) ∧
      (Accepted s (canClient node) 0x4020 1 bs.length (ofLe bs) → ∃ t, exec (.usdoTransfer node 3 0x4020 1 count bs env) s = .next t ∧
        t.dget 0x4020 1 = ofLe bs ∧ CellsKept s t [(0x4020, 1)] ∧ t.out = .answer (canClient node) 0 0 :: s.out) ∧
      (∃ t, exec (.usdoTransfer node 4 idx sub count bs env) s = .next t ∧
        UsdoStep s t node (some ⟨idx, sub, true, count, 0, []⟩) (.usdo node 3 count [])) ∧
      (∀ x, kfind s.garnet.usdo node = some x → x.download = true → x.count = count → x.bytes.length + bs.length < x.size →
        ∃ t, exec (.usdoTransfer node 5 idx sub count bs env) s = .next t ∧
          UsdoStep s t node (some { x with count := count + 1, bytes := x.bytes ++ bs }) (.usdo node 4 count [])) ∧
      (5 < op → ∃ t, exec (.usdoTransfer node op idx sub count bs env) s = .next t ∧
        UsdoStep s t node none (.answer (canClient node) 0x05040001 0)) ∧
      (∀ x, kfind s.garnet.usdo node = some x → ∃ t, exec (.usdoIdleTimeout node) s = .next t ∧
        UsdoStep s t node none (.answer (canClient node) 0x05040000 0))) ∧
    (node = 0 ∨ node = s.garnet.canNode →
      (command = 1 ∨ command = 2 ∨ command = 128 → exec (.nmtCommand command node) s = .next { s with garnet := { s.garnet with
        nmt := if command = 1 then 5 else if command = 2 then 4 else 127 } }) ∧
      (command = 129 ∨ command = 130 → exec (.nmtCommand command node) s = .next { s with
        garnet := { s.garnet with nmt := 127, usdo := [] }, out := .can 2 0 :: s.out })) ∧
    (s.dget 0x1017 0 ≠ 0 → exec .heartbeat s = .next { s with out := .can 0 s.garnet.nmt :: s.out })

/-- Management datagrams, dictionary windows and the lease (R503, R507 to R510). -/
def Obligations.DatagramsWindowsAndLease : Prop :=
  ∀ (s : State) (r : Requester) (addr port h f session : Nat) (data : List Byte) (env : DictEnv), s.power.state ≠ .off →
    (s.dget 0x2061 1 ≠ 0 →
      let fresh := ∀ k ∈ s.garnet.kept, k.addr = addr → k.port = port → k.session = headSession h → k.sequence ≠ headSequence h
      let client := datagramClient addr port h
      (headValid h [] = false → exec (.datagramRead addr port h) s = .next (s.dcount 0x50D0 4 1)) ∧
      (headValid h [] = true → headOp h = 1 → fresh → headIndex h ≠ 0x2060 → 0 < headLength h →
        let e := readEntry s client (headIndex h) (headSub h)
        let bytes := if e.1 = 0 then ((leBytes e.2.2.1 e.2.1).drop (headOffset h)).take (headLength h) else []
        ∃ t, exec (.datagramRead addr port h) s = .next t ∧
          t = { s with garnet := { s.garnet with kept := t.garnet.kept }
                       out := .datagram addr port (responseHead h e.1 bytes.length) bytes :: s.out }) ∧
      (∀ k ∈ s.garnet.kept, headValid h [] = true → s.garnet.kept = [k] → k.addr = addr → k.port = port →
        k.session = headSession h → k.sequence = headSequence h → ∃ t, exec (.datagramRead addr port h) s = .next t ∧
          t = { s with garnet := t.garnet, out := .datagram addr port k.header k.bytes :: s.out } ∧ t.garnet.kept = [k]) ∧
      (headValid h data = true → headOp h = 2 → fresh → headOffset h = 0 → partialOf s addr port (headSession h) = none →
        (headLast h = true → headIndex h = 0x4020 → headSub h = 1 → Accepted s client 0x4020 1 data.length (ofLe data) →
          ∃ t, exec (.datagramWrite addr port h data env) s = .next t ∧ t.dget 0x4020 1 = ofLe data ∧
            CellsKept s t [(0x4020, 1)] ∧ t.out = .datagram addr port (responseHead h 0 0) [] :: s.out) ∧
        (headLast h = true → checkWrite s client (headIndex h) (headSub h) data.length (ofLe data) ≠ 0 →
          ∃ t, exec (.datagramWrite addr port h data env) s = .next t ∧ t.dict = s.dict ∧ t.mem = s.mem ∧ t.out =
            .datagram addr port (responseHead h (checkWrite s client (headIndex h) (headSub h) data.length (ofLe data)) 0) [] :: s.out) ∧
        (headLast h = false → ∃ t, exec (.datagramWrite addr port h data env) s = .next t ∧ t.dict = s.dict ∧
          partialOf t addr port (headSession h) = some ⟨addr, port, headSession h, headIndex h, headSub h, data⟩ ∧
          t.out = .datagram addr port (responseHead h 0 0) [] :: s.out))) ∧
    (∀ p, partialOf s addr port session = some p → ∃ t, exec (.partialWriteTimeout addr port session) s = .next t ∧
      partialOf t addr port session = none ∧ t.dict = s.dict ∧ t.out = .answer ⟨2, session, addr, port⟩ 0x05040000 0 :: s.out) ∧
    (windowServes s f = true →
      let w := s.dictWindow f
      (w.index ≠ 0x2060 → 0 < w.length → w.length ≤ 1024 →
        let e := readEntry s ⟨3, f, 0, 0⟩ w.index w.sub
        let bytes := ((leBytes e.2.2.1 e.2.1).drop w.offset).take w.length
        ∃ t, exec (.dictCommandRead f) s = .next t ∧ t = { s with garnet := { s.garnet with windows := t.garnet.windows } } ∧
          t.dictWindow f = (if e.1 = 0
            then { w with data := putBits w.data 0 (8 * bytes.length) (ofLe bytes), abort := 0, status := bytes.length }
            else { w with abort := e.1, status := 0 })) ∧
      (∃ t, exec (.dictCommandWriteSegment f) s = .next t ∧ t = { s with garnet := { s.garnet with windows := t.garnet.windows } } ∧
        t.dictWindow f = (if w.follows = true
          then { w with segment := w.segment ++ leBytes w.length w.data, target := w.address, abort := 0 }
          else { w with abort := 0x05040001 })) ∧
      (w.follows = true → w.index = 0x4020 → w.sub = 1 →
        let all := w.segment ++ leBytes w.length w.data
        Accepted s ⟨3, f, 0, 0⟩ 0x4020 1 all.length (ofLe all) → ∃ t, exec (.dictCommandWrite f env) s = .next t ∧
          t.dget 0x4020 1 = ofLe all ∧ CellsKept s t [(0x4020, 1)] ∧ t.dictWindow f = { w with segment := [], abort := 0 }) ∧
      (w.follows = false → ∃ t, exec (.dictCommandWrite f env) s = .next t ∧ t.dict = s.dict ∧ t.mem = s.mem ∧
        t.dictWindow f = { w with abort := 0x05040001 })) ∧
    (s.dget 0x2060 4 = 0 → holdsLease s r = false → ∃ t, exec (.leaseAcquire r) s = .next t ∧
      t.dget 0x2060 4 = holderCode r ∧ t.dget 0x2060 5 = (if r.path = 2 then r.addr else 0) ∧
      t.out = .answer r 0 0 :: s.out ∧ t.mem = s.mem) ∧
    (s.dget 0x2060 4 ≠ 0 → holdsLease s r = false → ∀ command ∈ [Instr.leaseAcquire r, .leaseRelease r],
      exec command s = .next { s with out := .answer r 0 (s.dget 0x2060 4) :: s.out }) ∧
    (s.dget 0x2060 4 ≠ 0 → holdsLease s r = true → exec (.leaseAcquire r) s = .next { s with out := .answer r 0 0 :: s.out } ∧
      ∃ t, exec (.leaseRelease r) s = .next t ∧ t.dget 0x2060 4 = 0 ∧ t.dget 0x2060 5 = 0 ∧
        t.out = .answer r 0 0 :: s.out ∧ t.mem = s.mem) ∧
    (s.dget 0x2060 4 ≠ 0 → ∃ t, exec .leaseExpiry s = .next t ∧ t.dget 0x2060 4 = 0 ∧ bit (t.dget 0x50D0 1) 2 = true ∧
      t.dget 0x50D0 5 = countUp (entryBytes 0x50D0 5) (s.dget 0x50D0 5) 1)

/-! ## Attestation and PCIe -/

/-- The SPDM responder (R584, R587 to R590): one answer to each request that a medium brings, UnsupportedRequest for another version or
slot, and Busy beyond 64 in a second. -/
def Obligations.AttestationAnswers : Prop :=
  ∀ (s : State) (medium target version offset length index nonce second : Nat) (signed : Bool), asks s medium target = true →
    (exec (.getVersion medium target) s = .next { s with out := .attest medium target 1 0 0 [0x12, 0x13] :: s.out }) ∧
    (version = 0x12 ∨ version = 0x13 →
      exec (.getCapabilities medium target version) s = .next { s with out := .attest medium target 2 0 0 [] :: s.out } ∧
      exec (.negotiateAlgorithms medium target version true) s = .next { s with out := .attest medium target 3 0 0 [] :: s.out } ∧
      exec (.getDigests medium target version) s =
        .next { s with out := .attest medium target 4 0 0 (leBytes 48 (Config.sha384 (chainBytes s))) :: s.out } ∧
      exec (.getCertificate medium target version 0 offset length) s =
        .next { s with out := .attest medium target 5 0 offset (((chainBytes s).drop offset).take length) :: s.out } ∧
      (s.garnet.spdmSecond ≠ second ∨ s.garnet.spdmCount < 64 →
        let n := if s.garnet.spdmSecond = second then s.garnet.spdmCount else 0
        let d := leBytes 48 (Config.sha384 (chainBytes s))
        let g := { s.garnet with spdmSecond := second, spdmCount := n + 1 }
        exec (.challenge medium target version 0 nonce second) s = .next { s with
          garnet := g, out := .attest medium target 6 0 nonce (d ++ aliasSigns s (d ++ leBytes 32 nonce)) :: s.out } ∧
        (index ≤ 6 ∨ index = 0xFF → exec (.getMeasurements medium target version index signed nonce second) s = .next { s with
          garnet := g, out := .attest medium target 7 0 index (if signed = true
            then measured s index ++ aliasSigns s (measured s index ++ leBytes 32 nonce) else measured s index) :: s.out })) ∧
      (s.garnet.spdmSecond = second → 64 ≤ s.garnet.spdmCount → exec (.challenge medium target version 0 nonce second) s =
        .next { s with out := .attest medium target 6 2 nonce [] :: s.out })) ∧
    (version ≠ 0x12 → version ≠ 0x13 → exec (.getDigests medium target version) s =
      .next { s with out := .attest medium target 4 1 0 [] :: s.out })

/-- Accesses of a function through an aperture, and its resets (R26 to R29, R487, R510, R562). -/
def Obligations.PcieFunctions : Prop :=
  ∀ (s : State) (f off a n : Nat) (bs : List Byte) (env : DictEnv), windowServes s f = true →
    (apertureAddress s f off = some a → 0 < n → functionReach s f a n = true →
      (squareBase ≤ a ∧ a + n ≤ squareEnd) ∨ (bedrockBase ≤ a ∧ a + n ≤ bedrockTop s ∧ meetsSave s a n = false) →
      (∃ t, exec (.pcieAccess f 2 off n false false bs [] env) s = .next t ∧ t.mem = s.mem ∧
        t.out = .completion f 0 (anyTagged (readTagged s a n)) (memRead s.mem a n) :: s.out ∧ IndexKept s t [0x50E0, 0x50D0]) ∧
      (bs.length = n → (∀ c, c < 4 → (s.cairnOf c).copying = none) →
        ∃ t, exec (.pcieAccess f 2 off n true false bs [] env) s = .next t ∧ t = { s with mem := t.mem, poison := t.poison } ∧
          memRead t.mem a n = bs ∧ MemoryKeptBut s t a n)) ∧
    (apertureAddress s f off = none →
      exec (.pcieAccess f 2 off n true false bs [] env) s = .next s ∧
      exec (.pcieAccess f 2 off n false false bs [] env) s = .next { s with out := .completion f 1 false [] :: s.out }) ∧
    (apertureAddress s f off = some a → bedrockEnd ≤ a → 0 < n → multiTenant s = false → drainedObject s f a n = false →
      ∃ t, exec (.pcieAccess f 2 off n false false bs [] env) s = .next t ∧ t.mem = s.mem ∧ bit (t.dget 0x5001 1) 0 = true ∧
        t.dget 0x5001 2 = countUp (entryBytes 0x5001 2) (s.dget 0x5001 2) 1 ∧ t.out = .completion f 1 false [] :: s.out) ∧
    (∃ t, exec (.functionLevelReset f) s = .next t ∧ (∀ k, k < 8 → t.aperture f k = apertureReset k) ∧
      t.dictWindow f = DictWindow.empty ∧ kget 0 t.staging (2 * f) = 0 ∧ kget 0 t.staging (2 * f + 1) = 0 ∧
      f + 1 ∈ t.mail.asleep ∧ (s.dget 0x2060 4 = 3 * 2 ^ 24 + f → t.dget 0x2060 4 = 0) ∧
      ∀ g, g ≠ f → (∀ k, k < 8 → t.aperture g k = s.aperture g k) ∧ t.dictWindow g = s.dictWindow g ∧
        kget 0 t.staging (2 * g) = kget 0 s.staging (2 * g)) ∧
    ∃ t, exec .pcieHotReset s = .next t ∧ t.power = { s.power with pcieUp := false } ∧ t.net.windows = [] ∧
      t.net.flows = s.net.flows ∧ ∀ g, g < 4 → (∀ k, k < 8 → t.aperture g k = apertureReset k) ∧
        t.dictWindow g = DictWindow.empty ∧ kget 0 t.staging (2 * g) = 0 ∧ g + 1 ∈ t.mail.asleep

/-! ## What every step keeps -/

/-- Device memory keeps its canonical form: addresses strictly rising, and no byte listed that reads as an unlisted one (the model's form of
R22 to R25's memories; assumption 2). -/
def Obligations.MemoryStaysCanonical : Prop :=
  ∀ s t : State, Memory.wf s.mem = true → step s = .next t → Memory.wf t.mem = true

/-- The stored security version never falls, whatever the command (R514). -/
def Obligations.SecurityVersionNeverFalls : Prop :=
  ∀ s t : State, step s = .next t → s.garnet.security ≤ t.garnet.security
end

