-- ==== Sys2Proof/Laws/KMap.lean ====
section
/-! SUPPORT. The sparse tables: a read after an update, and that updates keep the keys strictly rising. -/

namespace Sys2Proof.Machine

variable {α : Type}

/-! ## Reads after updates -/

theorem kfind_cons (i : Nat) (w : α) (r : List (Nat × α)) (j : Nat) :
    kfind ((i, w) :: r) j = if i = j then some w else kfind r j := rfl

theorem kfind_kset (m : List (Nat × α)) (k j : Nat) (v : α) : kfind (kset m k v) j = if k = j then some v else kfind m j := by
  induction m with
  | nil => rfl
  | cons e r ih =>
    obtain ⟨i, w⟩ := e
    simp only [kset]
    split
    · exact kfind_cons k v _ j
    · split
      · rename_i h
        subst h
        rw [kfind_cons, kfind_cons]
        split <;> rfl
      · rename_i h
        rw [kfind_cons, kfind_cons, ih]
        by_cases hi : i = j
        · rw [if_pos hi, if_pos hi, if_neg (fun e => h (e.trans hi.symm))]
        · rw [if_neg hi, if_neg hi]

@[simp] theorem kfind_kset_same (m : List (Nat × α)) (k : Nat) (v : α) : kfind (kset m k v) k = some v := by
  simp [kfind_kset]

theorem kfind_kset_other (m : List (Nat × α)) {k j : Nat} (v : α) (h : j ≠ k) : kfind (kset m k v) j = kfind m j := by
  rw [kfind_kset, if_neg (Ne.symm h)]

theorem kfind_filter (m : List (Nat × α)) (p : Nat → Bool) (j : Nat) :
    kfind (m.filter fun e => p e.1) j = if p j then kfind m j else none := by
  induction m with
  | nil => exact (ite_self none).symm
  | cons e r ih =>
    obtain ⟨i, w⟩ := e
    by_cases h : p i = true
    · rw [List.filter_cons_of_pos (by exact h), kfind_cons, kfind_cons, ih]
      by_cases hi : i = j
      · subst hi; rw [if_pos rfl, if_pos rfl, if_pos h]
      · rw [if_neg hi, if_neg hi]
    · rw [List.filter_cons_of_neg (by exact h), kfind_cons, ih]
      by_cases hi : i = j
      · subst hi; rw [if_neg h, if_neg h]
      · rw [if_neg hi]

theorem kfind_kerase (m : List (Nat × α)) (k j : Nat) : kfind (kerase m k) j = if k = j then none else kfind m j := by
  rw [kerase, kfind_filter m (fun i => i != k) j]
  by_cases e : k = j
  · subst e; simp
  · rw [if_neg e, if_pos (by simpa using Ne.symm e)]

theorem kget_kset (d : α) (m : List (Nat × α)) (k j : Nat) (v : α) : kget d (kset m k v) j = if k = j then v else kget d m j := by
  simp only [kget, kfind_kset]; split <;> rfl

/-- A canonical update reads back, and every other key reads as before. -/
theorem kget_kput [DecidableEq α] (d : α) (m : List (Nat × α)) (k j : Nat) (v : α) :
    kget d (kput d m k v) j = if k = j then v else kget d m j := by
  unfold kput
  split
  · subst_vars; simp only [kget, kfind_kerase]; split <;> simp
  · exact kget_kset d m k j v

@[simp] theorem kget_kput_same [DecidableEq α] (d : α) (m : List (Nat × α)) (k : Nat) (v : α) : kget d (kput d m k v) k = v := by
  simp [kget_kput]

/-! ## Keys strictly rising -/

theorem ksorted_cons (j : Nat) (v : α) (r : List (Nat × α)) :
    ksorted ((j, v) :: r) = true ↔ (∀ e ∈ r, j < e.1) ∧ ksorted r = true := by
  induction r generalizing j v with
  | nil => simp [ksorted]
  | cons e r ih =>
    obtain ⟨k, w⟩ := e
    simp only [ksorted, Bool.and_eq_true, decide_eq_true_eq, List.mem_cons, forall_eq_or_imp]
    constructor
    · rintro ⟨h, s⟩
      exact ⟨⟨h, fun e m => h.trans (((ih k w).1 s).1 e m)⟩, s⟩
    · rintro ⟨⟨h, -⟩, s⟩
      exact ⟨h, s⟩

theorem ksorted_filter (m : List (Nat × α)) (p : Nat × α → Bool) (h : ksorted m = true) : ksorted (m.filter p) = true := by
  induction m with
  | nil => rfl
  | cons e r ih =>
    obtain ⟨k, w⟩ := e
    rw [ksorted_cons] at h
    simp only [List.filter_cons]
    split
    · rw [ksorted_cons]
      exact ⟨fun e m => h.1 e (List.mem_of_mem_filter m), ih h.2⟩
    · exact ih h.2

theorem mem_kset {m : List (Nat × α)} {k : Nat} {v : α} {e : Nat × α} (h : e ∈ kset m k v) : e = (k, v) ∨ e ∈ m := by
  induction m with
  | nil => simpa [kset] using h
  | cons x r ih =>
    obtain ⟨i, w⟩ := x
    simp only [kset] at h
    split at h
    · simpa using h
    · split at h
      · rcases List.mem_cons.1 h with h | h
        · exact .inl h
        · exact .inr (List.mem_cons_of_mem _ h)
      · rcases List.mem_cons.1 h with h | h
        · exact .inr (h ▸ List.mem_cons_self)
        · exact (ih h).imp id (List.mem_cons_of_mem _)

theorem ksorted_kset (m : List (Nat × α)) (k : Nat) (v : α) (h : ksorted m = true) : ksorted (kset m k v) = true := by
  induction m with
  | nil => rfl
  | cons e r ih =>
    obtain ⟨i, w⟩ := e
    have hs := (ksorted_cons i w r).1 h
    simp only [kset]
    split
    · rename_i lt
      rw [ksorted_cons]
      refine ⟨fun e m => ?_, h⟩
      rcases List.mem_cons.1 m with rfl | m
      · exact lt
      · exact lt.trans (hs.1 e m)
    · split
      · rename_i eq; subst eq
        exact (ksorted_cons _ _ _).2 hs
      · rename_i n e
        rw [ksorted_cons]
        refine ⟨fun x m => ?_, ih hs.2⟩
        rcases mem_kset m with rfl | m
        · exact lt_of_le_of_ne (not_lt.1 n) (Ne.symm e)
        · exact hs.1 x m

theorem ksorted_kerase (m : List (Nat × α)) (k : Nat) (h : ksorted m = true) : ksorted (kerase m k) = true :=
  ksorted_filter m _ h

theorem ksorted_kput [DecidableEq α] (d : α) (m : List (Nat × α)) (k : Nat) (v : α) (h : ksorted m = true) :
    ksorted (kput d m k v) = true := by
  unfold kput; split
  · exact ksorted_kerase m k h
  · exact ksorted_kset m k v h

end Sys2Proof.Machine
end

