-- ==== Sys2Proof/Laws/Memory.lean ====
section
/-! SUPPORT. Device memory: every operation keeps the canonical form, a read after a write gives what was written, and every other
byte reads as before. -/

namespace Sys2Proof.Machine

/-! ## The canonical form -/

theorem reset_memory_wf : Memory.wf State.reset.mem = true := rfl

theorem Memory.wf_iff (m : List Host.Cell) : Memory.wf m = true ↔ ksorted m = true ∧ ∀ e ∈ m, e.2 ≠ memBlank := by
  simp [Memory.wf, List.all_eq_true]

theorem Memory.wf_filter (m : List Host.Cell) (p : Host.Cell → Bool) (h : Memory.wf m = true) : Memory.wf (m.filter p) = true := by
  rw [Memory.wf_iff] at *
  exact ⟨ksorted_filter m p h.1, fun e he => h.2 e (List.mem_of_mem_filter he)⟩

/-- One byte written: the canonical form stands. -/
theorem memPut_wf (m : List Host.Cell) (a : Nat) (b : Byte) (h : Memory.wf m = true) : Memory.wf (memPut m a b) = true := by
  unfold memPut kput
  split
  · exact Memory.wf_filter m _ h
  · rename_i n
    rw [Memory.wf_iff] at *
    refine ⟨ksorted_kset m a b h.1, fun e he => ?_⟩
    rcases mem_kset he with rfl | he
    · exact n
    · exact h.2 e he

theorem memWrite_wf (m : List Host.Cell) (a : Nat) (bs : List Byte) (h : Memory.wf m = true) : Memory.wf (memWrite m a bs) = true := by
  induction bs generalizing m a with
  | nil => exact h
  | cons b r ih => exact ih _ _ (memPut_wf m a b h)

theorem memErase_wf (m : List Host.Cell) (a n : Nat) (h : Memory.wf m = true) : Memory.wf (memErase m a n) = true :=
  Memory.wf_filter m _ h

/-- Bytes placed one by one from a list. -/
theorem memPut_foldl_wf {β : Type} (l : List β) (f : β → Nat) (g : β → Byte) (m : List Host.Cell) (h : Memory.wf m = true) :
    Memory.wf (l.foldl (fun m e => memPut m (f e) (g e)) m) = true := by
  induction l generalizing m with
  | nil => exact h
  | cons e r ih => exact ih _ (memPut_wf m _ _ h)

theorem writeTagged_wf (s : State) (a : Nat) (bs : List TByte) (h : Memory.wf s.mem = true) :
    Memory.wf (writeTagged s a bs).mem = true := memWrite_wf _ _ _ h

theorem writeBytes_wf (s : State) (a : Nat) (bs : List Byte) (h : Memory.wf s.mem = true) :
    Memory.wf (writeBytes s a bs).mem = true := writeTagged_wf s a _ h

theorem eraseBytes_wf (s : State) (a n : Nat) (h : Memory.wf s.mem = true) : Memory.wf (eraseBytes s a n).mem = true :=
  memErase_wf _ _ _ h

/-! ## Reads after writes -/

theorem memByte_memPut (m : List Host.Cell) (a x : Nat) (b : Byte) : memByte (memPut m a b) x = if a = x then b else memByte m x :=
  kget_kput memBlank m a x b

/-- A write is read back within its range, and every other byte reads as before. -/
theorem memByte_memWrite (m : List Host.Cell) (a x : Nat) (bs : List Byte) :
    memByte (memWrite m a bs) x = if a ≤ x ∧ x < a + bs.length then bs.getD (x - a) 0 else memByte m x := by
  induction bs generalizing m a with
  | nil => simp only [memWrite, List.length_nil, Nat.add_zero]; rw [if_neg (by omega)]
  | cons b r ih =>
    simp only [memWrite, ih, memByte_memPut, List.length_cons]
    by_cases h : a = x
    · subst h
      rw [if_neg (by omega), if_pos rfl, if_pos (by omega)]
      simp
    · by_cases g : a + 1 ≤ x ∧ x < a + 1 + r.length
      · rw [if_pos g, if_pos (by omega)]
        obtain ⟨d, rfl⟩ := Nat.exists_eq_add_of_le g.1
        rw [show a + 1 + d - a = d + 1 by omega, show a + 1 + d - (a + 1) = d by omega]
        simp
      · rw [if_neg g, if_neg h, if_neg (by omega)]

theorem memByte_memWrite_other (m : List Host.Cell) {a x : Nat} (bs : List Byte) (h : x < a ∨ a + bs.length ≤ x) :
    memByte (memWrite m a bs) x = memByte m x := by
  rw [memByte_memWrite, if_neg (by omega)]

theorem memByte_memErase (m : List Host.Cell) (a n x : Nat) :
    memByte (memErase m a n) x = if a ≤ x ∧ x < a + n then memBlank else memByte m x := by
  have h := kfind_filter m (fun k => decide (k < a) || decide (a + n ≤ k)) x
  simp only [memByte, kget, memErase]
  rw [h]
  by_cases e : x < a ∨ a + n ≤ x
  · have : (decide (x < a) || decide (a + n ≤ x)) = true := by simpa using e
    rw [if_pos this, if_neg (by omega)]
  · have : (decide (x < a) || decide (a + n ≤ x)) = false := by simpa using e
    rw [if_neg (by rw [this]; decide), if_pos (by omega)]; rfl

/-- The bytes just written are read back. -/
theorem memRead_memWrite (m : List Host.Cell) (a : Nat) (bs : List Byte) : memRead (memWrite m a bs) a bs.length = bs := by
  apply List.ext_getElem
  · simp [memRead, rangeFrom]
  · intro i h1 h2
    simp only [memRead, rangeFrom, List.getElem_map, List.getElem_range, memByte_memWrite]
    rw [if_pos (by omega)]
    simp [h2]

end Sys2Proof.Machine
end

