-- ==== Sys2Proof/Laws/State.lean ====
section
/-! SUPPORT. One lemma per field per update of the state: what each named update leaves, true by unfolding it, and what its own field
reads after it. -/

namespace Sys2Proof.Machine

variable (s : State)

/-! ## dset -/

@[simp] theorem State.dset_pending (idx sub v : Nat) : (State.dset s idx sub v).pending = s.pending := rfl
@[simp] theorem State.dset_out (idx sub v : Nat) : (State.dset s idx sub v).out = s.out := rfl
@[simp] theorem State.dset_freeCount (idx sub v : Nat) : (State.dset s idx sub v).freeCount = s.freeCount := rfl
@[simp] theorem State.dset_power (idx sub v : Nat) : (State.dset s idx sub v).power = s.power := rfl
@[simp] theorem State.dset_garnet (idx sub v : Nat) : (State.dset s idx sub v).garnet = s.garnet := rfl
@[simp] theorem State.dset_mail (idx sub v : Nat) : (State.dset s idx sub v).mail = s.mail := rfl
@[simp] theorem State.dset_quartz (idx sub v : Nat) : (State.dset s idx sub v).quartz = s.quartz := rfl
@[simp] theorem State.dset_net (idx sub v : Nat) : (State.dset s idx sub v).net = s.net := rfl
@[simp] theorem State.dset_zoning (idx sub v : Nat) : (State.dset s idx sub v).zoning = s.zoning := rfl
@[simp] theorem State.dset_blocks (idx sub v : Nat) : (State.dset s idx sub v).blocks = s.blocks := rfl
@[simp] theorem State.dset_plaza (idx sub v : Nat) : (State.dset s idx sub v).plaza = s.plaza := rfl
@[simp] theorem State.dset_contexts (idx sub v : Nat) : (State.dset s idx sub v).contexts = s.contexts := rfl
@[simp] theorem State.dset_cairn (idx sub v : Nat) : (State.dset s idx sub v).cairn = s.cairn := rfl
@[simp] theorem State.dset_parked (idx sub v : Nat) : (State.dset s idx sub v).parked = s.parked := rfl
@[simp] theorem State.dset_tenancy (idx sub v : Nat) : (State.dset s idx sub v).tenancy = s.tenancy := rfl
@[simp] theorem State.dset_sets (idx sub v : Nat) : (State.dset s idx sub v).sets = s.sets := rfl
@[simp] theorem State.dset_staging (idx sub v : Nat) : (State.dset s idx sub v).staging = s.staging := rfl
@[simp] theorem State.dset_sampled (idx sub v : Nat) : (State.dset s idx sub v).sampled = s.sampled := rfl
@[simp] theorem State.dset_mem (idx sub v : Nat) : (State.dset s idx sub v).mem = s.mem := rfl
@[simp] theorem State.dset_poison (idx sub v : Nat) : (State.dset s idx sub v).poison = s.poison := rfl

/-! ## dclear -/

@[simp] theorem State.dclear_pending (idx sub : Nat) : (State.dclear s idx sub).pending = s.pending := rfl
@[simp] theorem State.dclear_out (idx sub : Nat) : (State.dclear s idx sub).out = s.out := rfl
@[simp] theorem State.dclear_freeCount (idx sub : Nat) : (State.dclear s idx sub).freeCount = s.freeCount := rfl
@[simp] theorem State.dclear_power (idx sub : Nat) : (State.dclear s idx sub).power = s.power := rfl
@[simp] theorem State.dclear_garnet (idx sub : Nat) : (State.dclear s idx sub).garnet = s.garnet := rfl
@[simp] theorem State.dclear_mail (idx sub : Nat) : (State.dclear s idx sub).mail = s.mail := rfl
@[simp] theorem State.dclear_quartz (idx sub : Nat) : (State.dclear s idx sub).quartz = s.quartz := rfl
@[simp] theorem State.dclear_net (idx sub : Nat) : (State.dclear s idx sub).net = s.net := rfl
@[simp] theorem State.dclear_zoning (idx sub : Nat) : (State.dclear s idx sub).zoning = s.zoning := rfl
@[simp] theorem State.dclear_blocks (idx sub : Nat) : (State.dclear s idx sub).blocks = s.blocks := rfl
@[simp] theorem State.dclear_plaza (idx sub : Nat) : (State.dclear s idx sub).plaza = s.plaza := rfl
@[simp] theorem State.dclear_contexts (idx sub : Nat) : (State.dclear s idx sub).contexts = s.contexts := rfl
@[simp] theorem State.dclear_cairn (idx sub : Nat) : (State.dclear s idx sub).cairn = s.cairn := rfl
@[simp] theorem State.dclear_parked (idx sub : Nat) : (State.dclear s idx sub).parked = s.parked := rfl
@[simp] theorem State.dclear_tenancy (idx sub : Nat) : (State.dclear s idx sub).tenancy = s.tenancy := rfl
@[simp] theorem State.dclear_sets (idx sub : Nat) : (State.dclear s idx sub).sets = s.sets := rfl
@[simp] theorem State.dclear_staging (idx sub : Nat) : (State.dclear s idx sub).staging = s.staging := rfl
@[simp] theorem State.dclear_sampled (idx sub : Nat) : (State.dclear s idx sub).sampled = s.sampled := rfl
@[simp] theorem State.dclear_mem (idx sub : Nat) : (State.dclear s idx sub).mem = s.mem := rfl
@[simp] theorem State.dclear_poison (idx sub : Nat) : (State.dclear s idx sub).poison = s.poison := rfl

/-! ## dcount -/

@[simp] theorem State.dcount_pending (idx sub n : Nat) : (State.dcount s idx sub n).pending = s.pending := rfl
@[simp] theorem State.dcount_out (idx sub n : Nat) : (State.dcount s idx sub n).out = s.out := rfl
@[simp] theorem State.dcount_freeCount (idx sub n : Nat) : (State.dcount s idx sub n).freeCount = s.freeCount := rfl
@[simp] theorem State.dcount_power (idx sub n : Nat) : (State.dcount s idx sub n).power = s.power := rfl
@[simp] theorem State.dcount_garnet (idx sub n : Nat) : (State.dcount s idx sub n).garnet = s.garnet := rfl
@[simp] theorem State.dcount_mail (idx sub n : Nat) : (State.dcount s idx sub n).mail = s.mail := rfl
@[simp] theorem State.dcount_quartz (idx sub n : Nat) : (State.dcount s idx sub n).quartz = s.quartz := rfl
@[simp] theorem State.dcount_net (idx sub n : Nat) : (State.dcount s idx sub n).net = s.net := rfl
@[simp] theorem State.dcount_zoning (idx sub n : Nat) : (State.dcount s idx sub n).zoning = s.zoning := rfl
@[simp] theorem State.dcount_blocks (idx sub n : Nat) : (State.dcount s idx sub n).blocks = s.blocks := rfl
@[simp] theorem State.dcount_plaza (idx sub n : Nat) : (State.dcount s idx sub n).plaza = s.plaza := rfl
@[simp] theorem State.dcount_contexts (idx sub n : Nat) : (State.dcount s idx sub n).contexts = s.contexts := rfl
@[simp] theorem State.dcount_cairn (idx sub n : Nat) : (State.dcount s idx sub n).cairn = s.cairn := rfl
@[simp] theorem State.dcount_parked (idx sub n : Nat) : (State.dcount s idx sub n).parked = s.parked := rfl
@[simp] theorem State.dcount_tenancy (idx sub n : Nat) : (State.dcount s idx sub n).tenancy = s.tenancy := rfl
@[simp] theorem State.dcount_sets (idx sub n : Nat) : (State.dcount s idx sub n).sets = s.sets := rfl
@[simp] theorem State.dcount_staging (idx sub n : Nat) : (State.dcount s idx sub n).staging = s.staging := rfl
@[simp] theorem State.dcount_sampled (idx sub n : Nat) : (State.dcount s idx sub n).sampled = s.sampled := rfl
@[simp] theorem State.dcount_mem (idx sub n : Nat) : (State.dcount s idx sub n).mem = s.mem := rfl
@[simp] theorem State.dcount_poison (idx sub n : Nat) : (State.dcount s idx sub n).poison = s.poison := rfl

/-! ## setPower -/

@[simp] theorem State.setPower_pending (f : Power → Power) : (State.setPower s f).pending = s.pending := rfl
@[simp] theorem State.setPower_out (f : Power → Power) : (State.setPower s f).out = s.out := rfl
@[simp] theorem State.setPower_freeCount (f : Power → Power) : (State.setPower s f).freeCount = s.freeCount := rfl
@[simp] theorem State.setPower_dict (f : Power → Power) : (State.setPower s f).dict = s.dict := rfl
@[simp] theorem State.setPower_garnet (f : Power → Power) : (State.setPower s f).garnet = s.garnet := rfl
@[simp] theorem State.setPower_mail (f : Power → Power) : (State.setPower s f).mail = s.mail := rfl
@[simp] theorem State.setPower_quartz (f : Power → Power) : (State.setPower s f).quartz = s.quartz := rfl
@[simp] theorem State.setPower_net (f : Power → Power) : (State.setPower s f).net = s.net := rfl
@[simp] theorem State.setPower_zoning (f : Power → Power) : (State.setPower s f).zoning = s.zoning := rfl
@[simp] theorem State.setPower_blocks (f : Power → Power) : (State.setPower s f).blocks = s.blocks := rfl
@[simp] theorem State.setPower_plaza (f : Power → Power) : (State.setPower s f).plaza = s.plaza := rfl
@[simp] theorem State.setPower_contexts (f : Power → Power) : (State.setPower s f).contexts = s.contexts := rfl
@[simp] theorem State.setPower_cairn (f : Power → Power) : (State.setPower s f).cairn = s.cairn := rfl
@[simp] theorem State.setPower_parked (f : Power → Power) : (State.setPower s f).parked = s.parked := rfl
@[simp] theorem State.setPower_tenancy (f : Power → Power) : (State.setPower s f).tenancy = s.tenancy := rfl
@[simp] theorem State.setPower_sets (f : Power → Power) : (State.setPower s f).sets = s.sets := rfl
@[simp] theorem State.setPower_staging (f : Power → Power) : (State.setPower s f).staging = s.staging := rfl
@[simp] theorem State.setPower_sampled (f : Power → Power) : (State.setPower s f).sampled = s.sampled := rfl
@[simp] theorem State.setPower_mem (f : Power → Power) : (State.setPower s f).mem = s.mem := rfl
@[simp] theorem State.setPower_poison (f : Power → Power) : (State.setPower s f).poison = s.poison := rfl

/-! ## setGarnet -/

@[simp] theorem State.setGarnet_pending (f : Garnet → Garnet) : (State.setGarnet s f).pending = s.pending := rfl
@[simp] theorem State.setGarnet_out (f : Garnet → Garnet) : (State.setGarnet s f).out = s.out := rfl
@[simp] theorem State.setGarnet_freeCount (f : Garnet → Garnet) : (State.setGarnet s f).freeCount = s.freeCount := rfl
@[simp] theorem State.setGarnet_dict (f : Garnet → Garnet) : (State.setGarnet s f).dict = s.dict := rfl
@[simp] theorem State.setGarnet_power (f : Garnet → Garnet) : (State.setGarnet s f).power = s.power := rfl
@[simp] theorem State.setGarnet_mail (f : Garnet → Garnet) : (State.setGarnet s f).mail = s.mail := rfl
@[simp] theorem State.setGarnet_quartz (f : Garnet → Garnet) : (State.setGarnet s f).quartz = s.quartz := rfl
@[simp] theorem State.setGarnet_net (f : Garnet → Garnet) : (State.setGarnet s f).net = s.net := rfl
@[simp] theorem State.setGarnet_zoning (f : Garnet → Garnet) : (State.setGarnet s f).zoning = s.zoning := rfl
@[simp] theorem State.setGarnet_blocks (f : Garnet → Garnet) : (State.setGarnet s f).blocks = s.blocks := rfl
@[simp] theorem State.setGarnet_plaza (f : Garnet → Garnet) : (State.setGarnet s f).plaza = s.plaza := rfl
@[simp] theorem State.setGarnet_contexts (f : Garnet → Garnet) : (State.setGarnet s f).contexts = s.contexts := rfl
@[simp] theorem State.setGarnet_cairn (f : Garnet → Garnet) : (State.setGarnet s f).cairn = s.cairn := rfl
@[simp] theorem State.setGarnet_parked (f : Garnet → Garnet) : (State.setGarnet s f).parked = s.parked := rfl
@[simp] theorem State.setGarnet_tenancy (f : Garnet → Garnet) : (State.setGarnet s f).tenancy = s.tenancy := rfl
@[simp] theorem State.setGarnet_sets (f : Garnet → Garnet) : (State.setGarnet s f).sets = s.sets := rfl
@[simp] theorem State.setGarnet_staging (f : Garnet → Garnet) : (State.setGarnet s f).staging = s.staging := rfl
@[simp] theorem State.setGarnet_sampled (f : Garnet → Garnet) : (State.setGarnet s f).sampled = s.sampled := rfl
@[simp] theorem State.setGarnet_mem (f : Garnet → Garnet) : (State.setGarnet s f).mem = s.mem := rfl
@[simp] theorem State.setGarnet_poison (f : Garnet → Garnet) : (State.setGarnet s f).poison = s.poison := rfl

/-! ## emit -/

@[simp] theorem State.emit_pending (o : Out) : (State.emit s o).pending = s.pending := rfl
@[simp] theorem State.emit_freeCount (o : Out) : (State.emit s o).freeCount = s.freeCount := rfl
@[simp] theorem State.emit_dict (o : Out) : (State.emit s o).dict = s.dict := rfl
@[simp] theorem State.emit_power (o : Out) : (State.emit s o).power = s.power := rfl
@[simp] theorem State.emit_garnet (o : Out) : (State.emit s o).garnet = s.garnet := rfl
@[simp] theorem State.emit_mail (o : Out) : (State.emit s o).mail = s.mail := rfl
@[simp] theorem State.emit_quartz (o : Out) : (State.emit s o).quartz = s.quartz := rfl
@[simp] theorem State.emit_net (o : Out) : (State.emit s o).net = s.net := rfl
@[simp] theorem State.emit_zoning (o : Out) : (State.emit s o).zoning = s.zoning := rfl
@[simp] theorem State.emit_blocks (o : Out) : (State.emit s o).blocks = s.blocks := rfl
@[simp] theorem State.emit_plaza (o : Out) : (State.emit s o).plaza = s.plaza := rfl
@[simp] theorem State.emit_contexts (o : Out) : (State.emit s o).contexts = s.contexts := rfl
@[simp] theorem State.emit_cairn (o : Out) : (State.emit s o).cairn = s.cairn := rfl
@[simp] theorem State.emit_parked (o : Out) : (State.emit s o).parked = s.parked := rfl
@[simp] theorem State.emit_tenancy (o : Out) : (State.emit s o).tenancy = s.tenancy := rfl
@[simp] theorem State.emit_sets (o : Out) : (State.emit s o).sets = s.sets := rfl
@[simp] theorem State.emit_staging (o : Out) : (State.emit s o).staging = s.staging := rfl
@[simp] theorem State.emit_sampled (o : Out) : (State.emit s o).sampled = s.sampled := rfl
@[simp] theorem State.emit_mem (o : Out) : (State.emit s o).mem = s.mem := rfl
@[simp] theorem State.emit_poison (o : Out) : (State.emit s o).poison = s.poison := rfl

/-! ## setBlock -/

@[simp] theorem State.setBlock_pending (p : Nat) (f : Block → Block) : (State.setBlock s p f).pending = s.pending := rfl
@[simp] theorem State.setBlock_out (p : Nat) (f : Block → Block) : (State.setBlock s p f).out = s.out := rfl
@[simp] theorem State.setBlock_freeCount (p : Nat) (f : Block → Block) : (State.setBlock s p f).freeCount = s.freeCount := rfl
@[simp] theorem State.setBlock_dict (p : Nat) (f : Block → Block) : (State.setBlock s p f).dict = s.dict := rfl
@[simp] theorem State.setBlock_power (p : Nat) (f : Block → Block) : (State.setBlock s p f).power = s.power := rfl
@[simp] theorem State.setBlock_garnet (p : Nat) (f : Block → Block) : (State.setBlock s p f).garnet = s.garnet := rfl
@[simp] theorem State.setBlock_mail (p : Nat) (f : Block → Block) : (State.setBlock s p f).mail = s.mail := rfl
@[simp] theorem State.setBlock_quartz (p : Nat) (f : Block → Block) : (State.setBlock s p f).quartz = s.quartz := rfl
@[simp] theorem State.setBlock_net (p : Nat) (f : Block → Block) : (State.setBlock s p f).net = s.net := rfl
@[simp] theorem State.setBlock_zoning (p : Nat) (f : Block → Block) : (State.setBlock s p f).zoning = s.zoning := rfl
@[simp] theorem State.setBlock_plaza (p : Nat) (f : Block → Block) : (State.setBlock s p f).plaza = s.plaza := rfl
@[simp] theorem State.setBlock_contexts (p : Nat) (f : Block → Block) : (State.setBlock s p f).contexts = s.contexts := rfl
@[simp] theorem State.setBlock_cairn (p : Nat) (f : Block → Block) : (State.setBlock s p f).cairn = s.cairn := rfl
@[simp] theorem State.setBlock_parked (p : Nat) (f : Block → Block) : (State.setBlock s p f).parked = s.parked := rfl
@[simp] theorem State.setBlock_tenancy (p : Nat) (f : Block → Block) : (State.setBlock s p f).tenancy = s.tenancy := rfl
@[simp] theorem State.setBlock_sets (p : Nat) (f : Block → Block) : (State.setBlock s p f).sets = s.sets := rfl
@[simp] theorem State.setBlock_staging (p : Nat) (f : Block → Block) : (State.setBlock s p f).staging = s.staging := rfl
@[simp] theorem State.setBlock_sampled (p : Nat) (f : Block → Block) : (State.setBlock s p f).sampled = s.sampled := rfl
@[simp] theorem State.setBlock_mem (p : Nat) (f : Block → Block) : (State.setBlock s p f).mem = s.mem := rfl
@[simp] theorem State.setBlock_poison (p : Nat) (f : Block → Block) : (State.setBlock s p f).poison = s.poison := rfl

/-! ## setCtx -/

@[simp] theorem State.setCtx_pending (c : Nat) (f : Ctx → Ctx) : (State.setCtx s c f).pending = s.pending := rfl
@[simp] theorem State.setCtx_out (c : Nat) (f : Ctx → Ctx) : (State.setCtx s c f).out = s.out := rfl
@[simp] theorem State.setCtx_freeCount (c : Nat) (f : Ctx → Ctx) : (State.setCtx s c f).freeCount = s.freeCount := rfl
@[simp] theorem State.setCtx_dict (c : Nat) (f : Ctx → Ctx) : (State.setCtx s c f).dict = s.dict := rfl
@[simp] theorem State.setCtx_power (c : Nat) (f : Ctx → Ctx) : (State.setCtx s c f).power = s.power := rfl
@[simp] theorem State.setCtx_garnet (c : Nat) (f : Ctx → Ctx) : (State.setCtx s c f).garnet = s.garnet := rfl
@[simp] theorem State.setCtx_mail (c : Nat) (f : Ctx → Ctx) : (State.setCtx s c f).mail = s.mail := rfl
@[simp] theorem State.setCtx_quartz (c : Nat) (f : Ctx → Ctx) : (State.setCtx s c f).quartz = s.quartz := rfl
@[simp] theorem State.setCtx_net (c : Nat) (f : Ctx → Ctx) : (State.setCtx s c f).net = s.net := rfl
@[simp] theorem State.setCtx_zoning (c : Nat) (f : Ctx → Ctx) : (State.setCtx s c f).zoning = s.zoning := rfl
@[simp] theorem State.setCtx_blocks (c : Nat) (f : Ctx → Ctx) : (State.setCtx s c f).blocks = s.blocks := rfl
@[simp] theorem State.setCtx_plaza (c : Nat) (f : Ctx → Ctx) : (State.setCtx s c f).plaza = s.plaza := rfl
@[simp] theorem State.setCtx_cairn (c : Nat) (f : Ctx → Ctx) : (State.setCtx s c f).cairn = s.cairn := rfl
@[simp] theorem State.setCtx_parked (c : Nat) (f : Ctx → Ctx) : (State.setCtx s c f).parked = s.parked := rfl
@[simp] theorem State.setCtx_tenancy (c : Nat) (f : Ctx → Ctx) : (State.setCtx s c f).tenancy = s.tenancy := rfl
@[simp] theorem State.setCtx_sets (c : Nat) (f : Ctx → Ctx) : (State.setCtx s c f).sets = s.sets := rfl
@[simp] theorem State.setCtx_staging (c : Nat) (f : Ctx → Ctx) : (State.setCtx s c f).staging = s.staging := rfl
@[simp] theorem State.setCtx_sampled (c : Nat) (f : Ctx → Ctx) : (State.setCtx s c f).sampled = s.sampled := rfl
@[simp] theorem State.setCtx_mem (c : Nat) (f : Ctx → Ctx) : (State.setCtx s c f).mem = s.mem := rfl
@[simp] theorem State.setCtx_poison (c : Nat) (f : Ctx → Ctx) : (State.setCtx s c f).poison = s.poison := rfl

/-! ## setCairn -/

@[simp] theorem State.setCairn_pending (c : Nat) (f : Cairn → Cairn) : (State.setCairn s c f).pending = s.pending := rfl
@[simp] theorem State.setCairn_out (c : Nat) (f : Cairn → Cairn) : (State.setCairn s c f).out = s.out := rfl
@[simp] theorem State.setCairn_freeCount (c : Nat) (f : Cairn → Cairn) : (State.setCairn s c f).freeCount = s.freeCount := rfl
@[simp] theorem State.setCairn_power (c : Nat) (f : Cairn → Cairn) : (State.setCairn s c f).power = s.power := rfl
@[simp] theorem State.setCairn_garnet (c : Nat) (f : Cairn → Cairn) : (State.setCairn s c f).garnet = s.garnet := rfl
@[simp] theorem State.setCairn_mail (c : Nat) (f : Cairn → Cairn) : (State.setCairn s c f).mail = s.mail := rfl
@[simp] theorem State.setCairn_quartz (c : Nat) (f : Cairn → Cairn) : (State.setCairn s c f).quartz = s.quartz := rfl
@[simp] theorem State.setCairn_net (c : Nat) (f : Cairn → Cairn) : (State.setCairn s c f).net = s.net := rfl
@[simp] theorem State.setCairn_zoning (c : Nat) (f : Cairn → Cairn) : (State.setCairn s c f).zoning = s.zoning := rfl
@[simp] theorem State.setCairn_blocks (c : Nat) (f : Cairn → Cairn) : (State.setCairn s c f).blocks = s.blocks := rfl
@[simp] theorem State.setCairn_plaza (c : Nat) (f : Cairn → Cairn) : (State.setCairn s c f).plaza = s.plaza := rfl
@[simp] theorem State.setCairn_contexts (c : Nat) (f : Cairn → Cairn) : (State.setCairn s c f).contexts = s.contexts := rfl
@[simp] theorem State.setCairn_parked (c : Nat) (f : Cairn → Cairn) : (State.setCairn s c f).parked = s.parked := rfl
@[simp] theorem State.setCairn_tenancy (c : Nat) (f : Cairn → Cairn) : (State.setCairn s c f).tenancy = s.tenancy := rfl
@[simp] theorem State.setCairn_sets (c : Nat) (f : Cairn → Cairn) : (State.setCairn s c f).sets = s.sets := rfl
@[simp] theorem State.setCairn_staging (c : Nat) (f : Cairn → Cairn) : (State.setCairn s c f).staging = s.staging := rfl
@[simp] theorem State.setCairn_sampled (c : Nat) (f : Cairn → Cairn) : (State.setCairn s c f).sampled = s.sampled := rfl
@[simp] theorem State.setCairn_mem (c : Nat) (f : Cairn → Cairn) : (State.setCairn s c f).mem = s.mem := rfl
@[simp] theorem State.setCairn_poison (c : Nat) (f : Cairn → Cairn) : (State.setCairn s c f).poison = s.poison := rfl

/-! ## setFlow -/

@[simp] theorem State.setFlow_pending (i : Nat) (x : Flow) : (State.setFlow s i x).pending = s.pending := rfl
@[simp] theorem State.setFlow_out (i : Nat) (x : Flow) : (State.setFlow s i x).out = s.out := rfl
@[simp] theorem State.setFlow_freeCount (i : Nat) (x : Flow) : (State.setFlow s i x).freeCount = s.freeCount := rfl
@[simp] theorem State.setFlow_dict (i : Nat) (x : Flow) : (State.setFlow s i x).dict = s.dict := rfl
@[simp] theorem State.setFlow_power (i : Nat) (x : Flow) : (State.setFlow s i x).power = s.power := rfl
@[simp] theorem State.setFlow_garnet (i : Nat) (x : Flow) : (State.setFlow s i x).garnet = s.garnet := rfl
@[simp] theorem State.setFlow_mail (i : Nat) (x : Flow) : (State.setFlow s i x).mail = s.mail := rfl
@[simp] theorem State.setFlow_quartz (i : Nat) (x : Flow) : (State.setFlow s i x).quartz = s.quartz := rfl
@[simp] theorem State.setFlow_zoning (i : Nat) (x : Flow) : (State.setFlow s i x).zoning = s.zoning := rfl
@[simp] theorem State.setFlow_blocks (i : Nat) (x : Flow) : (State.setFlow s i x).blocks = s.blocks := rfl
@[simp] theorem State.setFlow_plaza (i : Nat) (x : Flow) : (State.setFlow s i x).plaza = s.plaza := rfl
@[simp] theorem State.setFlow_contexts (i : Nat) (x : Flow) : (State.setFlow s i x).contexts = s.contexts := rfl
@[simp] theorem State.setFlow_cairn (i : Nat) (x : Flow) : (State.setFlow s i x).cairn = s.cairn := rfl
@[simp] theorem State.setFlow_parked (i : Nat) (x : Flow) : (State.setFlow s i x).parked = s.parked := rfl
@[simp] theorem State.setFlow_tenancy (i : Nat) (x : Flow) : (State.setFlow s i x).tenancy = s.tenancy := rfl
@[simp] theorem State.setFlow_sets (i : Nat) (x : Flow) : (State.setFlow s i x).sets = s.sets := rfl
@[simp] theorem State.setFlow_staging (i : Nat) (x : Flow) : (State.setFlow s i x).staging = s.staging := rfl
@[simp] theorem State.setFlow_sampled (i : Nat) (x : Flow) : (State.setFlow s i x).sampled = s.sampled := rfl
@[simp] theorem State.setFlow_mem (i : Nat) (x : Flow) : (State.setFlow s i x).mem = s.mem := rfl
@[simp] theorem State.setFlow_poison (i : Nat) (x : Flow) : (State.setFlow s i x).poison = s.poison := rfl

/-! ## setPeer -/

@[simp] theorem State.setPeer_pending (i : Nat) (x : Peer) : (State.setPeer s i x).pending = s.pending := rfl
@[simp] theorem State.setPeer_out (i : Nat) (x : Peer) : (State.setPeer s i x).out = s.out := rfl
@[simp] theorem State.setPeer_freeCount (i : Nat) (x : Peer) : (State.setPeer s i x).freeCount = s.freeCount := rfl
@[simp] theorem State.setPeer_dict (i : Nat) (x : Peer) : (State.setPeer s i x).dict = s.dict := rfl
@[simp] theorem State.setPeer_power (i : Nat) (x : Peer) : (State.setPeer s i x).power = s.power := rfl
@[simp] theorem State.setPeer_garnet (i : Nat) (x : Peer) : (State.setPeer s i x).garnet = s.garnet := rfl
@[simp] theorem State.setPeer_mail (i : Nat) (x : Peer) : (State.setPeer s i x).mail = s.mail := rfl
@[simp] theorem State.setPeer_quartz (i : Nat) (x : Peer) : (State.setPeer s i x).quartz = s.quartz := rfl
@[simp] theorem State.setPeer_zoning (i : Nat) (x : Peer) : (State.setPeer s i x).zoning = s.zoning := rfl
@[simp] theorem State.setPeer_blocks (i : Nat) (x : Peer) : (State.setPeer s i x).blocks = s.blocks := rfl
@[simp] theorem State.setPeer_plaza (i : Nat) (x : Peer) : (State.setPeer s i x).plaza = s.plaza := rfl
@[simp] theorem State.setPeer_contexts (i : Nat) (x : Peer) : (State.setPeer s i x).contexts = s.contexts := rfl
@[simp] theorem State.setPeer_cairn (i : Nat) (x : Peer) : (State.setPeer s i x).cairn = s.cairn := rfl
@[simp] theorem State.setPeer_parked (i : Nat) (x : Peer) : (State.setPeer s i x).parked = s.parked := rfl
@[simp] theorem State.setPeer_tenancy (i : Nat) (x : Peer) : (State.setPeer s i x).tenancy = s.tenancy := rfl
@[simp] theorem State.setPeer_sets (i : Nat) (x : Peer) : (State.setPeer s i x).sets = s.sets := rfl
@[simp] theorem State.setPeer_staging (i : Nat) (x : Peer) : (State.setPeer s i x).staging = s.staging := rfl
@[simp] theorem State.setPeer_sampled (i : Nat) (x : Peer) : (State.setPeer s i x).sampled = s.sampled := rfl
@[simp] theorem State.setPeer_mem (i : Nat) (x : Peer) : (State.setPeer s i x).mem = s.mem := rfl
@[simp] theorem State.setPeer_poison (i : Nat) (x : Peer) : (State.setPeer s i x).poison = s.poison := rfl

/-! ## setPort -/

@[simp] theorem State.setPort_pending (i : Nat) (x : Port) : (State.setPort s i x).pending = s.pending := rfl
@[simp] theorem State.setPort_out (i : Nat) (x : Port) : (State.setPort s i x).out = s.out := rfl
@[simp] theorem State.setPort_freeCount (i : Nat) (x : Port) : (State.setPort s i x).freeCount = s.freeCount := rfl
@[simp] theorem State.setPort_dict (i : Nat) (x : Port) : (State.setPort s i x).dict = s.dict := rfl
@[simp] theorem State.setPort_power (i : Nat) (x : Port) : (State.setPort s i x).power = s.power := rfl
@[simp] theorem State.setPort_garnet (i : Nat) (x : Port) : (State.setPort s i x).garnet = s.garnet := rfl
@[simp] theorem State.setPort_mail (i : Nat) (x : Port) : (State.setPort s i x).mail = s.mail := rfl
@[simp] theorem State.setPort_quartz (i : Nat) (x : Port) : (State.setPort s i x).quartz = s.quartz := rfl
@[simp] theorem State.setPort_zoning (i : Nat) (x : Port) : (State.setPort s i x).zoning = s.zoning := rfl
@[simp] theorem State.setPort_blocks (i : Nat) (x : Port) : (State.setPort s i x).blocks = s.blocks := rfl
@[simp] theorem State.setPort_plaza (i : Nat) (x : Port) : (State.setPort s i x).plaza = s.plaza := rfl
@[simp] theorem State.setPort_contexts (i : Nat) (x : Port) : (State.setPort s i x).contexts = s.contexts := rfl
@[simp] theorem State.setPort_cairn (i : Nat) (x : Port) : (State.setPort s i x).cairn = s.cairn := rfl
@[simp] theorem State.setPort_parked (i : Nat) (x : Port) : (State.setPort s i x).parked = s.parked := rfl
@[simp] theorem State.setPort_tenancy (i : Nat) (x : Port) : (State.setPort s i x).tenancy = s.tenancy := rfl
@[simp] theorem State.setPort_sets (i : Nat) (x : Port) : (State.setPort s i x).sets = s.sets := rfl
@[simp] theorem State.setPort_staging (i : Nat) (x : Port) : (State.setPort s i x).staging = s.staging := rfl
@[simp] theorem State.setPort_sampled (i : Nat) (x : Port) : (State.setPort s i x).sampled = s.sampled := rfl
@[simp] theorem State.setPort_mem (i : Nat) (x : Port) : (State.setPort s i x).mem = s.mem := rfl
@[simp] theorem State.setPort_poison (i : Nat) (x : Port) : (State.setPort s i x).poison = s.poison := rfl

/-! ## setNetWindow -/

@[simp] theorem State.setNetWindow_pending (i : Nat) (x : NetWindow) : (State.setNetWindow s i x).pending = s.pending := rfl
@[simp] theorem State.setNetWindow_out (i : Nat) (x : NetWindow) : (State.setNetWindow s i x).out = s.out := rfl
@[simp] theorem State.setNetWindow_freeCount (i : Nat) (x : NetWindow) : (State.setNetWindow s i x).freeCount = s.freeCount := rfl
@[simp] theorem State.setNetWindow_dict (i : Nat) (x : NetWindow) : (State.setNetWindow s i x).dict = s.dict := rfl
@[simp] theorem State.setNetWindow_power (i : Nat) (x : NetWindow) : (State.setNetWindow s i x).power = s.power := rfl
@[simp] theorem State.setNetWindow_garnet (i : Nat) (x : NetWindow) : (State.setNetWindow s i x).garnet = s.garnet := rfl
@[simp] theorem State.setNetWindow_mail (i : Nat) (x : NetWindow) : (State.setNetWindow s i x).mail = s.mail := rfl
@[simp] theorem State.setNetWindow_quartz (i : Nat) (x : NetWindow) : (State.setNetWindow s i x).quartz = s.quartz := rfl
@[simp] theorem State.setNetWindow_zoning (i : Nat) (x : NetWindow) : (State.setNetWindow s i x).zoning = s.zoning := rfl
@[simp] theorem State.setNetWindow_blocks (i : Nat) (x : NetWindow) : (State.setNetWindow s i x).blocks = s.blocks := rfl
@[simp] theorem State.setNetWindow_plaza (i : Nat) (x : NetWindow) : (State.setNetWindow s i x).plaza = s.plaza := rfl
@[simp] theorem State.setNetWindow_contexts (i : Nat) (x : NetWindow) : (State.setNetWindow s i x).contexts = s.contexts := rfl
@[simp] theorem State.setNetWindow_cairn (i : Nat) (x : NetWindow) : (State.setNetWindow s i x).cairn = s.cairn := rfl
@[simp] theorem State.setNetWindow_parked (i : Nat) (x : NetWindow) : (State.setNetWindow s i x).parked = s.parked := rfl
@[simp] theorem State.setNetWindow_tenancy (i : Nat) (x : NetWindow) : (State.setNetWindow s i x).tenancy = s.tenancy := rfl
@[simp] theorem State.setNetWindow_sets (i : Nat) (x : NetWindow) : (State.setNetWindow s i x).sets = s.sets := rfl
@[simp] theorem State.setNetWindow_staging (i : Nat) (x : NetWindow) : (State.setNetWindow s i x).staging = s.staging := rfl
@[simp] theorem State.setNetWindow_sampled (i : Nat) (x : NetWindow) : (State.setNetWindow s i x).sampled = s.sampled := rfl
@[simp] theorem State.setNetWindow_mem (i : Nat) (x : NetWindow) : (State.setNetWindow s i x).mem = s.mem := rfl
@[simp] theorem State.setNetWindow_poison (i : Nat) (x : NetWindow) : (State.setNetWindow s i x).poison = s.poison := rfl

/-! ## setDictWindow -/

@[simp] theorem State.setDictWindow_pending (i : Nat) (x : DictWindow) : (State.setDictWindow s i x).pending = s.pending := rfl
@[simp] theorem State.setDictWindow_out (i : Nat) (x : DictWindow) : (State.setDictWindow s i x).out = s.out := rfl
@[simp] theorem State.setDictWindow_freeCount (i : Nat) (x : DictWindow) : (State.setDictWindow s i x).freeCount = s.freeCount := rfl
@[simp] theorem State.setDictWindow_dict (i : Nat) (x : DictWindow) : (State.setDictWindow s i x).dict = s.dict := rfl
@[simp] theorem State.setDictWindow_power (i : Nat) (x : DictWindow) : (State.setDictWindow s i x).power = s.power := rfl
@[simp] theorem State.setDictWindow_mail (i : Nat) (x : DictWindow) : (State.setDictWindow s i x).mail = s.mail := rfl
@[simp] theorem State.setDictWindow_quartz (i : Nat) (x : DictWindow) : (State.setDictWindow s i x).quartz = s.quartz := rfl
@[simp] theorem State.setDictWindow_net (i : Nat) (x : DictWindow) : (State.setDictWindow s i x).net = s.net := rfl
@[simp] theorem State.setDictWindow_zoning (i : Nat) (x : DictWindow) : (State.setDictWindow s i x).zoning = s.zoning := rfl
@[simp] theorem State.setDictWindow_blocks (i : Nat) (x : DictWindow) : (State.setDictWindow s i x).blocks = s.blocks := rfl
@[simp] theorem State.setDictWindow_plaza (i : Nat) (x : DictWindow) : (State.setDictWindow s i x).plaza = s.plaza := rfl
@[simp] theorem State.setDictWindow_contexts (i : Nat) (x : DictWindow) : (State.setDictWindow s i x).contexts = s.contexts := rfl
@[simp] theorem State.setDictWindow_cairn (i : Nat) (x : DictWindow) : (State.setDictWindow s i x).cairn = s.cairn := rfl
@[simp] theorem State.setDictWindow_parked (i : Nat) (x : DictWindow) : (State.setDictWindow s i x).parked = s.parked := rfl
@[simp] theorem State.setDictWindow_tenancy (i : Nat) (x : DictWindow) : (State.setDictWindow s i x).tenancy = s.tenancy := rfl
@[simp] theorem State.setDictWindow_sets (i : Nat) (x : DictWindow) : (State.setDictWindow s i x).sets = s.sets := rfl
@[simp] theorem State.setDictWindow_staging (i : Nat) (x : DictWindow) : (State.setDictWindow s i x).staging = s.staging := rfl
@[simp] theorem State.setDictWindow_sampled (i : Nat) (x : DictWindow) : (State.setDictWindow s i x).sampled = s.sampled := rfl
@[simp] theorem State.setDictWindow_mem (i : Nat) (x : DictWindow) : (State.setDictWindow s i x).mem = s.mem := rfl
@[simp] theorem State.setDictWindow_poison (i : Nat) (x : DictWindow) : (State.setDictWindow s i x).poison = s.poison := rfl

/-! ## setRed -/

@[simp] theorem State.setRed_pending (n : Nat) (f : RedSet → RedSet) : (State.setRed s n f).pending = s.pending := rfl
@[simp] theorem State.setRed_out (n : Nat) (f : RedSet → RedSet) : (State.setRed s n f).out = s.out := rfl
@[simp] theorem State.setRed_freeCount (n : Nat) (f : RedSet → RedSet) : (State.setRed s n f).freeCount = s.freeCount := rfl
@[simp] theorem State.setRed_dict (n : Nat) (f : RedSet → RedSet) : (State.setRed s n f).dict = s.dict := rfl
@[simp] theorem State.setRed_power (n : Nat) (f : RedSet → RedSet) : (State.setRed s n f).power = s.power := rfl
@[simp] theorem State.setRed_garnet (n : Nat) (f : RedSet → RedSet) : (State.setRed s n f).garnet = s.garnet := rfl
@[simp] theorem State.setRed_mail (n : Nat) (f : RedSet → RedSet) : (State.setRed s n f).mail = s.mail := rfl
@[simp] theorem State.setRed_quartz (n : Nat) (f : RedSet → RedSet) : (State.setRed s n f).quartz = s.quartz := rfl
@[simp] theorem State.setRed_net (n : Nat) (f : RedSet → RedSet) : (State.setRed s n f).net = s.net := rfl
@[simp] theorem State.setRed_zoning (n : Nat) (f : RedSet → RedSet) : (State.setRed s n f).zoning = s.zoning := rfl
@[simp] theorem State.setRed_blocks (n : Nat) (f : RedSet → RedSet) : (State.setRed s n f).blocks = s.blocks := rfl
@[simp] theorem State.setRed_plaza (n : Nat) (f : RedSet → RedSet) : (State.setRed s n f).plaza = s.plaza := rfl
@[simp] theorem State.setRed_contexts (n : Nat) (f : RedSet → RedSet) : (State.setRed s n f).contexts = s.contexts := rfl
@[simp] theorem State.setRed_cairn (n : Nat) (f : RedSet → RedSet) : (State.setRed s n f).cairn = s.cairn := rfl
@[simp] theorem State.setRed_parked (n : Nat) (f : RedSet → RedSet) : (State.setRed s n f).parked = s.parked := rfl
@[simp] theorem State.setRed_tenancy (n : Nat) (f : RedSet → RedSet) : (State.setRed s n f).tenancy = s.tenancy := rfl
@[simp] theorem State.setRed_staging (n : Nat) (f : RedSet → RedSet) : (State.setRed s n f).staging = s.staging := rfl
@[simp] theorem State.setRed_sampled (n : Nat) (f : RedSet → RedSet) : (State.setRed s n f).sampled = s.sampled := rfl
@[simp] theorem State.setRed_mem (n : Nat) (f : RedSet → RedSet) : (State.setRed s n f).mem = s.mem := rfl
@[simp] theorem State.setRed_poison (n : Nat) (f : RedSet → RedSet) : (State.setRed s n f).poison = s.poison := rfl

/-! ## setMailDir -/

@[simp] theorem setMailDir_pending (ch dir : Nat) (m : MailDir) : (setMailDir s ch dir m).pending = s.pending := rfl
@[simp] theorem setMailDir_out (ch dir : Nat) (m : MailDir) : (setMailDir s ch dir m).out = s.out := rfl
@[simp] theorem setMailDir_freeCount (ch dir : Nat) (m : MailDir) : (setMailDir s ch dir m).freeCount = s.freeCount := rfl
@[simp] theorem setMailDir_dict (ch dir : Nat) (m : MailDir) : (setMailDir s ch dir m).dict = s.dict := rfl
@[simp] theorem setMailDir_power (ch dir : Nat) (m : MailDir) : (setMailDir s ch dir m).power = s.power := rfl
@[simp] theorem setMailDir_garnet (ch dir : Nat) (m : MailDir) : (setMailDir s ch dir m).garnet = s.garnet := rfl
@[simp] theorem setMailDir_quartz (ch dir : Nat) (m : MailDir) : (setMailDir s ch dir m).quartz = s.quartz := rfl
@[simp] theorem setMailDir_net (ch dir : Nat) (m : MailDir) : (setMailDir s ch dir m).net = s.net := rfl
@[simp] theorem setMailDir_zoning (ch dir : Nat) (m : MailDir) : (setMailDir s ch dir m).zoning = s.zoning := rfl
@[simp] theorem setMailDir_blocks (ch dir : Nat) (m : MailDir) : (setMailDir s ch dir m).blocks = s.blocks := rfl
@[simp] theorem setMailDir_plaza (ch dir : Nat) (m : MailDir) : (setMailDir s ch dir m).plaza = s.plaza := rfl
@[simp] theorem setMailDir_contexts (ch dir : Nat) (m : MailDir) : (setMailDir s ch dir m).contexts = s.contexts := rfl
@[simp] theorem setMailDir_cairn (ch dir : Nat) (m : MailDir) : (setMailDir s ch dir m).cairn = s.cairn := rfl
@[simp] theorem setMailDir_parked (ch dir : Nat) (m : MailDir) : (setMailDir s ch dir m).parked = s.parked := rfl
@[simp] theorem setMailDir_tenancy (ch dir : Nat) (m : MailDir) : (setMailDir s ch dir m).tenancy = s.tenancy := rfl
@[simp] theorem setMailDir_sets (ch dir : Nat) (m : MailDir) : (setMailDir s ch dir m).sets = s.sets := rfl
@[simp] theorem setMailDir_staging (ch dir : Nat) (m : MailDir) : (setMailDir s ch dir m).staging = s.staging := rfl
@[simp] theorem setMailDir_sampled (ch dir : Nat) (m : MailDir) : (setMailDir s ch dir m).sampled = s.sampled := rfl
@[simp] theorem setMailDir_mem (ch dir : Nat) (m : MailDir) : (setMailDir s ch dir m).mem = s.mem := rfl
@[simp] theorem setMailDir_poison (ch dir : Nat) (m : MailDir) : (setMailDir s ch dir m).poison = s.poison := rfl

/-! ## setTenancy -/

@[simp] theorem setTenancy_pending (f : Tenancy → Tenancy) : (setTenancy s f).pending = s.pending := rfl
@[simp] theorem setTenancy_out (f : Tenancy → Tenancy) : (setTenancy s f).out = s.out := rfl
@[simp] theorem setTenancy_freeCount (f : Tenancy → Tenancy) : (setTenancy s f).freeCount = s.freeCount := rfl
@[simp] theorem setTenancy_dict (f : Tenancy → Tenancy) : (setTenancy s f).dict = s.dict := rfl
@[simp] theorem setTenancy_power (f : Tenancy → Tenancy) : (setTenancy s f).power = s.power := rfl
@[simp] theorem setTenancy_garnet (f : Tenancy → Tenancy) : (setTenancy s f).garnet = s.garnet := rfl
@[simp] theorem setTenancy_mail (f : Tenancy → Tenancy) : (setTenancy s f).mail = s.mail := rfl
@[simp] theorem setTenancy_quartz (f : Tenancy → Tenancy) : (setTenancy s f).quartz = s.quartz := rfl
@[simp] theorem setTenancy_net (f : Tenancy → Tenancy) : (setTenancy s f).net = s.net := rfl
@[simp] theorem setTenancy_zoning (f : Tenancy → Tenancy) : (setTenancy s f).zoning = s.zoning := rfl
@[simp] theorem setTenancy_blocks (f : Tenancy → Tenancy) : (setTenancy s f).blocks = s.blocks := rfl
@[simp] theorem setTenancy_plaza (f : Tenancy → Tenancy) : (setTenancy s f).plaza = s.plaza := rfl
@[simp] theorem setTenancy_contexts (f : Tenancy → Tenancy) : (setTenancy s f).contexts = s.contexts := rfl
@[simp] theorem setTenancy_cairn (f : Tenancy → Tenancy) : (setTenancy s f).cairn = s.cairn := rfl
@[simp] theorem setTenancy_parked (f : Tenancy → Tenancy) : (setTenancy s f).parked = s.parked := rfl
@[simp] theorem setTenancy_sets (f : Tenancy → Tenancy) : (setTenancy s f).sets = s.sets := rfl
@[simp] theorem setTenancy_staging (f : Tenancy → Tenancy) : (setTenancy s f).staging = s.staging := rfl
@[simp] theorem setTenancy_sampled (f : Tenancy → Tenancy) : (setTenancy s f).sampled = s.sampled := rfl
@[simp] theorem setTenancy_mem (f : Tenancy → Tenancy) : (setTenancy s f).mem = s.mem := rfl
@[simp] theorem setTenancy_poison (f : Tenancy → Tenancy) : (setTenancy s f).poison = s.poison := rfl

/-! ## setHealth -/

@[simp] theorem setHealth_pending (p v : Nat) : (setHealth s p v).pending = s.pending := rfl
@[simp] theorem setHealth_out (p v : Nat) : (setHealth s p v).out = s.out := rfl
@[simp] theorem setHealth_freeCount (p v : Nat) : (setHealth s p v).freeCount = s.freeCount := rfl
@[simp] theorem setHealth_dict (p v : Nat) : (setHealth s p v).dict = s.dict := rfl
@[simp] theorem setHealth_power (p v : Nat) : (setHealth s p v).power = s.power := rfl
@[simp] theorem setHealth_garnet (p v : Nat) : (setHealth s p v).garnet = s.garnet := rfl
@[simp] theorem setHealth_mail (p v : Nat) : (setHealth s p v).mail = s.mail := rfl
@[simp] theorem setHealth_quartz (p v : Nat) : (setHealth s p v).quartz = s.quartz := rfl
@[simp] theorem setHealth_net (p v : Nat) : (setHealth s p v).net = s.net := rfl
@[simp] theorem setHealth_blocks (p v : Nat) : (setHealth s p v).blocks = s.blocks := rfl
@[simp] theorem setHealth_plaza (p v : Nat) : (setHealth s p v).plaza = s.plaza := rfl
@[simp] theorem setHealth_contexts (p v : Nat) : (setHealth s p v).contexts = s.contexts := rfl
@[simp] theorem setHealth_cairn (p v : Nat) : (setHealth s p v).cairn = s.cairn := rfl
@[simp] theorem setHealth_parked (p v : Nat) : (setHealth s p v).parked = s.parked := rfl
@[simp] theorem setHealth_tenancy (p v : Nat) : (setHealth s p v).tenancy = s.tenancy := rfl
@[simp] theorem setHealth_sets (p v : Nat) : (setHealth s p v).sets = s.sets := rfl
@[simp] theorem setHealth_staging (p v : Nat) : (setHealth s p v).staging = s.staging := rfl
@[simp] theorem setHealth_sampled (p v : Nat) : (setHealth s p v).sampled = s.sampled := rfl
@[simp] theorem setHealth_mem (p v : Nat) : (setHealth s p v).mem = s.mem := rfl
@[simp] theorem setHealth_poison (p v : Nat) : (setHealth s p v).poison = s.poison := rfl

/-! ## setRemap -/

@[simp] theorem State.setRemap_pending (p bank i : Nat) (r : Remap) : (State.setRemap s p bank i r).pending = s.pending := rfl
@[simp] theorem State.setRemap_out (p bank i : Nat) (r : Remap) : (State.setRemap s p bank i r).out = s.out := rfl
@[simp] theorem State.setRemap_freeCount (p bank i : Nat) (r : Remap) : (State.setRemap s p bank i r).freeCount = s.freeCount := rfl
@[simp] theorem State.setRemap_dict (p bank i : Nat) (r : Remap) : (State.setRemap s p bank i r).dict = s.dict := rfl
@[simp] theorem State.setRemap_power (p bank i : Nat) (r : Remap) : (State.setRemap s p bank i r).power = s.power := rfl
@[simp] theorem State.setRemap_garnet (p bank i : Nat) (r : Remap) : (State.setRemap s p bank i r).garnet = s.garnet := rfl
@[simp] theorem State.setRemap_mail (p bank i : Nat) (r : Remap) : (State.setRemap s p bank i r).mail = s.mail := rfl
@[simp] theorem State.setRemap_quartz (p bank i : Nat) (r : Remap) : (State.setRemap s p bank i r).quartz = s.quartz := rfl
@[simp] theorem State.setRemap_net (p bank i : Nat) (r : Remap) : (State.setRemap s p bank i r).net = s.net := rfl
@[simp] theorem State.setRemap_blocks (p bank i : Nat) (r : Remap) : (State.setRemap s p bank i r).blocks = s.blocks := rfl
@[simp] theorem State.setRemap_plaza (p bank i : Nat) (r : Remap) : (State.setRemap s p bank i r).plaza = s.plaza := rfl
@[simp] theorem State.setRemap_contexts (p bank i : Nat) (r : Remap) : (State.setRemap s p bank i r).contexts = s.contexts := rfl
@[simp] theorem State.setRemap_cairn (p bank i : Nat) (r : Remap) : (State.setRemap s p bank i r).cairn = s.cairn := rfl
@[simp] theorem State.setRemap_parked (p bank i : Nat) (r : Remap) : (State.setRemap s p bank i r).parked = s.parked := rfl
@[simp] theorem State.setRemap_tenancy (p bank i : Nat) (r : Remap) : (State.setRemap s p bank i r).tenancy = s.tenancy := rfl
@[simp] theorem State.setRemap_sets (p bank i : Nat) (r : Remap) : (State.setRemap s p bank i r).sets = s.sets := rfl
@[simp] theorem State.setRemap_staging (p bank i : Nat) (r : Remap) : (State.setRemap s p bank i r).staging = s.staging := rfl
@[simp] theorem State.setRemap_sampled (p bank i : Nat) (r : Remap) : (State.setRemap s p bank i r).sampled = s.sampled := rfl
@[simp] theorem State.setRemap_mem (p bank i : Nat) (r : Remap) : (State.setRemap s p bank i r).mem = s.mem := rfl
@[simp] theorem State.setRemap_poison (p bank i : Nat) (r : Remap) : (State.setRemap s p bank i r).poison = s.poison := rfl

/-! ## writeTagged -/

@[simp] theorem writeTagged_pending (a : Nat) (bs : List TByte) : (writeTagged s a bs).pending = s.pending := rfl
@[simp] theorem writeTagged_out (a : Nat) (bs : List TByte) : (writeTagged s a bs).out = s.out := rfl
@[simp] theorem writeTagged_freeCount (a : Nat) (bs : List TByte) : (writeTagged s a bs).freeCount = s.freeCount := rfl
@[simp] theorem writeTagged_dict (a : Nat) (bs : List TByte) : (writeTagged s a bs).dict = s.dict := rfl
@[simp] theorem writeTagged_power (a : Nat) (bs : List TByte) : (writeTagged s a bs).power = s.power := rfl
@[simp] theorem writeTagged_garnet (a : Nat) (bs : List TByte) : (writeTagged s a bs).garnet = s.garnet := rfl
@[simp] theorem writeTagged_mail (a : Nat) (bs : List TByte) : (writeTagged s a bs).mail = s.mail := rfl
@[simp] theorem writeTagged_quartz (a : Nat) (bs : List TByte) : (writeTagged s a bs).quartz = s.quartz := rfl
@[simp] theorem writeTagged_net (a : Nat) (bs : List TByte) : (writeTagged s a bs).net = s.net := rfl
@[simp] theorem writeTagged_zoning (a : Nat) (bs : List TByte) : (writeTagged s a bs).zoning = s.zoning := rfl
@[simp] theorem writeTagged_blocks (a : Nat) (bs : List TByte) : (writeTagged s a bs).blocks = s.blocks := rfl
@[simp] theorem writeTagged_plaza (a : Nat) (bs : List TByte) : (writeTagged s a bs).plaza = s.plaza := rfl
@[simp] theorem writeTagged_contexts (a : Nat) (bs : List TByte) : (writeTagged s a bs).contexts = s.contexts := rfl
@[simp] theorem writeTagged_cairn (a : Nat) (bs : List TByte) : (writeTagged s a bs).cairn = s.cairn := rfl
@[simp] theorem writeTagged_parked (a : Nat) (bs : List TByte) : (writeTagged s a bs).parked = s.parked := rfl
@[simp] theorem writeTagged_tenancy (a : Nat) (bs : List TByte) : (writeTagged s a bs).tenancy = s.tenancy := rfl
@[simp] theorem writeTagged_sets (a : Nat) (bs : List TByte) : (writeTagged s a bs).sets = s.sets := rfl
@[simp] theorem writeTagged_staging (a : Nat) (bs : List TByte) : (writeTagged s a bs).staging = s.staging := rfl
@[simp] theorem writeTagged_sampled (a : Nat) (bs : List TByte) : (writeTagged s a bs).sampled = s.sampled := rfl

/-! ## eraseBytes -/

@[simp] theorem eraseBytes_pending (a n : Nat) : (eraseBytes s a n).pending = s.pending := rfl
@[simp] theorem eraseBytes_out (a n : Nat) : (eraseBytes s a n).out = s.out := rfl
@[simp] theorem eraseBytes_freeCount (a n : Nat) : (eraseBytes s a n).freeCount = s.freeCount := rfl
@[simp] theorem eraseBytes_dict (a n : Nat) : (eraseBytes s a n).dict = s.dict := rfl
@[simp] theorem eraseBytes_power (a n : Nat) : (eraseBytes s a n).power = s.power := rfl
@[simp] theorem eraseBytes_garnet (a n : Nat) : (eraseBytes s a n).garnet = s.garnet := rfl
@[simp] theorem eraseBytes_mail (a n : Nat) : (eraseBytes s a n).mail = s.mail := rfl
@[simp] theorem eraseBytes_quartz (a n : Nat) : (eraseBytes s a n).quartz = s.quartz := rfl
@[simp] theorem eraseBytes_net (a n : Nat) : (eraseBytes s a n).net = s.net := rfl
@[simp] theorem eraseBytes_zoning (a n : Nat) : (eraseBytes s a n).zoning = s.zoning := rfl
@[simp] theorem eraseBytes_blocks (a n : Nat) : (eraseBytes s a n).blocks = s.blocks := rfl
@[simp] theorem eraseBytes_plaza (a n : Nat) : (eraseBytes s a n).plaza = s.plaza := rfl
@[simp] theorem eraseBytes_contexts (a n : Nat) : (eraseBytes s a n).contexts = s.contexts := rfl
@[simp] theorem eraseBytes_cairn (a n : Nat) : (eraseBytes s a n).cairn = s.cairn := rfl
@[simp] theorem eraseBytes_parked (a n : Nat) : (eraseBytes s a n).parked = s.parked := rfl
@[simp] theorem eraseBytes_tenancy (a n : Nat) : (eraseBytes s a n).tenancy = s.tenancy := rfl
@[simp] theorem eraseBytes_sets (a n : Nat) : (eraseBytes s a n).sets = s.sets := rfl
@[simp] theorem eraseBytes_staging (a n : Nat) : (eraseBytes s a n).staging = s.staging := rfl
@[simp] theorem eraseBytes_sampled (a n : Nat) : (eraseBytes s a n).sampled = s.sampled := rfl

/-! ## What an update writes -/

@[simp] theorem State.setPower_power (f : Power → Power) : (s.setPower f).power = f s.power := rfl
@[simp] theorem State.setGarnet_garnet (f : Garnet → Garnet) : (s.setGarnet f).garnet = f s.garnet := rfl
@[simp] theorem State.emit_out (o : Out) : (s.emit o).out = o :: s.out := rfl
@[simp] theorem setTenancy_tenancy (f : Tenancy → Tenancy) : (setTenancy s f).tenancy = f s.tenancy := rfl
@[simp] theorem State.reply_eq_emit (r : Requester) (abort value : Nat) : s.reply r abort value = s.emit (.answer r abort value) := rfl

theorem State.setBlock_block (p q : Nat) (f : Block → Block) :
    (s.setBlock p f).block q = if p = q then f (s.block p) else s.block q := kget_kset _ _ p q _
theorem State.setCtx_ctx (c d : Nat) (f : Ctx → Ctx) : (s.setCtx c f).ctx d = if c = d then f (s.ctx c) else s.ctx d :=
  kget_kset _ _ c d _
theorem State.setFlow_flow (i j : Nat) (x : Flow) : (s.setFlow i x).flow j = if i = j then x else s.flow j := kget_kput _ _ i j x
theorem State.setPeer_peer (i j : Nat) (x : Peer) : (s.setPeer i x).peer j = if i = j then x else s.peer j := kget_kput _ _ i j x
theorem State.setPort_port (i j : Nat) (x : Port) : (s.setPort i x).port j = if i = j then x else s.port j := kget_kput _ _ i j x
theorem State.setNetWindow_netWindow (i j : Nat) (x : NetWindow) :
    (s.setNetWindow i x).netWindow j = if i = j then x else s.netWindow j := kget_kput _ _ i j x
theorem State.setDictWindow_dictWindow (i j : Nat) (x : DictWindow) :
    (s.setDictWindow i x).dictWindow j = if i = j then x else s.dictWindow j := kget_kput _ _ i j x
theorem State.setCairn_cairnOf (c d : Nat) (f : Cairn → Cairn) :
    (s.setCairn c f).cairnOf d = if c = d then f (s.cairnOf c) else s.cairnOf d := kget_kset _ _ c d _
theorem State.setRed_redSet (n m : Nat) (f : RedSet → RedSet) :
    (s.setRed n f).redSet m = if n = m then f (s.redSet n) else s.redSet m := kget_kput _ _ n m _
theorem setHealth_healthOf (p q v : Nat) : healthOf (setHealth s p v) q = if p = q then v else healthOf s q := kget_kput _ _ p q v

theorem setMailDir_mailDir (ch dir m n : Nat) (h : dir < 2) (h' : n < 2) (x : MailDir) :
    mailDir (setMailDir s ch dir x) m n = if ch = m ∧ dir = n then x else mailDir s m n := by
  have e := kget_kput MailDir.empty s.mail.dirs (2 * ch + dir) (2 * m + n) x
  have k : 2 * ch + dir = 2 * m + n ↔ ch = m ∧ dir = n := by omega
  simp only [k] at e
  exact e

/-! ## Dictionary cells -/

theorem dictKey_inj {i j a b : Nat} (ha : a < 256) (hb : b < 256) : dictKey i a = dictKey j b ↔ i = j ∧ a = b := by
  unfold dictKey; omega

@[simp] theorem State.dset_dget_same (idx sub v : Nat) : (s.dset idx sub v).dget idx sub = v := by
  simp [State.dget, State.dset]

/-- A cell reads what was written last; every other cell, and every cell of another index, reads as before. -/
theorem State.dset_dget (idx sub v j b : Nat) (h : sub < 256) (h' : b < 256) :
    (s.dset idx sub v).dget j b = if idx = j ∧ sub = b then v else s.dget j b := by
  have k := dictKey_inj (i := idx) (j := j) h h'
  simp only [State.dget, State.dset, kfind_kset, k]
  by_cases e : idx = j ∧ sub = b
  · rw [if_pos e, if_pos e]
  · rw [if_neg e, if_neg e]

theorem State.dset_dget_other (idx sub v j b : Nat) (h : sub < 256) (h' : b < 256) (n : idx ≠ j ∨ sub ≠ b) :
    (s.dset idx sub v).dget j b = s.dget j b := by
  rw [State.dset_dget s idx sub v j b h h', if_neg (by omega)]

@[simp] theorem State.dclear_dget_same (idx sub : Nat) : (s.dclear idx sub).dget idx sub = dictDefault s.power.straps idx sub := by
  simp [State.dget, State.dclear, kfind_kerase]

@[simp] theorem State.dcount_dget_same (idx sub n : Nat) :
    (s.dcount idx sub n).dget idx sub = countUp (entryBytes idx sub) (s.dget idx sub) n := State.dset_dget_same s idx sub _

theorem State.setCtx_dget (c idx sub : Nat) (f : Ctx → Ctx) : (s.setCtx c f).dget idx sub = s.dget idx sub := rfl
theorem State.setBlock_dget (p idx sub : Nat) (f : Block → Block) : (s.setBlock p f).dget idx sub = s.dget idx sub := rfl
theorem State.setFlow_dget (i idx sub : Nat) (x : Flow) : (s.setFlow i x).dget idx sub = s.dget idx sub := rfl
theorem State.emit_dget (o : Out) (idx sub : Nat) : (s.emit o).dget idx sub = s.dget idx sub := rfl

end Sys2Proof.Machine
end

