-- ==== Sys2Proof/Laws/Records.lean ====
section
/-! SUPPORT. The shared operations: what the log, a sticky record, an answer, a guarded write and a wait can do. -/

namespace Sys2Proof.Machine

/-! ## Records and the log -/

theorem LogOnly.refl (s : State) : LogOnly s s := rfl

theorem LogOnly.trans {s t u : State} (h : LogOnly s t) (k : LogOnly t u) : LogOnly s u := by
  unfold LogOnly at *
  rw [k, h]

theorem RecordOnly.refl (s : State) : RecordOnly s s := ⟨rfl, rfl⟩

theorem RecordOnly.trans {s t u : State} (h : RecordOnly s t) (k : RecordOnly t u) : RecordOnly s u := by
  refine ⟨?_, h.2.trans k.2⟩
  rw [k.1, h.1]

/-- A record keeps device memory, the stored security version and every other part but the dictionary and the log. -/
theorem RecordOnly.mem {s t : State} (h : RecordOnly s t) : t.mem = s.mem := by rw [h.1]
theorem RecordOnly.poison {s t : State} (h : RecordOnly s t) : t.poison = s.poison := by rw [h.1]
theorem RecordOnly.power {s t : State} (h : RecordOnly s t) : t.power = s.power := by rw [h.1]
theorem RecordOnly.contexts {s t : State} (h : RecordOnly s t) : t.contexts = s.contexts := by rw [h.1]
theorem RecordOnly.blocks {s t : State} (h : RecordOnly s t) : t.blocks = s.blocks := by rw [h.1]
theorem RecordOnly.net {s t : State} (h : RecordOnly s t) : t.net = s.net := by rw [h.1]
theorem RecordOnly.out {s t : State} (h : RecordOnly s t) : t.out = s.out := by rw [h.1]
theorem RecordOnly.security {s t : State} (h : RecordOnly s t) : t.garnet.security = s.garnet.security := by rw [h.2]

theorem dset_recordOnly (s : State) (idx sub v : Nat) : RecordOnly s (s.dset idx sub v) := ⟨rfl, rfl⟩
theorem dclear_recordOnly (s : State) (idx sub : Nat) : RecordOnly s (s.dclear idx sub) := ⟨rfl, rfl⟩
theorem dcount_recordOnly (s : State) (idx sub n : Nat) : RecordOnly s (s.dcount idx sub n) := ⟨rfl, rfl⟩

theorem foldl_recordOnly {β : Type} (f : State → β → State) (h : ∀ t e, RecordOnly t (f t e)) (l : List β) (s : State) :
    RecordOnly s (l.foldl f s) := by
  induction l generalizing s with
  | nil => exact RecordOnly.refl s
  | cons e r ih => exact (h s e).trans (ih _)

theorem dsets_recordOnly (s : State) (l : List (Nat × Nat × Nat)) : RecordOnly s (s.dsets l) := by
  induction l generalizing s with
  | nil => exact RecordOnly.refl s
  | cons e r ih => exact (dset_recordOnly s e.1 e.2.1 e.2.2).trans (ih _)

/-- The log takes an entry, or counts it as dropped. -/
theorem log_recordOnly (s : State) (source event severity a b : Nat) : RecordOnly s (s.log source event severity a b) := by
  unfold State.log
  split
  · exact ⟨rfl, rfl⟩
  · exact ⟨rfl, rfl⟩

theorem recordFirst_recordOnly (s : State) (idx v : Nat) : RecordOnly s (s.recordFirst idx v) := by
  unfold State.recordFirst
  split
  · exact RecordOnly.refl s
  · split
    · exact dset_recordOnly s _ _ _
    · exact RecordOnly.refl s

theorem recordWith_recordOnly (s : State) (idx flag : Nat) (counts : List (Nat × Nat)) (first : Option Nat) (b : Nat) :
    RecordOnly s (s.recordWith idx flag counts first b) := by
  have c := foldl_recordOnly (fun t (e : Nat × Nat) => t.dcount idx e.1 e.2) (fun t e => dcount_recordOnly t idx e.1 e.2) counts s
  unfold State.recordWith
  refine RecordOnly.trans ?_ (log_recordOnly _ _ _ _ _ _)
  refine RecordOnly.trans ?_ (dset_recordOnly _ _ _ _)
  cases first with
  | none => exact c
  | some v => exact c.trans (recordFirst_recordOnly _ _ _)

/-- A case of a sticky record changes the dictionary and the log alone (R583). -/
theorem record_recordOnly (s : State) (idx flag : Nat) (counts : List (Nat × Nat)) (first : Option Nat) :
    RecordOnly s (s.record idx flag counts first) := recordWith_recordOnly s idx flag counts first 0

/-! ## Guarded writes (R504, R505) -/

/-- A guarded write does nothing while the module is off, is refused by the first failing check, or has its effect and is answered. -/
theorem guardedWrite_cases (s : State) (r : Requester) (idx sub len v : Nat) (effect : State → Nat × State) :
    (s.power.state = .off ∧ guardedWrite s r idx sub len v effect = s) ∨
    (s.power.state ≠ .off ∧ checkWrite s r idx sub len v ≠ 0 ∧
      guardedWrite s r idx sub len v effect = s.reply r (checkWrite s r idx sub len v) 0) ∨
    (Accepted s r idx sub len v ∧ guardedWrite s r idx sub len v effect = (effect s).2.reply r (effect s).1 0) := by
  unfold guardedWrite
  by_cases h : s.power.state = .off
  · exact .inl ⟨h, by simp [h]⟩
  · by_cases k : checkWrite s r idx sub len v = 0
    · exact .inr (.inr ⟨⟨h, k⟩, by simp [h, k]⟩)
    · exact .inr (.inl ⟨h, k, by simp [h, k]⟩)

/-- An accepted write has its effect, and its answer leaves. -/
theorem guardedWrite_accepted {s : State} {r : Requester} {idx sub len v : Nat} (effect : State → Nat × State)
    (h : Accepted s r idx sub len v) :
    guardedWrite s r idx sub len v effect = (effect s).2.reply r (effect s).1 0 := by
  unfold guardedWrite
  simp [h.1, h.2]

/-! ## Waits (R157) -/

/-- A bundle that waits: the counter and class of its context, and the count of beats of a new wait; nothing else. -/
theorem waitIn_keeps (c k : Nat) (s : State) :
    waitIn c k s = { s with dict := (waitIn c k s).dict, contexts := (waitIn c k s).contexts } := by
  unfold waitIn
  dsimp only
  split <;> rfl

@[simp] theorem waitIn_mem (c k : Nat) (s : State) : (waitIn c k s).mem = s.mem := by rw [waitIn_keeps]
@[simp] theorem waitIn_garnet (c k : Nat) (s : State) : (waitIn c k s).garnet = s.garnet := by rw [waitIn_keeps]
@[simp] theorem waitIn_blocks (c k : Nat) (s : State) : (waitIn c k s).blocks = s.blocks := by rw [waitIn_keeps]

/-! ## What the invariants need of an operation -/

/-- An operation keeps the canonical form of memory, and does not lower the stored security version. -/
def Keeps (s t : State) : Prop := (Memory.wf s.mem = true → Memory.wf t.mem = true) ∧ s.garnet.security ≤ t.garnet.security

theorem Keeps.refl (s : State) : Keeps s s := ⟨id, le_refl _⟩

theorem Keeps.trans {s t u : State} (h : Keeps s t) (k : Keeps t u) : Keeps s u := ⟨k.1 ∘ h.1, h.2.trans k.2⟩

theorem keeps_of_eq {s t : State} (m : t.mem = s.mem) (g : t.garnet.security = s.garnet.security) : Keeps s t :=
  ⟨fun h => m ▸ h, le_of_eq g.symm⟩

theorem RecordOnly.keeps {s t : State} (h : RecordOnly s t) : Keeps s t := keeps_of_eq h.mem h.security

theorem keeps_empty {s t : State} (m : t.mem = []) (g : t.garnet.security = s.garnet.security) : Keeps s t :=
  ⟨fun _ => by rw [m]; rfl, le_of_eq g.symm⟩

theorem foldl_keeps {β : Type} (f : State → β → State) (h : ∀ t e, Keeps t (f t e)) (l : List β) (s : State) :
    Keeps s (l.foldl f s) := by
  induction l generalizing s with
  | nil => exact Keeps.refl s
  | cons e r ih => exact (h s e).trans (ih _)

theorem writeTagged_keeps (s : State) (a : Nat) (bs : List TByte) : Keeps s (writeTagged s a bs) :=
  ⟨writeTagged_wf s a bs, le_refl _⟩

theorem eraseBytes_keeps (s : State) (a n : Nat) : Keeps s (eraseBytes s a n) := ⟨eraseBytes_wf s a n, le_refl _⟩

/-- A guarded write keeps what its effect keeps. -/
theorem guardedWrite_keeps (s : State) (r : Requester) (idx sub len v : Nat) (effect : State → Nat × State)
    (h : Keeps s (effect s).2) : Keeps s (guardedWrite s r idx sub len v effect) := by
  obtain ⟨-, e⟩ | ⟨-, -, e⟩ | ⟨-, e⟩ := guardedWrite_cases s r idx sub len v effect
  · rw [e]; exact Keeps.refl s
  · rw [e]; exact keeps_of_eq rfl rfl
  · rw [e]; exact h.trans (keeps_of_eq rfl rfl)

theorem waitIn_keeps_invariants (c k : Nat) (s : State) : Keeps s (waitIn c k s) := keeps_of_eq (by simp) (by simp)

end Sys2Proof.Machine
end

