-- ==== Sys2Proof/Laws/Operations.lean ====
section
/-! SUPPORT. The shared operations of the meanings, each once: reads that meet errors, row writes, operations in blocks, waits for
granules, notices, and changes of state; and what a step can be. -/

namespace Sys2Proof.Machine

/-! ## A step -/

/-- A step is an idle one, or the front command on the rest of the queue. -/
theorem step_cases (s : State) :
    (s.pending = [] ∧ step s = .next s) ∨ ∃ c r, s.pending = c :: r ∧ step s = exec c { s with pending := r } := by
  unfold step
  cases s.pending with
  | nil => exact .inl ⟨rfl, rfl⟩
  | cons c r => exact .inr ⟨c, r, rfl, rfl⟩

theorem step_cons {s : State} {c : Instr} {r : List Instr} (h : s.pending = c :: r) : step s = exec c { s with pending := r } := by
  unfold step; rw [h]

theorem step_nil {s : State} (h : s.pending = []) : step s = .next s := by unfold step; rw [h]

/-- What holds of every next state of an outcome. -/
def OnNext (o : Host.Outcome State Fault Refusal) (p : State → Prop) : Prop := ∀ t, o = .next t → p t

@[simp] theorem onNext_next (s : State) (p : State → Prop) : OnNext (.next s) p ↔ p s :=
  ⟨fun h => h s rfl, fun h t e => by cases e; exact h⟩

@[simp] theorem onNext_fault (f : Fault) (p : State → Prop) : OnNext (.fault f) p := fun _ e => by cases e

@[simp] theorem onNext_refused (f : Refusal) (p : State → Prop) : OnNext (.refused f) p := fun _ e => by cases e

/-- A relation that every command keeps is kept by every step. -/
theorem step_onNext {rel : State → State → Prop} (idle : ∀ s, rel s s)
    (h : ∀ c s, OnNext (exec c s) (rel s)) (front : ∀ s r t, rel { s with pending := r } t → rel s t) (s : State) :
    OnNext (step s) (rel s) := by
  obtain ⟨-, e⟩ | ⟨c, r, -, e⟩ := step_cases s
  · rw [e, onNext_next]; exact idle s
  · rw [e]; exact fun t k => front s r t (h c _ t k)

theorem keeps_front (s : State) (r : List Instr) (t : State) (h : Keeps { s with pending := r } t) : Keeps s t := h

/-! ## Rows -/

theorem setRemap_keeps (s : State) (p bank i : Nat) (r : Remap) : Keeps s (s.setRemap p bank i r) := keeps_of_eq rfl rfl
theorem setHealth_keeps (s : State) (p v : Nat) : Keeps s (setHealth s p v) := keeps_of_eq rfl rfl
theorem setBlock_keeps (s : State) (p : Nat) (f : Block → Block) : Keeps s (s.setBlock p f) := keeps_of_eq rfl rfl
theorem setCtx_keeps (s : State) (c : Nat) (f : Ctx → Ctx) : Keeps s (s.setCtx c f) := keeps_of_eq rfl rfl
theorem setFlow_keeps (s : State) (i : Nat) (x : Flow) : Keeps s (s.setFlow i x) := keeps_of_eq rfl rfl
theorem setCairn_keeps (s : State) (c : Nat) (f : Cairn → Cairn) : Keeps s (s.setCairn c f) := keeps_of_eq rfl rfl
theorem emit_keeps (s : State) (o : Out) : Keeps s (s.emit o) := keeps_of_eq rfl rfl
theorem dset_keeps (s : State) (idx sub v : Nat) : Keeps s (s.dset idx sub v) := keeps_of_eq rfl rfl
theorem record_keeps (s : State) (idx flag : Nat) (counts : List (Nat × Nat)) (first : Option Nat) :
    Keeps s (s.record idx flag counts first) := (record_recordOnly s idx flag counts first).keeps
theorem log_keeps (s : State) (source event severity a b : Nat) : Keeps s (s.log source event severity a b) :=
  (log_recordOnly s source event severity a b).keeps

theorem queueEvacuation_keeps (s : State) (p : Nat) : Keeps s (queueEvacuation s p) := by
  unfold queueEvacuation
  split
  · exact Keeps.refl s
  · split
    · exact Keeps.refl s
    · split
      · exact record_keeps _ _ _ _ _
      · exact keeps_of_eq rfl rfl

theorem abandonEvac_keeps (kind : Nat) (s : State) (e : Evac) : Keeps s (abandonEvac kind s e) := record_keeps _ _ _ _ _

theorem adoptSpare_keeps (s : State) (p bank i : Nat) : Keeps s (adoptSpare s p bank i) := by
  unfold adoptSpare
  dsimp only
  split <;> exact keeps_of_eq rfl rfl

/-- A copy that ends writes no byte: its spare row reads poisoned (R97). -/
theorem finishCopies_keeps (s : State) (p : Nat → Bool) : Keeps s (finishCopies s p) := by
  unfold finishCopies
  refine foldl_keeps _ (fun t e => ?_) _ s
  refine Keeps.trans ?_ (adoptSpare_keeps _ _ _ _)
  exact keeps_of_eq rfl rfl

/-- Blocks that lose their contents leave memory in its canonical form (R124). -/
theorem loseBlocks_keeps (s : State) (p : Nat → Bool) : Keeps s (loseBlocks s p) := by
  unfold loseBlocks
  refine Keeps.trans ?_ (finishCopies_keeps _ p)
  exact ⟨fun h => Memory.wf_filter _ _ h, le_refl _⟩

theorem spareLost_keeps (s : State) (q : Nat) : Keeps s (spareLost s q) := by
  unfold spareLost
  dsimp only
  split
  · exact Keeps.refl s
  · have k := foldl_keeps (abandonEvac 2) (abandonEvac_keeps 2) (s.zoning.evac.filter fun e => districtSpare e.block == q)
      { s with zoning := { s.zoning with evac := s.zoning.evac.filter fun e =>
        !(s.zoning.evac.filter fun e => districtSpare e.block == q).contains e } }
    have h : Keeps s _ := Keeps.trans (keeps_of_eq rfl rfl) k
    split
    · exact h
    · exact h.trans (loseBlocks_keeps _ _)

theorem worsen_keeps (s : State) (p v : Nat) : Keeps s (worsen s p v) :=
  (setHealth_keeps s p v).trans (spareLost_keeps _ _)

theorem exhaustSpare_keeps (s : State) (p : Nat) : Keeps s (exhaustSpare s p) := by
  unfold exhaustSpare
  have k := record_keeps s 0x5020 2 [] none
  dsimp only
  generalize s.record 0x5020 2 [] none = t at k
  have h : Keeps s (if healthOf t p = 0 then worsen t p 1 else t) := by
    split
    · exact k.trans (worsen_keeps _ _ _)
    · exact k
  generalize (if healthOf t p = 0 then worsen t p 1 else t) = u at h
  split
  · exact h.trans (queueEvacuation_keeps _ _)
  · exact h

/-- A migration that starts copies nothing yet (R97). -/
theorem startMigration_keeps (s : State) (p bank row : Nat) (poison : Bool) : Keeps s (startMigration s p bank row poison) := by
  unfold startMigration
  dsimp only
  split
  · split
    · exact setRemap_keeps _ _ _ _ _
    · exact Keeps.refl s
  · generalize (if 768 ≤ row then (s.remapEntry p bank (row - 768)).target else row) = target
    split
    · exact Keeps.refl s
    · split
      · exact exhaustSpare_keeps _ _
      · split <;> exact keeps_of_eq rfl rfl

theorem correctedRead_keeps (s : State) (p bank row : Nat) : Keeps s (correctedRead s p bank row) := by
  unfold correctedRead
  have k := record_keeps s 0x5020 0 [(2, 1)] none
  dsimp only
  generalize s.record 0x5020 0 [(2, 1)] none = t at k
  split
  · refine k.trans ?_
    refine Keeps.trans ?_ (startMigration_keeps _ _ _ _ _)
    exact keeps_of_eq rfl rfl
  · refine k.trans ?_
    exact keeps_of_eq rfl rfl

theorem uncorrectableRead_keeps (s : State) (p bank row : Nat) (sensed : List Byte) : Keeps s (uncorrectableRead s p bank row sensed) := by
  unfold uncorrectableRead
  exact (writeTagged_keeps _ _ _).trans ((record_keeps _ _ _ _ _).trans (startMigration_keeps _ _ _ _ _))

theorem senseRow_keeps (s : State) (p bank row : Nat) (bs : List Byte) : Keeps s (senseRow s p bank row bs) := by
  unfold senseRow
  dsimp only
  split
  · exact Keeps.refl s
  · exact correctedRead_keeps _ _ _ _
  · exact (writeTagged_keeps _ _ _).trans (correctedRead_keeps _ _ _ _)
  · exact uncorrectableRead_keeps _ _ _ _ _

theorem setSide_keeps (s : State) (place p unit row : Nat) (bs : List Byte) (mark : Bool) :
    Keeps s (setSide s place p unit row bs mark) := setBlock_keeps _ _ _

theorem senseSide_keeps (s : State) (place p unit row : Nat) (bs : List Byte) : Keeps s (senseSide s place p unit row bs) := by
  unfold senseSide
  dsimp only
  split
  · exact Keeps.refl s
  · exact Keeps.refl s
  · exact setSide_keeps _ _ _ _ _ _ _
  · exact (setSide_keeps _ _ _ _ _ _ _).trans (record_keeps _ _ _ _ _)

/-- An error that a read meets. -/
theorem senseError_keeps (unit : Nat) (s : State) (e : ReadError) : Keeps s (senseError unit s e) := by
  unfold senseError
  split
  · split
    · exact correctedRead_keeps _ _ _ _
    · exact Keeps.refl s
  · split
    · exact senseRow_keeps _ _ _ _ _
    · split
      · exact senseSide_keeps _ _ _ _ _ _
      · exact (writeTagged_keeps _ _ _).trans (record_keeps _ _ _ _ _)

theorem senseAll_keeps (unit : Nat) (s : State) (es : List ReadError) : Keeps s (senseAll unit s es) :=
  foldl_keeps _ (senseError_keeps unit) es s

theorem storeRow_keeps (s : State) (p bank row off : Nat) (bs : List TByte) : Keeps s (storeRow s p bank row off bs) :=
  foldl_keeps _ (fun t _ => foldl_keeps _ (fun u _ => writeTagged_keeps u _ _) _ t) _ s

theorem writeRow_keeps (s : State) (t : Touch) (p bank row off : Nat) (bs : List TByte) : Keeps s (writeRow s t p bank row off bs) := by
  unfold writeRow
  split
  · exact Keeps.refl s
  · split
    · exact record_keeps _ _ _ _ _
    · dsimp only
      split
      · exact (storeRow_keeps _ _ _ _ _ _).trans (record_keeps _ _ _ _ _)
      · exact storeRow_keeps _ _ _ _ _ _

theorem suppressed_keeps (s : State) (t : Touch) (p bank row off n : Nat) : Keeps s (suppressed s t p bank row off n) := by
  unfold suppressed
  split
  · exact Keeps.refl s
  · exact record_keeps _ _ _ _ _

theorem readRow_keeps (s : State) (p bank row : Nat) : Keeps s (readRow s p bank row).2 := by
  unfold readRow
  split
  · exact record_keeps _ _ _ _ _
  · exact Keeps.refl s

/-- A row write changes memory, poison and records only. -/
theorem storeRow_frame (s : State) (p bank row off : Nat) (bs : List TByte) :
    storeRow s p bank row off bs =
      { s with mem := (storeRow s p bank row off bs).mem, poison := (storeRow s p bank row off bs).poison } := by
  have inner : ∀ (l : List Nat) (t : State),
      (l.foldl (fun u a => writeTagged u (a + off) bs) t) =
        { t with mem := (l.foldl (fun u a => writeTagged u (a + off) bs) t).mem,
                 poison := (l.foldl (fun u a => writeTagged u (a + off) bs) t).poison } := by
    intro l
    induction l with
    | nil => intro t; rfl
    | cons a r ih => intro t; rw [List.foldl_cons, ih]; rfl
  have outer : ∀ (l : List Nat) (t : State),
      (l.foldl (fun t q => (writeTargets s q bank row).foldl (fun u a => writeTagged u (a + off) bs) t) t) =
        { t with
          mem := (l.foldl (fun t q => (writeTargets s q bank row).foldl (fun u a => writeTagged u (a + off) bs) t) t).mem,
          poison := (l.foldl (fun t q => (writeTargets s q bank row).foldl (fun u a => writeTagged u (a + off) bs) t) t).poison } := by
    intro l
    induction l with
    | nil => intro t; rfl
    | cons q r ih => intro t; rw [List.foldl_cons, ih, inner]
  exact outer _ s

/-! ## Operations in blocks -/

/-- An operation in blocks does nothing in a stopped context, stops on a reserved encoding, or acts in each of its blocks. -/
theorem sensingBlocks_cases (c sel pred : Nat) (legal : Bool) (errors : List ReadError) (act : Actor → State → State) (s : State) :
    (s.running c = false ∧ sensingBlocks c sel pred legal errors act s = .next s) ∨
    (s.running c = true ∧ (legal && headerOk s c sel pred) = false ∧
      sensingBlocks c sel pred legal errors act s = .fault .reservedEncoding) ∨
    (s.running c = true ∧ (legal && headerOk s c sel pred) = true ∧
      sensingBlocks c sel pred legal errors act s =
        .next ((actors s c sel pred).foldl (fun t a => act a t) (senseAll 0 s errors))) := by
  unfold sensingBlocks
  cases s.running c
  · exact .inl ⟨rfl, rfl⟩
  · cases legal && headerOk s c sel pred
    · exact .inr (.inl ⟨rfl, rfl, rfl⟩)
    · exact .inr (.inr ⟨rfl, rfl, rfl⟩)

theorem sensingBlocks_keeps (c sel pred : Nat) (legal : Bool) (errors : List ReadError) (act : Actor → State → State) (s : State)
    (h : ∀ a t, Keeps t (act a t)) : OnNext (sensingBlocks c sel pred legal errors act s) (Keeps s) := by
  obtain ⟨-, e⟩ | ⟨-, -, e⟩ | ⟨-, -, e⟩ := sensingBlocks_cases c sel pred legal errors act s
  · rw [e, onNext_next]; exact Keeps.refl s
  · rw [e]; exact onNext_fault _ _
  · rw [e, onNext_next]
    exact (senseAll_keeps 0 s errors).trans (foldl_keeps (fun t a => act a t) (fun t a => h a t) _ _)

theorem inBlocks_keeps (c sel pred : Nat) (legal : Bool) (act : Actor → State → State) (s : State)
    (h : ∀ a t, Keeps t (act a t)) : OnNext (inBlocks c sel pred legal act s) (Keeps s) :=
  sensingBlocks_keeps c sel pred legal [] act s h

/-! ## Granules (R425) -/

theorem granuleWait_keeps (c : Nat) (gs : List Nat) (s : State) : Keeps s (granuleWait c gs s) := by
  unfold granuleWait
  dsimp only
  refine Keeps.trans ?_ (waitIn_keeps_invariants c 8 _)
  split
  · exact Keeps.refl s
  · unfold granuleHeld
    exact (setCairn_keeps s c _).trans (record_keeps _ _ _ _ _)

/-- A wait of a class, unless a lower one holds the bundle already (R157). -/
theorem waitLowest_cases (c k : Nat) (wait : State → State) (s : State) :
    ((s.dget (0x4030 + c) 2 ≠ 0 ∧ s.dget (0x4030 + c) 2 < k) ∧ waitLowest c k wait s = s) ∨
    (¬(s.dget (0x4030 + c) 2 ≠ 0 ∧ s.dget (0x4030 + c) 2 < k) ∧ waitLowest c k wait s = wait s) := by
  by_cases h : s.dget (0x4030 + c) 2 ≠ 0 ∧ s.dget (0x4030 + c) 2 < k
  · exact .inl ⟨h, if_pos h⟩
  · exact .inr ⟨h, if_neg h⟩

theorem waitLowest_keeps (c k : Nat) (wait : State → State) (s : State) (h : Keeps s (wait s)) : Keeps s (waitLowest c k wait s) := by
  obtain ⟨-, e⟩ | ⟨-, e⟩ := waitLowest_cases c k wait s
  · rw [e]; exact Keeps.refl s
  · rw [e]; exact h

/-- An operation runs when its granules have been read, and waits otherwise. -/
theorem whenCopied_cases (c : Nat) (gs : List Nat) (s : State) (run : State → Host.Outcome State Fault Refusal) :
    (gs.filter (pendingGranules s c).contains = [] ∧ whenCopied c gs s run = run s) ∨
    (gs.filter (pendingGranules s c).contains ≠ [] ∧
      whenCopied c gs s run = .next (waitLowest c 8 (granuleWait c (gs.filter (pendingGranules s c).contains)) s)) := by
  unfold whenCopied
  dsimp only
  cases gs.filter (pendingGranules s c).contains with
  | nil => exact .inl ⟨rfl, if_pos rfl⟩
  | cons g r => exact .inr ⟨List.cons_ne_nil g r, if_neg Bool.false_ne_true⟩

theorem whenCopied_keeps (c : Nat) (gs : List Nat) (s : State) (run : State → Host.Outcome State Fault Refusal)
    (h : OnNext (run s) (Keeps s)) : OnNext (whenCopied c gs s run) (Keeps s) := by
  obtain ⟨-, e⟩ | ⟨-, e⟩ := whenCopied_cases c gs s run
  · rw [e]; exact h
  · rw [e, onNext_next]; exact waitLowest_keeps c 8 _ s (granuleWait_keeps c _ s)

theorem writingBlocks_keeps (c sel pred : Nat) (legal : Bool) (errors : List ReadError) (gs : State → Actor → List Nat)
    (act : Actor → State → State) (s : State) (h : ∀ a t, Keeps t (act a t)) :
    OnNext (writingBlocks c sel pred legal errors gs act s) (Keeps s) := by
  unfold writingBlocks
  split
  · rw [onNext_next]; exact Keeps.refl s
  · split
    · exact onNext_fault _ _
    · refine whenCopied_keeps _ _ _ _ ?_
      rw [onNext_next]
      exact (senseAll_keeps 0 s errors).trans (foldl_keeps (fun t a => act a t) (fun t a => h a t) _ _)

/-! ## Notices and changes of state -/

theorem mailNotify_keeps (s : State) (ch dir : Nat) : Keeps s (mailNotify s ch dir) := by
  unfold mailNotify
  dsimp only
  split <;> exact keeps_of_eq rfl rfl

theorem mailUpdate_keeps (s : State) (ch dir : Nat) (m : MailDir) : Keeps s (mailUpdate s ch dir m) := by
  unfold mailUpdate
  dsimp only
  have k : Keeps s (setMailDir s ch dir m) := keeps_of_eq rfl rfl
  generalize setMailDir s ch dir m = t at k
  split
  · refine k.trans ?_
    unfold mailRing
    dsimp only
    split
    · split <;> exact keeps_of_eq rfl rfl
    · exact mailNotify_keeps _ _ _
  · exact k

theorem postRecord_keeps (s : State) (ident ch dir : Nat) (n : Notice) : Keeps s (postRecord s ident ch dir n) := by
  unfold postRecord
  exact (writeTagged_keeps _ _ _).trans (mailUpdate_keeps _ _ _ _)

/-- A notice is posted, kept among the unposted, dropped with a record, or refused with one (R479, R489). -/
theorem postNotice_keeps (s : State) (ident ch kind tag : Nat) : Keeps s (postNotice s ident ch kind tag) := by
  unfold postNotice
  dsimp only
  split
  · exact Keeps.refl s
  · split
    · exact record_keeps _ _ _ _ _
    · split
      · exact postRecord_keeps _ _ _ _ _
      · split
        · exact keeps_of_eq rfl rfl
        · exact record_keeps _ _ _ _ _

theorem garnetNotice_keeps (s : State) (kind tag : Nat) : Keeps s (garnetNotice s kind tag) :=
  foldl_keeps _ (fun t p => postNotice_keeps t 5 (4 * p) kind tag) _ s

theorem sequencerNotice_keeps (s : State) (ctx kind tag : Nat) : Keeps s (sequencerNotice s ctx kind tag) :=
  postNotice_keeps s 6 _ kind tag

theorem noteState_keeps (was : ModState) (s : State) : Keeps s (noteState was s) := by
  unfold noteState
  split
  · exact Keeps.refl s
  · dsimp only
    refine Keeps.trans ?_ (garnetNotice_keeps _ _ _)
    refine Keeps.trans ?_ (log_keeps _ _ _ _ _ _)
    split
    · exact keeps_of_eq rfl rfl
    · exact Keeps.refl s

theorem setPowerState_keeps (s : State) (p : PowerState) : Keeps s (setPowerState s p) :=
  (keeps_of_eq rfl rfl).trans (noteState_keeps s.modState { s with power := { s.power with state := p } })

theorem setTenantState_keeps (s : State) (t v : Nat) : Keeps s (setTenantState s t v) := by
  unfold setTenantState
  dsimp only
  split
  · exact Keeps.refl s
  · exact (dset_keeps _ _ _ _).trans ((sequencerNotice_keeps _ _ _ _).trans (noteState_keeps _ _))

theorem endRequest_keeps (s : State) (v : Nat) : Keeps s (endRequest s v) := keeps_of_eq rfl rfl
theorem pendRequest_keeps (s : State) (q : Request) : Keeps s (pendRequest s q) := keeps_of_eq rfl rfl

end Sys2Proof.Machine
end

