-- ==== Sys2Proof/Tests/Slice0.lean ====
section
/-! SUPPORT. Tests: what the well-formedness checks refuse, worked values of the spec, and for every statement states that meet the
hypotheses of each of its clauses. -/

namespace Sys2Proof.Tests

open Sys2Proof.Machine

set_option Elab.async false

/-! ## States -/

/-- A CAN FD client that holds the lease, and the state that says so. -/
def bus : Requester := ⟨1, 5, 0, 0⟩
def leased (s : State) : State := s.dset 0x2060 4 (holderCode bus)

def standby : State := leased State.reset
def off : State := { State.reset with power := { Power.reset with state := .off, powerGood := false } }
def survey : State := { standby with power := { Power.reset with state := .survey } }
def up : State := { standby.dset 0x7000 3 0 with
  power := { Power.reset with state := .up, microDone := true }
  mail := { Mail.reset with binding := (List.range 16).map fun ch => State.reset.dget 0x2050 (ch + 1), locked := true } }
def fallen : State := { standby with power := { Power.reset with state := .faulted, followUp := true } }

/-- A program of 2 resident pages and 1 overlay page in context 0, whose tenant 0 is in a tenant state. -/
def prog : Ctx := { Ctx.empty with loaded := true, resident := 2, overlays := 1 }
def tenantIn (s : State) (v : Nat) : State :=
  (s.dsets [(0x6060, 5, 0), (0x6070, 5, v)]).setCtx 0 fun _ => prog
def loaded : State := tenantIn up 1
def running : State := tenantIn up 2
def parked : State := tenantIn up 6

/-- The beat unit has begun, at beat 100 of a schedule. -/
def beating (s : State) : State :=
  { s.dsets [(0x4070, 5, 100), (0x4070, 6, 1000000)] with quartz := { Quartz.reset with begun := true } }

def goodRails : List Nat := (List.range 32).map fun m => ((nth (0, 0, 0) railWindows m).1 + (nth (0, 0, 0) railWindows m).2.1) / 2
def goodCheck : RailCheck := ⟨goodRails, true, 0, 0, 8⟩

/-! ## Supplies and module states -/

theorem witness_ResetState_inv : Memory.wf State.reset.mem = true := by decide

/-- What a command answers: the state, or none where it stops. -/
def after (o : Host.Outcome State Fault Refusal) : Option State := match o with
  | .next t => some t
  | _ => none

theorem test_jump_beyond_the_store_stops : after (exec (.jump 0 65536) running) = none := by decide +kernel

theorem witness_SupplyContactsAndSwitch :
    (standby.power.presence = true ∧ standby.power.state ≠ .off ∧ standby.power.switchOn = true) ∧
    (off.power.presence = true ∧ off.power.state = .off ∧ off.power.switchOn = true) ∧
    ({ Power.reset with switchOn := false } : Power).presence = true := by decide

theorem witness_PowerLossEmptiesSquare :
    standby.power.state ≠ .off ∧ up.squareUp = true ∧ up.modState = .ready ∧ up.power.request = none ∧
    checkWrite up bus 0x4000 2 1 7 = 0 ∧ checkWrite up bus 0x4000 2 1 8 = 0 ∧ up.power.state ≠ .off ∧
    checkWrite fallen bus 0x4000 2 1 8 = 0 ∧ fallen.power.state = .faulted ∧ fallen.power.followUp = true := by decide +kernel

theorem witness_PowerGoodReachesStandby : off.power.state = .off ∧ off.power.powerGood = false ∧ off.power.presence = true ∧
    off.power.switchOn = true ∧ off.garnet.trial = false := by decide

/-- 400 V and closed contacts as 0x3000 reads them. -/
def supplied : State := (standby.dsets [(0x3000, 1, 400000), (0x3000, 7, 0), (0x2010, 0, 1)])
theorem witness_PowerUpEntersSurvey : supplied.modState = .standby ∧ powerReady supplied = true ∧ supplied.power.request = none ∧
    failedCheck goodCheck = none ∧ goodCheck.event = 0 ∧ supplied.power.state ≠ .off ∧
    checkWrite supplied bus 0x4000 2 1 1 = 0 ∧ supplied.dget 0x2010 0 = 1 ∧ supplied.power.fromDown = false ∧
    supplied.power.surveyBarred = false := by decide +kernel

def surveyWith (micro health blocks : Bool) (pcie : Bool) (boot : Nat) : State :=
  { survey with power := { survey.power with
      microDone := micro, healthDone := health, blocksDone := blocks, pcieUp := pcie, bootStatus := boot, bootLength := 100 } }
def surveyBoot : State := (surveyWith false true false true 0).dset 0x2020 0 1
theorem witness_SurveySteps :
    (surveyWith false true false false 2).power.microDone = false ∧ (surveyWith false true false false 8).power.bootStatus = 8 ∧
    (surveyWith true true false false 8).power.blocksDone = false ∧ survey.power.state = .survey ∧
    surveyBoot.dget 0x2020 0 = 1 ∧ surveyBoot.power.pcieUp = true ∧ surveyBoot.power.bootStatus = 0 ∧
    surveyComplete (surveyWith true true true false 8) = true ∧ survey.squareUp = true := by decide +kernel

theorem witness_FatalFaultEntersFaulted : up.squareUp = true ∧ up.power.state ≠ .faulted ∧
    checkWrite fallen bus 0x5000 1 4 0 = 0 ∧ fallen.power.state ≠ .off ∧ checkWrite up bus 0x5000 1 4 0 = 0 := by decide +kernel

/-! ## Well-formedness: a term that each check refuses -/

theorem test_requester_refused : ([⟨0, 1, 0, 0⟩, ⟨1, 128, 0, 0⟩, ⟨2, 65536, 0, 0⟩, ⟨3, 4, 0, 0⟩, ⟨2, 1, 2 ^ 128, 0⟩, ⟨2, 1, 0, 65536⟩,
    ⟨4, 0, 0, 0⟩] : List Requester).all (fun r => !r.wf) = true ∧ bus.wf = true := by decide

theorem test_frame_refused : ([⟨9, 0, 0, 0, [], true, false, true⟩, ⟨0, 2 ^ 128, 0, 0, [], true, false, true⟩,
    ⟨0, 0, 65536, 0, [], true, false, true⟩, ⟨0, 0, 0, 2 ^ 512, [], true, false, true⟩,
    ⟨0, 0, 0, 0, List.replicate 4097 0, true, false, true⟩] : List FrameIn).all (fun x => !x.wf) = true ∧
    (⟨8, 5, 6, 7, [], true, false, true⟩ : FrameIn).wf = true := by decide +kernel

theorem test_unit_refused : ([⟨2 ^ 18, 0, [], 0⟩, ⟨0, 2 ^ 512, [], 0⟩, ⟨0, 0, List.replicate 4033 0, 0⟩, ⟨0, 0, [], 2 ^ 64⟩] :
    List EngineUnit).all (fun x => !x.wf) = true ∧ (⟨5, 6, [], 7⟩ : EngineUnit).wf = true := by decide +kernel

theorem test_slots_refused : ([.nop 4 0 0 ⟨[], []⟩, .delay 0 (2 ^ 24) 0 0 ⟨[], []⟩, .waitBeat 0 2 0 0 0 0, .waitBeat 0 0 2 0 0 0, .loopOp 0 0 65536,
    .branch 0 2 0 0, .branch 0 0 32 0, .overlayLoad 0 4096 0, .overlayLoad 0 0 64, .backlogPush 0 4 0 0, .backlogPush 0 0 8192 0,
    .vadd 0 64 0 0 0 0, .vadd 0 0 8 0 0 0, .vadd 0 0 0 32 0 0, .vadd 0 0 0 0 32 0, .vadd 0 0 0 0 0 32, .vfma 0 0 0 0 0 0 32,
    .vshift 0 0 0 0 0 0 4 0 0, .vcvt 0 0 0 0 0 16 0 0 0 0 0, .vperm 0 0 0 0 0 8 0, .flagsClear 0 0 0 2048, .setBase 0 0 0 32 0 0 0,
    .setBase 0 0 0 0 0 0 (2 ^ 36), .netSend 0 (2 ^ 18) 0 0 0 0 ⟨[], []⟩, .qSend 0 0 0 16 0 0 0 0 0, .admitFwd 0 128 []] :
    List Instr).all (fun c => !wellFormed c) = true ∧ wellFormed (.vadd 0 63 7 31 31 31) = true := by decide +kernel

theorem test_commands_refused : ([.powerUp ⟨0, 1, 0, 0⟩ goodCheck, .rowMigration 2048 0 0 ⟨[], []⟩, .rowMigration 0 16 0 ⟨[], []⟩,
    .rowMigration 0 0 16 ⟨[], []⟩, .evacRequest bus 65536, .beatSourceWrite bus 256, .stretchRequestFrame ⟨0, 0, 2 ^ 512⟩ 0, .stretchRequestFrame ⟨9, 0, 0⟩ 0, .scheduleAnnounce ⟨0, 2 ^ 128, 0⟩ 0, .cageRemove 8,
    .capabilityFrame 0 (2 ^ 1024), .ackSend (2 ^ 18), .flowRead 4, .form bus 8, .formationRecord 0 1024 0 0 0 0 0 0 0 0,
    .reduce 0 (2 ^ 512), .reductionDeadline 0 1024 [], .restoreGeneration bus 4, .hostDrainAnswer 16, .tenantLoad bus 8,
    .lockAccess 16 0 0 true, .lockAccess 0 16 0 true, .lockAccess 0 0 2 true, .producer 0 0 0 (2 ^ 32), .ringSet 0 0 0 true (2 ^ 64),
    .dictionaryWrite bus 65536 0 0 0 ⟨true, goodCheck⟩, .dictionaryWrite bus 0 256 0 0 ⟨true, goodCheck⟩, .nmtCommand 0 128,
    .datagramRead (2 ^ 128) 0 0, .datagramRead 0 0 (2 ^ 256), .getCertificate 0 0 0 4 0 0, .landingEntryFree 0 2, .pathUsableAgain 0 64] :
    List Instr).all (fun c => !wellFormed c) = true ∧ wellFormed (.form bus 7) = true := by decide +kernel

/-! ## Cages, links and identity -/

/-- Port 0 in a state, with its cage's module powered. -/
def port (s : State) (v : Nat) (x : Port) : State := (s.dset 0x3040 1 v).setPort 0 { x with present := true, powered := true }
def linked : State := port up 3 Port.empty

theorem witness_CageCommands :
    standby.power.state ≠ .off ∧ linksRun standby = false ∧ linksRun up = true ∧ bit (up.dget 0x2040 4) 0 = true ∧
    0 < up.dget 0x2040 5 ∧ (linked.port 0).powered = true ∧ portState linked 0 = 3 ∧ portState (port up 7 Port.empty) 0 = 7 := by
  decide +kernel

def exchanging : State := port up 5 Port.empty
/-- A capability body: `VERSION` 1 on version byte 0x11, bit 384 set. -/
def capBody : Nat := 0x11 + 2 ^ 384
def rechecked : State := port up 9 { Port.empty with reason := 5 }
def admittedPeer (st ph why : Nat) : State := up.setPeer 7 { Peer.empty with
  address := 99, state := st, phase := ph, reason := why, digest := 5 }

theorem witness_LinkAndExchange :
    linksRun linked = true ∧ portState linked 0 = 3 ∧ (linked.port 0).usable = true ∧ portState exchanging 0 = 5 ∧
    bits capBody 0 8 = 0x11 ∧ bits capBody 344 8 ≠ 0xFF ∧ bit capBody 384 = true ∧ portState rechecked 0 = 9 ∧
    (rechecked.port 0).reason = 5 ∧ (rechecked.port 0).phase = 0 ∧ ((admittedPeer 1 4 0).peer 7).state = 1 ∧
    ((admittedPeer 1 4 0).peer 7).phase = 4 := by decide +kernel

def checking (why : Nat) : State := port up 6 { Port.empty with digest := 5, device := 5, phase := 3, reason := why }
def quarantinedNew : State := port up 9 { Port.empty with digest := 5, device := 5, reason := 2 }

theorem witness_IdentityOutcome :
    linksRun (checking 0) = true ∧ ((checking 0).port 0).phase = 3 ∧ ((checking 0).dset 0x3061 1 5).dget 0x3061 1 = 5 ∧
    (checking 0).dget 0x3061 1 = 0 ∧ (checking 0).dget 0x2080 3 = 0 ∧ (quarantinedNew.port 0).reason = 2 ∧
    portState quarantinedNew 0 = 9 ∧ checkWrite quarantinedNew bus 0x2080 1 1 0 = 0 ∧ quarantinedNew.power.state ≠ .off ∧
    checkWrite (admittedPeer 3 0 2) bus 0x2080 2 2 7 = 0 ∧ ((admittedPeer 3 0 2).peer 7).reason = 2 := by decide +kernel

/-! ## The sequencer -/

/-- The running program at bundle 5 of nothing, and inside a loop of bundles 2 to 5. -/
def at5 : State := running.dset 0x4030 1 5
def inLoop : State := at5.setCtx 0 fun x => { x with loops := [⟨2, 5, 3, 0⟩] }

theorem witness_ControlTransfers :
    at5.running 0 = true ∧ inLoop.running 0 = true ∧ 9 < 1024 * pagesOf at5 0 ∧ at5.pc 0 < 9 ∧ (at5.ctx 0).loops.length < 4 ∧
    condition inLoop 0 0 = true ∧ condition inLoop 0 1 = false := by decide +kernel

theorem test_loop_goes_round : ((after (exec (.nop 0 0 0 ⟨[], []⟩) inLoop)).map fun t => (t.pc 0, (t.ctx 0).loops)) =
    some (2, [⟨2, 5, 3, 1⟩]) := by decide +kernel

def onBeat (skip : Nat) : State := (beating running).dsets [(0x4030, 4, 90), (0x4030, 5, skip)]
theorem witness_BeatWaits :
    (onBeat 0).running 0 = true ∧ waitLegal (onBeat 0) 0 1 0 10 50 = true ∧ (onBeat 0).hasSchedule = true ∧
    (onBeat 0).quartz.begun = true ∧ namedBeat (onBeat 0) 0 1 10 + (onBeat 0).dget 0x4030 5 ≤ (onBeat 0).beat ∧
    ((onBeat 0).cairnOf 0).armed = none ∧ running.hasSchedule = false ∧ waitLegal running 0 1 0 10 50 = true ∧
    ((onBeat 0).ctx 0).faultLate = false ∧
    (((onBeat 0).setCtx 0 fun x => { x with faultLate := true }).ctx 0).faultLate = true := by decide +kernel

theorem witness_OverlayAndStashPages : running.running 0 = true ∧ 0 < (running.ctx 0).overlays ∧ 1 < pagesOf running 0 ∧
    ((running.setCtx 0 fun x => { x with stage := [0, 0, 0, 0, 0, 1, 2] }).ctx 0).cfg 7 ≠ 0 := by decide +kernel

/-- The running program with a checkpoint reserve that holds its capture. -/
def reserved : State := running.dset 0x6000 1 65536
theorem witness_ServiceRequests :
    reserved.running 0 = true ∧ (reserved.ctx 0).backlog.length < 256 ∧ refusalOf reserved 0 = 0 ∧ running.dget 0x6050 6 ≠ 0 ∧
    (onBeat 0).hasSchedule = true ∧ ((onBeat 0).dget 0x4030 4 + 10) % 2 ^ 64 ≤ (onBeat 0).beat ∧
    (onBeat 0).beat < ((onBeat 0).dget 0x4030 4 + 20) % 2 ^ 64 := by decide +kernel

def longWait : State := (running.dsets [(0x4030, 2, 3), (0x4030, 9, 4)]).setCtx 0 fun x => { x with waitBeats := 5 }
theorem witness_StreamEndsAndLongWaits : longWait.running 0 = true ∧ 2 ≤ longWait.dget 0x4030 2 ∧
    longWait.dget 0x4030 9 < (longWait.ctx 0).waitBeats ∧ (longWait.ctx 0).waitTold = false := by decide +kernel

/-! ## Stream requests and tenants -/

/-- Tenant 0 in a state, the beat aligned at 100, and requests for beat 110. -/
def ready (v : Nat) : State :=
  (beating (tenantIn up v)).dsets [(0x4070, 4, 2), (0x4000, 3, 110), (0x4000, 4, 110), (0x6070, 4, 110)]

theorem witness_RequestsBecomePending :
    (ready 1).power.state = .up ∧ (ready 1).power.request = none ∧ (ready 1).configured 0 = true ∧ (ready 1).single = true ∧
    (ready 1).resident (homeOfTenant (ready 1) 0) = some 0 ∧
    beatsAllow (ready 1) ((ready 1).ctx (homeOfTenant (ready 1) 0)) = true ∧ ((ready 1).cairnOf 0).failed = false ∧
    ((ready 1).cairnOf 0).restore = none ∧ ((ready 1).cairnOf 0).restored = none ∧ (ready 1).beat + 2 ≤ (ready 1).dget 0x4000 3 ∧
    checkWrite (ready 1) bus 0x4000 2 1 3 = 0 ∧ checkWrite (ready 2) bus 0x4000 2 1 4 = 0 ∧
    checkWrite (ready 6) bus 0x4000 2 1 5 = 0 ∧ checkWrite (ready 1) bus 0x6070 3 1 2 = 0 ∧
    checkWrite (ready 2) bus 0x6070 3 1 6 = 0 ∧ checkWrite (ready 6) bus 0x6070 3 1 7 = 0 ∧
    checkWrite (ready 2) bus 0x6070 3 1 3 = 0 ∧ checkWrite (ready 4) bus 0x6070 3 1 4 = 0 ∧ stopping (ready 2) 0 = false ∧
    (ready 4).tenantState 0 = 4 := by decide +kernel

/-- A `HOLD` waits for beat 110. -/
def busy : State := (ready 2).setPower fun p => { p with request := some ⟨4, 110, 0⟩ }
theorem witness_OneRequestAtATime :
    busy.power.request.isSome = true ∧ checkWrite busy bus 0x4000 2 1 3 = 0 ∧ checkWrite busy bus 0x4000 2 1 7 = 0 ∧
    checkWrite busy bus 0x4000 2 1 8 = 0 ∧ checkWrite busy bus 0x6070 3 1 3 = 0 ∧ (ready 2).modState = .running ∧
    (∀ u, u < 8 → 0 < u → (ready 2).tenantState u = 0) ∧ checkWrite (ready 2) bus 0x4000 2 1 2 = 0 := by decide +kernel

theorem witness_LoadAndUnload :
    up.configured 0 = true ∧ homeOfTenant up 0 < up.partitions ∧ up.tenantState 0 = 0 ∧ up.resident 0 = none ∧ moving up 0 = false ∧
    up.single = true ∧ checkWrite up bus 0x4000 2 1 2 = 0 ∧ checkWrite up bus 0x6070 3 1 1 = 0 ∧
    loaded.resident 0 = some 0 ∧ checkWrite loaded bus 0x4000 2 1 6 = 0 ∧ checkWrite parked bus 0x6070 3 1 5 = 0 := by
  decide +kernel

def pendingAt (code v : Nat) : State := (ready v).setPower fun p => { p with request := some ⟨code, 100, 0⟩ }
theorem witness_PendingRequestsFire :
    homeOfTenant (pendingAt 3 1) 0 < 4 ∧ (pendingAt 3 1).hasSchedule = true ∧ (pendingAt 3 1).quartz.begun = true ∧
    100 ≤ (pendingAt 3 1).beat ∧ (pendingAt 3 1).tenantState 0 = 1 ∧ ((pendingAt 3 1).cairnOf 0).restored = none ∧
    (pendingAt 5 6).tenantState 0 = 6 ∧ (pendingAt 4 2).tenancy.stops = [] ∧ waitsForNet (pendingAt 4 2) 0 = false := by
  decide +kernel

def savingMove : State := { ready 3 with tenancy := ⟨[], [⟨0, false, false, true, none⟩]⟩ }
def gracing : State := { (ready 2).dset 0x4030 2 6 with tenancy := ⟨[⟨0, true, 100, false, none⟩], []⟩ }
/-- Tenant 0 parked, with one block of its context bound at logical block 0. -/
def parkedSave : Parked := ⟨{ prog with blocks := [(0, 0)] }, [(0, Block.empty)], [], [], [], [], [], Cairn.empty, true, 90⟩
def away (v : Nat) : State := { ((beating up).dsets [(0x4070, 4, 2), (0x6070, 5, v)]) with parked := [(0, parkedSave)] }
theorem witness_SavesAndScheduling :
    savingMove.tenantState 0 = 3 ∧ savingMove.power.request = none ∧ waitsForNet gracing 0 = true ∧
    (away 4).tenancy = Tenancy.empty ∧ (away 4).partitions = 1 ∧ (away 4).resident 0 = none ∧ bestRunnable (away 4) 0 = some 0 := by
  decide +kernel

def reloading (health : Nat) : State := { away 3 with
  tenancy := ⟨[], [⟨0, true, false, true, none⟩]⟩
  zoning := { Zoning.reset with health := (List.range 1088).map fun p => (p, health) } }
theorem witness_reload :
    (away 3).tenantState 0 = 3 ∧ kfind (away 3).parked 0 = some parkedSave ∧
    rebind (away 3) 0 parkedSave.context.blocks [0] = some [(0, 0)] ∧ rebind (reloading 2) 0 parkedSave.context.blocks [0] = none := by
  decide +kernel

/-- A forward record that arrived at beat 80 with a deadline of 10 beats, in slot 3 of context 0; partition 1 runs a free-flow program. -/
def dueRecord : Nat := 1 + 2 ^ 4 + 10 * 2 ^ 80 + 80 * 2 ^ 192
def monitored (parts : Nat) : State :=
  (((ready 2).dsets [(0x6080, 1, 1), (0x6050, 1, parts), (0x6050, 6, 1), (0x6061, 5, 1), (0x6071, 1, 1), (0x6071, 5, 2)]).setCtx 0
    fun x => { x with slots := [(3, ⟨some dueRecord, 0⟩)] }).setCtx 1 fun _ => { prog with freeFlow := true }
theorem witness_DeadlinePushesFallback :
    (monitored 2).hasSchedule = true ∧ (monitored 2).quartz.begun = true ∧ ((monitored 2).ctx 0).loaded = true ∧
    (monitored 2).dget 0x6080 1 = 1 ∧ (∀ e, e < 4 → e ≠ 0 → (monitored 2).dget (0x6080 + e) 1 ≠ 1) ∧
    deadlineOf dueRecord = some 90 ∧ 90 ≤ (monitored 2).beat + (monitored 2).dget 0x6080 2 ∧
    ((monitored 2).ctx 0).switched = [] ∧ fallbackFor (monitored 1) 0 = none ∧ fallbackFor (monitored 2) 0 = some 1 ∧
    queueFree (monitored 2) 1 0 ≠ 0 ∧
    recordFault ((monitored 2).ctx 1) 0 (fallbackRecord (monitored 2) 0 1 dueRecord 90) = 0 := by decide +kernel

/-! ## The vector unit -/

/-- Lanes that hold `f` of their number; lane 7 is poisoned. -/
def lanes (n : Nat) (f : Nat → Nat) : List Lane := (List.range n).map fun l => ⟨BitVec.ofNat 32 (f l), l == 7⟩
/-- Two logical blocks of region 0 at blocks 3 and 5, with values in their registers. -/
def workBlock : Block := { Block.empty with
  preds := 2, vregs := [(1, lanes 64 fun l => l * 0x01020304), (2, lanes 64 fun l => 0x3F800000 + l), (4, lanes 64 fun l => 0x40490FDB - l)],
  acc := [(0, lanes 128 fun l => 0x3F800000 + l)], flags := 5,
  queues := [(2, ⟨false, 0, [⟨List.replicate 64 7, 0⟩, ⟨List.replicate 64 8, 9⟩]⟩), (4, ⟨true, 0, []⟩)] }
def working : State :=
  { running.setCtx 0 fun x => { x with
      descs := [⟨1, 3, 0, 0, 0, 0, true⟩], logical := 16, blocks := [(0, 3), (1, 5)], plazas := [(0, 2)] } with
    blocks := [(3, workBlock), (5, workBlock)] }

theorem witness_actors :
    working.running 0 = true ∧ ((working.ctx 0).desc 0).valid = true ∧ (actors working 0 0 1).map (·.phys) = [3, 5] ∧
    ((actors working 0 0 1).map (·.phys)).Nodup ∧ ∀ a ∈ actors working 0 0 1, a.phys < 1088 := by decide +kernel

theorem witness_ConversionOps : cvtLegal 0 1 1 0 = true ∧ cvtLegal 0 2 0 1 = true ∧ cvtLegal 10 0 0 0 = true := by decide

/-! ## Banks, accumulators, Mica and the movers -/

/-- Rows 0 and 1 of banks 0 and 1 of both blocks hold bytes; buffers 1 (Square) and 2 (Bedrock) are bound. -/
def squareBuffer : Buffer := ⟨64, 0, 0, 0, 0, 0, 0, 0, 3, 0, 2, false, squareBase, []⟩
def bedrockBuffer : Buffer := { squareBuffer with home := 3, address := bedrockBase }
def banked : State :=
  [(3, 0, 0), (3, 1, 1), (5, 0, 0), (5, 1, 1)].foldl (fun s (p, b, r) =>
    writeBytes s (rowAddress p b r) ((List.range 128).map fun i => BitVec.ofNat 8 (i + p + b))) (working.setCtx 0 fun x =>
      { x with buffers := [{ squareBuffer with home := 0 }, squareBuffer, bedrockBuffer] })

theorem witness_banks : (banked.cairnOf 0).copying = none ∧ banked.zoning.evac = [] ∧ banked.running 0 = true ∧
    (∀ a ∈ actors banked 0 0 1, outRow banked 0 0 7 a < 768 ∧ auxRow banked 0 0 9 a < 768 ∧
      (banked.block a.phys).rowOf ((banked.ctx 0).desc 0).selA 63 < 768 ∧ ((banked.block a.phys).accRow 0).length = 128) := by
  decide +kernel

theorem witness_legal_operands : loadLegal 9 0 0 0 63 1 = true ∧ loadLegal 9 3 15 1 0 0 = true ∧
    storeLegal 1 0 2 0 7 0 0 0 0 0 = true ∧ storeLegal 1 2 2 4 7 1 4 9 7 0 = true ∧ storeLegal 1 4 2 6 7 0 0 0 0 3 = true ∧
    micaFillLegal 1 0 0 4 0 0 1 = true := by decide

def mmWitness : MmFields := ⟨4, 4, 1, 2, 0, 0, 0, 0, 0, 0, 4, 3, 0⟩
theorem witness_MultiplyAccumulates : mmLegal mmWitness = true ∧ mmLegal { mmWitness with h := 0 } = true := by decide

theorem witness_BankAndAvenueCopies :
    Apart (bankTransfers banked ((banked.ctx 0).desc 0) 0 0 3 40 2 (actors banked 0 0 1)) ∧
    Apart (avenueTransfers banked (banked.ctx 0) ((banked.ctx 0).desc 0) 0 1 0 0 5 10 4 8 (actors banked 0 0 1)) := by
  unfold Apart; decide +kernel

theorem witness_BufferCopies :
    ((banked.ctx 0).buffer 1).cls ≠ 5 ∧ squareBase ≤ ((banked.ctx 0).buffer 1).address ∧
    ((banked.ctx 0).buffer 1).address + 4096 * 1 + 128 * (1024 * 2) ≤ bedrockEnd ∧
    (∀ a ∈ actors banked 0 0 1, ((List.range 2).map fun i =>
      (banked.block a.phys).rowOf ((banked.ctx 0).desc 0).selOut (0 + i)).Nodup) ∧
    ((banked.ctx 0).buffer 1).address + 4096 * 2 ≤ ((banked.ctx 0).buffer 2).address := by decide +kernel

/-! ## Plazas, queues, network slots and admission -/

theorem witness_PlazaSumsStand :
    kfind (banked.ctx 0).plazas 0 = some 2 ∧ (selectedActors (banked.ctx 0) 0).length = 2 ∧ slackUsed banked 2 + 2 ≤ 64 ∧
    ((Desc.mk 1 1 0 0 0 0 true).selected).length = 1 ∧ plazaSlots banked 2 5 = [] ∧ actors banked 0 0 1 ≠ [] := by decide +kernel

theorem witness_QueuesDeliverInOrder :
    (∀ p ∈ (actors banked 0 0 1).filterMap fun a => queueTarget (banked.ctx 0) a.logical 0,
      ((banked.block p).queue 3).closed = true ∨ ((banked.block p).queue 3).entries.length < 64) ∧
    ((((actors banked 0 0 1).filterMap fun a => queueTarget (banked.ctx 0) a.logical 0).filter fun p =>
      ((banked.block p).queue 4).closed).head? = some 3) ∧
    ((actors banked 0 0 1).filterMap fun a => queueTarget (banked.ctx 0) a.logical 0).Nodup ∧
    (∀ a ∈ actors banked 0 0 1, ((banked.block a.phys).queue 2).entries ≠ []) := by decide +kernel

/-- Flow 40 of context 0 towards peer 7, which is this module itself, at address 0x1234. -/
def wired (x : Flow) : State :=
  ((banked.dset 0x2040 1 0x1234).setPeer 7 { Peer.empty with address := 0x1234, state := 2, features := 3, portMask := 1 }).setFlow 40 { x with
    ctx := 0, peer := 7, peerFlow := 40, portMask := 1, paths := 1 }
def sendFlow1 : Flow := { Flow.empty with state := 2, kind := 1, credit := 10 }
def windowFlow : Flow := { Flow.empty with state := 2, kind := 2, buffer := 1, window := 8, credit := 8 }
theorem witness_NetworkSlots :
    netLegal (wired sendFlow1) 0 40 1 0 2 1 = true ∧ ((wired sendFlow1).flow 40).ctx = 0 ∧
    holdsCredit (wired sendFlow1) 40 2 = true ∧ ((wired sendFlow1).flow 40).store = [] ∧
    (∀ i, i < 2 → ({ windowFlow with done := 2 } : Flow).hasLanded (unitNext 0 i) = true) ∧
    netLegal (wired windowFlow) 0 40 1 0 2 0 = true ∧ netLegal (wired windowFlow) 0 40 2 0 2 0 = true ∧
    unitAfter ({ windowFlow with covered := 3 } : Flow).covered ({ windowFlow with covered := 3 } : Flow).freed = true := by
  decide +kernel

/-- A forward record of microbatch 5 in queue 0, and its gradient record in queue 1. -/
def fwdRecord (mb : Nat) : Nat := 1 + 2 ^ 4 + mb * 2 ^ 128
def gradRecord (mb : Nat) : Nat := 2 + 2 ^ 4 + mb * 2 ^ 128
def admitting (slots : List (Nat × MicroSlot)) (fwd grad : List Nat) : State :=
  banked.setCtx 0 fun x => { x with slots := slots, fwdQueue := fwd, gradQueue := grad, fwdLand := { Landing.empty with due := 2 } }
def full : State := admitting [] (List.replicate 64 (fwdRecord 1)) []
theorem witness_RecordsAreAdmitted :
    (admitting [] [fwdRecord 5] []).running 0 = true ∧ 3 < slotsOf (admitting [] [fwdRecord 5] []) 0 ∧
    headerOk (admitting [] [fwdRecord 5] []) 0 0 0 = true ∧ stashHold (admitting [] [fwdRecord 5] []) 0 3 = false ∧
    ((admitting [] [fwdRecord 5] []).ctx 0).switched = [] ∧ ((admitting [] [fwdRecord 5] []).ctx 0).arrivals = [] ∧
    mirrorBuffer ((admitting [] [fwdRecord 5] []).ctx 0) = none ∧ recMicrobatch (fwdRecord 5) = recMicrobatch (gradRecord 5) ∧
    recStep (fwdRecord 5) = recStep (gradRecord 5) ∧ recMicrobatch (fwdRecord 5) ≠ recMicrobatch (gradRecord 6) ∧
    banked.squareUp = true ∧ queueFree banked 0 0 ≠ 0 ∧ recordFault (banked.ctx 0) 0 (fwdRecord 5) = 0 ∧
    recordFault (banked.ctx 0) 0 (gradRecord 5) ≠ 0 ∧ recordFault (banked.ctx 0) 1 (gradRecord 5) = 0 ∧ queueFree full 0 0 = 0 ∧
    (((admitting [] [] []).ctx 0).landing 0).due ≠ 0 := by decide +kernel

/-! ## Flows -/

/-- The window of function 0 selects flow 40 and peer 7, with write data. -/
def windowed (x : Flow) (data : Nat) : State :=
  (wired x).setNetWindow 0 { NetWindow.empty with flowSelect := 40, flowData := data, peerSelect := 7, peerData := 5 * 2 ^ 128 }
def closedWindow : Flow := { windowFlow with state := 0 }
theorem witness_FlowWindows :
    (windowed closedWindow 0x10).squareUp = true ∧ flowInRange (windowed closedWindow 0) 0 40 = true ∧ imageBad 0x10 = false ∧
    imageBad 0x300 = true ∧ peerInRange (windowed closedWindow 0) 0 7 = true ∧
    openBad (windowed closedWindow 0) ((windowed closedWindow 0).flow 40) = false ∧
    (flowCtx (windowed closedWindow 0) 40).loaded = true ∧
    windowBufferOk (flowCtx (windowed closedWindow 0) 40) ((windowed closedWindow 0).flow 40) = true ∧
    peerUnusable (windowed closedWindow 0) ((windowed closedWindow 0).flow 40) = false ∧
    flowInRange ((windowed closedWindow 0).dset 0x6070 8 16) 0 40 = false ∧
    (∀ e ∈ (windowed closedWindow 0).net.flows, e.2.peer = 7 → e.2.state = 0) ∧
    (∃ e ∈ (windowed windowFlow 0).net.flows, e.2.peer = 7 ∧ e.2.state ≠ 0) := by decide +kernel

/-- A frame of a kind inside the Square for flow 40 from flow 40, and the body of a control frame from this module. -/
def frameOf (kind seq map : Nat) (body : List Byte) : FrameIn :=
  ⟨8, 0, State.reset.dget 0x2040 3, 1 + kind * 2 ^ 8 + 40 * 2 ^ 92 + 40 * 2 ^ 110 + map * 2 ^ 128 + 20 * 2 ^ 192 + seq * 2 ^ 224, body, true, false, true⟩
def control (kind seq : Nat) : FrameIn := frameOf 5 0 0 (leBytes 64 (kind + 2 ^ 4 + seq * 2 ^ 16 + 0x1234 * 2 ^ 384))
def opening : State := wired { sendFlow1 with state := 1 }
def shut : State := wired closedWindow
theorem witness_FlowControlFrames :
    linksRun shut = true ∧ carries shut (control 1 0) = true ∧ headerValid shut (control 1 0) = true ∧
    controlValid (control 1 0) = true ∧ (control 1 0).kind = 5 ∧ (control 1 0).dest = 40 ∧ controlType (control 5 3) = 5 ∧
    (∀ i ∈ peersAt shut (controlSender (control 1 0)), (shut.peer i).state ≠ 3) ∧ (shut.flow 40).state = 0 ∧
    ((wired windowFlow).flow 40).peerFlow = (control 1 0).src ∧
    ((wired windowFlow).peer 7).address = controlSender (control 1 0) ∧ (opening.peer 7).state = 2 ∧ (pathFor opening 40 0 0).2 ≠ 9 ∧
    setOfFlow (wired windowFlow) 40 = none ∧ (wired { windowFlow with state := 6 }).flow 40 ≠ Flow.empty ∧
    ({ sendFlow1 with state := 6 } : Flow).store = [] := by decide +kernel

def unitBody : List Byte := [1, 2, 3, 4]
def stored (k : Nat) : StoreUnit := ⟨k, [1, 2, 3], 0, false, 0, 8, 0, false⟩
def sending : State := wired { sendFlow1 with issued := 3, store := [stored 0, stored 1, stored 2] }
theorem witness_UnitsLandAndAreAcknowledged :
    (frameOf 1 3 0 unitBody).kind = 1 ∧ carries (wired windowFlow) (frameOf 1 3 0 unitBody) = true ∧
    headerValid (wired windowFlow) (frameOf 1 3 0 unitBody) = true ∧ ((wired windowFlow).flow 40).hasLanded 3 = false ∧
    unitAfter ((wired windowFlow).flow 40).credit 3 = true ∧ unitAfter ((wired windowFlow).flow 40).credit 9 = false ∧
    ((wired { windowFlow with done := 5 }).flow 40).hasLanded 3 = true ∧ (∀ c, c < 4 → ((wired windowFlow).cairnOf c).copying = none) ∧
    (shut.flow 40).state = 0 ∧ (frameOf 1 3 0 unitBody).rejected = true ∧ (frameOf 2 1 4 []).kind = 2 ∧ (sending.flow 40).kind = 1 ∧
    (sending.flow 40).unit? 1 = some (stored 1) ∧ (stored 1).port ≠ 9 ∧ (pathFor (pathTimeout sending 40 0) 40 1 1).2 ≠ 9 ∧
    (sending.flow 40).store ≠ [] ∧ setOfFlow sending 40 = none ∧ ((wired { sendFlow1 with state := 3 }).flow 40).state = 3 := by
  decide +kernel

def hostWrites : Flow := { Flow.empty with state := 2, kind := 7, window := 8 }
def hostReads : Flow := { Flow.empty with state := 2, kind := 8, buffer := 1, window := 8, store := [⟨2, [], 0, false, 0, 8, 0, false⟩] }
theorem witness_QueuePairs :
    ((wired hostReads).flow 40).kind = 8 ∧ ((wired hostWrites).flow 40).kind = 7 ∧ ((wired hostWrites).flow 40).state = 2 ∧
    unitAfter ((wired hostWrites).flow 40).credit ((wired hostWrites).flow 40).issued = false ∧
    (((wired hostReads).flow 40).unit? 2).isSome = true ∧ ((wired hostReads).flow 40).rdma = true := by decide +kernel

/-! ## Zoning and the beat -/

/-- Physical block 5 bound at logical block 0 of context 0; entry 2 of its bank 1 in a state, naming row 9. -/
def zoned (entry : Nat) : State :=
  let t := (running.dset 0x7020 2 50).setCtx 0 fun x => { x with blocks := [(0, 5)], window := true }
  writeBytes (t.setRemap 5 1 2 ⟨entry, 9⟩) (rowAddress 5 1 9) [1, 2, 3]
def evacuating (phase health : Nat) : State := setHealth { zoned 2 with zoning := { (zoned 2).zoning with evac := [⟨5, phase⟩] } } 16 health

theorem witness_ZoningCommands :
    (zoned 1).remapEntry 5 1 2 = ⟨1, 9⟩ ∧ portsReserved (zoned 1) 5 = false ∧
    (zoned 1).dget 0x7020 2 ≠ 0 ∧ (zoned 1).dget 0x7020 1 ≠ 1 ∧ blockPower (zoned 1) 5 ≠ 0 ∧
    kget [] (zoned 1).zoning.suspects (5 * 16 + 1) = [] ∧
    (zoned 1).power.state ≠ .off ∧ checkWrite (zoned 1) bus 0x7050 1 2 5 = 0 ∧ boundBy (zoned 1) 5 = some (0, 0) ∧
    (zoned 1).zoning.evac = [] ∧ boundBy (zoned 1) 16 = none ∧ usable (zoned 1) 0 16 = true ∧
    usable (evacuating 0 2) 0 16 = false ∧ (evacuating 0 0).zoning.evac = [⟨5, 0⟩] ∧ healthOf (evacuating 0 0) 16 = 0 ∧
    healthOf (evacuating 0 2) 16 ≠ 0 ∧ boundBy (evacuating 0 2) 16 = none ∧ boundBy (evacuating 0 2) 5 = some (0, 0) ∧
    ((evacuating 3 0).ctx 0).window = true ∧ (evacuating 3 0).zoning.evac = [⟨5, 3⟩] ∧ districtSpare 5 = 16 ∧
    checkWrite up bus 0x7030 3 2 5 = 0 ∧ checkWrite up bus 0x7030 4 2 5 = 0 ∧
    metMask ⟨[], [(rowAddress 5 1 9, 3)]⟩ (rowAddress 5 1 9) &&& byteMask 0 128 ≠ 0 ∧
    checkWrite (setHealth (zoned 1) 16 2) bus 0x7050 1 2 5 = 0 ∧ boundBy (setHealth (zoned 1) 16 2) 5 = some (0, 0) ∧
    usable (setHealth (zoned 1) 16 2) 0 16 = false ∧ (setHealth (zoned 1) 16 2).zoning.evac = [] := by decide +kernel

/-- A module of a beat source and a beat status that holds a schedule of 1 ms beats with 16 near measurements, and whose port 0 is
ACTIVE with a measured delay. -/
def timed (source status : Nat) : State :=
  let t := (beating up).dsets [(0x2030, 1, source), (0x4070, 4, status), (0x2031, 1, 77), (0x2031, 0x11, 88), (0x3040, 1, 7),
    (0x3030, 1, 500)]
  { t with quartz := { t.quartz with aligned := 16, edge := 5000000000, due := 6000000000, nextEdge := 6000000000, master := 9, basePeriod := 1000000,
                                     ptp := some ⟨[1], 0⟩, announce := some ⟨1, 2, 3, 4, 5000, 5000, 1⟩ } }
def pendingPeriodAt (n : Nat) : State := (timed 0 2).dsets [(0x4070, 0xC, n), (0x4070, 0xD, 2000000)]
def acquiring (source : Nat) : State := (up.dset 0x2030 1 source).dset 0x4070 1 2000000
/-- A master that has seen `run` good edges of its reference. -/
def referenced (run : Nat) : State := { acquiring 2 with quartz := { Quartz.reset with ppsRun := run } }
def sync (kind : Nat) : PtpMessage := ⟨0, 2, 1, 6, up.dget 0x2030 2, kind, [], 40, true⟩

theorem witness_BeatNumberAndStatus :
    (timed 0 2).hasSchedule = true ∧ (timed 0 2).quartz.begun = true ∧
    pendingBeat (pendingPeriodAt 101) = some (((pendingPeriodAt 101).beat + 1) % 2 ^ 64) ∧
    pendingBeat (pendingPeriodAt 102) ≠ some (((pendingPeriodAt 102).beat + 1) % 2 ^ 64) ∧
    up.modState = .ready ∧ standby.modState ≠ .ready ∧ checkWrite up bus 0x2030 1 1 3 = 0 ∧ checkWrite standby bus 0x2030 1 1 3 = 0 ∧
    (acquiring 2).power.microDone = true ∧ (acquiring 2).squareUp = true ∧ beatStatus (acquiring 2) ≤ 1 ∧ 2 ≤ beatSource (acquiring 2) ∧
    beatSource (acquiring 1) ≤ 1 ∧ isFollower (timed 0 1) = true ∧ beatStatus (timed 0 1) = 1 ∧ 16 ≤ (timed 0 1).quartz.aligned ∧
    ptpSupported (timed 0 2) (sync 1) = true ∧ ptpSupported (timed 0 2) (sync 0) = true ∧ (sync 0).usable = true ∧
    (sync 0).offset.natAbs ≤ 10000 ∧ beatStatus (timed 0 3) = 3 ∧ checkWrite (timed 0 3) bus 0x4070 0x10 1 1 = 0 ∧
    beatSource (timed 1 2) = 1 ∧ (pendingPeriodAt 101).quartz.earlier = [] ∧ referenceQualified (referenced 3) true = false ∧
    referenceQualified (referenced 4) true = true ∧ (referenced 3).quartz.waitFrom = none ∧ beatStatus (referenced 3) ≤ 1 ∧
    beatSource (acquiring 3) = 3 ∧ isMaster (timed 2 4) = true ∧ beatStatus (timed 2 4) = 4 ∧ (timed 2 4).hasSchedule = true ∧
    delayKnown (timed 0 2) 0 = true ∧ (timed 0 2).squareUp = true ∧ beatStatus (timed 1 2) = 2 ∧ (timed 1 2).hasSchedule = true ∧
    isFollower (timed 1 2) = true ∧ ((2000000 : Int) - ((timed 1 2).dget 0x2030 6 : Int)).natAbs > 1000000 := by decide +kernel

/-- A child's stretch request for 3 ms, a master's announce of 2 ms beats at beat 200, and one with a reserved bit set. -/
def stretch : Nat := requestBody 77 77 100 3000000 1
def announced : Nat := announceBody ⟨9, 200, 1000, 900, 2000000, 1000000, 5⟩
def following : State := up.dsets [(0x4070, 4, 1), (0x3040, 1, 7)]
/-- The held schedule's master announces beat 200 for a time in ns; the held edge of that beat is 105 ms. -/
def announcedAt (ns : Nat) : Nat := announceBody ⟨9, 200, ns, 900, 2000000, 1000000, 5⟩
def offAt (ns : Nat) : Nat := (heldEdge (timed 0 2) 200 - 1000 * (bits (announcedAt ns) 256 64 : Int)).natAbs
def heated (w step calm : Nat) : State :=
  let t := (timed 0 2).dsets [(0x3000, 8, 1000), (0x3000, 3, w)]
  { t with quartz := { t.quartz with step := step, calm := calm } }

theorem witness_StretchAndAnnounce :
    beatSource (timed 0 2) ≠ 3 ∧ requestValid stretch = true ∧ bits stretch 384 128 ∈ beatChildren (timed 0 2) ∧ requestValid 0 = false ∧
    isFollower (timed 0 2) = true ∧ beatParent (timed 0 2) ≠ 0 ∧ isMaster (timed 2 2) = true ∧
    lastPeriod ((timed 2 2).dset 0x4070 1 2000000) < max 2000000 (forwarded ((timed 2 2).dset 0x4070 1 2000000) 0) ∧
    lastPeriod ((timed 2 2).dset 0x4070 1 1000000) = max 1000000 (forwarded ((timed 2 2).dset 0x4070 1 1000000) 0) ∧
    max 500000 (forwarded ((timed 2 2).dset 0x4070 1 500000) 0) < lastPeriod ((timed 2 2).dset 0x4070 1 500000) ∧
    announceValid 0 = false ∧ announceValid announced = true ∧ isMaster following = false ∧ beatSource following = 0 ∧
    beatStatus following ≠ 0 ∧ following.hasSchedule = false ∧ (timed 2 2).quartz.announce.isSome = true ∧
    thermalRaise (heated 990 3 0) = true ∧ thermalRaise (heated 900 3 9) = false ∧ thermalCalm (heated 900 3 9) = true ∧
    portCarriesBeat (timed 0 2) 0 = true ∧ portCarriesBeat (timed 2 2) 0 = true ∧ portCarriesBeat following 0 = true ∧
    isMaster (timed 0 2) = false ∧ beatSource (timed 0 2) = 0 ∧ (timed 0 2).hasSchedule = true ∧
    announceValid (announcedAt 105000000) = true ∧ announceValid (announcedAt 105002000) = true ∧
    bits (announcedAt 105000000) 384 128 = (timed 0 2).quartz.master ∧ bits (announcedAt 105000000) 320 64 = 200 ∧
    nextBeat (timed 0 2) ≤ 200 ∧ seqNewer (bits (announcedAt 105000000) 96 32) ((timed 0 2).dget 0x4070 0xB) = true ∧
    offAt 105000000 ≤ 1000000 ∧ 1000000 < offAt 105002000 ∧ heldEdge (timed 0 2) 200 = 105000000000 := by
  decide +kernel

/-! ## Mailboxes and Garnet -/

/-- Channel 0 (function 0 and Garnet) with one direction's registers, and the identities that sleep. -/
def mailed (dir : Nat) (m : MailDir) (asleep : List Nat) : State :=
  setMailDir { up with mail := { up.mail with asleep := asleep } } 0 dir m
def ring : MailDir := { MailDir.empty with base := squareBase, size := 4096, producer := 32, lock := 5, mask := 1, wake := 1 }
def idle : MailDir := { MailDir.empty with base := squareBase }

theorem witness_MailboxRegisters :
    maySend (mailed 1 ring []) 5 0 1 = true ∧ mayReceive (mailed 1 ring []) 1 0 1 = true ∧ mailReceiver (mailed 1 ring []) 0 1 = 1 ∧
    mailDir (mailed 1 ring []) 0 1 = ring ∧ mailDir (mailed 1 idle [1]) 0 1 = idle ∧ maySend (mailed 1 idle []) 5 0 1 = true ∧
    mayReceive (mailed 1 idle []) 1 0 1 = true ∧ maySend (mailed 1 ring []) 6 0 1 = false ∧ mayReceive (mailed 1 ring []) 5 0 1 = false ∧
    ({ ring with status := 1 } : MailDir).pending = true ∧ ring.pending = false ∧ ({ ring with status := 2 } : MailDir).pending = false ∧
    (64 + 2 ^ 32 - ring.producer) % 2 ^ 32 % 32 = 0 ∧ (64 + 2 ^ 32 - ring.consumer) % 2 ^ 32 ≤ ring.size ∧ ringUsed ring = 32 ∧
    ringSizeOk 8192 = true ∧ ringPlaced (mailed 1 idle []) 0 idle.base 8192 = true ∧ idle.base % 4096 = 0 := by decide +kernel

/-- A record of length 32 from function 0 at the consumer, of kind 1 (valid), 2 (a pad at the ring's end) or 7 (invalid). -/
def arrived (kind from' : Nat) : State :=
  writeBytes (mailed 0 { ring with lock := 0, producer := from' + 32, consumer := from' } []) (squareBase + from' % 4096)
    (leBytes 32 (kind + 1 * 2 ^ 4 + 1 * 2 ^ 8))
def noticed : State := mailed 1 { ring with lock := 0, unposted := [⟨3, 7⟩] } [1]
theorem witness_MailboxAgents :
    (mailDir noticed 0 1).unposted = [⟨3, 7⟩] ∧ ringTakes (mailDir noticed 0 1) = true ∧ recordWaits (arrived 1 0) 0 0 = true ∧
    mailReceiver (arrived 1 0) 0 0 = 5 ∧ ringRecord (arrived 1 0) 0 0 = some (32, false) ∧
    ringRecord (arrived 2 4064) 0 0 = some (32, true) ∧ ringRecord (arrived 7 0) 0 0 = none ∧ recordWaits (arrived 2 4064) 0 0 = true ∧
    recordWaits (arrived 7 0) 0 0 = true ∧ channelUnused noticed 0 = false ∧
    (mailDir (mailed 1 { ring with status := 1, owed := true } [1]) 0 1).pending = true := by decide +kernel

def updating (v : Nat) : State := (up.dset 0x7F00 6 v).setGarnet fun g => { g with trial := v == 3, running := v == 3 }
def fetchFrom : State := (updating 1).dsets [(0x7F00, 4, squareBase), (0x7F00, 5, 64)]
theorem witness_FirmwareUpdate :
    (updating 0).power.state ≠ .off ∧ checkWrite (updating 0) bus 0x7F00 1 1 1 = 0 ∧ fwStatus (updating 0) = 0 ∧ fwStatus (updating 1) = 1 ∧
    checkWrite (updating 1) bus 0x7F00 1 1 1 = 0 ∧ checkWrite (updating 1) bus 0x7F00 2 3 0 = 0 ∧
    (updating 1).dget 0x7F00 3 + 3 ≤ 67108864 ∧ checkWrite fetchFrom bus 0x7F00 1 1 2 = 0 ∧
    ((rangeFrom squareBase 64).all fun x => (memKey fetchFrom 0 x).isSome) = true ∧ checkWrite (updating 1) bus 0x7F00 1 1 3 = 0 ∧
    checkWrite (updating 2) bus 0x7F00 1 1 4 = 0 ∧ fwStatus (updating 2) = 2 ∧ checkWrite (updating 3) bus 0x7F00 1 1 5 = 0 ∧
    checkWrite (updating 3) bus 0x7F00 1 1 6 = 0 ∧ fwStatus (updating 3) = 3 ∧ (updating 3).garnet.trial = true := by decide +kernel

def sensing (x : Sensor) : State := up.setGarnet fun g => { g with sensors := [(3, x)] }
def watched (mv ripple : Nat) : State := up.dsets [(0x3000, 1, mv), (0x3000, 4, ripple)]
/-- The loader requests by flow 41 and takes the answer on flow 40. -/
def fetching (kind : Nat) : State :=
  ((wired { windowFlow with kind := 6, engine := 3 }).setFlow 41 { sendFlow1 with
    kind := kind, engine := 3, peer := 7, peerFlow := 42, portMask := 1, paths := 1 }).dsets [(0x4001, 2, 40), (0x4001, 5, 41), (0x6070, 5, 1)]
theorem witness_GarnetSupervision :
    up.power.state ≠ .off ∧ ((sensing ⟨some 500, 0, false, 0⟩).sensor 3).failed = false ∧ leakBits (sensing ⟨some 500, 0, false, 0⟩) = 0 ∧
    beyondLimit up 3 550 = false ∧ ((sensing ⟨some 500, 2, false, 0⟩).sensor 3).missed = 2 ∧ shutdownLimit 3 < 1101 ∧
    ((sensing ⟨some 1101, 0, false, 2⟩).sensor 3).beyond = 2 ∧ up.power.state ≠ .faulted ∧ up.dget 0x3000 7 ≠ 1 ∧
    (watched 400000 100).dget 0x3000 1 ≤ 420000 ∧ (watched 400000 100).dget 0x3000 4 ≤ 8000 ∧ 420000 < (watched 430000 100).dget 0x3000 1 ∧
    (watched 430000 100).dget 0x3000 1 ≠ ones 32 ∧ up.garnet.logWindow < 256 ∧ up.garnet.logDropped = 0 ∧
    0 < (up.setGarnet fun g => { g with logDropped := 3 }).garnet.logDropped ∧ ksorted up.dict = true ∧
    checkWrite up bus 0x1011 1 4 0x64616F6C = 0 ∧ checkWrite (fetching 5) bus 0x4001 6 1 1 = 0 ∧ isLoaderRequest (fetching 5) 41 = true ∧
    isLoader (fetching 5) 40 = true ∧ ((fetching 5).flow 40).state = 2 ∧ holdsCredit (fetching 5) 41 1 = true ∧
    isLoaderRequest (fetching 4) 41 = false ∧ (up.dset 0x4001 7 1).dget 0x4001 7 = 1 := by decide +kernel

/-! ## Reductions -/

/-- Set 0 of two members (or one) in a set state: this module is member 0 and its backup is 1; member 1 is peer 9 at address 0x99, whose
backup is 0; flows 2050 and 2051 are the partner's, flow 50 brings requests and flow 51 takes summaries. -/
def flowTo (kind peer peerFlow : Nat) : Flow :=
  { Flow.empty with state := 2, kind := kind, engine := 1, peer := peer, peerFlow := peerFlow, credit := 10, portMask := 1, paths := 1 }
def setOf (count v : Nat) : State :=
  let t := ((((wired windowFlow).setPeer 9 { Peer.empty with address := 0x99, state := 2, features := 3, portMask := 1 }).setFlow 50
    (flowTo 6 7 60)).setFlow 51 (flowTo 5 7 61)).setFlow 2050 (flowTo 5 9 2049)
  { (t.setFlow 2051 (flowTo 6 9 2048)).dsets [(0x6010, 2, count), (0x6010, 3, 0), (0x6010, 4, 0), (0x6010, 7, 2048), (0x6010, 8, 50),
      (0x6010, 9, 51), (0x6010, 0xA, 0), (0x6010, 0xD, v)] with
    sets := [(0, { RedSet.empty with members := [(0, ⟨0x1234, if count = 1 then 0xFFFF else 1, 0⟩), (1, ⟨0x99, 0, 0⟩)] })] }
/-- The same with its tenant not running, where `COMMAND` of a set may be written. -/
def setAt (count v : Nat) : State := (setOf count v).dset 0x6070 5 1
def summarised (credit : Nat) : State := ((setOf 2 2).setRed 0 fun x => { x with summaries := [2 ^ 12 + 3 + 2 ^ 4] }).setFlow 51
  { flowTo 5 7 61 with credit := credit }

theorem witness_SetsFormAndDeliver :
    checkWrite (setAt 2 2) bus 0x6010 1 1 1 = 0 ∧ checkWrite (setAt 2 0) bus 0x6010 1 1 1 = 0 ∧ formValid (setAt 2 0) 0 = true ∧
    formValid (setAt 1 0) 0 = true ∧ formValid (setAt 0 0) 0 = false ∧ partners (setAt 1 0) 0 = [] ∧ partners (setAt 2 0) 0 = [1] ∧
    ((setAt 1 0).flow 50).state = 2 ∧ holdsCredit (setAt 2 0) (sendFlow (setAt 2 0) 0 1) 1 = true ∧ (setOf 2 1).red 0 0xD = 1 ∧
    ((setOf 2 1).flow (sendFlow (setOf 2 1) 0 1)).kind = 5 ∧ ((setOf 2 1).flow (recvFlow (setOf 2 1) 0 1)).state = 2 ∧
    (setOf 2 2).red 0 0xD = 2 ∧ checkWrite (setAt 2 2) bus 0x6010 1 1 2 = 0 ∧ ((setAt 2 2).redSet 0).step = none ∧
    checkWrite (setAt 2 0) bus 0x6010 1 1 2 = 0 ∧ (setAt 2 2).power.state ≠ .faulted ∧ holdsCredit (summarised 0) 51 1 = false ∧
    holdsCredit (summarised 1) 51 1 = true ∧ ((summarised 1).redSet 0).summaries ≠ [] := by decide +kernel

/-- A request of step 7 for 40 elements in E4M3: contributions in buffer 1, result at buffer 2, scales at page 8 of buffer 2. -/
def request (kind elements delta : Nat) : Nat :=
  kind + 4 * 2 ^ 4 + 2 ^ 12 + 2 * 2 ^ 324 + 8 * 2 ^ 296 + 2 * 2 ^ 364 + 1 * 2 ^ 404 + delta * 2 ^ 416 + elements * 2 ^ 432 + 7 * 2 ^ 480
def policed (s : State) : State := s.dset 0x6010 0xA 1
/-- Step 7 in progress, with a piece that waits for member 1. -/
def stepping (kind delta backup : Nat) : State :=
  { beating (setOf 2 2) with sets := [(0, { RedSet.empty with
      members := [(0, ⟨0x1234, 1, 0⟩), (1, ⟨0x99, backup, 0⟩)]
      step := some ⟨request kind 40 delta, 90, 0, false, [], [], [], [], [], [], [], [], []⟩
      outbox := [⟨1, stepHeader (request kind 40 delta), 2, 1, 0, 1, noBlock, 0, false⟩] })] }
/-- A unit of a phase about a role on the partner's flow, one item from index 1, of a step and a kind. -/
def stepUnitOf (phase step kind role : Nat) : EngineUnit :=
  ⟨2051, stepHeader (request kind 40 0) - 7 * 2 ^ 480 + step * 2 ^ 480 + phase * 2 ^ 8 + 2 ^ 428 + 2 ^ 440 + role * 2 ^ 417 + 2 ^ 406,
    (List.range 33).map (BitVec.ofNat 8), 0⟩
theorem witness_ReductionSteps :
    (setOf 2 2).squareUp = true ∧ (setOf 2 2).power.state ≠ .faulted ∧ (setOf 2 2).red 0 0xD = 2 ∧ (setOf 2 2).red 0 8 = 50 ∧
    (setOf 2 2).red 0 4 = ((setOf 2 2).flow 50).ctx ∧ ((setOf 2 2).redSet 0).step = none ∧ ((setOf 2 2).redSet 0).waiting = [] ∧
    ((setOf 2 2).redSet 0).outbox = [] ∧ reqSet (request 1 40 0) = 0 ∧ request 1 40 0 < 2 ^ 512 ∧ reqKind (request 2 40 0) = 2 ∧
    ([(1, 1, 0), (2, 1, 5), (2, 2, 0), (1, 2, 0)].all fun (c, k, d) =>
      requestOk (setOf c 2) 0 (request k 40 d) (tenantContext (setOf c 2) 0 (requestTenant (setOf c 2) 0))) = true ∧
    requestOk (setOf 2 2) 0 (request 1 0 0) (tenantContext (setOf 2 2) 0 (requestTenant (setOf 2 2) 0)) = true ∧
    requestOk (setOf 2 2) 0 (request 2 40 5) (tenantContext (setOf 2 2) 0 (requestTenant (setOf 2 2) 0)) = false ∧
    (policed (setOf 2 2)).red 0 0xA ≠ 0 ∧ shardCount 2 2 0 < 2 ∧ shardCount 2 1 0 = 2 ∧ (setOf 2 1).red 0 0xD ≠ 2 ∧
    setOfRecv (stepping 1 0 0) 2051 = some 0 ∧ ((stepping 1 0 0).redSet 0).waiting = [] ∧
    (∀ c, c < 4 → ((stepping 1 0 0).cairnOf c).copying = none) ∧ unitValid (stepUnitOf 2 7 1 0) = true ∧ unitValid (stepUnitOf 0 7 1 0) = false ∧
    sameStep (request 1 40 0) (stepUnitOf 2 7 1 0) = true ∧ sameStep (request 1 40 0) (stepUnitOf 2 7 2 0) = false ∧
    unitAfter (unitStep (stepUnitOf 2 8 1 0)) 7 = true ∧ (∀ p ∈ [2, 3, 4, 5, 6, 7, 8], unitPhase (stepUnitOf p 7 1 0) = p) ∧
    (stepping 1 5 0).beat = 100 ∧ 90 + reqDelta (request 1 40 5) ≤ 100 ∧ 100 < 90 + reqDelta (request 1 40 11) ∧
    (memberOf (stepping 1 5 0) 0 1).backup = ownIndex (stepping 1 5 0) 0 ∧ (memberOf (stepping 1 5 0xFFFF) 0 1).backup = 0xFFFF := by
  decide +kernel

/-! ## Checkpoints and restores -/

/-- Context 0 of `wired` in HELD, with room in the checkpoint reserve, storage flows from 60 and one target. -/
def cairned (v : Nat) : State :=
  let t := ((wired windowFlow).setFlow 60 { flowTo 5 7 61 with engine := 2 }).setFlow 61 { flowTo 6 7 60 with engine := 2 }
  t.dsets [(0x6000, 1, 64), (0x6040, 5, 60), (0x6040, 6, 1), (0x6070, 5, v), (0x6070, 4, 90)]
/-- Generation 0 in slot 0: its granules still to be copied, and whether it is complete and drained. -/
def capture (pending : List Nat) (done drained : Bool) : Capture :=
  ⟨0, 0, 90, 90, 8, 0, 0, 0, 0, 1, { prog with buffers := [{ squareBuffer with size := 1 }] }, 0, 0, 0, 0, [], [], [], [], pending, [], done, [], drained⟩
def copying (pending : List Nat) : State :=
  (cairned 2).setCairn 0 fun y => { y with copying := some 0, slots := [(0, capture pending false false)] }
def drainable (targets host : Nat) : State :=
  ((cairned 2).setCairn 0 fun y => { y with slots := [(0, capture [] true false)] }).dsets [(0x6040, 6, targets), (0x6040, 3, host)]
def draining (d : Drain) : State :=
  (cairned 2).setCairn 0 fun y => { y with slots := [(0, capture [] true true)], drain := some d }
/-- An answer on flow 61 for the object that a drain is at. -/
def durable (d : Drain) (op arg : Nat) : EngineUnit :=
  ⟨61, (drainObject (draining d) 0 (capture [] true true) d).1 + op * 2 ^ 4 + arg * 2 ^ 17, [], 0⟩
def putting (step shard : Nat) : Drain := ⟨0, step, shard, 1, 1, true, false⟩

theorem witness_CheckpointsCopyAndDrain :
    checkWrite (cairned 6) bus 0x6040 1 1 1 = 0 ∧ contextHeld (cairned 6) 0 = true ∧ refusalOf (cairned 6) 0 = 0 ∧
    checkWrite (cairned 1) bus 0x6040 1 1 1 = 0 ∧ contextHeld (cairned 1) 0 = false ∧
    refusalOf ((cairned 6).dset 0x6000 1 0) 0 ≠ 0 ∧ (capture [0x20000] false false).nextGranule = some 0x20000 ∧
    captureAt (copying [0x20000]) 0 0 = some (capture [0x20000] false false) ∧ ((copying []).cairnOf 0).copying = some 0 ∧
    ([squareBase].map granuleAt).filter (pendingGranules (copying [0x20000]) 0).contains ≠ [] ∧ (copying [0x20000]).running 0 = true ∧
    ([bedrockBase].map granuleAt).filter (pendingGranules (copying [0x20000]) 0).contains = [] ∧
    nextDrain (drainable 1 0) 0 = some (0, capture [] true false) ∧ ((drainable 1 0).cairnOf 0).drain = none ∧
    (drainable 1 0).ck 0 6 ≠ 0 ∧ (drainable 0 0).ck 0 6 = 0 ∧ (drainable 1 0).ck 0 3 ≠ 1 ∧
    holdsCredit (drainable 1 0) (drainFlow (drainable 1 0) 0 0) 1 = true := by decide +kernel

theorem witness_drainAnswers :
    drainOn (draining (putting 0 0)) 61 = some 0 ∧
    drainCapture (draining (putting 0 0)) 0 = some (putting 0 0, capture [] true true) ∧
    cairnValid (durable (putting 0 0) 8 0).header = true ∧ cairnOp (durable (putting 0 0) 8 0).header = 8 ∧
    nameFields (durable (putting 0 0) 8 0).header = nameFields (drainObject (draining (putting 0 0)) 0 (capture [] true true) (putting 0 0)).1 ∧
    cairnValid (durable (putting 0 0) 7 0).header = false ∧ drainOn (draining (putting 1 0)) 61 = some 0 ∧
    drainOn (draining (putting 3 0)) 61 = some 0 ∧ (shardsOf (draining (putting 1 0)) 0 (capture [] true true)).length = 2 ∧
    nameFields (durable (putting 1 0) 8 0).header = nameFields (drainObject (draining (putting 1 0)) 0 (capture [] true true) (putting 1 0)).1 ∧
    cairnValid (durable (putting 1 0) 9 3).header = true ∧ cairnArg (durable (putting 1 0) 9 3).header = 3 ∧
    cairnValid (durable (putting 1 0) 10 1).header = true ∧ cairnOp (durable (putting 1 0) 10 1).header = 10 := by decide +kernel

/-- A host drain of the last object awaits function 0's answer on channel 3, and one record of 96 B has come. -/
def hostDrained : State :=
  let d : Drain := ⟨0, 3, 0, 1, 0, true, true⟩
  let t := setMailDir { draining d with mem := [], poison := [] } 3 0 { ring with lock := 0, producer := 96 }
  let name := objectName (capture [] true true) 0 0
  writeBytes t squareBase (leBytes 32 (1 + 1 * 2 ^ 4 + 3 * 2 ^ 8 + 1 * 2 ^ 16) ++ leBytes 64 (name + 8 * 2 ^ 4))
theorem witness_hostDrain :
    recordWaits hostDrained 3 0 = true ∧ mailReceiver hostDrained 3 0 = 8 ∧ ringRecord hostDrained 3 0 = some (96, false) ∧
    (hostAwaits hostDrained 3).isSome = true ∧
    nameFields (readLe hostDrained (squareBase + 32) 64) = nameFields (objectName (capture [] true true) 0 0) ∧
    ((cairned 2).flow 61).kind = 6 ∧ ((cairned 2).flow 61).engine = 2 ∧ ((cairned 2).flow 40).kind ≠ 6 := by decide +kernel

/-- A `VERIFY` from the peer on flow 61, to be answered on flow 60, which goes to the flow after the requesting one. -/
def asked (credit : Nat) : State := (cairned 2).setFlow 60 { flowTo 5 7 61 with engine := 2, credit := credit }
theorem witness_peerGet :
    answerFlow (asked 0) 61 = some 60 ∧ holdsCredit (asked 0) 60 1 = false ∧ holdsCredit (asked 1) 60 1 = true ∧
    cairnValid (1 + 4 * 2 ^ 4) = true ∧ cairnOp (1 + 4 * 2 ^ 4) = 4 ∧ cairnValid 0 = false ∧ ((asked 0).cairnOf 0).serving = [] := by
  decide +kernel

/-- A restore that awaits a manifest or a shard on flow 61; a shard of 4 bytes for buffer 1. -/
def shardBytes4 : List Byte := [1, 2, 3, 4]
def manifest (digest : Nat) : Manifest := ⟨0, 0, 80, 5, 1, 0, 0, 8, [[3, 0, 1, 4, digest, 0]]⟩
def restoring (x : Restore) : State := (cairned 1).setCairn 0 fun y => { y with restore := some x }
def firstManifest : Restore := ⟨0, [(false, 0), (false, 1)], [], false, none, none, 0, true, []⟩
def lastShard : Restore := ⟨0, [], [], false, some (manifest (Config.sha384 shardBytes4)), none, 0, true, []⟩
/-- An answer to a `GET`, with 4 bytes where it holds data. -/
def answerTo (get op n : Nat) : EngineUnit := ⟨61, get - 5 * 2 ^ 4 + op * 2 ^ 4 + n * 2 ^ 28, shardBytes4, 0⟩
def manifestGet : Nat := getHeader (cairned 1) 0 0 0 0
def shardGet : Nat := getHeader (cairned 1) 0 1 0 1
theorem witness_RestoresLandShards :
    checkWrite (cairned 1) bus 0x6040 1 1 2 = 0 ∧ (cairned 1).resident 0 = some 0 ∧ (cairned 1).tenantState 0 = 1 ∧
    ((cairned 1).cairnOf 0).started = false ∧ ((cairned 1).cairnOf 0).restore = none ∧
    currentGet (cairned 1) 0 { firstManifest with asked := false } = some (60, manifestGet) ∧ firstGets (cairned 1) 0 = firstManifest.todo ∧
    restoreOn (restoring firstManifest) 61 = some (0, firstManifest, manifestGet) ∧
    (restoreOn (restoring lastShard) 61).isSome = true ∧ (restorePlan lastShard).length = 1 ∧
    cairnValid (answerTo manifestGet 12 4).header = true ∧ nameFields (answerTo manifestGet 12 4).header = nameFields manifestGet ∧
    cairnOp (answerTo manifestGet 12 4).header = 12 ∧ cairnOp (answerTo manifestGet 13 0).header = 13 ∧
    cairnValid (answerTo manifestGet 13 0).header = true ∧ cairnPiece (answerTo manifestGet 12 4).header = 0 ∧
    cairnValid (answerTo manifestGet 7 0).header = false ∧ cairnValid (answerTo shardGet 12 4).header = true ∧
    ((cairned 1).ctx 0).buffer 1 = squareBuffer ∧ ((draining (putting 1 0)).cairnOf 0).drain.isSome = true := by decide +kernel

theorem witness_shardDigest : Config.sha384 (([] : List Byte) ++ (List.range 4).map fun i => shardBytes4.getD i 0) =
    Config.sha384 shardBytes4 := rfl

/-! ## Paths, attestation and PCIe -/

def yes : DictEnv := ⟨true, ⟨[], true, 0, 0, 0⟩⟩
def canBus : Requester := canClient 5
def uploading (n : Nat) : State := up.setGarnet fun g => { g with usdo := [(5, ⟨0x4020, 1, false, n, 2, List.replicate n 7⟩)] }
def downloading : State := up.setGarnet fun g => { g with usdo := [(5, ⟨0x4020, 1, true, 8, 2, [1, 2]⟩)] }

theorem witness_DictionaryWritesAndCan :
    up.power.state ≠ .off ∧ checkWrite up bus 0x2030 5 4 7 ≠ 0 ∧ checkWrite up bus 0x2061 1 1 0 = 0 ∧
    keyPersist (dictKey 0x2061 1) = .flash ∧ checkWrite up bus 0x5020 1 4 1 = 0 ∧ up.garnet.nmt ≠ 4 ∧
    (readEntry up canBus 0x4020 1).1 = 0 ∧ (readEntry up canBus 0x4020 1).2.2.1 ≤ 56 ∧ (readEntry up canBus 0x4020 9).1 ≠ 0 ∧
    (readEntry up canBus 0x2080 3).1 = 0 ∧ (readEntry up canBus 0x1000 0).1 = 0 ∧
    (∃ x, kfind (uploading 100).garnet.usdo 5 = some x ∧ x.download = false ∧ x.count = 2) ∧
    (∃ x, kfind downloading.garnet.usdo 5 = some x ∧ x.download = true ∧ x.count = 2 ∧ x.bytes.length + 3 < x.size) ∧
    canBus = bus ∧ checkWrite up canBus 0x4020 1 8 (ofLe [1, 0, 0, 0, 0, 0, 0, 0]) = 0 ∧
    (up.dset 0x1017 0 100).dget 0x1017 0 ≠ 0 := by decide +kernel

/-- The header of a datagram: operation, sequence, entry, subindex, length and whether it is the last segment; session 3. -/
def head (op seq idx sub len : Nat) (last : Bool) : Nat :=
  seq * 2 ^ 160 + 3 * 2 ^ 144 + idx * 2 ^ 128 + sub * 2 ^ 120 + len * 2 ^ 108 + b2n last * 2 ^ 12 + op * 2 ^ 8 + 2 ^ 4
/-- A management client at address 0x99 and port 7000 in session 3 holds the lease. -/
def ether : Requester := ⟨2, 3, 0x99, 7000⟩
def managed : State := ((up.dsets [(0x2061, 1, 1), (0x2060, 4, holderCode ether), (0x2060, 5, 0x99)]).setGarnet fun g =>
  { g with leasePort := 7000 })
def keeping (k : Kept) : State := managed.setGarnet fun g => { g with kept := [k] }
def partly : State := managed.setGarnet fun g => { g with partials := [⟨0x99, 7000, 3, 0x4020, 1, [1]⟩] }
/-- Function 0's window on the entry 0x4020:01, with a value of 8 bytes, while function 0 holds the lease. -/
def windowed0 (w : DictWindow) : State :=
  ((up.dset 0x2060 4 (3 * 2 ^ 24)).setPower fun p => { p with pcieUp := true }).setDictWindow 0 w
def window0 : DictWindow := { DictWindow.empty with address := 0x40200100, length := 8, data := 5 }

theorem witness_DatagramsWindowsAndLease :
    managed.dget 0x2061 1 ≠ 0 ∧ headValid 0 [] = false ∧ headValid (head 1 1 0x4020 1 8 false) [] = true ∧
    headOp (head 1 1 0x4020 1 8 false) = 1 ∧ headIndex (head 1 1 0x4020 1 8 false) = 0x4020 ∧ managed.garnet.kept = [] ∧
    (keeping ⟨0x99, 7000, 3, 1, 5, []⟩).garnet.kept = [⟨0x99, 7000, 3, 1, 5, []⟩] ∧ headSession (head 1 1 0x4020 1 8 false) = 3 ∧
    headSequence (head 1 1 0x4020 1 8 false) = 1 ∧ headValid (head 2 1 0x4020 1 8 true) [1, 0, 0, 0, 0, 0, 0, 0] = true ∧
    headLast (head 2 1 0x4020 1 8 true) = true ∧ headLast (head 2 1 0x4020 1 8 false) = false ∧
    partialOf managed 0x99 7000 3 = none ∧ datagramClient 0x99 7000 (head 2 1 0x4020 1 8 true) = ether ∧
    checkWrite managed ether 0x4020 1 8 (ofLe [1, 0, 0, 0, 0, 0, 0, 0]) = 0 ∧
    checkWrite managed ether 0x4020 1 4 1 ≠ 0 ∧ (partialOf partly 0x99 7000 3).isSome = true ∧ windowServes (windowed0 window0) 0 = true ∧
    window0.index = 0x4020 ∧ window0.sub = 1 ∧ window0.follows = true ∧ ({ window0 with offset := 4 } : DictWindow).follows = false ∧
    checkWrite (windowed0 window0) ⟨3, 0, 0, 0⟩ 0x4020 1 8 5 = 0 ∧ up.dget 0x2060 4 ≠ 0 ∧ holdsLease up bus = true ∧
    holdsLease up ether = false ∧ State.reset.dget 0x2060 4 = 0 ∧ holdsLease State.reset bus = false := by decide +kernel

/-- R507's worked example: a write of 0x2070:01 from a client that does not hold the lease is answered with operation 4 and abort code
0x0800_0020, and the same request again with the same response. -/
theorem test_write_without_the_lease :
    responseHead (head 2 9 0x2070 1 1 true) abortLease 0 =
      0x08000020 * 2 ^ 192 + 9 * 2 ^ 160 + 3 * 2 ^ 144 + 0x2070 * 2 ^ 128 + 1 * 2 ^ 120 + 4 * 2 ^ 8 + 1 * 2 ^ 4 ∧
    checkWrite (managed.dset 0x2060 4 0) ether 0x2070 1 1 2 = 0x08000020 := by decide +kernel

def attested (n : Nat) : State := (windowed0 window0).setGarnet fun g => { g with spdmSecond := 8, spdmCount := n }
theorem witness_AttestationAnswers : asks (attested 3) 0 0 = true ∧ asks (exchanging) 1 0 = true ∧ asks (admittedPeer 1 0 0) 2 7 = true ∧
    (attested 64).garnet.spdmSecond = 8 ∧ 64 ≤ (attested 64).garnet.spdmCount ∧ (attested 3).garnet.spdmCount < 64 := by decide +kernel

theorem witness_PcieFunctions :
    windowServes (windowed0 window0) 0 = true ∧ apertureAddress (windowed0 window0) 0 (2 ^ 34) = some bedrockBase ∧
    functionReach (windowed0 window0) 0 bedrockBase 8 = true ∧ bedrockBase + 8 ≤ bedrockTop (windowed0 window0) ∧
    (∀ c, c < 4 → ((windowed0 window0).cairnOf c).copying = none) ∧ apertureAddress (windowed0 window0) 0 (6 * 2 ^ 34) = none ∧
    apertureAddress (windowed0 window0) 0 (5 * 2 ^ 34 + 2 ^ 33) = some bedrockEnd ∧ multiTenant (windowed0 window0) = false ∧
    drainedObject (windowed0 window0) 0 bedrockEnd 8 = false ∧
    (windowed0 window0).dget 0x2060 4 = 3 * 2 ^ 24 + 0 := by decide +kernel

/-! ## Further cases of the hypotheses -/

/-- Port 0 measures its link's delay; two exchanges of 100 ps and 300 ps. -/
def measuringPort : State := port up 4 Port.empty
theorem witness_LinkMeasures : linksRun measuringPort = true ∧ portState measuringPort 0 = 4 ∧ linkDelay [300, 100] = 200 ∧
    linkDelay [] = ones 32 ∧ (({ Port.empty with media := 1 } : Port)).media = 1 ∧ Port.empty.media ≠ 1 := by decide +kernel

/-- A backlog record of one bundle at address 0, whose region slot 0 stores accumulator 0 to row 7 of banks 2 and 3. -/
def filling : State :=
  writeBytes (working.setCtx 0 fun x => { x with backlog := [⟨0, 1, 1⟩] }) (bundleAddress working 0 0 + 8)
    (leBytes 8 (2 * 2 ^ 58 + 2 ^ 49 + 2 * 2 ^ 40 + 7 * 2 ^ 34))
/-- The fast copy has still to read the granule that it stores to. -/
def fillHeld : State :=
  filling.setCairn 0 fun y => { y with
    copying := some 0, slots := [(0, capture [granuleAt (rowAddress 3 2 7), granuleAt (rowAddress 3 3 7)] false false)] }
theorem witness_FillsAndRunsOn :
    filling.running 0 = true ∧ (fillRun 0 1 ⟨[], []⟩ 256 1 (senseAll 0 (issues 0 filling) [])).1 = [] ∧
    (fillRun 0 1 ⟨[], []⟩ 256 1 (senseAll 0 (issues 0 filling) [])).2.dget 0x4030 7 = 1 ∧
    (fillRun 0 1 ⟨[], []⟩ 256 1 (senseAll 0 (issues 0 fillHeld) [])).1 ≠ [] ∧ fillHeld.running 0 = true ∧
    fillHeld.dget 0x4030 2 = 0 := by decide +kernel

/-- A fill bundle takes effect in its run and is counted, and the fillable bundle issues after it (R164). -/
theorem test_fill_issues : ((after (exec (.nop 0 1 1 ⟨[], []⟩) filling)).map fun t => (t.pc 0, t.dget 0x4030 7, t.dget 0x4030 6)) =
    some (1, 1, 1) := by decide +kernel

theorem witness_BeatWaitsArmed :
    (((onBeat 0).setCairn 0 fun y => { y with armed := some (80, 0) }).cairnOf 0).armed ≠ none ∧
    (onBeat 0).beat < namedBeat (onBeat 0) 0 1 10 + (onBeat 5).dget 0x4030 5 ∧ (onBeat 5).running 0 = true ∧
    waitLegal (onBeat 5) 0 1 0 10 50 = true := by decide +kernel

/-- An image beyond the end of Bedrock. -/
def beyond : State := up.dset 0x4001 1 bedrockEnd
theorem witness_LoadHeaderUnmapped :
    unmappedByte up (homeOfTenant up 0) (imageAt up).base 128 = none ∧
    unmappedByte beyond (homeOfTenant beyond 0) (imageAt beyond).base 128 = some (imageAt beyond).base ∧ beyond.configured 0 = true ∧
    beyond.tenantState 0 = 0 ∧ beyond.resident (homeOfTenant beyond 0) = none ∧ checkWrite beyond bus 0x6070 3 1 1 = 0 := by decide +kernel

theorem witness_NetSendWaits : netLegal (wired { sendFlow1 with credit := 1 }) 0 40 1 0 2 1 = true ∧
    holdsCredit (wired { sendFlow1 with credit := 1 }) 40 2 = false ∧ (wired { sendFlow1 with credit := 1 }).dget 0x4030 2 = 0 ∧
    ((wired { windowFlow with done := 2 }).flow 40).buffer ≠ 2 := by decide +kernel

/-- Slots from 0 on overflow into the stash: one page a record, `quota` pages in all. -/
def stashing (quota : Nat) : State :=
  (admitting [] [fwdRecord 5] []).setCtx 0 fun x => { x with stage := [0, 0, 0, 0, 0, 1, 2, quota], holding := some 3 }
theorem witness_StashHolds :
    ((stashing 0).ctx 0).cfg 7 ≠ 0 ∧ stashHold (stashing 0) 0 3 = true ∧ stashHold (stashing 4) 0 3 = false ∧
    ((after (exec (.stashPageRelease 0) (stashing 0))).map fun t => (stashHold t 0 3, (t.ctx 0).holding)) = some (true, some 3) ∧
    ((after (exec (.stashPageRelease 0) (stashing 4))).map fun t => (stashHold t 0 3, (t.ctx 0).holding)) = some (false, none) ∧
    (stashing 0).running 0 = true ∧ (stashing 0).dget 0x4030 2 = 0 ∧ 3 < slotsOf (stashing 0) 0 := by decide +kernel

theorem witness_MoreOperands : soundLeaks up 3 ≠ 0 ∧ storeLegal 1 2 2 4 7 0 4 9 7 0 = true ∧
    meetsSave (windowed0 window0) bedrockBase 8 = false ∧ ((cairned 2).flow 61).kind = 6 ∧ ((cairned 2).flow 61).engine = 2 := by
  decide +kernel

end Sys2Proof.Tests
end

section
/-! What every operation of the model keeps: the canonical form of device memory, and the stored security version from falling.
One lemma for each operation, in the order of the model's definitions, and from them one for each command and for a step. -/

namespace Sys2Proof.Machine

/-! ## Choices, outcomes and folds -/

theorem Keeps.ite {p : Prop} [Decidable p] {s a b : State} (h : Keeps s a) (k : Keeps s b) : Keeps s (if p then a else b) := by
  split
  · exact h
  · exact k

theorem Keeps.ite_snd {α : Type} {p : Prop} [Decidable p] {s : State} {a b : α × State} (h : Keeps s a.2) (k : Keeps s b.2) :
    Keeps s (if p then a else b).2 := by
  split
  · exact h
  · exact k

theorem Keeps.ite_fst {α : Type} {p : Prop} [Decidable p] {s : State} {a b : State × α} (h : Keeps s a.1) (k : Keeps s b.1) :
    Keeps s (if p then a else b).1 := by
  split
  · exact h
  · exact k

/-- A further operation that is made on a condition. -/
theorem Keeps.andThen {p : Prop} [Decidable p] {s a b : State} (h : Keeps s a) (k : Keeps a b) : Keeps s (if p then b else a) :=
  Keeps.ite (h.trans k) h

/-- A next state that keeps the invariants. -/
theorem Keeps.next {s t : State} (h : Keeps s t) : OnNext (.next t) (Keeps s) := (onNext_next t _).2 h

theorem OnNext.ite {p : Prop} [Decidable p] {q : State → Prop} {a b : Host.Outcome State Fault Refusal} (h : OnNext a q)
    (k : OnNext b q) : OnNext (if p then a else b) q := by
  split
  · exact h
  · exact k

/-- What a command keeps after an operation that keeps the invariants is kept from before it. -/
theorem Keeps.onNext {s t : State} (h : Keeps s t) {o : Host.Outcome State Fault Refusal} (k : OnNext o (Keeps t)) :
    OnNext o (Keeps s) := fun u e => h.trans (k u e)

/-- A fold whose accumulator carries the state. -/
theorem foldl_keeps_on {α β : Type} (p : α → State) (f : α → β → α) (h : ∀ a e, Keeps (p a) (p (f a e))) (l : List β) (a : α) :
    Keeps (p a) (p (l.foldl f a)) := by
  induction l generalizing a with
  | nil => exact Keeps.refl _
  | cons e r ih => exact (h a e).trans (ih _)

theorem setUpdateSlot_security (g : Garnet) (x : FwSlot) : (setUpdateSlot g x).security = g.security := by
  unfold setUpdateSlot
  split <;> rfl

/-! ## Memory (Memory) -/

theorem writeBytes_keeps (s : State) (a : Nat) (bs : List Byte) : Keeps s (writeBytes s a bs) := writeTagged_keeps ..

/-! ## The shared operations (Ops) -/

theorem dsets_keeps (s : State) (l : List (Nat × Nat × Nat)) : Keeps s (s.dsets l) :=
  foldl_keeps _ (fun _ _ => dset_keeps ..) _ _

theorem dclear_keeps (s : State) (idx sub : Nat) : Keeps s (s.dclear idx sub) := keeps_of_eq rfl rfl

theorem dcount_keeps (s : State) (idx sub n : Nat) : Keeps s (s.dcount idx sub n) := dset_keeps ..

theorem fresh_keeps (s : State) : Keeps s (s.fresh).2 := keeps_of_eq rfl rfl

theorem recordFirst_keeps (s : State) (idx v : Nat) : Keeps s (s.recordFirst idx v) := by
  unfold State.recordFirst
  split
  · exact Keeps.refl _
  · exact Keeps.ite (dset_keeps ..) (Keeps.refl _)

theorem recordWith_keeps (s : State) (idx flag : Nat) (counts : List (Nat × Nat)) (first : Option Nat) (b : Nat) :
    Keeps s (s.recordWith idx flag counts first b) := by
  unfold State.recordWith
  refine Keeps.trans ?_ (log_keeps ..)
  refine Keeps.trans ?_ (dset_keeps ..)
  split
  · exact foldl_keeps _ (fun _ _ => dcount_keeps ..) _ _
  · exact (foldl_keeps _ (fun _ _ => dcount_keeps ..) _ _).trans (recordFirst_keeps ..)

theorem flag_keeps (s : State) (idx flag : Nat) : Keeps s (s.flag idx flag) := record_keeps ..

theorem reply_keeps (s : State) (r : Requester) (abort value : Nat) : Keeps s (s.reply r abort value) := emit_keeps ..

theorem setPower_keeps (s : State) (f : Power → Power) : Keeps s (s.setPower f) := keeps_of_eq rfl rfl

theorem setGarnet_keeps (s : State) (f : Garnet → Garnet) (h : (f s.garnet).security = s.garnet.security) :
    Keeps s (s.setGarnet f) := keeps_of_eq rfl h

/-! ## Dictionary writes (DictCheck) -/

theorem storeEntry_keeps (s : State) (idx sub v : Nat) : Keeps s (storeEntry s idx sub v) :=
  Keeps.ite ((dset_keeps ..).trans (keeps_of_eq rfl rfl)) (dset_keeps ..)

/-! ## Mailboxes (Mailbox) -/

theorem setMailDir_keeps (s : State) (ch dir : Nat) (m : MailDir) : Keeps s (setMailDir s ch dir m) := keeps_of_eq rfl rfl

theorem mailViolation_keeps (s : State) (ident ch dir : Nat) : Keeps s (mailViolation s ident ch dir) := record_keeps ..

theorem mailIndexInvalid_keeps (s : State) (ident ch dir : Nat) : Keeps s (mailIndexInvalid s ident ch dir) :=
  record_keeps ..

theorem mailLockMisuse_keeps (s : State) (ident ch dir : Nat) : Keeps s (mailLockMisuse s ident ch dir) :=
  record_keeps ..

theorem mailRecordInvalid_keeps (s : State) (ident ch dir n : Nat) : Keeps s (mailRecordInvalid s ident ch dir n) :=
  record_keeps ..

theorem mailRing_keeps (s : State) (ch dir : Nat) : Keeps s (mailRing s ch dir) := by
  refine Keeps.ite (Keeps.ite ((setMailDir_keeps ..).trans (emit_keeps ..)) (setMailDir_keeps ..)) ?_
  exact mailNotify_keeps ..

theorem boulevardNotice_keeps (s : State) (part kind tag : Nat) : Keeps s (boulevardNotice s part kind tag) :=
  postNotice_keeps ..

theorem lockWrite_keeps (s : State) (ident ch dir : Nat) : Keeps s (lockWrite s ident ch dir) := by
  refine Keeps.ite (mailViolation_keeps ..) ?_
  exact Keeps.ite (Keeps.refl _) (Keeps.ite (setMailDir_keeps ..) (mailLockMisuse_keeps ..))

theorem producerWrite_keeps (s : State) (ident ch dir v : Nat) : Keeps s (producerWrite s ident ch dir v) := by
  refine Keeps.ite (mailViolation_keeps ..) ?_
  exact Keeps.ite (setMailDir_keeps ..) (mailIndexInvalid_keeps ..)

theorem consumerWrite_keeps (s : State) (ident ch dir v : Nat) : Keeps s (consumerWrite s ident ch dir v) := by
  refine Keeps.ite (mailViolation_keeps ..) ?_
  exact Keeps.ite (setMailDir_keeps ..) (mailIndexInvalid_keeps ..)

theorem ringWrite_keeps (s : State) (ident ch dir : Nat) (size : Bool) (v : Nat) :
    Keeps s (ringWrite s ident ch dir size v) :=
  Keeps.ite (mailViolation_keeps ..) (Keeps.ite (setMailDir_keeps ..) (mailViolation_keeps ..))

theorem doorbellSet_keeps (s : State) (ident ch dir v : Nat) : Keeps s (doorbellSet s ident ch dir v) :=
  Keeps.ite (mailViolation_keeps ..) (mailUpdate_keeps ..)

theorem doorbellStatus_keeps (s : State) (ident ch dir v : Nat) : Keeps s (doorbellStatus s ident ch dir v) :=
  Keeps.ite (mailViolation_keeps ..) (setMailDir_keeps ..)

theorem doorbellMask_keeps (s : State) (ident ch dir v : Nat) : Keeps s (doorbellMask s ident ch dir v) :=
  Keeps.ite (mailViolation_keeps ..) (mailUpdate_keeps ..)

theorem wakeEnable_keeps (s : State) (ident ch dir v : Nat) : Keeps s (wakeEnable s ident ch dir v) :=
  Keeps.ite (mailViolation_keeps ..) (setMailDir_keeps ..)

theorem noRegister_keeps (s : State) (ident ch dir : Nat) : Keeps s (noRegister s ident ch dir) :=
  Keeps.ite (Keeps.refl _) (mailViolation_keeps ..)

theorem mailRegWrite_keeps (s : State) (ident ch off v : Nat) : Keeps s (mailRegWrite s ident ch off v) := by
  unfold mailRegWrite
  refine Keeps.ite (noRegister_keeps ..) ?_
  split
  · exact ringWrite_keeps ..
  · exact ringWrite_keeps ..
  · exact lockWrite_keeps ..
  · exact producerWrite_keeps ..
  · exact consumerWrite_keeps ..
  · exact doorbellSet_keeps ..
  · exact doorbellStatus_keeps ..
  · exact doorbellMask_keeps ..
  · exact wakeEnable_keeps ..
  · exact noRegister_keeps ..

theorem mailRegRead_keeps (s : State) (ident ch off : Nat) : Keeps s (mailRegRead s ident ch off).2 := by
  unfold mailRegRead
  refine Keeps.ite_snd (Keeps.ite_snd (Keeps.refl _) (setMailDir_keeps ..)) ?_
  refine Keeps.ite_snd (Keeps.refl _) ?_
  refine Keeps.ite_snd (Keeps.refl _) ?_
  refine Keeps.ite_snd (Keeps.refl _) ?_
  split <;> exact Keeps.refl _

theorem resetDir_keeps (s : State) (ident : Nat) (cd : Nat × Nat) : Keeps s (resetDir s ident cd) := by
  refine Keeps.ite ?_ (Keeps.ite ((setMailDir_keeps ..).trans (record_keeps ..)) (Keeps.refl _))
  refine Keeps.trans ?_ (setMailDir_keeps ..)
  exact Keeps.ite ((setMailDir_keeps ..).trans (record_keeps ..)) (Keeps.refl _)

theorem identityReset_keeps (s : State) (ident : Nat) : Keeps s (identityReset s ident) :=
  (foldl_keeps _ (fun t cd => resetDir_keeps t ident cd) allDirs s).trans (keeps_of_eq rfl rfl)

theorem receiverAwake_keeps (s : State) (ident : Nat) : Keeps s (receiverAwake s ident) := by
  refine Keeps.trans ?_ (foldl_keeps _ (fun _ _ => ?_) _ _)
  · exact keeps_of_eq rfl rfl
  · refine Keeps.ite (Keeps.ite ((setMailDir_keeps ..).trans (mailNotify_keeps ..)) (setMailDir_keeps ..)) ?_
    exact Keeps.refl _

theorem lockBinding_keeps (s : State) : Keeps s (lockBinding s) := keeps_of_eq rfl rfl

theorem discardRecords_keeps (s : State) (ch dir : Nat) : Keeps s (discardRecords s ch dir) :=
  (setMailDir_keeps ..).trans (mailRecordInvalid_keeps ..)

theorem consumeRecord_keeps (s : State) (ch dir len : Nat) : Keeps s (consumeRecord s ch dir len) := setMailDir_keeps ..

theorem consumeUnwanted_keeps (s : State) (ch dir : Nat) : Keeps s (consumeUnwanted s ch dir) := by
  unfold consumeUnwanted
  split
  · exact discardRecords_keeps ..
  · exact consumeRecord_keeps ..
  · exact (consumeRecord_keeps ..).trans (mailRecordInvalid_keeps ..)

theorem execLockAccess_keeps (ident ch dir : Nat) (write : Bool) (s : State) :
    OnNext (execLockAccess ident ch dir write s) (Keeps s) := by
  refine OnNext.ite (Keeps.next (lockWrite_keeps ..)) ?_
  exact Keeps.next ((mailRegRead_keeps ..).trans (emit_keeps ..))

theorem execProducer_keeps (ident ch dir value : Nat) (s : State) : OnNext (execProducer ident ch dir value s) (Keeps s) :=
  Keeps.next (producerWrite_keeps ..)

theorem execConsumer_keeps (ident ch dir value : Nat) (s : State) : OnNext (execConsumer ident ch dir value s) (Keeps s) :=
  Keeps.next (consumerWrite_keeps ..)

theorem execRingSet_keeps (ident ch dir : Nat) (size : Bool) (value : Nat) (s : State) :
    OnNext (execRingSet ident ch dir size value s) (Keeps s) :=
  Keeps.next (ringWrite_keeps ..)

theorem execDoorbellSet_keeps (ident ch dir value : Nat) (s : State) :
    OnNext (execDoorbellSet ident ch dir value s) (Keeps s) :=
  Keeps.next (doorbellSet_keeps ..)

theorem execDoorbellStatus_keeps (ident ch dir value : Nat) (s : State) :
    OnNext (execDoorbellStatus ident ch dir value s) (Keeps s) :=
  Keeps.next (doorbellStatus_keeps ..)

theorem execDoorbellMask_keeps (ident ch dir value : Nat) (s : State) :
    OnNext (execDoorbellMask ident ch dir value s) (Keeps s) :=
  Keeps.next (doorbellMask_keeps ..)

theorem execIdentityReset_keeps (ident : Nat) (s : State) : OnNext (execIdentityReset ident s) (Keeps s) :=
  Keeps.next (identityReset_keeps ..)

theorem execNoticePost_keeps (ch : Nat) (s : State) : OnNext (execNoticePost ch s) (Keeps s) := by
  unfold execNoticePost
  dsimp only
  split
  · exact Keeps.next (Keeps.refl _)
  · refine OnNext.ite (Keeps.next ((setMailDir_keeps ..).trans (postRecord_keeps ..))) ?_
    exact Keeps.next (Keeps.refl _)

theorem execReceiverWake_keeps (ident : Nat) (s : State) : OnNext (execReceiverWake ident s) (Keeps s) :=
  Keeps.next (receiverAwake_keeps ..)

/-! ## The log and the module state (ModuleState) -/

theorem logChange_keeps (s : State) (idx sub : Nat) : Keeps s (s.logChange idx sub) := log_keeps ..

theorem latchReserves_keeps (s : State) : Keeps s (latchReserves s) := keeps_of_eq rfl rfl

theorem setTransition_keeps (s : State) (v : Nat) : Keeps s (setTransition s v) := dset_keeps ..

/-! ## Blocks (Block) -/

theorem eraseBlocks_keeps (s : State) (p : Nat → Bool) : Keeps s (eraseBlocks s p) :=
  ⟨Memory.wf_filter _ _, le_refl _⟩

theorem sideError_keeps (s : State) (p unit row : Nat) : Keeps s (sideError s p unit row) := record_keeps ..

theorem rowRange_keeps (s : State) : Keeps s (rowRange s) := record_keeps ..

/-! ## Arithmetic flags (Flags) -/

theorem arith_keeps (s : State) (p : Nat) (ev : Events) : Keeps s (s.arith p ev) := by
  refine Keeps.trans ?_ (foldl_keeps _ (fun _ _ => Keeps.ite (record_keeps ..) (Keeps.refl _)) _ _)
  exact (Keeps.ite (Keeps.refl _) (setBlock_keeps ..)).trans (dcount_keeps ..)

theorem nonfinite_keeps (s : State) (p n : Nat) : Keeps s (s.nonfinite p n) :=
  Keeps.ite (Keeps.refl _) ((dcount_keeps ..).trans (arith_keeps ..))

theorem consumed_keeps (s : State) (c p : Nat) : Keeps s (s.consumed c p) := record_keeps ..

/-! ## Operands and waits (Operands) -/

theorem issues_keeps (c : Nat) (s : State) : Keeps s (issues c s) :=
  Keeps.ite (Keeps.refl _) ((dset_keeps ..).trans (setCtx_keeps ..))

theorem demandGranules_keeps (s : State) (c : Nat) (gs : List Nat) : Keeps s (demandGranules s c gs) := setCairn_keeps ..

theorem granuleHeld_keeps (s : State) (c : Nat) (gs : List Nat) : Keeps s (granuleHeld s c gs) :=
  (demandGranules_keeps ..).trans (record_keeps ..)

/-! ## The vector unit (Vector) -/

theorem commitVector_keeps (c p vd : Nat) (out : List Lane) (ev : Events) (poison : Bool) (s : State) :
    Keeps s (commitVector c p vd out ev poison s) := by
  refine Keeps.ite (((setBlock_keeps ..).trans (arith_keeps ..)).trans (consumed_keeps ..)) ?_
  exact (setBlock_keeps ..).trans (arith_keeps ..)

theorem lanewiseOp_keeps (c vd : Nat) (srcs : List Nat) (f : List Nat → Nat × Events) (a : Actor) (s : State) :
    Keeps s (lanewiseOp c vd srcs f a s) :=
  commitVector_keeps ..

theorem reduceOp_keeps (c vd va : Nat) (f : List Nat → Nat × Nat) (a : Actor) (s : State) :
    Keeps s (reduceOp c vd va f a s) :=
  commitVector_keeps ..

theorem cvtOp_keeps (c sel vd va src dst round ovf adv tensor : Nat) (a : Actor) (s : State) :
    Keeps s (cvtOp c sel vd va src dst round ovf adv tensor a s) := by
  refine Keeps.ite ((commitVector_keeps ..).trans (setBlock_keeps ..)) ?_
  exact commitVector_keeps ..

theorem quantOp_keeps (c sel vd va vb dst round adv tensor : Nat) (a : Actor) (s : State) :
    Keeps s (quantOp c sel vd va vb dst round adv tensor a s) := by
  refine Keeps.ite ((commitVector_keeps ..).trans (setBlock_keeps ..)) ?_
  exact commitVector_keeps ..

theorem loadOp_keeps (vd width bank half row postinc sel c : Nat) (a : Actor) (s : State) :
    Keeps s (loadOp vd width bank half row postinc sel c a s) := by
  refine Keeps.trans ?_ (setBlock_keeps ..)
  exact Keeps.ite_snd ((readRow_keeps ..).trans (readRow_keeps ..)) (readRow_keeps ..)

theorem storeOp_keeps (c sel vd size bank offset row scales sbank srow sbyte postinc : Nat) (touch : Touch) (a : Actor)
    (s : State) :
    Keeps s (storeOp c sel vd size bank offset row scales sbank srow sbyte postinc touch a s) := by
  refine Keeps.trans ?_ (setBlock_keeps ..)
  refine Keeps.ite ?_ ?_
  · refine Keeps.trans ?_ (nonfinite_keeps ..)
    refine Keeps.trans ?_ (writeRow_keeps ..)
    refine Keeps.ite (((writeRow_keeps ..).trans (writeRow_keeps ..)).trans (nonfinite_keeps ..)) ?_
    exact writeRow_keeps ..
  · refine Keeps.ite (((writeRow_keeps ..).trans (writeRow_keeps ..)).trans (nonfinite_keeps ..)) ?_
    exact writeRow_keeps ..

theorem permOp_keeps (vd va kind arg : Nat) (a : Actor) (s : State) : Keeps s (permOp vd va kind arg a s) :=
  setBlock_keeps ..

theorem accReadOp_keeps (vd row half : Nat) (a : Actor) (s : State) : Keeps s (accReadOp vd row half a s) :=
  setBlock_keeps ..

theorem predOp_keeps (c dest va mode invert : Nat) (a : Actor) (s : State) : Keeps s (predOp c dest va mode invert a s) :=
  Keeps.ite ((setBlock_keeps ..).trans (consumed_keeps ..)) (setBlock_keeps ..)

theorem flagsReadOp_keeps (vd : Nat) (a : Actor) (s : State) : Keeps s (flagsReadOp vd a s) := setBlock_keeps ..

theorem flagsClearOp_keeps (mask : Nat) (a : Actor) (s : State) : Keeps s (flagsClearOp mask a s) := setBlock_keeps ..

theorem execVadd_keeps (c sel pred vd va vb : Nat) (s : State) : OnNext (execVadd c sel pred vd va vb s) (Keeps s) :=
  inBlocks_keeps _ _ _ _ _ _ (fun _ _ => lanewiseOp_keeps ..)

theorem execVsub_keeps (c sel pred vd va vb : Nat) (s : State) : OnNext (execVsub c sel pred vd va vb s) (Keeps s) :=
  inBlocks_keeps _ _ _ _ _ _ (fun _ _ => lanewiseOp_keeps ..)

theorem execVmul_keeps (c sel pred vd va vb : Nat) (s : State) : OnNext (execVmul c sel pred vd va vb s) (Keeps s) :=
  inBlocks_keeps _ _ _ _ _ _ (fun _ _ => lanewiseOp_keeps ..)

theorem execVfma_keeps (c sel pred vd va vb vc : Nat) (s : State) : OnNext (execVfma c sel pred vd va vb vc s) (Keeps s) :=
  inBlocks_keeps _ _ _ _ _ _ (fun _ _ => lanewiseOp_keeps ..)

theorem execVmin_keeps (c sel pred vd va vb : Nat) (s : State) : OnNext (execVmin c sel pred vd va vb s) (Keeps s) :=
  inBlocks_keeps _ _ _ _ _ _ (fun _ _ => lanewiseOp_keeps ..)

theorem execVmax_keeps (c sel pred vd va vb : Nat) (s : State) : OnNext (execVmax c sel pred vd va vb s) (Keeps s) :=
  inBlocks_keeps _ _ _ _ _ _ (fun _ _ => lanewiseOp_keeps ..)

theorem execVcmp_keeps (c sel pred vd va vb kind : Nat) (s : State) :
    OnNext (execVcmp c sel pred vd va vb kind s) (Keeps s) :=
  inBlocks_keeps _ _ _ _ _ _ (fun _ _ => lanewiseOp_keeps ..)

theorem execVsel_keeps (c sel pred vd va vb vc : Nat) (s : State) : OnNext (execVsel c sel pred vd va vb vc s) (Keeps s) :=
  inBlocks_keeps _ _ _ _ _ _ (fun _ _ => lanewiseOp_keeps ..)

theorem execViadd_keeps (c sel pred vd va vb : Nat) (s : State) : OnNext (execViadd c sel pred vd va vb s) (Keeps s) :=
  inBlocks_keeps _ _ _ _ _ _ (fun _ _ => lanewiseOp_keeps ..)

theorem execVand_keeps (c sel pred vd va vb : Nat) (s : State) : OnNext (execVand c sel pred vd va vb s) (Keeps s) :=
  inBlocks_keeps _ _ _ _ _ _ (fun _ _ => lanewiseOp_keeps ..)

theorem execVor_keeps (c sel pred vd va vb : Nat) (s : State) : OnNext (execVor c sel pred vd va vb s) (Keeps s) :=
  inBlocks_keeps _ _ _ _ _ _ (fun _ _ => lanewiseOp_keeps ..)

theorem execVxor_keeps (c sel pred vd va vb : Nat) (s : State) : OnNext (execVxor c sel pred vd va vb s) (Keeps s) :=
  inBlocks_keeps _ _ _ _ _ _ (fun _ _ => lanewiseOp_keeps ..)

theorem execVshift_keeps (c sel pred vd va vb kind imm amount : Nat) (s : State) :
    OnNext (execVshift c sel pred vd va vb kind imm amount s) (Keeps s) :=
  inBlocks_keeps _ _ _ _ _ _ (fun _ _ => lanewiseOp_keeps ..)

theorem execVcvt_keeps (c sel pred vd va src dst round ovf adv tensor : Nat) (s : State) :
    OnNext (execVcvt c sel pred vd va src dst round ovf adv tensor s) (Keeps s) :=
  inBlocks_keeps _ _ _ _ _ _ (fun _ _ => cvtOp_keeps ..)

theorem execVquant_keeps (c sel pred vd va vb dst round adv tensor : Nat) (s : State) :
    OnNext (execVquant c sel pred vd va vb dst round adv tensor s) (Keeps s) :=
  inBlocks_keeps _ _ _ _ _ _ (fun _ _ => quantOp_keeps ..)

theorem execVperm_keeps (c sel pred vd va kind arg : Nat) (s : State) :
    OnNext (execVperm c sel pred vd va kind arg s) (Keeps s) :=
  inBlocks_keeps _ _ _ _ _ _ (fun _ _ => permOp_keeps ..)

theorem execVexp2_keeps (c sel pred vd va : Nat) (s : State) : OnNext (execVexp2 c sel pred vd va s) (Keeps s) :=
  inBlocks_keeps _ _ _ _ _ _ (fun _ _ => lanewiseOp_keeps ..)

theorem execVlog2_keeps (c sel pred vd va : Nat) (s : State) : OnNext (execVlog2 c sel pred vd va s) (Keeps s) :=
  inBlocks_keeps _ _ _ _ _ _ (fun _ _ => lanewiseOp_keeps ..)

theorem execVrcp_keeps (c sel pred vd va : Nat) (s : State) : OnNext (execVrcp c sel pred vd va s) (Keeps s) :=
  inBlocks_keeps _ _ _ _ _ _ (fun _ _ => lanewiseOp_keeps ..)

theorem execVrsqrt_keeps (c sel pred vd va : Nat) (s : State) : OnNext (execVrsqrt c sel pred vd va s) (Keeps s) :=
  inBlocks_keeps _ _ _ _ _ _ (fun _ _ => lanewiseOp_keeps ..)

theorem execVsqrt_keeps (c sel pred vd va : Nat) (s : State) : OnNext (execVsqrt c sel pred vd va s) (Keeps s) :=
  inBlocks_keeps _ _ _ _ _ _ (fun _ _ => lanewiseOp_keeps ..)

theorem execVtanh_keeps (c sel pred vd va : Nat) (s : State) : OnNext (execVtanh c sel pred vd va s) (Keeps s) :=
  inBlocks_keeps _ _ _ _ _ _ (fun _ _ => lanewiseOp_keeps ..)

theorem execVreduceSum_keeps (c sel pred vd va : Nat) (s : State) : OnNext (execVreduceSum c sel pred vd va s) (Keeps s) :=
  inBlocks_keeps _ _ _ _ _ _ (fun _ _ => reduceOp_keeps ..)

theorem execVreduceMax_keeps (c sel pred vd va : Nat) (s : State) : OnNext (execVreduceMax c sel pred vd va s) (Keeps s) :=
  inBlocks_keeps _ _ _ _ _ _ (fun _ _ => reduceOp_keeps ..)

theorem execVload_keeps (c sel pred vd width bank half row postinc : Nat) (touch : Touch) (s : State) :
    OnNext (execVload c sel pred vd width bank half row postinc touch s) (Keeps s) :=
  sensingBlocks_keeps _ _ _ _ _ _ _ (fun _ _ => loadOp_keeps ..)

theorem execVstore_keeps (c sel pred vd size bank offset row scales sbank srow sbyte postinc : Nat) (touch : Touch) (s : State) :
    OnNext (execVstore c sel pred vd size bank offset row scales sbank srow sbyte postinc touch s) (Keeps s) :=
  writingBlocks_keeps _ _ _ _ _ _ _ _ (fun _ _ => storeOp_keeps ..)

theorem execVaccRead_keeps (c sel pred vd row half : Nat) (touch : Touch) (s : State) :
    OnNext (execVaccRead c sel pred vd row half touch s) (Keeps s) :=
  sensingBlocks_keeps _ _ _ _ _ _ _ (fun _ _ => accReadOp_keeps ..)

theorem execVpred_keeps (c sel pred dest va mode invert : Nat) (s : State) :
    OnNext (execVpred c sel pred dest va mode invert s) (Keeps s) :=
  inBlocks_keeps _ _ _ _ _ _ (fun _ _ => predOp_keeps ..)

theorem execFlagsRead_keeps (c sel pred vd : Nat) (s : State) : OnNext (execFlagsRead c sel pred vd s) (Keeps s) :=
  inBlocks_keeps _ _ _ _ _ _ (fun _ _ => flagsReadOp_keeps ..)

theorem execFlagsClear_keeps (c sel pred mask : Nat) (s : State) : OnNext (execFlagsClear c sel pred mask s) (Keeps s) :=
  inBlocks_keeps _ _ _ _ _ _ (fun _ _ => flagsClearOp_keeps ..)

/-! ## The multiply array (Array) -/

theorem readBanks_keeps (s : State) (p row : Nat) : Keeps s (readBanks s p row).2 := by
  refine foldl_keeps_on Prod.snd _ (fun t _ => ?_) _ ([], s)
  exact readRow_keeps t.2 _ _ _

theorem readBankRows_keeps (s : State) (p : Nat) (rows : List Nat) : Keeps s (readBankRows s p rows).2 := by
  refine foldl_keeps_on Prod.snd _ (fun t _ => ?_) _ ([], s)
  exact readBanks_keeps t.2 _ _

theorem loadPair_keeps (s : State) (p row q : Nat) : Keeps s (loadPair s p row q).2 :=
  (readRow_keeps ..).trans (readRow_keeps ..)

theorem startRow_keeps (s : State) (b : Block) (d : Desc) (p : Nat) (f : MmFields) (h : Nat) :
    Keeps s (startRow s b d p f h).2 := by
  unfold startRow
  split
  · exact Keeps.refl s
  · split
    · exact Keeps.refl s
    · refine foldl_keeps_on Prod.snd _ (fun t _ => ?_) _ ([], s)
      exact loadPair_keeps t.2 _ _ _

theorem consumedIf_keeps {s t : State} (h : Keeps s t) (p : Prop) [Decidable p] (c q : Nat) :
    Keeps s (if p then t.consumed c q else t) := by
  split
  · exact h.trans (consumed_keeps ..)
  · exact h

theorem startRows_keeps (b : Block) (d : Desc) (p : Nat) (f : MmFields) (l : List Nat) (t : List (List Lane) × State) :
    Keeps t.2 (l.foldl (fun t h => (t.1 ++ [(startRow t.2 b d p f h).1], (startRow t.2 b d p f h).2)) t).2 := by
  refine foldl_keeps_on Prod.snd _ (fun u h => ?_) l t
  exact startRow_keeps u.2 b d p f h

theorem mmOp_keeps (c sel : Nat) (f : MmFields) (a : Actor) (s : State) : Keeps s (mmOp c sel f a s) := by
  unfold mmOp
  split
  · exact Keeps.refl s
  · have k := startRows_keeps (s.block a.phys) ((s.ctx c).desc sel) a.phys f (List.range f.h) ([], s)
    dsimp only at k ⊢
    refine consumedIf_keeps ?_ _ c a.phys
    refine Keeps.trans ?_ ((setBlock_keeps _ a.phys _).trans (arith_keeps ..))
    exact (k.trans (readBankRows_keeps ..)).trans (readBankRows_keeps ..)

theorem accStoreOp_keeps (c sel row half bank r postinc : Nat) (touch : Touch) (a : Actor) (s : State) :
    Keeps s (accStoreOp c sel row half bank r postinc touch a s) := by
  refine Keeps.trans ?_ (setBlock_keeps ..)
  refine Keeps.ite ((writeRow_keeps ..).trans (writeRow_keeps ..)) ?_
  exact ((writeRow_keeps ..).trans (writeRow_keeps ..)).trans (nonfinite_keeps ..)

theorem micaFillOp_keeps (c sel quarter reads dest row postinc : Nat) (a : Actor) (s : State) :
    Keeps s (micaFillOp c sel quarter reads dest row postinc a s) :=
  (readBankRows_keeps ..).trans (setBlock_keeps ..)

theorem setBaseOp_keeps (target mode va imm : Nat) (a : Actor) (s : State) : Keeps s (setBaseOp target mode va imm a s) :=
  setBlock_keeps ..

theorem execMmAcc_keeps (c sel pred fmtA fmtB steps h start transA aSel aOffset bSel bRow scale acc postinc : Nat)
    (touch : Touch) (s : State) :
    OnNext (execMmAcc c sel pred fmtA fmtB steps h start transA aSel aOffset bSel bRow scale acc postinc touch s) (Keeps s) :=
  sensingBlocks_keeps _ _ _ _ _ _ _ (fun _ _ => mmOp_keeps ..)

theorem execAccStore_keeps (c sel pred acc half bank row postinc : Nat) (touch : Touch) (s : State) :
    OnNext (execAccStore c sel pred acc half bank row postinc touch s) (Keeps s) :=
  writingBlocks_keeps _ _ _ _ _ _ _ _ (fun _ _ => accStoreOp_keeps ..)

theorem execMicaFill_keeps (c sel pred quarter mode fmt reads dest row postinc : Nat) (touch : Touch) (s : State) :
    OnNext (execMicaFill c sel pred quarter mode fmt reads dest row postinc touch s) (Keeps s) :=
  sensingBlocks_keeps _ _ _ _ _ _ _ (fun _ _ => micaFillOp_keeps ..)

theorem execSetBase_keeps (c sel pred target mode va imm : Nat) (s : State) :
    OnNext (execSetBase c sel pred target mode va imm s) (Keeps s) :=
  inBlocks_keeps _ _ _ _ _ _ (fun _ _ => setBaseOp_keeps ..)

/-! ## The movers (Mover) -/

theorem moverBlocks_keeps (c slot standby sel pred : Nat) (legal : Bool) (errors : List ReadError)
    (gs : State → List Actor → List Nat) (act : List Actor → State → State) (s : State) (h : ∀ l t, Keeps t (act l t)) :
    OnNext (moverBlocks c slot standby sel pred legal errors gs act s) (Keeps s) := by
  unfold moverBlocks
  split
  · rw [onNext_next]; exact Keeps.refl s
  · split
    · exact onNext_fault _ _
    · split
      · rw [onNext_next]; exact Keeps.refl s
      · refine whenCopied_keeps _ _ _ _ ?_
        rw [onNext_next]
        exact (senseAll_keeps 0 s errors).trans (h _ _)

theorem transferReads_keeps (k : Nat) (ts : List Transfer) (st : List (Transfer × List TByte) × State) :
    Keeps st.2 (transferReads k ts st).2 := by
  refine foldl_keeps_on Prod.snd _ (fun a _ => ?_) _ st
  exact readRow_keeps a.2 _ _ _

theorem transferWrites_keeps (touch : Touch) (k : Nat) (st : List (Transfer × List TByte) × State) :
    Keeps st.2 (transferWrites touch k st).2 := by
  refine foldl_keeps _ (fun t _ => ?_) _ st.2
  exact foldl_keeps _ (fun u _ => writeRow_keeps u _ _ _ _ _ _) _ t

theorem runTransfers_keeps (touch : Touch) (ts : List Transfer) (s : State) : Keeps s (runTransfers touch ts s) := by
  refine foldl_keeps_on Prod.snd _ (fun st k => ?_) _ ([], s)
  exact (transferReads_keeps k ts st).trans (transferWrites_keeps ..)

theorem bumpAll_keeps (as : List Actor) (incs : List (Nat × Nat)) (s : State) : Keeps s (bumpAll as incs s) :=
  foldl_keeps _ (fun _ _ => setBlock_keeps ..) _ _

theorem execCopyBank_keeps (c slot standby sel pred sbank srow dbank drow rows postinc : Nat) (touch : Touch) (s : State) :
    OnNext (execCopyBank c slot standby sel pred sbank srow dbank drow rows postinc touch s) (Keeps s) := by
  unfold execCopyBank
  dsimp only
  exact moverBlocks_keeps _ _ _ _ _ _ _ _ _ _ (fun _ _ => (runTransfers_keeps ..).trans (bumpAll_keeps ..))

theorem execCopyAvenue_keeps (c slot standby sel pred dir delta lbank lrow rbank rrow beats lat postinc : Nat) (touch : Touch)
    (s : State) :
    OnNext (execCopyAvenue c slot standby sel pred dir delta lbank lrow rbank rrow beats lat postinc touch s) (Keeps s) := by
  unfold execCopyAvenue
  dsimp only
  exact moverBlocks_keeps _ _ _ _ _ _ _ _ _ _ (fun _ _ => (runTransfers_keeps ..).trans (bumpAll_keeps ..))

theorem stashUnmapped_keeps (s : State) (c : Nat) : Keeps s (stashUnmapped s c) := record_keeps ..

theorem countStash_keeps (s : State) (c : Nat) (b : Buffer) (off n : Nat) : Keeps s (countStash s c b off n) :=
  Keeps.ite (setCtx_keeps ..) (Keeps.refl _)

theorem readBuffer_keeps (s : State) (c : Nat) (b : Buffer) (off n : Nat) : Keeps s (readBuffer s c b off n).2 := by
  unfold readBuffer
  split
  · exact countStash_keeps ..
  · exact stashUnmapped_keeps ..

theorem writeBuffer_keeps (s : State) (c : Nat) (b : Buffer) (off : Nat) (bs : List TByte) :
    Keeps s (writeBuffer s c b off bs) := by
  unfold writeBuffer
  split
  · exact writeTagged_keeps ..
  · exact stashUnmapped_keeps ..

theorem moveRow_keeps (c : Nat) (d : Desc) (dir bank row : Nat) (buf : Buffer) (offset rows i : Nat) (touch : Touch)
    (a : Actor) (s : State) :
    Keeps s (moveRow c d dir bank row buf offset rows i touch a s) := by
  refine Keeps.ite ((readRow_keeps ..).trans (writeBuffer_keeps ..)) ?_
  exact (readBuffer_keeps ..).trans (writeRow_keeps ..)

theorem moveRows_keeps (c slot standby sel pred dir bank row buffer offset rows postinc : Nat) (touch : Touch) (s : State) :
    OnNext (moveRows c slot standby sel pred dir bank row buffer offset rows postinc touch s) (Keeps s) := by
  unfold moveRows
  dsimp only
  refine moverBlocks_keeps _ _ _ _ _ _ _ _ _ _ ?_
  intro _ _
  refine Keeps.trans ?_ (bumpAll_keeps ..)
  exact foldl_keeps _ (fun _ _ => foldl_keeps _ (fun _ _ => moveRow_keeps ..) _ _) _ _

theorem execCopySquare_keeps (c slot standby sel pred dir bank row buffer offset rows postinc : Nat) (touch : Touch) (s : State) :
    OnNext (execCopySquare c slot standby sel pred dir bank row buffer offset rows postinc touch s) (Keeps s) :=
  moveRows_keeps _ _ _ _ _ _ _ _ _ _ _ _ _ _

theorem execCopyBedrock_keeps (c slot standby sel pred dir bank row buffer offset rows postinc : Nat) (touch : Touch)
    (s : State) :
    OnNext (execCopyBedrock c slot standby sel pred dir bank row buffer offset rows postinc touch s) (Keeps s) :=
  moveRows_keeps _ _ _ _ _ _ _ _ _ _ _ _ _ _

theorem execCopySb_keeps (c slot standby dir sq sqOffset br brOffset length : Nat) (touch : Touch) (s : State) :
    OnNext (execCopySb c slot standby dir sq sqOffset br brOffset length touch s) (Keeps s) := by
  refine OnNext.ite (Keeps.next (Keeps.refl _)) ?_
  refine OnNext.ite (onNext_fault _ _) ?_
  refine OnNext.ite (Keeps.next (Keeps.refl _)) ?_
  refine whenCopied_keeps _ _ _ _ ?_
  refine Keeps.next ?_
  refine Keeps.trans ?_ (foldl_keeps _ (fun _ _ => Keeps.ite (writeBuffer_keeps ..) ((readBuffer_keeps ..).trans
      (writeBuffer_keeps ..))) _ _)
  exact senseAll_keeps ..

theorem execMicaLoad_keeps (c slot standby sel pred quarter mode fmt reads dest row postinc : Nat) (touch : Touch) (s : State) :
    OnNext (execMicaLoad c slot standby sel pred quarter mode fmt reads dest row postinc touch s) (Keeps s) := by
  refine moverBlocks_keeps _ _ _ _ _ _ _ _ _ _ ?_
  intro _ _
  exact foldl_keeps _ (fun _ _ => micaFillOp_keeps ..) _ _

/-! ## Ports, peers and flows (Flows) -/

theorem setPeer_keeps (s : State) (i : Nat) (x : Peer) : Keeps s (s.setPeer i x) := keeps_of_eq rfl rfl

theorem setPort_keeps (s : State) (p : Nat) (x : Port) : Keeps s (s.setPort p x) := keeps_of_eq rfl rfl

theorem frameInvalid_keeps (s : State) (port flow : Option Nat) : Keeps s (frameInvalid s port flow) := record_keeps ..

theorem sendControl_keeps (s : State) (f kind reason seq : Nat) : Keeps s (sendControl s f kind reason seq) := emit_keeps ..

theorem transmit_keeps (s : State) (f u : Nat) : Keeps s (transmit s f u) := by
  unfold transmit
  dsimp only
  split
  · exact Keeps.refl _
  · refine Keeps.ite (setFlow_keeps ..) ?_
    refine Keeps.ite ?_ ?_
    · refine Keeps.ite ((setFlow_keeps ..).trans (emit_keeps ..)) ?_
      exact ((setFlow_keeps ..).trans (emit_keeps ..)).trans (record_keeps ..)
    · refine Keeps.ite ((setFlow_keeps ..).trans (emit_keeps ..)) ?_
      refine Keeps.ite ((setFlow_keeps ..).trans (emit_keeps ..)) ?_
      exact ((setFlow_keeps ..).trans (emit_keeps ..)).trans (record_keeps ..)

theorem retransmit_keeps (s : State) (f u : Nat) : Keeps s (retransmit s f u) := by
  unfold retransmit
  dsimp only
  split
  · exact Keeps.refl _
  · refine Keeps.ite (setFlow_keeps ..) ?_
    exact ((setFlow_keeps ..).trans (dcount_keeps ..)).trans (transmit_keeps ..)

theorem sendWaiting_keeps (s : State) (f : Nat) : Keeps s (sendWaiting s f) := by
  refine Keeps.ite (Keeps.refl _) ?_
  exact foldl_keeps _ (fun _ _ => Keeps.ite (transmit_keeps ..) (retransmit_keeps ..)) _ _

theorem sendUnits_keeps (s : State) (f : Nat) (last : Bool) (us : List (List TByte)) : Keeps s (sendUnits s f last us) := by
  unfold sendUnits
  refine foldl_keeps _ (fun _ _ => ?_) _ _
  split
  · exact (setFlow_keeps ..).trans (transmit_keeps ..)

theorem closeFlow_keeps (s : State) (f reason : Nat) : Keeps s (closeFlow s f reason) := by
  refine Keeps.ite (Keeps.refl _) ?_
  exact Keeps.ite ((setFlow_keeps ..).trans (sendControl_keeps ..)) (setFlow_keeps ..)

theorem closeFlows_keeps (s : State) (reason : Nat) (p : Nat → Flow → Bool) : Keeps s (closeFlows s reason p) :=
  foldl_keeps _ (fun _ _ => closeFlow_keeps ..) _ _

theorem sendAck_keeps (s : State) (f port : Nat) : Keeps s (sendAck s f port) := (setFlow_keeps ..).trans (emit_keeps ..)

theorem netWait_keeps (c k f : Nat) (kinds : List Nat) (s : State) : Keeps s (netWait c k f kinds s) := by
  refine Keeps.trans ?_ (waitLowest_keeps _ _ _ _ (waitIn_keeps_invariants _ _ _))
  exact Keeps.ite ((record_keeps ..).trans (setCtx_keeps ..)) (Keeps.refl _)

theorem execNetSend_keeps (c f buffer offset length last : Nat) (touch : Touch) (s : State) :
    OnNext (execNetSend c f buffer offset length last touch s) (Keeps s) := by
  refine OnNext.ite (Keeps.next (Keeps.refl _)) ?_
  refine OnNext.ite (onNext_fault _ _) ?_
  refine OnNext.ite (Keeps.next (Keeps.refl _)) ?_
  refine OnNext.ite (Keeps.next (netWait_keeps ..)) ?_
  refine OnNext.ite (Keeps.next ((setFlow_keeps ..).trans (netWait_keeps ..))) ?_
  exact Keeps.next (((setFlow_keeps ..).trans (senseAll_keeps ..)).trans (sendUnits_keeps ..))

theorem takeVeto_keeps (s : State) (c f u : Nat) : Keeps s (takeVeto s c f u) :=
  Keeps.ite (Keeps.ite (setCtx_keeps ..) (Keeps.refl _)) (Keeps.refl _)

theorem execNetRecv_keeps (c f buffer offset length last : Nat) (s : State) :
    OnNext (execNetRecv c f buffer offset length last s) (Keeps s) := by
  refine OnNext.ite (Keeps.next (Keeps.refl _)) ?_
  refine OnNext.ite (onNext_fault _ _) ?_
  refine OnNext.ite (Keeps.next (Keeps.refl _)) ?_
  refine OnNext.ite (Keeps.next (netWait_keeps ..)) ?_
  refine Keeps.next ?_
  refine Keeps.ite (((takeVeto_keeps ..).trans (setFlow_keeps ..)).trans (record_keeps ..)) ?_
  exact (takeVeto_keeps ..).trans (setFlow_keeps ..)

theorem execReceiveUnitsFreed_keeps (f : Nat) (s : State) : OnNext (execReceiveUnitsFreed f s) (Keeps s) :=
  OnNext.ite (Keeps.next (setFlow_keeps ..)) (Keeps.next (Keeps.refl _))

/-! ## Block queues and Plazas (Queues) -/

theorem sendOne_keeps (c q delta vreg part fmt last : Nat) (a : Actor) (s : State) :
    Keeps s (sendOne c q delta vreg part fmt last a s) := by
  unfold sendOne
  split
  · exact Keeps.refl _
  · exact Keeps.ite (record_keeps ..) (setBlock_keeps ..)

theorem execQSend_keeps (c sel pred q delta vreg part fmt last : Nat) (s : State) :
    OnNext (execQSend c sel pred q delta vreg part fmt last s) (Keeps s) := by
  refine OnNext.ite (Keeps.next (Keeps.refl _)) ?_
  refine OnNext.ite (onNext_fault _ _) ?_
  refine OnNext.ite (Keeps.next (waitLowest_keeps _ _ _ _ (waitIn_keeps_invariants _ _ _))) ?_
  exact Keeps.next (foldl_keeps _ (fun _ _ => sendOne_keeps ..) _ _)

theorem recvOne_keeps (q vreg part : Nat) (a : Actor) (s : State) : Keeps s (recvOne q vreg part a s) := setBlock_keeps ..

theorem recvClosed_keeps (s : State) (c q : Nat) (as : List Actor) : Keeps s (recvClosed s c q as) := by
  unfold recvClosed
  refine Keeps.ite (Keeps.refl _) ?_
  split
  · exact Keeps.refl _
  · exact record_keeps ..

theorem execQRecv_keeps (c sel pred q vreg part : Nat) (touch : Touch) (s : State) :
    OnNext (execQRecv c sel pred q vreg part touch s) (Keeps s) := by
  refine OnNext.ite (Keeps.next (Keeps.refl _)) ?_
  refine OnNext.ite (onNext_fault _ _) ?_
  refine OnNext.ite (Keeps.next ((senseAll_keeps ..).trans (foldl_keeps _ (fun _ _ => recvOne_keeps ..) _ _))) ?_
  exact Keeps.next ((recvClosed_keeps ..).trans (waitLowest_keeps _ _ _ _ (waitIn_keeps_invariants _ _ _)))

theorem execQClose_keeps (c sel pred q : Nat) (s : State) : OnNext (execQClose c sel pred q s) (Keeps s) :=
  inBlocks_keeps _ _ _ _ _ _ (fun _ _ => setBlock_keeps ..)

theorem contribute_keeps (c sel plaza slotBase bank row half sum : Nat) (a : Actor) (s : State) :
    Keeps s (contribute c sel plaza slotBase bank row half sum a s) :=
  (readRow_keeps ..).trans (keeps_of_eq rfl rfl)

theorem execPlazaSend_keeps (c plaza sel pred slotBase bank row half sum : Nat) (touch : Touch) (s : State) :
    OnNext (execPlazaSend c plaza sel pred slotBase bank row half sum touch s) (Keeps s) := by
  unfold execPlazaSend
  refine OnNext.ite (Keeps.next (Keeps.refl _)) ?_
  refine OnNext.ite (onNext_fault _ _) ?_
  split
  · exact Keeps.next (Keeps.refl _)
  · refine OnNext.ite (Keeps.next (waitLowest_keeps _ _ _ _ (waitIn_keeps_invariants _ _ _))) ?_
    refine Keeps.next ?_
    exact (senseAll_keeps ..).trans (foldl_keeps _ (fun _ _ => contribute_keeps ..) _ _)

theorem clearPlaza_keeps (plaza reg : Nat) (s : State) : Keeps s (clearPlaza plaza reg s) := keeps_of_eq rfl rfl

theorem drainInto_keeps (c sel plaza bank row half sum : Nat) (touch : Touch) (a : Actor) (s : State) :
    Keeps s (drainInto c sel plaza bank row half sum touch a s) := by
  refine Keeps.trans ?_ (nonfinite_keeps ..)
  refine Keeps.trans ?_ (writeRow_keeps ..)
  refine Keeps.ite ?_ ((Keeps.ite (dcount_keeps ..) (Keeps.refl _)).trans (arith_keeps ..))
  refine Keeps.trans ?_ (record_keeps ..)
  exact ((Keeps.ite (dcount_keeps ..) (Keeps.refl _)).trans (arith_keeps ..)).trans (record_keeps ..)

theorem execPlazaDrain_keeps (c plaza sel pred bank row half sum : Nat) (touch : Touch) (s : State) :
    OnNext (execPlazaDrain c plaza sel pred bank row half sum touch s) (Keeps s) := by
  unfold execPlazaDrain
  refine OnNext.ite (Keeps.next (Keeps.refl _)) ?_
  refine OnNext.ite (onNext_fault _ _) ?_
  split
  · exact Keeps.next (Keeps.refl _)
  · refine whenCopied_keeps _ _ _ _ ?_
    refine Keeps.next ?_
    exact (foldl_keeps _ (fun _ _ => drainInto_keeps ..) _ _).trans (clearPlaza_keeps ..)

/-! ## Contexts (Contexts) -/

theorem settlePower_keeps (was s : State) : Keeps s (settlePower was s) :=
  (loseBlocks_keeps s _).trans (eraseBlocks_keeps ..)

theorem dropEvac_keeps (s : State) (c kind : Nat) : Keeps s (dropEvac s c kind) :=
  (foldl_keeps _ (abandonEvac_keeps kind) _ s).trans (keeps_of_eq rfl rfl)

theorem stopWindow_keeps (s : State) (c : Nat) : Keeps s (stopWindow s c) := by
  unfold stopWindow
  split
  · have k := foldl_keeps _ (abandonEvac_keeps 1) (s.zoning.evac.filter fun e => e.phase == 3 && (boundBy s e.block).any
      (·.1 == c)) s
    exact k.trans (keeps_of_eq rfl rfl)
  · exact Keeps.refl s

theorem abandonCut_keeps (s : State) (c : Nat) : Keeps s (abandonCut s c) :=
  Keeps.ite ((setCairn_keeps ..).trans (record_keeps ..)) (Keeps.refl _)

theorem abandonCopy_keeps (s : State) (c : Nat) : Keeps s (abandonCopy s c) := by
  unfold abandonCopy
  split
  · exact Keeps.refl _
  · exact (setCairn_keeps ..).trans (record_keeps ..)

theorem failDrain_keeps (s : State) (c : Nat) : Keeps s (failDrain s c) := by
  unfold failDrain
  split
  · exact Keeps.refl _
  · exact (setCairn_keeps ..).trans (record_keeps ..)

theorem clearProgramCells_keeps (s : State) (c : Nat) : Keeps s (clearProgramCells s c) := keeps_of_eq rfl rfl

theorem clearStore_keeps (s : State) (c : Nat) : Keeps s (clearStore s c) := eraseBytes_keeps ..

theorem clearPlazas_keeps (s : State) (c : Nat) : Keeps s (clearPlazas s c) := keeps_of_eq rfl rfl

theorem closeTenantFlows_keeps (s : State) (t reason : Nat) : Keeps s (closeTenantFlows s t reason) := closeFlows_keeps ..

theorem unloadContext_keeps (s : State) (c reason : Nat) : Keeps s (unloadContext s c reason) := by
  have a := ((abandonCut_keeps s c).trans (abandonCopy_keeps _ c)).trans (failDrain_keeps _ c)
  have b := a.trans ((dropEvac_keeps _ c 3).trans (clearPlazas_keeps _ c))
  unfold unloadContext
  dsimp only
  generalize clearPlazas (dropEvac (failDrain (abandonCopy (abandonCut s c) c) c) c 3) c = t at b ⊢
  have d := (b.trans (loseBlocks_keeps t ((t.ctx c).blocks.map (·.2)).contains)).trans (closeTenantFlows_keeps _
      (tenantOf s c) reason)
  generalize closeTenantFlows (loseBlocks t ((t.ctx c).blocks.map (·.2)).contains) (tenantOf s c) reason = u at d ⊢
  have e := (d.trans (clearProgramCells_keeps u c)).trans (clearStore_keeps _ c)
  refine Keeps.trans ?_ (setCairn_keeps _ c _)
  exact e.trans (keeps_of_eq rfl rfl)

theorem overBlocks_keeps (s : State) (c : Nat) (f : Nat → Block → Block) : Keeps s (overBlocks s c f) :=
  foldl_keeps _ (fun _ _ => setBlock_keeps ..) _ _

theorem newRun_keeps (s : State) (c b : Nat) : Keeps s (newRun s c b) :=
  ((overBlocks_keeps ..).trans (dsets_keeps ..)).trans (setCtx_keeps ..)

/-! ## Row migration and evacuation (Evacuation) -/

theorem finishMigration_keeps (s : State) (p bank i : Nat) : Keeps s (finishMigration s p bank i) :=
  (writeTagged_keeps ..).trans (adoptSpare_keeps ..)

theorem execRowMigration_keeps (p bank i : Nat) (touch : Touch) (s : State) :
    OnNext (execRowMigration p bank i touch s) (Keeps s) := by
  refine OnNext.ite ?_ (Keeps.next (Keeps.refl _))
  refine Keeps.next ?_
  exact ((senseAll_keeps ..).trans (finishMigration_keeps ..)).trans (suppressed_keeps ..)

theorem execPatrolScrub_keeps (touch : Touch) (s : State) : OnNext (execPatrolScrub touch s) (Keeps s) := by
  refine OnNext.ite (Keeps.next (Keeps.refl _)) ?_
  exact Keeps.next ((senseAll_keeps ..).trans (foldl_keeps _ (fun _ _ => suppressed_keeps ..) _ _))

theorem execEvacRequest_keeps (r : Requester) (value : Nat) (s : State) : OnNext (execEvacRequest r value s) (Keeps s) :=
  Keeps.next (guardedWrite_keeps _ _ _ _ _ _ _ (queueEvacuation_keeps ..))

theorem mirrorBlock_keeps (s : State) (p q : Nat) : Keeps s (mirrorBlock s p q) := by
  refine Keeps.trans ?_ (foldl_keeps _ (fun _ _ => foldl_keeps _ (fun _ _ => writeTagged_keeps ..) _ _) _ _)
  exact loseBlocks_keeps ..

theorem unqueue_keeps (s : State) (e : Evac) : Keeps s (unqueue s e) := keeps_of_eq rfl rfl

theorem setPhase_keeps (s : State) (p v : Nat) : Keeps s (setPhase s p v) := keeps_of_eq rfl rfl

theorem mirrorSuppressed_keeps (s : State) (p : Nat) (t : Touch) : Keeps s (mirrorSuppressed s p t) :=
  foldl_keeps _ (fun _ _ => record_keeps ..) _ _

theorem execEvacPrepare_keeps (touch : Touch) (s : State) : OnNext (execEvacPrepare touch s) (Keeps s) := by
  unfold execEvacPrepare
  split
  · exact Keeps.next (Keeps.refl _)
  · refine OnNext.ite (Keeps.next ((unqueue_keeps ..).trans (abandonEvac_keeps ..))) ?_
    refine Keeps.next ?_
    refine Keeps.trans ?_ (setPhase_keeps ..)
    refine Keeps.trans ?_ (foldl_keeps _ (fun _ _ => startMigration_keeps ..) _ _)
    exact ((senseAll_keeps ..).trans (mirrorBlock_keeps ..)).trans (mirrorSuppressed_keeps ..)

theorem switchBlock_keeps (s : State) (c : Nat) (e : Evac) : Keeps s (switchBlock s c e) := by
  refine Keeps.ite ((unqueue_keeps ..).trans (abandonEvac_keeps ..)) ?_
  refine Keeps.trans ?_ (record_keeps ..)
  refine Keeps.trans ?_ (settlePower_keeps ..)
  exact ((setBlock_keeps ..).trans (setCtx_keeps ..)).trans (unqueue_keeps ..)

theorem execEvacSwitch_keeps (c : Nat) (s : State) : OnNext (execEvacSwitch c s) (Keeps s) := by
  refine OnNext.ite (Keeps.next ((foldl_keeps _ (fun _ _ => switchBlock_keeps ..) _ _).trans (setCtx_keeps ..))) ?_
  exact Keeps.next (Keeps.refl _)

theorem markBlock_keeps (s : State) (p v : Nat) : Keeps s (markBlock s p v) :=
  Keeps.ite (Keeps.refl _) ((setHealth_keeps ..).trans (settlePower_keeps ..))

theorem execMapOut_keeps (r : Requester) (value : Nat) (s : State) : OnNext (execMapOut r value s) (Keeps s) :=
  Keeps.next (guardedWrite_keeps _ _ _ _ _ _ _ (markBlock_keeps ..))

theorem execReturnToService_keeps (r : Requester) (value : Nat) (s : State) :
    OnNext (execReturnToService r value s) (Keeps s) :=
  Keeps.next (guardedWrite_keeps _ _ _ _ _ _ _ (markBlock_keeps ..))

/-! ## Accesses by device address (Access) -/

theorem unmapped_keeps (s : State) (flag a : Nat) : Keeps s (unmapped s flag a) := record_keeps ..

theorem hostPoison_keeps (s : State) (unit a : Nat) (bs : List TByte) : Keeps s (hostPoison s unit a bs) := by
  unfold hostPoison
  split
  · exact Keeps.refl _
  · exact record_keeps ..

theorem deviceRead_keeps (s : State) (unit c a n : Nat) : Keeps s (deviceRead s unit c a n).2 := by
  unfold deviceRead
  split
  · exact unmapped_keeps ..
  · exact hostPoison_keeps ..

theorem writeWindow_keeps (s : State) (p off : Nat) (bs : List TByte) : Keeps s (writeWindow s p off bs) :=
  storeRow_keeps ..

theorem deviceWrite_keeps (s : State) (unit c a : Nat) (bs : List TByte) : Keeps s (deviceWrite s unit c a bs) := by
  unfold deviceWrite
  dsimp only
  split
  · exact unmapped_keeps ..
  · split
    · exact unmapped_keeps ..
    · refine Keeps.ite (Keeps.refl _) ?_
      split
      · exact (hostPoison_keeps ..).trans (writeTagged_keeps ..)
      · exact (hostPoison_keeps ..).trans (foldl_keeps _ (fun _ _ => writeWindow_keeps ..) _ _)

/-! ## Entry into FAULTED (FaultOps) -/

theorem logCause_keeps (s : State) (cause detail : Nat) : Keeps s (logCause s cause detail) := log_keeps ..

theorem slabsLost_keeps (s : State) : Keeps s (slabsLost s) := by
  have a := foldl_keeps _ (abandonEvac_keeps 1) s.zoning.evac s
  unfold slabsLost
  dsimp only
  generalize s.zoning.evac.foldl (abandonEvac 1) s = t at a ⊢
  have b := a.trans (foldl_keeps _ failDrain_keeps (List.range 4) t)
  generalize (List.range 4).foldl (fun t c => failDrain t c) t = u at b ⊢
  have d := (b.trans (keeps_of_eq (t := { u with zoning := { u.zoning with evac := [] } }) rfl rfl)).trans
      (loseBlocks_keeps _ fun _ => true)
  refine Keeps.trans ?_ (foldl_keeps _ (fun v c => setCairn_keeps v c _) _ _)
  exact d.trans (keeps_of_eq rfl rfl)

theorem emptyTenants_keeps (s : State) : Keeps s (emptyTenants s) := by
  refine Keeps.trans ?_ (foldl_keeps _ (fun _ _ => dclear_keeps ..) _ _)
  exact foldl_keeps _ (fun _ _ => setTenantState_keeps ..) _ _

theorem writeFault_keeps (s : State) (cause detail : Nat) : Keeps s (writeFault s cause detail) :=
  (dsets_keeps ..).trans (dcount_keeps ..)

theorem enterFaulted_keeps (s : State) (cause detail : Nat) : Keeps s (enterFaulted s cause detail) := by
  refine Keeps.ite ?_ ?_
  · refine Keeps.trans ?_ (logCause_keeps ..)
    exact keeps_of_eq rfl rfl
  · refine Keeps.trans ?_ ((garnetNotice_keeps ..).trans (emit_keeps ..))
    refine Keeps.trans ?_ ((noteState_keeps ..).trans (logCause_keeps ..))
    refine Keeps.trans ?_ (foldl_keeps _ (fun _ _ => identityReset_keeps ..) _ _)
    refine Keeps.trans ?_ (emptyTenants_keeps _)
    refine Keeps.andThen ?_ (endRequest_keeps ..)
    refine Keeps.trans ?_ ((slabsLost_keeps _).trans (closeFlows_keeps ..))
    refine Keeps.trans ?_ (writeFault_keeps ..)
    exact (keeps_of_eq rfl rfl).trans (keeps_of_eq rfl rfl)

theorem enterFaultedAll_keeps (s : State) (causes : List (Nat × Nat)) : Keeps s (enterFaultedAll s causes) := by
  unfold enterFaultedAll
  split
  · exact Keeps.refl _
  · exact (enterFaulted_keeps ..).trans (foldl_keeps _ (fun _ _ => enterFaulted_keeps ..) _ _)

/-! ## Admission (Stage) -/

theorem setParkedCtx_keeps (s : State) (t : Nat) (g : Ctx → Ctx) : Keeps s (setParkedCtx s t g) := by
  unfold setParkedCtx
  split
  · exact keeps_of_eq rfl rfl
  · exact Keeps.refl _

theorem setFlowCtx_keeps (s : State) (f : Nat) (g : Ctx → Ctx) : Keeps s (setFlowCtx s f g) := by
  unfold setFlowCtx
  split
  · exact setParkedCtx_keeps ..
  · exact setCtx_keeps ..

theorem grantTurns_keeps (s : State) (t : Option Nat) (q n : Nat) (get : State → Ctx) (put : State → (Ctx → Ctx) → State)
    (h : ∀ u f, Keeps u (put u f)) : Keeps s (grantTurns s t q n get put) := by
  refine foldl_keeps _ (fun u _ => ?_) _ s
  split
  · exact Keeps.refl u
  · exact (setFlow_keeps u _ _).trans (h _ _)

theorem grantRecords_keeps (s : State) (c q : Nat) : Keeps s (grantRecords s c q) :=
  Keeps.ite (grantTurns_keeps _ _ _ _ _ _ (fun _ _ => setCtx_keeps ..)) (Keeps.refl _)

theorem grantParked_keeps (s : State) (t q : Nat) : Keeps s (grantParked s t q) :=
  grantTurns_keeps _ _ _ _ _ _ (fun _ _ => setParkedCtx_keeps ..)

theorem grantRecord_keeps (s : State) (f : Nat) : Keeps s (grantRecord s f) := by
  unfold grantRecord
  split
  · exact grantParked_keeps ..
  · exact grantRecords_keeps ..

theorem grantEntry_keeps (s : State) (c q : Nat) : Keeps s (grantEntry s c q) :=
  foldl_keeps _ (fun _ _ => setFlow_keeps ..) _ _

theorem recordInvalid_keeps (s : State) (flow c reason : Nat) : Keeps s (recordInvalid s flow c reason) :=
  record_keeps ..

theorem enqueueRecord_keeps (s : State) (c q r : Nat) : Keeps s (enqueueRecord s c q r) := setCtx_keeps ..

theorem claimEntry_keeps (s : State) (c q : Nat) : Keeps s (claimEntry s c q) := setCtx_keeps ..

theorem pushRecord_keeps (s : State) (c q : Nat) : Keeps s (pushRecord s c q) := by
  refine Keeps.ite (record_keeps ..) ?_
  refine Keeps.ite (recordInvalid_keeps ..) ?_
  exact Keeps.ite ((enqueueRecord_keeps ..).trans (claimEntry_keeps ..)) (enqueueRecord_keeps ..)

theorem execAdmitPushFwd_keeps (c : Nat) (s : State) : OnNext (execAdmitPushFwd c s) (Keeps s) :=
  Keeps.next (Keeps.ite (pushRecord_keeps ..) (Keeps.refl _))

theorem execAdmitPushGrad_keeps (c : Nat) (s : State) : OnNext (execAdmitPushGrad c s) (Keeps s) :=
  Keeps.next (Keeps.ite (pushRecord_keeps ..) (Keeps.refl _))

theorem mapPages_keeps (s : State) (c d : Nat) : Keeps s (mapPages s c d) :=
  Keeps.ite (foldl_keeps _ (fun _ _ => setCtx_keeps ..) _ _) (Keeps.refl _)

theorem mirrorMask_keeps (s : State) (c : Nat) : Keeps s (mirrorMask s c) := by
  unfold mirrorMask
  split
  · exact Keeps.refl _
  · exact writeBytes_keeps ..

theorem clearMirror_keeps (s : State) (c : Nat) : Keeps s (clearMirror s c) := by
  unfold clearMirror
  split
  · exact Keeps.refl _
  · exact (eraseBytes_keeps ..).trans (mirrorMask_keeps ..)

theorem setSlot_keeps (s : State) (c d : Nat) (m : MicroSlot) : Keeps s (setSlot s c d m) := by
  unfold setSlot
  split
  · exact setCtx_keeps ..
  · exact (setCtx_keeps ..).trans (writeBytes_keeps ..)

theorem takeRecord_keeps (s : State) (c q r : Nat) : Keeps s (takeRecord s c q r) :=
  ((setCtx_keeps ..).trans (grantRecords_keeps ..)).trans (grantRecords_keeps ..)

theorem setWorking_keeps (s : State) (c d : Nat) (sels : List Nat) : Keeps s (setWorking s c d sels) := setCtx_keeps ..

theorem admitted_keeps (s : State) (c q d r : Nat) (sels : List Nat) : Keeps s (admitted s c q d r sels) := by
  refine Keeps.ite ?_ (((takeRecord_keeps ..).trans (setWorking_keeps ..)).trans (dcount_keeps ..))
  refine Keeps.trans ?_ (record_keeps ..)
  exact ((takeRecord_keeps ..).trans (setWorking_keeps ..)).trans (dcount_keeps ..)

theorem holdAdmission_keeps (c d : Nat) (s : State) : Keeps s (holdAdmission c d s) := by
  refine Keeps.trans ?_ (waitLowest_keeps _ _ _ _ (waitIn_keeps_invariants _ _ _))
  refine Keeps.trans ?_ (dcount_keeps ..)
  refine Keeps.ite ?_ (Keeps.refl _)
  refine Keeps.trans ?_ (record_keeps ..)
  exact ((dset_keeps ..).trans (setCtx_keeps ..)).trans (dcount_keeps ..)

theorem endHold_keeps (s : State) (c : Nat) : Keeps s (endHold s c) := by
  unfold endHold
  split
  · exact Keeps.refl _
  · exact Keeps.ite (Keeps.refl _) ((dset_keeps ..).trans (setCtx_keeps ..))

theorem endFallback_keeps (s : State) (c d : Nat) : Keeps s (endFallback s c d) := by
  refine Keeps.ite ((Keeps.ite (record_keeps ..) (Keeps.refl _)).trans (setCtx_keeps ..)) ?_
  exact Keeps.ite (record_keeps ..) (Keeps.refl _)

theorem execAdmitFwd_keeps (c d : Nat) (sels : List Nat) (s : State) : OnNext (execAdmitFwd c d sels s) (Keeps s) := by
  unfold execAdmitFwd
  split
  · rw [onNext_next]; exact Keeps.refl s
  · split
    · exact onNext_fault _ _
    · split
      · rw [onNext_next]; exact waitLowest_keeps _ _ _ s (waitIn_keeps_invariants c 4 s)
      · split
        · rw [onNext_next]; exact holdAdmission_keeps c d s
        · refine (endHold_keeps s c).onNext (whenCopied_keeps _ _ _ _ ?_)
          rw [onNext_next]
          exact (((endFallback_keeps _ c d).trans (setSlot_keeps ..)).trans (admitted_keeps ..)).trans (mapPages_keeps ..)

theorem execAdmitGrad_keeps (c d : Nat) (sels : List Nat) (s : State) : OnNext (execAdmitGrad c d sels s) (Keeps s) := by
  unfold execAdmitGrad
  refine OnNext.ite (Keeps.next (Keeps.refl _)) ?_
  refine OnNext.ite (onNext_fault _ _) ?_
  split
  · exact Keeps.next (waitLowest_keeps _ _ _ _ (waitIn_keeps_invariants _ _ _))
  · refine OnNext.ite (whenCopied_keeps _ _ _ _ (Keeps.next ((setSlot_keeps ..).trans (admitted_keeps ..)))) ?_
    exact Keeps.next ((log_keeps ..).trans (enterFaulted_keeps ..))

theorem execStashPageRelease_keeps (c : Nat) (s : State) : OnNext (execStashPageRelease c s) (Keeps s) :=
  OnNext.ite (Keeps.next (Keeps.refl _)) (Keeps.next ((setCtx_keeps ..).trans (endHold_keeps ..)))

theorem execLandingEntryFree_keeps (c q : Nat) (s : State) : OnNext (execLandingEntryFree c q s) (Keeps s) :=
  OnNext.ite (Keeps.next (Keeps.refl _)) (Keeps.next ((setCtx_keeps ..).trans (grantEntry_keeps ..)))

/-! ## Cairn: cuts and fast copies (CairnCopy) -/

theorem refuseCheckpoint_keeps (s : State) (c reason : Nat) : Keeps s (refuseCheckpoint s c reason) := record_keeps ..

theorem requestCheckpoint_keeps (s : State) (c delta mode : Nat) : Keeps s (requestCheckpoint s c delta mode) :=
  Keeps.ite (refuseCheckpoint_keeps ..) (setCairn_keeps ..)

theorem cutFlags_keeps (s : State) (c g asked cut : Nat) (held : Bool) : Keeps s (cutFlags s c g asked cut held).2 :=
  foldl_keeps _ (fun _ _ => Keeps.ite (record_keeps ..) (Keeps.refl _)) _ _

theorem makeCut_keeps (s : State) (c mode asked cut restart : Nat) (held : Bool) :
    Keeps s (makeCut s c mode asked cut restart held) :=
  ((cutFlags_keeps ..).trans (dsets_keeps ..)).trans (setCairn_keeps ..)

theorem cutAt_keeps (s : State) (c n : Nat) : Keeps s (cutAt s c n) := by
  unfold cutAt
  split
  · exact Keeps.refl _
  · refine Keeps.ite (Keeps.refl _) ?_
    refine Keeps.ite ((setCairn_keeps ..).trans (refuseCheckpoint_keeps ..)) ?_
    exact (setCairn_keeps ..).trans (makeCut_keeps ..)

theorem takeHeld_keeps (s : State) (c : Nat) : Keeps s (takeHeld s c).2 :=
  Keeps.ite_snd (Keeps.ite (refuseCheckpoint_keeps ..) (makeCut_keeps ..)) (Keeps.refl _)

theorem execTakeCheckpoint_keeps (r : Requester) (c : Nat) (s : State) : OnNext (execTakeCheckpoint r c s) (Keeps s) :=
  Keeps.next (guardedWrite_keeps _ _ _ _ _ _ _ (takeHeld_keeps ..))

theorem takeGranule_keeps (s : State) (c k : Nat) (p : Capture) (g : Nat) : Keeps s (takeGranule s c k p g) := by
  unfold takeGranule
  dsimp only
  split
  · exact (setCairn_keeps ..).trans (record_keeps ..)
  · exact setCairn_keeps ..

theorem execFastCopyGranule_keeps (c : Nat) (touch : Touch) (s : State) :
    OnNext (execFastCopyGranule c touch s) (Keeps s) := by
  unfold execFastCopyGranule
  split
  · exact Keeps.next (Keeps.refl _)
  · split
    · exact Keeps.next (Keeps.refl _)
    · split
      · exact Keeps.next (Keeps.refl _)
      · exact Keeps.next ((senseAll_keeps ..).trans (takeGranule_keeps ..))

theorem execFastCopyEnd_keeps (c cycles : Nat) (s : State) : OnNext (execFastCopyEnd c cycles s) (Keeps s) := by
  unfold execFastCopyEnd
  split
  · exact Keeps.next (Keeps.refl _)
  · split
    · exact Keeps.next (Keeps.refl _)
    · exact OnNext.ite (Keeps.next ((dset_keeps ..).trans (setCairn_keeps ..))) (Keeps.next (Keeps.refl _))

theorem whenGranulesFree_keeps (s : State) (gs : List Nat) (run : State → State) (h : Keeps s (run s)) :
    Keeps s (whenGranulesFree s gs run) := by
  unfold whenGranulesFree
  split
  · exact h
  · exact granuleHeld_keeps s _ _

theorem copyFirst_keeps (s : State) (gs : List Nat) : Keeps s (copyFirst s gs) := by
  unfold copyFirst
  refine foldl_keeps _ (fun _ _ => ?_) _ _
  refine foldl_keeps _ (fun _ _ => ?_) _ _
  refine Keeps.ite ?_ (Keeps.refl _)
  split
  · exact Keeps.refl _
  · split
    · exact Keeps.refl _
    · exact takeGranule_keeps ..

theorem execGranuleWait_keeps (c : Nat) (addresses : List Nat) (s : State) :
    OnNext (execGranuleWait c addresses s) (Keeps s) :=
  OnNext.ite (Keeps.next (Keeps.refl _)) (Keeps.next (granuleWait_keeps ..))

/-! ## Cages and links (Ports) -/

theorem setPortState_keeps (s : State) (p v : Nat) : Keeps s (setPortState s p v) := dset_keeps ..

theorem sendAllWaiting_keeps (s : State) : Keeps s (sendAllWaiting s) := foldl_keeps _ (fun _ _ => sendWaiting_keeps ..) _ _

theorem moveFrames_keeps (s : State) (p : Nat) : Keeps s (moveFrames s p) := by
  refine foldl_keeps _ (fun _ _ => ?_) _ _
  exact Keeps.ite (foldl_keeps _ (fun _ _ => retransmit_keeps ..) _ _) (Keeps.refl _)

theorem portDown_keeps (s : State) (p v : Nat) : Keeps s (portDown s p v) := by
  unfold portDown
  dsimp only
  refine Keeps.trans ?_ (moveFrames_keeps _ p)
  exact (dsets_keeps s _).trans (keeps_of_eq rfl rfl)

theorem overBudget_keeps (s : State) (p : Nat) : Keeps s (overBudget s p) :=
  ((setPort_keeps ..).trans (portDown_keeps ..)).trans (record_keeps ..)

theorem declareCage_keeps (s : State) (p : Nat) : Keeps s (declareCage s p) := dset_keeps ..

theorem startPort_keeps (s : State) (p : Nat) : Keeps s (startPort s p) := by
  refine Keeps.ite (((declareCage_keeps ..).trans (setPort_keeps ..)).trans (portDown_keeps ..)) ?_
  refine Keeps.ite ((declareCage_keeps ..).trans (portDown_keeps ..)) ?_
  refine Keeps.ite ((declareCage_keeps ..).trans (portDown_keeps ..)) ?_
  refine Keeps.ite ((declareCage_keeps ..).trans (overBudget_keeps ..)) ?_
  exact ((declareCage_keeps ..).trans (setPort_keeps ..)).trans (portDown_keeps ..)

theorem startPorts_keeps (s : State) : Keeps s (startPorts s) := foldl_keeps _ (fun _ _ => startPort_keeps ..) _ _

theorem execCageInsert_keeps (p media phy declared : Nat) (usable : Bool) (s : State) :
    OnNext (execCageInsert p media phy declared usable s) (Keeps s) := by
  refine OnNext.ite (Keeps.next (Keeps.refl _)) ?_
  refine Keeps.next ?_
  refine Keeps.ite (setPort_keeps ..) ?_
  refine Keeps.ite ((setPort_keeps ..).trans (startPort_keeps ..)) ?_
  exact (setPort_keeps ..).trans (declareCage_keeps ..)

theorem execCageRemove_keeps (p : Nat) (s : State) : OnNext (execCageRemove p s) (Keeps s) := by
  refine OnNext.ite (Keeps.next (Keeps.refl _)) ?_
  exact Keeps.next (((portDown_keeps ..).trans (setPort_keeps ..)).trans (dsets_keeps ..))

theorem execCagePowerSample_keeps (p average : Nat) (s : State) : OnNext (execCagePowerSample p average s) (Keeps s) := by
  refine OnNext.ite (Keeps.next (Keeps.ite ((dset_keeps ..).trans (overBudget_keeps ..)) (dset_keeps ..))) ?_
  exact Keeps.next (Keeps.refl _)

theorem execCageOvercurrent_keeps (p : Nat) (s : State) : OnNext (execCageOvercurrent p s) (Keeps s) :=
  Keeps.next (Keeps.ite (overBudget_keeps ..) (Keeps.refl _))

theorem sendCapability_keeps (s : State) (target n : Nat) : Keeps s (sendCapability s target n) :=
  (foldl_keeps _ (fun t _ => emit_keeps t _) (List.range n) s).trans (keeps_of_eq rfl rfl)

theorem askDigests_keeps (s : State) (target : Nat) : Keeps s (askDigests s target) := emit_keeps ..

theorem askChallenge_keeps (s : State) (target : Nat) : Keeps s (askChallenge s target) :=
  (fresh_keeps _).trans (emit_keeps ..)

theorem logAdmission_keeps (s : State) (sub v : Nat) : Keeps s (logAdmission s sub v) := log_keeps ..

theorem activatePort_keeps (s : State) (p : Nat) : Keeps s (activatePort s p) :=
  (setPortState_keeps ..).trans (sendAllWaiting_keeps _)

theorem admitPort_keeps (s : State) (p : Nat) : Keeps s (admitPort s p) := by
  refine Keeps.trans ?_ (logAdmission_keeps ..)
  exact ((storeEntry_keeps ..).trans (setPort_keeps ..)).trans (activatePort_keeps ..)

theorem setSeenPeer_keeps (s : State) (i v : Nat) : Keeps s (setSeenPeer s i v) := setGarnet_keeps _ _ rfl

theorem admitPeer_keeps (s : State) (i : Nat) : Keeps s (admitPeer s i) :=
  ((setSeenPeer_keeps ..).trans (setPeer_keeps ..)).trans (logAdmission_keeps ..)

theorem endPortCheck_keeps (s : State) (p reason : Nat) : Keeps s (endPortCheck s p reason) := by
  refine Keeps.ite ?_ ?_
  · refine Keeps.trans ?_ (activatePort_keeps ..)
    refine Keeps.trans ?_ (setPort_keeps ..)
    exact Keeps.ite (setPort_keeps ..) ((setPort_keeps ..).trans (log_keeps ..))
  · refine Keeps.ite ?_ ?_
    · refine Keeps.trans ?_ (admitPort_keeps ..)
      exact Keeps.ite (setPort_keeps ..) ((setPort_keeps ..).trans (log_keeps ..))
    · refine Keeps.trans ?_ (setPortState_keeps ..)
      exact Keeps.ite (setPort_keeps ..) ((setPort_keeps ..).trans (log_keeps ..))

theorem endPeerCheck_keeps (s : State) (i reason : Nat) : Keeps s (endPeerCheck s i reason) := by
  refine Keeps.ite ((setPeer_keeps ..).trans (setPeer_keeps ..)) ?_
  refine Keeps.ite ((setPeer_keeps ..).trans (admitPeer_keeps ..)) ?_
  exact (setPeer_keeps ..).trans (setPeer_keeps ..)

theorem endCheck_keeps (s : State) (target reason : Nat) : Keeps s (endCheck s target reason) :=
  Keeps.ite (endPortCheck_keeps ..) (endPeerCheck_keeps ..)

theorem setCheck_keeps (s : State) (target phase chain device : Nat) : Keeps s (setCheck s target phase chain device) :=
  Keeps.ite (setPort_keeps ..) (setPeer_keeps ..)

theorem beginCheck_keeps (s : State) (target : Nat) : Keeps s (beginCheck s target) :=
  (setCheck_keeps ..).trans (askDigests_keeps ..)

theorem checkStep_keeps (s : State) (target code chain device : Nat) (valid : Bool) :
    Keeps s (checkStep s target code chain device valid) := by
  refine Keeps.ite ?_ ?_
  · refine Keeps.ite ((setCheck_keeps ..).trans (askChallenge_keeps ..)) ?_
    exact (setCheck_keeps ..).trans (emit_keeps ..)
  · refine Keeps.ite (Keeps.ite ((setCheck_keeps ..).trans (askChallenge_keeps ..)) (endCheck_keeps ..)) ?_
    exact Keeps.ite (Keeps.ite (endCheck_keeps ..) (endCheck_keeps ..)) (Keeps.refl _)

theorem execSpdmResponse_keeps (target code chain device : Nat) (valid : Bool) (s : State) :
    OnNext (execSpdmResponse target code chain device valid s) (Keeps s) :=
  Keeps.next (Keeps.ite (checkStep_keeps ..) (Keeps.refl _))

theorem execIdentityCheckTimeout_keeps (target : Nat) (s : State) : OnNext (execIdentityCheckTimeout target s) (Keeps s) :=
  Keeps.next (Keeps.ite (endCheck_keeps ..) (Keeps.refl _))

theorem execIdentityRecheck_keeps (p : Nat) (s : State) : OnNext (execIdentityRecheck p s) (Keeps s) :=
  Keeps.next (Keeps.ite (beginCheck_keeps ..) (Keeps.refl _))

theorem execLinkUp_keeps (p : Nat) (delay : Option (List Nat)) (rx : Nat) (s : State) :
    OnNext (execLinkUp p delay rx s) (Keeps s) := by
  unfold execLinkUp
  dsimp only
  refine OnNext.ite ?_ (Keeps.next (Keeps.refl _))
  split
  · exact Keeps.next (Keeps.ite ((dsets_keeps ..).trans (dcount_keeps ..)) (Keeps.refl _))
  · refine Keeps.next ?_
    refine Keeps.trans ?_ (sendCapability_keeps ..)
    refine Keeps.ite ?_ ((Keeps.ite ((dsets_keeps ..).trans (dcount_keeps ..)) (Keeps.refl _)).trans (dsets_keeps ..))
    refine Keeps.trans ?_ (record_keeps ..)
    exact (Keeps.ite ((dsets_keeps ..).trans (dcount_keeps ..)) (Keeps.refl _)).trans (dsets_keeps ..)

theorem execLinkTrainingLimit_keeps (p : Nat) (s : State) : OnNext (execLinkTrainingLimit p s) (Keeps s) :=
  Keeps.next (Keeps.ite (setPort_keeps ..) (Keeps.refl _))

theorem execLinkDown_keeps (p : Nat) (s : State) : OnNext (execLinkDown p s) (Keeps s) :=
  Keeps.next (Keeps.ite (portDown_keeps ..) (Keeps.refl _))

theorem execCapabilityTimeout_keeps (p : Nat) (s : State) : OnNext (execCapabilityTimeout p s) (Keeps s) :=
  Keeps.next (Keeps.ite ((setPortState_keeps ..).trans (sendAllWaiting_keeps _)) (Keeps.refl _))

theorem noCommonVersion_keeps (s : State) (port peer : Option Nat) : Keeps s (noCommonVersion s port peer) :=
  record_keeps ..

theorem agreePort_keeps (s : State) (p b : Nat) : Keeps s (agreePort s p b) := (dsets_keeps ..).trans (setPort_keeps ..)

theorem portCapability_keeps (s : State) (p b : Nat) : Keeps s (portCapability s p b) := by
  refine Keeps.ite ?_ ?_
  · refine Keeps.ite ?_ ?_
    · refine Keeps.trans ?_ (setPortState_keeps ..)
      exact ((agreePort_keeps ..).trans (sendCapability_keeps ..)).trans (noCommonVersion_keeps ..)
    · refine Keeps.trans ?_ (beginCheck_keeps ..)
      exact ((agreePort_keeps ..).trans (sendCapability_keeps ..)).trans (setPortState_keeps ..)
  · refine Keeps.ite (portDown_keeps ..) ?_
    refine Keeps.ite ?_ (Keeps.refl _)
    refine Keeps.ite (((agreePort_keeps ..).trans (noCommonVersion_keeps ..)).trans (setPortState_keeps ..)) ?_
    exact agreePort_keeps ..

theorem agreePeer_keeps (s : State) (i b : Nat) : Keeps s (agreePeer s i b) := setPeer_keeps ..

theorem peerCapability_keeps (s : State) (i b : Nat) : Keeps s (peerCapability s i b) := by
  refine Keeps.ite ?_ ?_
  · refine Keeps.trans ?_ (setPeer_keeps ..)
    refine Keeps.trans ?_ (noCommonVersion_keeps ..)
    exact (Keeps.ite (Keeps.refl _) (sendCapability_keeps ..)).trans (agreePeer_keeps ..)
  · refine Keeps.ite ((Keeps.ite (Keeps.refl _) (sendCapability_keeps ..)).trans (agreePeer_keeps ..)) ?_
    refine Keeps.trans ?_ (beginCheck_keeps ..)
    refine Keeps.trans ?_ (setPeer_keeps ..)
    exact (Keeps.ite (Keeps.refl _) (sendCapability_keeps ..)).trans (agreePeer_keeps ..)

theorem execCapabilityFrame_keeps (p body : Nat) (s : State) : OnNext (execCapabilityFrame p body s) (Keeps s) := by
  refine OnNext.ite (Keeps.next (Keeps.refl _)) ?_
  refine OnNext.ite (Keeps.next (frameInvalid_keeps ..)) ?_
  refine OnNext.ite (Keeps.next (Keeps.ite (foldl_keeps _ (fun _ _ => peerCapability_keeps ..) _ _) (Keeps.refl _))) ?_
  exact Keeps.next (portCapability_keeps ..)

theorem beginExchange_keeps (s : State) (i : Nat) : Keeps s (beginExchange s i) :=
  (setPeer_keeps ..).trans (sendCapability_keeps ..)

theorem execPeerExchangeTimeout_keeps (i : Nat) (s : State) : OnNext (execPeerExchangeTimeout i s) (Keeps s) :=
  Keeps.next (Keeps.ite (setPeer_keeps ..) (Keeps.refl _))

theorem admitPortWrite_keeps (s : State) (v : Nat) : Keeps s (admitPortWrite s v).2 :=
  Keeps.ite_snd (Keeps.refl _) (Keeps.ite_snd (admitPort_keeps ..) (Keeps.refl _))

theorem admitPeerWrite_keeps (s : State) (v : Nat) : Keeps s (admitPeerWrite s v).2 :=
  Keeps.ite_snd (Keeps.refl _) (Keeps.ite_snd (admitPeer_keeps ..) (Keeps.refl _))

theorem execAdmitPort_keeps (r : Requester) (value : Nat) (s : State) : OnNext (execAdmitPort r value s) (Keeps s) :=
  Keeps.next (guardedWrite_keeps _ _ _ _ _ _ _ (admitPortWrite_keeps ..))

theorem execAdmitPeer_keeps (r : Requester) (value : Nat) (s : State) : OnNext (execAdmitPeer r value s) (Keeps s) :=
  Keeps.next (guardedWrite_keeps _ _ _ _ _ _ _ (admitPeerWrite_keeps ..))

theorem execAddressResolution_keeps (p address : Nat) (s : State) : OnNext (execAddressResolution p address s) (Keeps s) :=
  Keeps.next (Keeps.ite (emit_keeps ..) (Keeps.refl _))

/-! ## Received frames (Landing) -/

theorem reject_keeps (s : State) (r : FrameIn) (reason : Nat) : Keeps s (reject s r reason) := emit_keeps ..

theorem unknownFlow_keeps (s : State) (r : FrameIn) : Keeps s (unknownFlow s r) :=
  Keeps.ite (frameInvalid_keeps ..) ((frameInvalid_keeps ..).trans (reject_keeps ..))

theorem grantLoader_keeps (s : State) (f : Nat) : Keeps s (grantLoader s f) := Keeps.ite (setFlow_keeps ..) (Keeps.refl _)

theorem loaderProgress_keeps (s : State) (f : Nat) : Keeps s (loaderProgress s f) :=
  (dset_keeps ..).trans (dset_keeps ..)

theorem loaderClosed_keeps (s : State) (f : Nat) : Keeps s (loaderClosed s f) := Keeps.ite (dset_keeps ..) (Keeps.refl _)

theorem loaderOpened_keeps (s : State) (f : Nat) : Keeps s (loaderOpened s f) := Keeps.ite (dsets_keeps ..) (Keeps.refl _)

theorem serveImage_keeps (s : State) (f n : Nat) : Keeps s (serveImage s f n) := by
  induction n generalizing s with
  | zero => exact Keeps.refl s
  | succ n ih =>
    unfold serveImage
    dsimp only
    split
    · exact (sendUnits_keeps s _ _ _).trans (ih _)
    · exact Keeps.refl s

theorem sendFetch_keeps (s : State) (f : Nat) : Keeps s (sendFetch s f) := by
  refine Keeps.ite ?_ (Keeps.refl _)
  refine Keeps.trans ?_ (dset_keeps ..)
  refine Keeps.trans ?_ (sendUnits_keeps ..)
  exact keeps_of_eq rfl rfl

theorem ackEarly_keeps (s : State) (r : FrameIn) (f u : Nat) : Keeps s (ackEarly s r f u) :=
  Keeps.ite ((setFlow_keeps ..).trans (sendAck_keeps ..)) (setFlow_keeps ..)

theorem countPoison_keeps (s : State) (r : FrameIn) (f : Nat) : Keeps s (countPoison s r f) :=
  Keeps.ite (Keeps.refl _) (record_keeps ..)

theorem markUnit_keeps (s : State) (r : FrameIn) (f u : Nat) : Keeps s (markUnit s r f u) :=
  ((setFlow_keeps ..).trans (countPoison_keeps ..)).trans (ackEarly_keeps ..)

theorem landWindow_keeps (s : State) (r : FrameIn) (f u : Nat) : Keeps s (landWindow s r f u) :=
  whenGranulesFree_keeps _ _ _ ((writeTagged_keeps ..).trans (markUnit_keeps ..))

theorem placeUnit_keeps (s : State) (a : Nat) (bs : List TByte) : Keeps s (placeUnit s a bs) := by
  unfold placeUnit
  split
  · exact unmapped_keeps ..
  · exact writeTagged_keeps ..

theorem landImage_keeps (s : State) (r : FrameIn) (f u : Nat) : Keeps s (landImage s r f u) := by
  refine whenGranulesFree_keeps _ _ _ ?_
  refine Keeps.trans ?_ (grantLoader_keeps ..)
  exact ((placeUnit_keeps ..).trans (markUnit_keeps ..)).trans (loaderProgress_keeps ..)

theorem takeArrival_keeps (f : Nat) (s : State) (y : StoreUnit) : Keeps s (takeArrival f s y) :=
  Keeps.ite (recordInvalid_keeps ..) (Keeps.ite (setFlowCtx_keeps ..) (enqueueRecord_keeps ..))

theorem landRecord_keeps (s : State) (r : FrameIn) (f u : Nat) : Keeps s (landRecord s r f u) := by
  refine Keeps.trans ?_ (ackEarly_keeps ..)
  refine Keeps.trans ?_ (countPoison_keeps ..)
  refine Keeps.trans ?_ (grantRecord_keeps ..)
  exact (setFlow_keeps ..).trans (foldl_keeps _ (fun _ _ => takeArrival_keeps ..) _ _)

theorem landTensor_keeps (s : State) (r : FrameIn) (f u : Nat) : Keeps s (landTensor s r f u) := by
  unfold landTensor
  dsimp only
  split
  · exact Keeps.refl _
  · refine Keeps.ite (Keeps.refl _) ?_
    refine whenGranulesFree_keeps _ _ _ ?_
    refine Keeps.trans ?_ (ackEarly_keeps ..)
    refine Keeps.trans ?_ (countPoison_keeps ..)
    refine Keeps.trans ?_ (setFlowCtx_keeps ..)
    exact (foldl_keeps _ (fun _ _ => writeTagged_keeps ..) _ _).trans (setFlow_keeps ..)

theorem landUnit_keeps (s : State) (r : FrameIn) (f u : Nat) : Keeps s (landUnit s r f u) := by
  refine Keeps.ite (landWindow_keeps ..) ?_
  refine Keeps.ite (landRecord_keeps ..) ?_
  refine Keeps.ite (landTensor_keeps ..) ?_
  refine Keeps.ite (landImage_keeps ..) ?_
  refine Keeps.ite (Keeps.ite ((markUnit_keeps ..).trans (setFlow_keeps ..)) (markUnit_keeps ..)) ?_
  exact Keeps.refl _

theorem strayBytes_keeps (s : State) (r : FrameIn) : Keeps s (strayBytes s r) := by
  unfold strayBytes
  refine Keeps.ite (Keeps.refl _) ?_
  refine Keeps.ite (placeUnit_keeps ..) ?_
  split
  · exact writeTagged_keeps ..
  · exact Keeps.refl _

theorem receive_keeps (s : State) (r : FrameIn) (k : Nat) (run : State → State) (h : ∀ t, Keeps s t → Keeps s (run t)) :
    Keeps s (receive s r k run) := by
  have e : Keeps s (if r.ce then s.dcount 0x5080 9 1 else s) := Keeps.ite (dcount_keeps ..) (Keeps.refl s)
  unfold receive
  dsimp only
  generalize (if r.ce then s.dcount 0x5080 9 1 else s) = t at e
  refine Keeps.ite (Keeps.refl s) ?_
  refine Keeps.ite (Keeps.refl s) ?_
  refine Keeps.ite (dcount_keeps ..) ?_
  refine Keeps.ite ((e.trans (strayBytes_keeps ..)).trans (frameInvalid_keeps ..)) ?_
  refine Keeps.ite (e.trans (frameInvalid_keeps ..)) ?_
  exact Keeps.ite (Keeps.refl s) (h t e)

theorem dataFrame_keeps (s : State) (r : FrameIn) : Keeps s (dataFrame s r) := by
  refine Keeps.ite (Keeps.refl _) ?_
  refine Keeps.ite (frameInvalid_keeps ..) ?_
  refine Keeps.ite (unknownFlow_keeps ..) ?_
  refine Keeps.ite (Keeps.refl _) ?_
  refine Keeps.ite ((dcount_keeps ..).trans (sendAck_keeps ..)) ?_
  exact Keeps.ite (record_keeps ..) (landUnit_keeps ..)

theorem execDataFrame_keeps (frame : FrameIn) (s : State) : OnNext (execDataFrame frame s) (Keeps s) := by
  refine Keeps.next ?_
  refine receive_keeps _ _ _ _ ?_
  intro _ _
  refine Keeps.trans ?_ (dataFrame_keeps ..)
  assumption

theorem clearTimeouts_keeps (s : State) (f : Nat) (ys : List StoreUnit) : Keeps s (clearTimeouts s f ys) := keeps_of_eq rfl rfl

theorem closeWhenDone_keeps (s : State) (f : Nat) : Keeps s (closeWhenDone s f) := by
  refine Keeps.ite (Keeps.ite (setFlow_keeps ..) ((setFlow_keeps ..).trans (sendControl_keeps ..))) ?_
  exact Keeps.refl _

theorem ackUnits_keeps (s : State) (f seq map : Nat) : Keeps s (ackUnits s f seq map) :=
  (setFlow_keeps ..).trans (clearTimeouts_keeps ..)

theorem ackGaps_keeps (s : State) (f seq map : Nat) : Keeps s (ackGaps s f seq map) :=
  foldl_keeps _ (fun _ _ => retransmit_keeps ..) _ _

theorem ackFrame_keeps (s : State) (r : FrameIn) : Keeps s (ackFrame s r) := by
  refine Keeps.ite (Keeps.refl _) ?_
  refine Keeps.ite (frameInvalid_keeps ..) ?_
  refine Keeps.ite (unknownFlow_keeps ..) ?_
  refine Keeps.ite (Keeps.refl _) ?_
  refine Keeps.trans ?_ (sendFetch_keeps ..)
  refine Keeps.ite ?_ ?_
  · refine Keeps.trans ?_ (serveImage_keeps ..)
    refine Keeps.trans ?_ (closeWhenDone_keeps ..)
    exact ((setFlow_keeps ..).trans (ackUnits_keeps ..)).trans (ackGaps_keeps ..)
  · refine Keeps.trans ?_ (closeWhenDone_keeps ..)
    exact ((setFlow_keeps ..).trans (ackUnits_keeps ..)).trans (ackGaps_keeps ..)

theorem execAckSend_keeps (f : Nat) (s : State) : OnNext (execAckSend f s) (Keeps s) :=
  Keeps.next (Keeps.ite (sendAck_keeps ..) (Keeps.refl _))

theorem pathTimeout_keeps (s : State) (f path : Nat) : Keeps s (pathTimeout s f path) := keeps_of_eq rfl rfl

theorem goBack_keeps (s : State) (f u : Nat) : Keeps s (goBack s f u) := foldl_keeps _ (fun _ _ => retransmit_keeps ..) _ _

theorem flowNotice_keeps (s : State) (f : Nat) : Keeps s (flowNotice s f) := by
  unfold flowNotice
  split
  · exact Keeps.refl _
  · exact boulevardNotice_keeps ..

theorem breakFlow_keeps (s : State) (f : Nat) : Keeps s (breakFlow s f) := by
  refine Keeps.trans ?_ (setPeer_keeps ..)
  refine Keeps.trans ?_ (flowNotice_keeps ..)
  refine Keeps.trans ?_ (record_keeps ..)
  exact Keeps.ite ((setFlow_keeps ..).trans (sendControl_keeps ..)) (setFlow_keeps ..)

theorem execRetransmitTimeout_keeps (f u : Nat) (s : State) : OnNext (execRetransmitTimeout f u s) (Keeps s) := by
  unfold execRetransmitTimeout
  dsimp only
  split
  · exact Keeps.next (Keeps.refl _)
  · refine OnNext.ite (Keeps.next (Keeps.refl _)) ?_
    refine OnNext.ite (Keeps.next (sendWaiting_keeps ..)) ?_
    refine OnNext.ite (Keeps.next (breakFlow_keeps ..)) ?_
    refine Keeps.next ?_
    refine Keeps.ite ((pathTimeout_keeps ..).trans (goBack_keeps ..)) ?_
    exact (pathTimeout_keeps ..).trans (retransmit_keeps ..)

theorem execPathUsableAgain_keeps (f path : Nat) (s : State) : OnNext (execPathUsableAgain f path s) (Keeps s) := by
  refine Keeps.next ?_
  refine Keeps.trans ?_ (sendWaiting_keeps ..)
  exact keeps_of_eq rfl rfl

/-! ## Flow control frames and windows (FlowTable) -/

theorem knowPeer_keeps (s : State) (i : Nat) : Keeps s (knowPeer s i) := by
  unfold knowPeer
  refine Keeps.ite (Keeps.refl _) ?_
  refine Keeps.ite (setPeer_keeps ..) ?_
  split
  · exact setPeer_keeps ..
  · exact Keeps.refl _

theorem reachPeer_keeps (s : State) (i : Nat) : Keeps s (reachPeer s i) := Keeps.ite (beginExchange_keeps ..) (Keeps.refl _)

theorem sendOpen_keeps (s : State) (f : Nat) : Keeps s (sendOpen s f) := Keeps.ite (sendControl_keeps ..) (Keeps.refl _)

theorem firstCredit_keeps (s : State) (f : Nat) : Keeps s (firstCredit s f) := by
  refine Keeps.ite (setFlow_keeps ..) ?_
  refine Keeps.ite (grantRecord_keeps ..) ?_
  refine Keeps.ite (setFlow_keeps ..) ?_
  exact Keeps.ite (setFlow_keeps ..) ((loaderOpened_keeps ..).trans (grantLoader_keeps ..))

theorem startFlow_keeps (s : State) (f : Nat) : Keeps s (startFlow s f) := by
  refine Keeps.ite ((setFlow_keeps ..).trans (sendOpen_keeps ..)) ?_
  exact (setFlow_keeps ..).trans (firstCredit_keeps ..)

theorem openFlow_keeps (s : State) (f : Nat) : Keeps s (openFlow s f).2 := by
  refine Keeps.ite_snd (Keeps.refl _) ?_
  refine Keeps.ite_snd (Keeps.refl _) ?_
  refine Keeps.ite_snd (Keeps.refl _) ?_
  refine Keeps.ite_snd (Keeps.refl _) ?_
  refine Keeps.ite_snd (Keeps.refl _) ?_
  refine Keeps.ite_snd (Keeps.ite (reachPeer_keeps ..) (Keeps.refl _)) ?_
  exact ((knowPeer_keeps ..).trans (reachPeer_keeps ..)).trans (startFlow_keeps ..)

theorem regrant_keeps (s : State) (f : Nat) : Keeps s (regrant s f) := Keeps.ite (grantRecord_keeps ..) (Keeps.refl _)

theorem closeByHost_keeps (s : State) (f : Nat) : Keeps s (closeByHost s f) :=
  Keeps.ite (setFlow_keeps ..) ((closeFlow_keeps ..).trans (regrant_keeps ..))

theorem setNetWindow_keeps (s : State) (fn : Nat) (w : NetWindow) : Keeps s (s.setNetWindow fn w) := keeps_of_eq rfl rfl

theorem flowResult_keeps (s : State) (fn code : Nat) : Keeps s (flowResult s fn code) := setNetWindow_keeps ..

theorem peerResult_keeps (s : State) (fn code : Nat) : Keeps s (peerResult s fn code) := setNetWindow_keeps ..

theorem flowCommand_keeps (fn : Nat) (s : State) (run : Nat → State → Nat × State) (h : ∀ f t, Keeps t (run f t).2) :
    Keeps s (flowCommand fn s run) := by
  unfold flowCommand
  dsimp only
  split
  · exact Keeps.refl s
  · split
    · exact flowResult_keeps s _ _
    · split
      · exact flowResult_keeps s _ _
      · exact (h _ s).trans (flowResult_keeps ..)

theorem peerCommand_keeps (fn : Nat) (s : State) (run : Nat → State → Nat × State) (h : ∀ i t, Keeps t (run i t).2) :
    Keeps s (peerCommand fn s run) := by
  unfold peerCommand
  dsimp only
  split
  · exact Keeps.refl s
  · split
    · exact peerResult_keeps s _ _
    · split
      · exact peerResult_keeps s _ _
      · exact (h _ s).trans (peerResult_keeps ..)

theorem writeFlow_keeps (fn f : Nat) (s : State) : Keeps s (writeFlow fn f s).2 :=
  Keeps.ite_snd (Keeps.refl _) (Keeps.ite_snd (Keeps.refl _) (setFlow_keeps ..))

theorem writePeer_keeps (fn i : Nat) (s : State) : Keeps s (writePeer fn i s).2 := by
  refine Keeps.ite_snd (Keeps.refl _) ?_
  exact Keeps.ite (setPeer_keeps ..) ((setPeer_keeps ..).trans (setSeenPeer_keeps ..))

theorem readFlow_keeps (fn f : Nat) (s : State) : Keeps s (readFlow fn f s).2 := setNetWindow_keeps ..

theorem openCommand_keeps (fn f : Nat) (s : State) : Keeps s (openCommand fn f s).2 :=
  Keeps.ite_snd (openFlow_keeps ..) (Keeps.refl _)

theorem closeCommand_keeps (f : Nat) (s : State) : Keeps s (closeCommand f s).2 :=
  Keeps.ite_snd (Keeps.refl _) (closeByHost_keeps ..)

theorem readPeer_keeps (fn i : Nat) (s : State) : Keeps s (readPeer fn i s).2 := setNetWindow_keeps ..

theorem execFlowRead_keeps (fn : Nat) (s : State) : OnNext (execFlowRead fn s) (Keeps s) :=
  Keeps.next (flowCommand_keeps _ _ _ (fun _ _ => readFlow_keeps ..))

theorem execFlowWrite_keeps (fn : Nat) (s : State) : OnNext (execFlowWrite fn s) (Keeps s) :=
  Keeps.next (flowCommand_keeps _ _ _ (fun _ _ => writeFlow_keeps ..))

theorem execFlowOpen_keeps (fn : Nat) (s : State) : OnNext (execFlowOpen fn s) (Keeps s) :=
  Keeps.next (flowCommand_keeps _ _ _ (fun _ _ => openCommand_keeps ..))

theorem execFlowClose_keeps (fn : Nat) (s : State) : OnNext (execFlowClose fn s) (Keeps s) :=
  Keeps.next (flowCommand_keeps _ _ _ (fun _ _ => closeCommand_keeps ..))

theorem execPeerRead_keeps (fn : Nat) (s : State) : OnNext (execPeerRead fn s) (Keeps s) :=
  Keeps.next (peerCommand_keeps _ _ _ (fun _ _ => readPeer_keeps ..))

theorem execPeerWrite_keeps (fn : Nat) (s : State) : OnNext (execPeerWrite fn s) (Keeps s) :=
  Keeps.next (peerCommand_keeps _ _ _ (fun _ _ => writePeer_keeps ..))

theorem controlFrame_keeps (s : State) (r : FrameIn) (k : Nat) (run : State → State) (h : ∀ t, Keeps s t → Keeps s (run t)) :
    Keeps s (controlFrame s r k run) := by
  refine receive_keeps s r 5 _ (fun t e => ?_)
  split
  · split
    · exact e.trans (reject_keeps t r 4)
    · exact e
  · split
    · exact e.trans (frameInvalid_keeps ..)
    · split
      · exact Keeps.refl s
      · exact h t e

theorem openFrame_keeps (s : State) (r : FrameIn) : Keeps s (openFrame s r) := by
  refine Keeps.ite (reject_keeps ..) ?_
  refine Keeps.ite (reject_keeps ..) ?_
  refine Keeps.ite (reject_keeps ..) ?_
  refine Keeps.ite (reject_keeps ..) ?_
  refine Keeps.ite (reject_keeps ..) ?_
  exact Keeps.ite (reject_keeps ..) ((setFlow_keeps ..).trans (sendAck_keeps ..))

theorem execOpenFrame_keeps (frame : FrameIn) (s : State) : OnNext (execOpenFrame frame s) (Keeps s) := by
  refine Keeps.next ?_
  refine controlFrame_keeps _ _ _ _ ?_
  intro _ _
  refine Keeps.trans ?_ (openFrame_keeps ..)
  assumption

theorem execOpenRetry_keeps (f : Nat) (s : State) : OnNext (execOpenRetry f s) (Keeps s) := by
  refine Keeps.next ?_
  refine Keeps.ite ((Keeps.ite ((knowPeer_keeps ..).trans (reachPeer_keeps ..)) (Keeps.refl _)).trans (sendOpen_keeps ..)) ?_
  exact Keeps.refl _

theorem forFlow_keeps (r : FrameIn) (s : State) (run : State → State) (h : Keeps s (run s)) : Keeps s (forFlow r s run) := by
  unfold forFlow
  split
  · exact unknownFlow_keeps s r
  · exact h

theorem execRejectFrame_keeps (frame : FrameIn) (s : State) : OnNext (execRejectFrame frame s) (Keeps s) := by
  refine Keeps.next ?_
  refine controlFrame_keeps _ _ _ _ ?_
  intro _ _
  refine Keeps.trans ?_ (forFlow_keeps _ _ _ (Keeps.ite (recordWith_keeps ..) (Keeps.refl _)))
  assumption

theorem peerClosed_keeps (s : State) (r : FrameIn) : Keeps s (peerClosed s r) := by
  refine Keeps.trans ?_ (regrant_keeps ..)
  refine Keeps.trans ?_ (loaderClosed_keeps ..)
  exact ((setFlow_keeps ..).trans (record_keeps ..)).trans (flowNotice_keeps ..)

theorem execParkFrame_keeps (frame : FrameIn) (s : State) : OnNext (execParkFrame frame s) (Keeps s) := by
  refine Keeps.next ?_
  refine controlFrame_keeps _ _ _ _ ?_
  intro _ _
  refine Keeps.trans ?_ (forFlow_keeps _ _ _ (Keeps.ite ((setFlow_keeps ..).trans (flowNotice_keeps ..)) (Keeps.refl _)))
  assumption

theorem resumeFlow_keeps (s : State) (f u : Nat) : Keeps s (resumeFlow s f u) := by
  refine Keeps.ite (((setFlow_keeps ..).trans (ackUnits_keeps ..)).trans (goBack_keeps ..)) ?_
  exact setFlow_keeps ..

theorem execResumeFrame_keeps (frame : FrameIn) (s : State) : OnNext (execResumeFrame frame s) (Keeps s) := by
  refine Keeps.next ?_
  refine controlFrame_keeps _ _ _ _ ?_
  intro _ _
  refine Keeps.trans ?_ (forFlow_keeps _ _ _ (Keeps.ite (resumeFlow_keeps ..) (Keeps.refl _)))
  assumption

theorem askReads_keeps (s : State) (f n : Nat) : Keeps s (askReads s f n) := by
  induction n generalizing s with
  | zero => exact Keeps.refl s
  | succ n ih =>
    unfold askReads
    dsimp only
    split
    · exact ((setFlow_keeps s _ _).trans (transmit_keeps ..)).trans (ih _)
    · exact Keeps.refl s

theorem execRdmaCreditPoll_keeps (f : Nat) (s : State) : OnNext (execRdmaCreditPoll f s) (Keeps s) :=
  Keeps.next (Keeps.ite (emit_keeps ..) (Keeps.refl _))

theorem landRead_keeps (s : State) (f u : Nat) (bs : List Byte) : Keeps s (landRead s f u bs) := by
  unfold landRead
  dsimp only
  split
  · exact Keeps.refl _
  · exact whenGranulesFree_keeps _ _ _ ((writeTagged_keeps ..).trans (setFlow_keeps ..))

theorem execRdmaResponse_keeps (f kind seq value : Nat) (bytes : List Byte) (s : State) :
    OnNext (execRdmaResponse f kind seq value bytes s) (Keeps s) := by
  refine Keeps.next ?_
  refine Keeps.ite (Keeps.refl _) ?_
  refine Keeps.ite ((ackUnits_keeps ..).trans (closeWhenDone_keeps ..)) ?_
  refine Keeps.ite (landRead_keeps ..) ?_
  refine Keeps.ite (setFlow_keeps ..) ?_
  refine Keeps.ite ((setFlow_keeps ..).trans (askReads_keeps ..)) ?_
  exact Keeps.ite (Keeps.ite (breakFlow_keeps ..) (goBack_keeps ..)) (Keeps.refl _)

theorem execCongestionNotification_keeps (f : Nat) (s : State) : OnNext (execCongestionNotification f s) (Keeps s) :=
  Keeps.next (Keeps.ite (setFlow_keeps ..) (Keeps.refl _))

theorem execQpRateRecovery_keeps (f : Nat) (s : State) : OnNext (execQpRateRecovery f s) (Keeps s) :=
  Keeps.next (Keeps.ite (setFlow_keeps ..) (Keeps.refl _))

/-! ## The reduction engine (Reduction) -/

theorem setRed_keeps (s : State) (n : Nat) (f : RedSet → RedSet) : Keeps s (s.setRed n f) := keeps_of_eq rfl rfl

theorem writeShard_keeps (s : State) (a : Nat) (bs : List MxBlock) : Keeps s (writeShard s a bs) :=
  (writeTagged_keeps ..).trans (writeTagged_keeps ..)

theorem writeResult_keeps (s : State) (f : Format) (a : Nat) (bs : List MxBlock) : Keeps s (writeResult s f a bs) :=
  (writeShard_keeps ..).trans (nonfinite_keeps ..)

theorem setStep_keeps (s : State) (n : Nat) (st : RedStep) : Keeps s (setStep s n st) := setRed_keeps ..

theorem acceptItem_keeps (s : State) (n : Nat) (m : RedMsg) : Keeps s (acceptItem s n m).1 := by
  unfold acceptItem
  split
  · exact Keeps.refl s
  · dsimp only
    refine Keeps.ite_fst (setStep_keeps ..) ?_
    refine Keeps.ite_fst (setStep_keeps ..) ?_
    refine Keeps.ite_fst (Keeps.ite (setStep_keeps ..) ((setStep_keeps ..).trans (writeBytes_keeps ..))) ?_
    refine Keeps.ite_fst ?_ ?_
    · refine Keeps.ite_fst (setStep_keeps ..) ?_
      exact ((setStep_keeps ..).trans (writeTagged_keeps ..)).trans (writeTagged_keeps ..)
    · refine Keeps.ite_fst ?_ (Keeps.refl s)
      exact Keeps.ite_fst ((setStep_keeps ..).trans (writeResult_keeps ..)) (setStep_keeps ..)

theorem routeAll_keeps (s : State) (n : Nat) (ms : List RedMsg) : Keeps s (routeAll s n ms).1 := by
  refine foldl_keeps_on Prod.fst _ (fun a m => ?_) ms (s, [])
  dsimp only
  split
  · exact acceptItem_keeps ..
  · exact setRed_keeps ..

theorem makeValue_keeps (n r sh b : Nat) (out : Option Nat × Nat) (a : State × List RedMsg) :
    Keeps a.1 (makeValue n r sh b out a).1 := by
  unfold makeValue
  split
  · exact Keeps.refl _
  · dsimp only
    split
    · exact Keeps.refl _
    · split
      · exact Keeps.refl _
      · split <;> exact (arith_keeps ..).trans (setStep_keeps ..)

theorem finishRole_keeps (n r : Nat) (a : State × List RedMsg) : Keeps a.1 (finishRole n r a).1 := by
  unfold finishRole
  split
  · exact Keeps.refl _
  · dsimp only
    split
    · exact Keeps.refl _
    · exact ((setStep_keeps ..).trans (writeResult_keeps ..)).trans (setRed_keeps ..)

theorem produce_keeps (s : State) (n : Nat) : Keeps s (produce s n).1 := by
  unfold produce
  split
  · exact Keeps.refl s
  · split
    · exact Keeps.refl s
    · refine (foldl_keeps_on Prod.fst _ (fun a r => ?_) _ (s, [])).trans
        (foldl_keeps_on Prod.fst _ (fun a r => finishRole_keeps n r a) _ _)
      refine foldl_keeps_on Prod.fst _ (fun a sh => ?_) _ a
      refine foldl_keeps_on Prod.fst _ (fun a out => ?_) _ a
      exact foldl_keeps_on Prod.fst _ (fun a b => makeValue_keeps n r sh b out a) _ a

theorem pump_keeps (n k : Nat) (s : State) (ms : List RedMsg) : Keeps s (pump n k s ms) := by
  induction k generalizing s ms with
  | zero => exact Keeps.refl s
  | succ k ih =>
    have h := (routeAll_keeps s n ms).trans (produce_keeps _ n)
    unfold pump
    dsimp only
    split
    · exact h
    · exact h.trans (ih _ _)

theorem flushSet_keeps (n k : Nat) (s : State) : Keeps s (flushSet n k s) := by
  induction k generalizing s with
  | zero => exact Keeps.refl s
  | succ k ih =>
    unfold flushSet
    split
    · exact Keeps.refl s
    · exact ((setRed_keeps s n _).trans (sendUnits_keeps ..)).trans (ih _)

theorem flush_keeps (s : State) (n : Nat) : Keeps s (flush s n) := flushSet_keeps ..

theorem grantPartners_keeps (s : State) (n ahead : Nat) : Keeps s (grantPartners s n ahead) :=
  foldl_keeps _ (fun _ _ => setFlow_keeps ..) _ _

theorem concludeStep_keeps (s : State) (n r summary : Nat) : Keeps s (concludeStep s n r summary) :=
  (setRed_keeps ..).trans (setFlow_keeps ..)

theorem keepForLate_keeps (s : State) (n : Nat) (st : RedStep) : Keeps s (keepForLate s n st) := setRed_keeps ..

theorem completeStep_keeps (s : State) (n : Nat) : Keeps s (completeStep s n) := by
  unfold completeStep
  split
  · exact Keeps.refl _
  · exact Keeps.ite ((keepForLate_keeps ..).trans (concludeStep_keeps ..)) (Keeps.refl _)

theorem stopStep_keeps (s : State) (n r member vacant : Nat) (x : Option Ctx) : Keeps s (stopStep s n r member vacant x) := by
  unfold stopStep
  refine Keeps.ite ?_ ?_
  · refine Keeps.trans ?_ (concludeStep_keeps ..)
    refine Keeps.trans ?_ (record_keeps ..)
    refine Keeps.trans ?_ (flush_keeps ..)
    split
    · refine Keeps.ite (((setRed_keeps ..).trans (copyFirst_keeps ..)).trans (writeShard_keeps ..)) ?_
      exact setRed_keeps ..
    · exact setRed_keeps ..
  · refine Keeps.trans ?_ (enterFaulted_keeps ..)
    refine Keeps.trans ?_ (record_keeps ..)
    refine Keeps.trans ?_ (flush_keeps ..)
    split
    · refine Keeps.ite (((setRed_keeps ..).trans (copyFirst_keeps ..)).trans (writeShard_keeps ..)) ?_
      exact setRed_keeps ..
    · exact setRed_keeps ..

theorem abortStep_keeps (s : State) (n member vacant : Nat) : Keeps s (abortStep s n member vacant) := by
  unfold abortStep
  split
  · exact Keeps.refl _
  · exact stopStep_keeps ..

theorem requestInvalid_keeps (s : State) (n step member : Nat) : Keeps s (requestInvalid s n step member) :=
  record_keeps ..

theorem advance_keeps (s : State) (n : Nat) (ms : List RedMsg) : Keeps s (advance s n ms) :=
  ((pump_keeps ..).trans (flush_keeps ..)).trans (completeStep_keeps ..)

theorem startStep_keeps (s : State) (n r t : Nat) : Keeps s (startStep s n r t) := by
  refine Keeps.ite ((setRed_keeps ..).trans (concludeStep_keeps ..)) ?_
  refine Keeps.trans ?_ (flush_keeps ..)
  refine Keeps.trans ?_ (advance_keeps ..)
  exact ((setRed_keeps ..).trans (setStep_keeps ..)).trans (grantPartners_keeps ..)

theorem acceptNext_keeps (s : State) (n : Nat) : Keeps s (acceptNext s n) := by
  unfold acceptNext
  split
  · refine Keeps.ite ((setRed_keeps ..).trans (startStep_keeps ..)) ?_
    exact ((setRed_keeps ..).trans (requestInvalid_keeps ..)).trans (stopStep_keeps ..)
  · exact Keeps.refl _

theorem acceptAll_keeps (s : State) (n : Nat) : Keeps s (acceptAll s n) := (acceptNext_keeps ..).trans (acceptNext_keeps ..)

theorem settleSet_keeps (s : State) (n : Nat) : Keeps s (settleSet s n) := (flush_keeps ..).trans (acceptAll_keeps ..)

theorem requestArrives_keeps (s : State) (f r : Nat) : Keeps s (requestArrives s f r) := by
  refine Keeps.ite (Keeps.refl _) ?_
  exact Keeps.ite (requestInvalid_keeps ..) ((setRed_keeps ..).trans (settleSet_keeps ..))

theorem execReduce_keeps (f record : Nat) (s : State) : OnNext (execReduce f record s) (Keeps s) :=
  Keeps.next (Keeps.ite (Keeps.refl _) (requestArrives_keeps ..))

theorem execGather_keeps (f record : Nat) (s : State) : OnNext (execGather f record s) (Keeps s) :=
  Keeps.next (Keeps.ite (requestArrives_keeps ..) (Keeps.refl _))

theorem countUnitPoison_keeps (s : State) (n : Nat) (st : RedStep) (u : EngineUnit) : Keeps s (countUnitPoison s n st u) :=
  Keeps.ite (record_keeps ..) (Keeps.refl _)

theorem missStep_keeps (s : State) (n : Nat) : Keeps s (missStep s n) := by
  unfold missStep
  split
  · exact Keeps.refl _
  · exact ((record_keeps ..).trans (setRed_keeps ..)).trans (concludeStep_keeps ..)

theorem stepUnit_keeps (s : State) (u : EngineUnit) (phase : Nat) (run : Nat → RedStep → State → State)
    (h : ∀ n st t, Keeps t (run n st t)) : Keeps s (stepUnit s u phase run) := by
  unfold stepUnit
  split
  · exact Keeps.refl s
  · refine Keeps.ite (dcount_keeps ..) ?_
    refine Keeps.ite (Keeps.refl s) ?_
    split
    · exact Keeps.refl s
    · refine Keeps.ite ((missStep_keeps ..).trans (settleSet_keeps ..)) ?_
      refine Keeps.ite (Keeps.refl s) ?_
      refine Keeps.ite ?_ (((setFlow_keeps ..).trans (h _ _ _)).trans (settleSet_keeps ..))
      exact ((requestInvalid_keeps ..).trans (abortStep_keeps ..)).trans (settleSet_keeps ..)

theorem takeItems_keeps (u : EngineUnit) (n : Nat) (st : RedStep) (s : State) : Keeps s (takeItems u n st s) :=
  whenGranulesFree_keeps _ _ _ ((countUnitPoison_keeps ..).trans (advance_keeps ..))

theorem execPartialUnit_keeps (unit : EngineUnit) (s : State) : OnNext (execPartialUnit unit s) (Keeps s) :=
  Keeps.next (stepUnit_keeps _ _ _ _ (fun _ _ _ => takeItems_keeps ..))

theorem execRecordsUnit_keeps (unit : EngineUnit) (s : State) : OnNext (execRecordsUnit unit s) (Keeps s) :=
  Keeps.next (stepUnit_keeps _ _ _ _ (fun _ _ _ => takeItems_keeps ..))

theorem execScalesUnit_keeps (unit : EngineUnit) (s : State) : OnNext (execScalesUnit unit s) (Keeps s) :=
  Keeps.next (stepUnit_keeps _ _ _ _ (fun _ _ _ => takeItems_keeps ..))

theorem execGatherUnit_keeps (unit : EngineUnit) (s : State) : OnNext (execGatherUnit unit s) (Keeps s) :=
  Keeps.next (stepUnit_keeps _ _ _ _ (fun _ _ _ => takeItems_keeps ..))

theorem execLateShardUnit_keeps (unit : EngineUnit) (s : State) : OnNext (execLateShardUnit unit s) (Keeps s) :=
  Keeps.next (stepUnit_keeps _ _ _ _ (fun _ _ _ => takeItems_keeps ..))

theorem takeOver_keeps (s : State) (n k by_ : Nat) : Keeps s (takeOver s n k by_) := setRed_keeps ..

theorem countSubstitution_keeps (s : State) (n step k : Nat) : Keeps s (countSubstitution s n step k) := record_keeps ..

theorem adopt_keeps (s : State) (n : Nat) : Keeps s (adopt s n) := (setRed_keeps ..).trans (advance_keeps ..)

theorem execTakeoverNotice_keeps (unit : EngineUnit) (s : State) : OnNext (execTakeoverNotice unit s) (Keeps s) := by
  refine Keeps.next ?_
  refine stepUnit_keeps _ _ _ _ ?_
  intro _ _ _
  refine Keeps.ite (Keeps.refl _) ?_
  refine Keeps.trans ?_ (adopt_keeps ..)
  refine Keeps.ite (((takeOver_keeps ..).trans (countSubstitution_keeps ..)).trans (setRed_keeps ..)) ?_
  exact (takeOver_keeps ..).trans (countSubstitution_keeps ..)

theorem execAbortNotice_keeps (unit : EngineUnit) (s : State) : OnNext (execAbortNotice unit s) (Keeps s) :=
  Keeps.next (stepUnit_keeps _ _ _ _ (fun _ _ _ => abortStep_keeps ..))

theorem execReductionDeadline_keeps (n k : Nat) (granted : List Nat) (s : State) :
    OnNext (execReductionDeadline n k granted s) (Keeps s) := by
  unfold execReductionDeadline
  split
  · exact Keeps.next (Keeps.refl _)
  · refine OnNext.ite (Keeps.next (Keeps.refl _)) ?_
    refine OnNext.ite ?_ (Keeps.next (((setRed_keeps ..).trans (abortStep_keeps ..)).trans (settleSet_keeps ..)))
    refine Keeps.next ?_
    refine Keeps.trans ?_ (settleSet_keeps ..)
    refine Keeps.trans ?_ (adopt_keeps ..)
    exact ((takeOver_keeps ..).trans (countSubstitution_keeps ..)).trans (setRed_keeps ..)

theorem countSummary_keeps (s : State) (n v : Nat) : Keeps s (countSummary s n v) := by
  refine Keeps.ite ?_ ?_
  · refine Keeps.ite ?_ (((dsets_keeps ..).trans (dcount_keeps ..)).trans (dcount_keeps ..))
    refine Keeps.trans ?_ (record_keeps ..)
    exact ((dsets_keeps ..).trans (dcount_keeps ..)).trans (dcount_keeps ..)
  · refine Keeps.trans ?_ (record_keeps ..)
    refine Keeps.ite ?_ (((dsets_keeps ..).trans (dcount_keeps ..)).trans (dcount_keeps ..))
    refine Keeps.trans ?_ (record_keeps ..)
    exact ((dsets_keeps ..).trans (dcount_keeps ..)).trans (dcount_keeps ..)

theorem execSummaryDelivery_keeps (n : Nat) (s : State) : OnNext (execSummaryDelivery n s) (Keeps s) := by
  unfold execSummaryDelivery
  split
  · exact Keeps.next (Keeps.refl _)
  · refine OnNext.ite (Keeps.next (((setRed_keeps ..).trans (sendUnits_keeps ..)).trans (countSummary_keeps ..))) ?_
    exact Keeps.next (Keeps.refl _)

theorem sendFormation_keeps (n : Nat) (s : State) (m : Nat) : Keeps s (sendFormation n s m) :=
  Keeps.ite (sendUnits_keeps ..) (Keeps.refl _)

theorem refuseSet_keeps (s : State) (n status member : Nat) : Keeps s (refuseSet s n status member) :=
  (dsets_keeps ..).trans (record_keeps ..)

theorem formIfComplete_keeps (s : State) (n : Nat) : Keeps s (formIfComplete s n) :=
  Keeps.ite (((dset_keeps ..).trans (dsets_keeps ..)).trans (setFlow_keeps ..)) (dset_keeps ..)

theorem openEngineFlow_keeps (s : State) (f : Nat) : Keeps s (openEngineFlow s f) := by
  refine Keeps.ite ((Keeps.ite (openFlow_keeps ..) (Keeps.refl _)).trans (setFlow_keeps ..)) ?_
  exact Keeps.ite (openFlow_keeps ..) (Keeps.refl _)

theorem formSet_keeps (s : State) (n : Nat) : Keeps s (formSet s n).2 := by
  unfold formSet
  refine Keeps.ite_snd (Keeps.refl s) ?_
  dsimp only
  refine Keeps.ite_snd ?_ ?_
  · refine Keeps.trans ?_ (refuseSet_keeps ..)
    refine Keeps.trans ?_ (setRed_keeps ..)
    exact keeps_of_eq rfl rfl
  · dsimp only
    refine Keeps.trans ?_ (formIfComplete_keeps ..)
    refine Keeps.trans ?_ (foldl_keeps _ (fun _ _ => sendFormation_keeps ..) _ _)
    refine Keeps.trans ?_ (foldl_keeps _ (fun _ _ => Keeps.ite (openFlow_keeps ..) (Keeps.refl _)) _ _)
    refine Keeps.trans ?_ (foldl_keeps _ (fun _ _ => openEngineFlow_keeps ..) _ _)
    refine Keeps.trans ?_ (dsets_keeps ..)
    refine Keeps.trans ?_ (setRed_keeps ..)
    exact keeps_of_eq rfl rfl

theorem execForm_keeps (r : Requester) (n : Nat) (s : State) : OnNext (execForm r n s) (Keeps s) :=
  Keeps.next (guardedWrite_keeps _ _ _ _ _ _ _ (formSet_keeps ..))

theorem disbandSet_keeps (s : State) (n : Nat) : Keeps s (disbandSet s n) := by
  refine Keeps.ite (abortStep_keeps ..) ?_
  refine Keeps.trans ?_ (dsets_keeps ..)
  refine Keeps.trans ?_ (setRed_keeps ..)
  exact (abortStep_keeps ..).trans (foldl_keeps _ (fun _ _ => closeFlow_keeps ..) _ _)

theorem execDisband_keeps (r : Requester) (n : Nat) (s : State) : OnNext (execDisband r n s) (Keeps s) :=
  Keeps.next (guardedWrite_keeps _ _ _ _ _ _ _ (Keeps.ite (Keeps.refl _) (disbandSet_keeps ..)))

theorem execFormationRecord_keeps (n m generation digest members algorithm group policy veto headroom : Nat) (s : State) :
    OnNext (execFormationRecord n m generation digest members algorithm group policy veto headroom s) (Keeps s) := by
  refine OnNext.ite (Keeps.next (Keeps.refl _)) ?_
  refine OnNext.ite (Keeps.next ((setFlow_keeps ..).trans (sendFormation_keeps ..))) ?_
  refine OnNext.ite (Keeps.next (Keeps.refl _)) ?_
  refine OnNext.ite (Keeps.next ((setFlow_keeps ..).trans (refuseSet_keeps ..))) ?_
  refine OnNext.ite (Keeps.next ((setFlow_keeps ..).trans (refuseSet_keeps ..))) ?_
  exact Keeps.next (((setFlow_keeps ..).trans (setRed_keeps ..)).trans (formIfComplete_keeps ..))

theorem execFormationRetry_keeps (n : Nat) (s : State) : OnNext (execFormationRetry n s) (Keeps s) := by
  refine OnNext.ite (Keeps.next (Keeps.refl _)) ?_
  refine Keeps.next ?_
  refine Keeps.trans ?_ (foldl_keeps _ (fun _ _ => sendFormation_keeps ..) _ _)
  exact foldl_keeps _ (fun _ _ => (openEngineFlow_keeps ..).trans (openEngineFlow_keeps ..)) _ _

theorem abortSets_keeps (s : State) (c : Nat) : Keeps s (abortSets s c) := by
  refine foldl_keeps _ (fun _ _ => ?_) _ _
  exact Keeps.ite ((setRed_keeps ..).trans (abortStep_keeps ..)) (Keeps.refl _)

theorem flowLost_keeps (s : State) (f : Nat) : Keeps s (flowLost s f) := by
  unfold flowLost
  split
  · exact Keeps.refl _
  · exact Keeps.ite ((abortStep_keeps ..).trans (settleSet_keeps ..)) (Keeps.refl _)

theorem flowCredited_keeps (s : State) (f : Nat) : Keeps s (flowCredited s f) := by
  unfold flowCredited
  split
  · exact Keeps.refl _
  · exact Keeps.ite (flush_keeps ..) (Keeps.refl _)

/-! ## Cairn: drains and serving (Checkpoint) -/

theorem setDrain_keeps (s : State) (c : Nat) (d : Drain) : Keeps s (setDrain s c d) := setCairn_keeps ..

theorem endDrain_keeps (s : State) (c g : Nat) : Keeps s (endDrain s c g) := (setCairn_keeps ..).trans (dset_keeps ..)

theorem drainNext_keeps (s : State) (c : Nat) (d : Drain) (p : Capture) : Keeps s (drainNext s c d p) := by
  refine Keeps.ite (setDrain_keeps ..) ?_
  exact Keeps.ite (setDrain_keeps ..) (Keeps.ite (setDrain_keeps ..) (endDrain_keeps ..))

theorem postObject_keeps {s t : State} {ch head inline : Nat} (h : postObject s ch head inline = some t) : Keeps s t := by
  have pad : ∀ (p : Prop) [Decidable p] (a : Nat) (bs : List Byte), Keeps s (if p then s else writeBytes s a bs) := by
    intro p _ a bs
    split
    · exact Keeps.refl s
    · exact writeTagged_keeps s _ _
  obtain ⟨-, e⟩ := Option.ite_none_left_eq_some.1 h
  rw [← Option.some.inj e]
  exact ((pad _ _ _).trans (writeTagged_keeps ..)).trans (mailUpdate_keeps _ ch 1 _)

theorem hostDrain_keeps (s : State) (c : Nat) (d : Drain) (p : Capture) : Keeps s (hostDrain s c d p) := by
  unfold hostDrain
  split
  · exact Keeps.refl s
  · dsimp only
    split
    · exact Keeps.refl s
    · rename_i e
      exact ((postObject_keeps e).trans (writeTagged_keeps ..)).trans (setDrain_keeps ..)

theorem drainPieces_keeps (c k : Nat) (s : State) : Keeps s (drainPieces c k s) := by
  induction k generalizing s with
  | zero => exact Keeps.refl s
  | succ k ih =>
    unfold drainPieces
    split
    · exact Keeps.refl s
    · dsimp only
      split
      · exact Keeps.refl s
      · split
        · exact (sendUnits_keeps s _ _ _).trans (setDrain_keeps ..)
        · exact ((sendUnits_keeps s _ _ _).trans (setDrain_keeps ..)).trans (ih _)

theorem pumpDrain_keeps (s : State) (c : Nat) : Keeps s (pumpDrain s c) := by
  unfold pumpDrain
  split
  · exact Keeps.refl _
  · exact Keeps.ite (Keeps.refl _) (Keeps.ite (hostDrain_keeps ..) (drainPieces_keeps ..))

theorem beginDrain_keeps (s : State) (c : Nat) : Keeps s (beginDrain s c) := by
  unfold beginDrain
  split
  · exact Keeps.refl _
  · exact Keeps.ite ((setCairn_keeps ..).trans (failDrain_keeps ..)) (setCairn_keeps ..)

theorem execDrainGeneration_keeps (c : Nat) (s : State) : OnNext (execDrainGeneration c s) (Keeps s) :=
  Keeps.next (Keeps.ite (pumpDrain_keeps ..) ((beginDrain_keeps ..).trans (pumpDrain_keeps ..)))

theorem cairnUnitIn_keeps (s : State) (u : EngineUnit) (run : State) (h : Keeps s run) : Keeps s (cairnUnitIn s u run) := by
  unfold cairnUnitIn
  split
  · exact h
  · split
    · exact dcount_keeps s _ _ _
    · exact Keeps.refl s

theorem drainAnswer_keeps (s : State) (u : EngineUnit) (op awaits : Nat) (run : Nat → Drain → Capture → State → State)
    (h : ∀ c d p t, Keeps t (run c d p t)) : Keeps s (drainAnswer s u op awaits run) := by
  refine cairnUnitIn_keeps s u _ ?_
  split
  · exact Keeps.refl s
  · split
    · exact Keeps.refl s
    · split
      · exact (h _ _ _ s).trans (pumpDrain_keeps ..)
      · exact Keeps.refl s

theorem execDurableAnswer_keeps (unit : EngineUnit) (s : State) : OnNext (execDurableAnswer unit s) (Keeps s) :=
  Keeps.next (drainAnswer_keeps _ _ _ _ _ (fun _ _ _ _ => drainNext_keeps ..))

theorem setWriter_keeps (s : State) (c : Nat) (d : Drain) (p : Capture) (w : Nat) : Keeps s (setWriter s c d p w) :=
  setCairn_keeps ..

theorem writeShardHere_keeps (s : State) (c : Nat) (d : Drain) (p : Capture) : Keeps s (writeShardHere s c d p) :=
  (setWriter_keeps ..).trans (setDrain_keeps ..)

theorem execClaimResult_keeps (unit : EngineUnit) (s : State) : OnNext (execClaimResult unit s) (Keeps s) := by
  unfold execClaimResult
  refine Keeps.next ?_
  refine drainAnswer_keeps _ _ _ _ _ ?_
  intro _ _ _ _
  dsimp only
  refine Keeps.ite (writeShardHere_keeps ..) ?_
  split
  · exact (setWriter_keeps ..).trans (drainNext_keeps ..)
  · exact setWriter_keeps ..

theorem execVerifyResult_keeps (unit : EngineUnit) (s : State) : OnNext (execVerifyResult unit s) (Keeps s) := by
  refine Keeps.next ?_
  refine drainAnswer_keeps _ _ _ _ _ ?_
  intro _ _ _ _
  exact Keeps.ite (drainNext_keeps ..) (writeShardHere_keeps ..)

theorem hideObject_keeps (s : State) (c : Nat) (d : Drain) (p : Capture) : Keeps s (hideObject s c d p) :=
  eraseBytes_keeps ..

theorem cairnTakes_keeps (s : State) (ch : Nat) : Keeps s (cairnTakes s ch) := by
  unfold cairnTakes
  split
  · exact discardRecords_keeps ..
  · exact consumeRecord_keeps ..
  · split
    · exact (consumeRecord_keeps ..).trans (mailRecordInvalid_keeps ..)
    · refine Keeps.ite ?_ ((consumeRecord_keeps ..).trans (mailRecordInvalid_keeps ..))
      refine Keeps.trans ?_ (pumpDrain_keeps ..)
      exact ((consumeRecord_keeps ..).trans (hideObject_keeps ..)).trans (drainNext_keeps ..)

theorem execHostDrainAnswer_keeps (ch : Nat) (s : State) : OnNext (execHostDrainAnswer ch s) (Keeps s) :=
  Keeps.next (Keeps.ite (cairnTakes_keeps ..) (Keeps.refl _))

theorem execHardwareReceiverTake_keeps (ch dir : Nat) (s : State) : OnNext (execHardwareReceiverTake ch dir s) (Keeps s) :=
  Keeps.next (Keeps.ite (Keeps.ite (cairnTakes_keeps ..) (consumeUnwanted_keeps ..)) (Keeps.refl _))

theorem pumpServe_keeps (c k : Nat) (s : State) : Keeps s (pumpServe c k s) := by
  induction k generalizing s with
  | zero => exact Keeps.refl s
  | succ k ih =>
    have answer : ∀ f close us g, Keeps s (pumpServe c k ((sendUnits s f close us).setCairn c g)) :=
      fun f close us g => ((sendUnits_keeps s f close us).trans (setCairn_keeps _ c g)).trans (ih _)
    unfold pumpServe
    split
    · exact Keeps.refl s
    · split
      · exact Keeps.refl s
      · split
        · split
          · exact answer _ _ _ _
          · exact answer _ _ _ _
        · exact answer _ _ _ _

theorem execPeerGet_keeps (unit : EngineUnit) (s : State) : OnNext (execPeerGet unit s) (Keeps s) := by
  unfold execPeerGet
  refine Keeps.next ?_
  refine cairnUnitIn_keeps _ _ _ ?_
  refine Keeps.ite (Keeps.refl _) ?_
  refine Keeps.ite (Keeps.refl _) ?_
  split
  · exact Keeps.refl _
  · exact (setCairn_keeps ..).trans (pumpServe_keeps ..)

/-! ## Slots of a program (Slots) -/

theorem runRegion_keeps (c w : Nat) (touch : Touch) (s : State) : OnNext (runRegion c w touch s) (Keeps s) := by
  unfold runRegion
  refine OnNext.ite (Keeps.next (Keeps.refl _)) ?_
  refine OnNext.ite (onNext_fault _ _) ?_
  split
  · exact execMmAcc_keeps _ _ _ _ _ _ _ _ _ _ _ _ _ _ _ _ _ _
  · exact execAccStore_keeps _ _ _ _ _ _ _ _ _ _
  · exact execMicaFill_keeps _ _ _ _ _ _ _ _ _ _ _ _
  · exact execSetBase_keeps _ _ _ _ _ _ _ _
  · exact execVadd_keeps _ _ _ _ _ _ _
  · exact execVsub_keeps _ _ _ _ _ _ _
  · exact execVmul_keeps _ _ _ _ _ _ _
  · exact execVfma_keeps _ _ _ _ _ _ _ _
  · exact execVmin_keeps _ _ _ _ _ _ _
  · exact execVmax_keeps _ _ _ _ _ _ _
  · exact execVcmp_keeps _ _ _ _ _ _ _ _
  · exact execVsel_keeps _ _ _ _ _ _ _ _
  · exact execViadd_keeps _ _ _ _ _ _ _
  · exact execVand_keeps _ _ _ _ _ _ _
  · exact execVor_keeps _ _ _ _ _ _ _
  · exact execVxor_keeps _ _ _ _ _ _ _
  · exact execVshift_keeps _ _ _ _ _ _ _ _ _ _
  · exact execVcvt_keeps _ _ _ _ _ _ _ _ _ _ _ _
  · exact execVquant_keeps _ _ _ _ _ _ _ _ _ _ _
  · exact execVperm_keeps _ _ _ _ _ _ _ _
  · exact execVexp2_keeps _ _ _ _ _ _
  · exact execVlog2_keeps _ _ _ _ _ _
  · exact execVrcp_keeps _ _ _ _ _ _
  · exact execVrsqrt_keeps _ _ _ _ _ _
  · exact execVsqrt_keeps _ _ _ _ _ _
  · exact execVtanh_keeps _ _ _ _ _ _
  · exact execVreduceSum_keeps _ _ _ _ _ _
  · exact execVreduceMax_keeps _ _ _ _ _ _
  · exact execVload_keeps _ _ _ _ _ _ _ _ _ _ _
  · exact execVstore_keeps _ _ _ _ _ _ _ _ _ _ _ _ _ _ _
  · exact execVaccRead_keeps _ _ _ _ _ _ _ _
  · exact execVpred_keeps _ _ _ _ _ _ _ _
  · exact execFlagsRead_keeps _ _ _ _ _
  · exact execFlagsClear_keeps _ _ _ _ _
  · exact onNext_fault _ _

theorem runMover_keeps (c slot w : Nat) (touch : Touch) (s : State) : OnNext (runMover c slot w touch s) (Keeps s) := by
  unfold runMover
  refine OnNext.ite (Keeps.next (Keeps.refl _)) ?_
  refine OnNext.ite (onNext_fault _ _) ?_
  split
  · exact execMicaLoad_keeps _ _ _ _ _ _ _ _ _ _ _ _ _ _
  · exact execCopyBank_keeps _ _ _ _ _ _ _ _ _ _ _ _ _
  · exact execCopyAvenue_keeps _ _ _ _ _ _ _ _ _ _ _ _ _ _ _ _
  · exact execCopySquare_keeps _ _ _ _ _ _ _ _ _ _ _ _ _ _
  · exact execCopyBedrock_keeps _ _ _ _ _ _ _ _ _ _ _ _ _ _
  · exact OnNext.ite (execCopySb_keeps _ _ _ _ _ _ _ _ _ _ _) (onNext_fault _ _)
  · exact onNext_fault _ _

theorem runNet_keeps (c w : Nat) (touch : Touch) (s : State) : OnNext (runNet c w touch s) (Keeps s) := by
  unfold runNet
  refine OnNext.ite (Keeps.next (Keeps.refl _)) ?_
  refine OnNext.ite (onNext_fault _ _) ?_
  split
  · exact execNetSend_keeps _ _ _ _ _ _ _ _
  · exact execNetRecv_keeps _ _ _ _ _ _ _
  · exact onNext_fault _ _

theorem runPlaza_keeps (c w : Nat) (touch : Touch) (s : State) : OnNext (runPlaza c w touch s) (Keeps s) := by
  unfold runPlaza
  refine OnNext.ite (Keeps.next (Keeps.refl _)) ?_
  refine OnNext.ite (onNext_fault _ _) ?_
  split
  · exact execPlazaSend_keeps _ _ _ _ _ _ _ _ _ _ _
  · exact OnNext.ite (execPlazaDrain_keeps _ _ _ _ _ _ _ _ _ _) (onNext_fault _ _)
  · exact onNext_fault _ _

theorem runQueue_keeps (c w : Nat) (sels : List Nat) (touch : Touch) (s : State) :
    OnNext (runQueue c w sels touch s) (Keeps s) := by
  unfold runQueue
  refine OnNext.ite (Keeps.next (Keeps.refl _)) ?_
  refine OnNext.ite (onNext_fault _ _) ?_
  split
  · exact execQSend_keeps _ _ _ _ _ _ _ _ _ _
  · exact execQRecv_keeps _ _ _ _ _ _ _ _
  · exact execQClose_keeps _ _ _ _ _
  · exact execAdmitFwd_keeps _ _ _ _
  · exact execAdmitGrad_keeps _ _ _ _
  · exact onNext_fault _ _

/-! ## The sequencer (Stream) -/

theorem applyBases_keeps (s : State) (c : Nat) : Keeps s (applyBases s c) := overBlocks_keeps ..

theorem issueBundle_keeps (c : Nat) (s : State) : Keeps s (issueBundle c s) :=
  ((issues_keeps ..).trans (dcount_keeps ..)).trans (applyBases_keeps ..)

theorem setPc_keeps (s : State) (c a : Nat) : Keeps s (setPc s c a) := dset_keeps ..

theorem runOn_keeps (s : State) (c a : Nat) : Keeps s (runOn s c a) := (setCtx_keeps ..).trans (setPc_keeps ..)

theorem goTo_keeps (s : State) (c target : Nat) : Keeps s (goTo s c target) := (setCtx_keeps ..).trans (setPc_keeps ..)

theorem plainControl_keeps (c : Nat) (act : State → State) (s : State) (h : ∀ t, Keeps t (act t)) :
    OnNext (plainControl c act s) (Keeps s) := by
  unfold plainControl
  split
  · rw [onNext_next]; exact Keeps.refl s
  · rw [onNext_next]
    exact ((issueBundle_keeps c s).trans (h _)).trans (runOn_keeps ..)

theorem fillSlots_keeps (c w : Nat) (touch : Touch) (s : State) : Keeps s (fillSlots c w touch s).2 := by
  refine foldl_keeps_on Prod.snd _ (fun r k => ?_) _ ([], s)
  have h := runRegion_keeps c (slotWord w (k + 1)) touch r.2
  split
  · rename_i e
    rw [e, onNext_next] at h
    split <;> exact h
  · exact Keeps.refl _

theorem fillRecord_keeps (c : Nat) (touch : Touch) (r : FillRecord) (s : State) : Keeps s (fillRecord c touch r s).2 := by
  refine foldl_keeps_on Prod.snd _ (fun q _ => ?_) _ ([], s)
  exact (fillSlots_keeps c _ touch q.2).trans ((applyBases_keeps _ c).trans (dcount_keeps ..))

theorem fillRun_keeps (c cls : Nat) (touch : Touch) (n left : Nat) (s : State) : Keeps s (fillRun c cls touch n left s).2 := by
  induction n generalizing touch left s with
  | zero => exact Keeps.refl s
  | succ n ih =>
    unfold fillRun
    split
    · exact Keeps.refl s
    · split
      · exact ((setCtx_keeps s c _).trans (fillRecord_keeps ..)).trans (ih _ _ _)
      · exact Keeps.refl s

theorem fillable_keeps (c cls slots cycles : Nat) (touch : Touch) (s : State) :
    OnNext (fillable c cls slots cycles touch s) (Keeps s) := by
  refine OnNext.ite (Keeps.next (Keeps.refl _)) ?_
  refine OnNext.ite (onNext_fault _ _) ?_
  refine OnNext.ite (Keeps.next ((issueBundle_keeps ..).trans (runOn_keeps ..))) ?_
  refine OnNext.ite ?_ (Keeps.next (waitLowest_keeps _ _ _ _ (granuleWait_keeps ..)))
  refine Keeps.next ?_
  refine Keeps.trans ?_ (runOn_keeps ..)
  refine Keeps.trans ?_ (issueBundle_keeps ..)
  exact ((issues_keeps ..).trans (senseAll_keeps ..)).trans (fillRun_keeps ..)

theorem execNop_keeps (c cls slots : Nat) (touch : Touch) (s : State) : OnNext (execNop c cls slots touch s) (Keeps s) :=
  fillable_keeps _ _ _ _ _ _

theorem execDelay_keeps (c n cls slots : Nat) (touch : Touch) (s : State) :
    OnNext (execDelay c n cls slots touch s) (Keeps s) :=
  OnNext.ite (onNext_fault _ _) (fillable_keeps _ _ _ _ _ _)

theorem execWaitBeat_keeps (c mode key delta offset since : Nat) (s : State) :
    OnNext (execWaitBeat c mode key delta offset since s) (Keeps s) := by
  refine OnNext.ite (Keeps.next (Keeps.refl _)) ?_
  refine OnNext.ite (onNext_fault _ _) ?_
  refine OnNext.ite ?_ (Keeps.next (waitIn_keeps_invariants _ _ _))
  refine Keeps.next ?_
  refine Keeps.trans ?_ (runOn_keeps ..)
  refine Keeps.ite ((((cutAt_keeps ..).trans (issueBundle_keeps ..)).trans (dset_keeps ..)).trans (setCtx_keeps ..)) ?_
  exact ((cutAt_keeps ..).trans (issueBundle_keeps ..)).trans (dset_keeps ..)

theorem execLateBeat_keeps (c mode delta missed : Nat) (s : State) :
    OnNext (execLateBeat c mode delta missed s) (Keeps s) := by
  refine OnNext.ite (Keeps.next (Keeps.refl _)) ?_
  refine OnNext.ite (onNext_fault _ _) ?_
  refine OnNext.ite (Keeps.next (Keeps.refl _)) ?_
  refine OnNext.ite (Keeps.next ((recordFirst_keeps ..).trans (enterFaulted_keeps ..))) ?_
  refine Keeps.next ?_
  refine Keeps.trans ?_ (record_keeps ..)
  refine Keeps.trans ?_ (dset_keeps ..)
  exact ((dcount_keeps ..).trans (dcount_keeps ..)).trans (dset_keeps ..)

theorem execLoopOp_keeps (c n last : Nat) (s : State) : OnNext (execLoopOp c n last s) (Keeps s) := by
  refine OnNext.ite (Keeps.next (Keeps.refl _)) ?_
  refine OnNext.ite (onNext_fault _ _) ?_
  refine OnNext.ite (Keeps.next ((issueBundle_keeps ..).trans (runOn_keeps ..))) ?_
  exact Keeps.next (((issueBundle_keeps ..).trans (setCtx_keeps ..)).trans (setPc_keeps ..))

theorem execJump_keeps (c target : Nat) (s : State) : OnNext (execJump c target s) (Keeps s) := by
  refine OnNext.ite (Keeps.next (Keeps.refl _)) ?_
  exact OnNext.ite (onNext_fault _ _) (Keeps.next ((issueBundle_keeps ..).trans (goTo_keeps ..)))

theorem execBranch_keeps (c negate cond target : Nat) (s : State) : OnNext (execBranch c negate cond target s) (Keeps s) := by
  refine OnNext.ite (Keeps.next (Keeps.refl _)) ?_
  refine OnNext.ite (onNext_fault _ _) ?_
  refine OnNext.ite (Keeps.next ((issueBundle_keeps ..).trans (goTo_keeps ..))) ?_
  exact Keeps.next ((issueBundle_keeps ..).trans (runOn_keeps ..))

theorem execFence_keeps (c : Nat) (s : State) : OnNext (execFence c s) (Keeps s) :=
  plainControl_keeps c id s fun t => Keeps.refl t

theorem loadOverlay_keeps (s : State) (c page store : Nat) : Keeps s (loadOverlay s c page store) :=
  (writeBytes_keeps ..).trans (setCtx_keeps ..)

theorem execOverlayLoad_keeps (c page store : Nat) (s : State) : OnNext (execOverlayLoad c page store s) (Keeps s) :=
  OnNext.ite (onNext_fault _ _) (plainControl_keeps _ _ _ (fun _ => loadOverlay_keeps ..))

theorem execBacklogPush_keeps (c cls length address : Nat) (s : State) :
    OnNext (execBacklogPush c cls length address s) (Keeps s) := by
  refine OnNext.ite (onNext_fault _ _) ?_
  exact plainControl_keeps _ _ _ (fun _ => Keeps.ite (Keeps.refl _) (setCtx_keeps ..))

theorem execCheckpointAt_keeps (c delta arg : Nat) (s : State) : OnNext (execCheckpointAt c delta arg s) (Keeps s) :=
  OnNext.ite (onNext_fault _ _) (plainControl_keeps _ _ _ (fun _ => requestCheckpoint_keeps ..))

theorem openWindow_keeps (s : State) (c arg : Nat) :
    Keeps s (openWindow s c arg) := by
  unfold openWindow
  split
  · exact Keeps.refl _
  · dsimp only
    exact keeps_of_eq rfl rfl

theorem execEvacWindow_keeps (c delta arg : Nat) (s : State) : OnNext (execEvacWindow c delta arg s) (Keeps s) :=
  OnNext.ite (onNext_fault _ _) (plainControl_keeps _ _ _ (fun _ => openWindow_keeps ..))

theorem armDeadline_keeps (s : State) (c arg : Nat) : Keeps s (armDeadline s c arg) := dsets_keeps ..

theorem armDue_keeps (s : State) (c : Nat) : Keeps s (armDue s c) := by
  refine Keeps.ite (Keeps.refl _) ?_
  exact (foldl_keeps _ (fun _ _ => armDeadline_keeps ..) _ _).trans (setCtx_keeps ..)

theorem requestDeadline_keeps (s : State) (c delta arg : Nat) : Keeps s (requestDeadline s c delta arg) :=
  Keeps.ite (Keeps.refl _) (Keeps.ite (armDeadline_keeps ..) (setCtx_keeps ..))

theorem execDeadlineArm_keeps (c delta arg : Nat) (s : State) : OnNext (execDeadlineArm c delta arg s) (Keeps s) :=
  OnNext.ite (onNext_fault _ _) (plainControl_keeps _ _ _ (fun _ => requestDeadline_keeps ..))

theorem stopStream_keeps (s : State) (c : Nat) : Keeps s (stopStream s c) := (stopWindow_keeps ..).trans (abandonCut_keeps ..)

theorem endPendingHold_keeps (s : State) (t : Nat) : Keeps s (endPendingHold s t) := by
  unfold endPendingHold
  dsimp only
  split
  · refine Keeps.ite ?_ (keeps_of_eq rfl rfl)
    refine Keeps.trans ?_ (endRequest_keeps ..)
    exact keeps_of_eq rfl rfl
  · exact keeps_of_eq rfl rfl

theorem endStream_keeps (s : State) (c : Nat) : Keeps s (endStream s c) := by
  refine Keeps.trans ?_ (endPendingHold_keeps ..)
  refine Keeps.trans ?_ (setTenantState_keeps ..)
  refine Keeps.trans ?_ (dset_keeps ..)
  refine Keeps.trans ?_ (setCtx_keeps ..)
  exact ((issueBundle_keeps ..).trans (stopStream_keeps ..)).trans (sequencerNotice_keeps ..)

theorem execEndStream_keeps (c : Nat) (s : State) : OnNext (execEndStream c s) (Keeps s) :=
  Keeps.next (Keeps.ite (endStream_keeps ..) (Keeps.refl _))

theorem execWaitTimeout_keeps (c : Nat) (s : State) : OnNext (execWaitTimeout c s) (Keeps s) := by
  refine OnNext.ite (Keeps.next (((setCtx_keeps ..).trans (record_keeps ..)).trans (sequencerNotice_keeps ..))) ?_
  exact Keeps.next (Keeps.refl _)

/-! ## Restores (Restore) -/

theorem failRestore_keeps (s : State) (c reason : Nat) : Keeps s (failRestore s c reason) :=
  (setCairn_keeps ..).trans (record_keeps ..)

theorem setRestore_keeps (s : State) (c : Nat) (x : Restore) : Keeps s (setRestore s c x) := setCairn_keeps ..

theorem chooseManifests_keeps (s : State) (c : Nat) (x : Restore) : Keeps s (chooseManifests s c x) := by
  unfold chooseManifests
  split
  · exact failRestore_keeps ..
  · refine Keeps.ite (failRestore_keeps ..) ?_
    refine Keeps.ite ?_ (setRestore_keeps ..)
    split
    · exact failRestore_keeps ..
    · exact Keeps.ite (setRestore_keeps ..) (failRestore_keeps ..)

theorem landBanks_keeps (s : State) (c : Nat) (b : Buffer) (bs : List TByte) : Keeps s (landBanks s c b bs) := by
  unfold landBanks
  refine foldl_keeps _ (fun _ _ => ?_) _ _
  split
  · split
    · exact Keeps.refl _
    · exact foldl_keeps _ (fun _ _ => storeRow_keeps ..) _ _

theorem landFlat_keeps (s : State) (c : Nat) (b : Buffer) (bs : List TByte) : Keeps s (landFlat s c b bs) := by
  unfold landFlat
  refine Keeps.ite ?_ (writeTagged_keeps ..)
  refine foldl_keeps _ (fun _ _ => ?_) _ _
  split
  · exact writeTagged_keeps ..
  · exact Keeps.refl _

theorem landContext_keeps (s : State) (c : Nat) (p : Capture) : Keeps s (landContext s c p) := by
  unfold landContext
  refine Keeps.trans ?_ (foldl_keeps _ (fun _ _ => ?_) _ _)
  · refine Keeps.trans ?_ (dsets_keeps ..)
    exact (setCtx_keeps ..).trans (foldl_keeps _ (fun _ _ => loadOverlay_keeps ..) _ _)
  · split
    · exact Keeps.refl _
    · exact setBlock_keeps ..

theorem landShard_keeps {s t : State} {c : Nat} {f : Fetch} {bs : List TByte} (h : landShard s c f bs = some t) : Keeps s t := by
  unfold landShard at h
  dsimp only at h
  split at h
  · obtain ⟨p, -, rfl⟩ := Option.map_eq_some_iff.1 h
    exact landContext_keeps s c p
  · split at h
    · cases h
      split
      · exact landFlat_keeps s c _ bs
      · exact landBanks_keeps s c _ bs
    · cases h
      exact landFlat_keeps s c _ bs

theorem finishRestore_keeps (s : State) (c : Nat) (x : Restore) (g : Manifest) : Keeps s (finishRestore s c x g) := by
  unfold finishRestore
  split
  · exact (dsets_keeps ..).trans (setCairn_keeps ..)
  · refine Keeps.ite ?_ ((dsets_keeps ..).trans (setCairn_keeps ..))
    refine Keeps.trans ?_ (log_keeps ..)
    exact ((dsets_keeps ..).trans (setCairn_keeps ..)).trans (record_keeps ..)

theorem pumpRestore_keeps (s : State) (c : Nat) : Keeps s (pumpRestore s c) := by
  unfold pumpRestore
  split
  · exact Keeps.refl _
  · refine Keeps.ite (Keeps.refl _) ?_
    split
    · exact Keeps.ite ((sendUnits_keeps ..).trans (setRestore_keeps ..)) (Keeps.refl _)
    · split
      · exact finishRestore_keeps ..
      · exact Keeps.refl _

theorem manifestAnswered_keeps (s : State) (c : Nat) (x : Restore) : Keeps s (manifestAnswered s c x) :=
  Keeps.ite (chooseManifests_keeps ..) (setRestore_keeps ..)

theorem objectArrived_keeps (s : State) (c : Nat) (x : Restore) : Keeps s (objectArrived s c x) := by
  unfold objectArrived
  split
  · split
    · exact manifestAnswered_keeps s c _
    · exact manifestAnswered_keeps s c _
  · split
    · exact Keeps.refl s
    · split
      · exact failRestore_keeps s c 5
      · split
        · exact failRestore_keeps s c 5
        · rename_i e
          exact (landShard_keeps e).trans (setRestore_keeps ..)

theorem execDataLast_keeps (unit : EngineUnit) (s : State) : OnNext (execDataLast unit s) (Keeps s) := by
  unfold execDataLast
  refine Keeps.next ?_
  refine cairnUnitIn_keeps _ _ _ ?_
  split
  · exact Keeps.refl _
  · refine Keeps.ite (Keeps.refl _) ?_
    exact Keeps.ite ((objectArrived_keeps ..).trans (pumpRestore_keeps ..)) (setRestore_keeps ..)

theorem execAbsentAnswer_keeps (unit : EngineUnit) (s : State) : OnNext (execAbsentAnswer unit s) (Keeps s) := by
  unfold execAbsentAnswer
  refine Keeps.next ?_
  refine cairnUnitIn_keeps _ _ _ ?_
  split
  · exact Keeps.refl _
  · refine Keeps.ite (Keeps.refl _) ?_
    exact Keeps.ite (failRestore_keeps ..) ((manifestAnswered_keeps ..).trans (pumpRestore_keeps ..))

theorem startRestore_keeps (s : State) (c : Nat) : Keeps s (startRestore s c).2 :=
  Keeps.ite_snd (Keeps.refl _) ((setCairn_keeps ..).trans (pumpRestore_keeps ..))

theorem execRestoreGeneration_keeps (r : Requester) (c : Nat) (s : State) :
    OnNext (execRestoreGeneration r c s) (Keeps s) :=
  Keeps.next (guardedWrite_keeps _ _ _ _ _ _ _ (startRestore_keeps ..))

theorem execCkptTimeout_keeps (c : Nat) (s : State) : OnNext (execCkptTimeout c s) (Keeps s) :=
  Keeps.next (Keeps.ite (failRestore_keeps ..) (Keeps.ite (failDrain_keeps ..) (Keeps.refl _)))

/-! ## The ends of flows (FlowEnds) -/

theorem engineCredited_keeps (s : State) (f : Nat) : Keeps s (engineCredited s f) := by
  refine Keeps.ite (flowCredited_keeps ..) ?_
  refine Keeps.ite ?_ (Keeps.refl _)
  refine foldl_keeps _ (fun _ _ => ?_) _ _
  refine Keeps.trans ?_ (pumpServe_keeps ..)
  exact (Keeps.ite (pumpDrain_keeps ..) (Keeps.refl _)).trans (pumpRestore_keeps ..)

theorem engineLost_keeps (s : State) (f : Nat) : Keeps s (engineLost s f) := by
  unfold engineLost
  refine Keeps.trans ?_ (foldl_keeps _ (fun _ _ => Keeps.ite (setCairn_keeps ..) (Keeps.refl _)) _ _)
  refine Keeps.trans ?_ (foldl_keeps _ (fun _ _ => ?_) _ _)
  · exact flowLost_keeps ..
  · split
    · exact Keeps.ite (failDrain_keeps ..) (Keeps.refl _)
    · exact Keeps.refl _

theorem execAckFrame_keeps (frame : FrameIn) (s : State) : OnNext (execAckFrame frame s) (Keeps s) := by
  refine Keeps.next ?_
  refine receive_keeps _ _ _ _ ?_
  intro _ _
  refine Keeps.trans ?_ (engineCredited_keeps ..)
  refine Keeps.trans ?_ (ackFrame_keeps ..)
  assumption

theorem execFlowBreak_keeps (f : Nat) (s : State) : OnNext (execFlowBreak f s) (Keeps s) := by
  refine Keeps.next ?_
  refine Keeps.ite ((breakFlow_keeps ..).trans (engineLost_keeps ..)) ?_
  refine Keeps.ite (Keeps.ite (setFlow_keeps ..) ((setFlow_keeps ..).trans (sendControl_keeps ..))) ?_
  exact Keeps.refl _

theorem execCloseFrame_keeps (frame : FrameIn) (s : State) : OnNext (execCloseFrame frame s) (Keeps s) := by
  refine Keeps.next ?_
  refine controlFrame_keeps _ _ _ _ ?_
  intro _ _
  refine Keeps.trans ?_ (forFlow_keeps _ _ _ (Keeps.ite ((peerClosed_keeps ..).trans (engineLost_keeps ..)) (Keeps.refl _)))
  assumption

/-! ## The beat unit (Beat) -/

theorem enterUnaligned_keeps (s : State) : Keeps s (enterUnaligned s) :=
  Keeps.ite (Keeps.refl _) ((dset_keeps ..).trans (record_keeps ..))

theorem adoptSchedule_keeps (s : State) (anchor time period base seq master now : Nat) :
    Keeps s (adoptSchedule s anchor time period base seq master now) :=
  (dsets_keeps ..).trans (keeps_of_eq rfl rfl)

theorem discardSchedule_keeps (s : State) :
    Keeps s (discardSchedule s) := by
  unfold discardSchedule
  dsimp only
  exact keeps_of_eq rfl rfl

theorem pendSchedule_keeps (s : State) (m period seq base : Nat) : Keeps s (pendSchedule s m period seq base) :=
  (dsets_keeps ..).trans (keeps_of_eq rfl rfl)

theorem tellTime_keeps (s : State) (now : Nat) : Keeps s (tellTime s now) := keeps_of_eq rfl rfl

theorem beatFrameInvalid_keeps (s : State) : Keeps s (beatFrameInvalid s) := record_keeps ..

theorem scheduleRejected_keeps (s : State) : Keeps s (scheduleRejected s) := flag_keeps ..

theorem applyAnnounce_keeps (s : State) (a : Announce) (now : Nat) : Keeps s (applyAnnounce s a now) := by
  unfold applyAnnounce
  dsimp only
  split
  · exact (scheduleRejected_keeps s).trans (enterUnaligned_keeps _)
  · split
    · refine Keeps.trans ?_ (pendSchedule_keeps ..)
      exact keeps_of_eq rfl rfl
    · split
      · refine Keeps.trans ?_ (record_keeps ..)
        exact keeps_of_eq rfl rfl
      · exact keeps_of_eq rfl rfl

theorem takeSeconds_keeps (s : State) (a : Announce) (now : Nat) : Keeps s (takeSeconds s a now) :=
  Keeps.ite (keeps_of_eq rfl rfl) (Keeps.refl _)

theorem followAnnounce_keeps (s : State) (a : Announce) (now : Nat) : Keeps s (followAnnounce s a now) := by
  have k := takeSeconds_keeps s a now
  unfold followAnnounce
  dsimp only
  generalize takeSeconds s a now = t at k ⊢
  refine Keeps.ite ?_ ?_
  · have e := k.trans (adoptSchedule_keeps t a.beat a.time a.period a.basePeriod a.seq a.master (localTime t now))
    generalize adoptSchedule t a.beat a.time a.period a.basePeriod a.seq a.master (localTime t now) = u at e ⊢
    exact e.trans (keeps_of_eq rfl rfl)
  · refine Keeps.ite (Keeps.ite k (k.trans (scheduleRejected_keeps t))) ?_
    exact Keeps.ite (k.trans (scheduleRejected_keeps t)) (k.trans (applyAnnounce_keeps ..))

theorem measureOffset_keeps (s : State) (ps : Int) : Keeps s (measureOffset s ps) := by
  unfold measureOffset
  dsimp only
  refine Keeps.ite ?_ (keeps_of_eq rfl rfl)
  refine Keeps.trans ?_ (enterUnaligned_keeps _)
  exact keeps_of_eq rfl rfl

theorem sampleBeat_keeps (s : State) : Keeps s (sampleBeat s) := keeps_of_eq rfl rfl

theorem writeBeatSource_keeps (s : State) (v : Nat) : Keeps s (writeBeatSource s v) := by
  refine Keeps.ite (((storeEntry_keeps ..).trans (discardSchedule_keeps _)).trans (dset_keeps ..)) ?_
  exact storeEntry_keeps ..

theorem execBeatSourceWrite_keeps (r : Requester) (value : Nat) (s : State) :
    OnNext (execBeatSourceWrite r value s) (Keeps s) :=
  Keeps.next (guardedWrite_keeps _ _ _ _ _ _ _ (writeBeatSource_keeps ..))

theorem startSchedule_keeps (s : State) (now : Nat) :
    Keeps s (startSchedule s now) := by
  unfold startSchedule
  dsimp only
  exact keeps_of_eq rfl rfl

theorem execAcquisitionStart_keeps (now : Nat) (present settled near : Bool) (s : State) :
    OnNext (execAcquisitionStart now present settled near s) (Keeps s) := by
  have k := startSchedule_keeps s now
  unfold execAcquisitionStart
  refine OnNext.ite (Keeps.refl s).next ?_
  refine OnNext.ite (Keeps.ite (dset_keeps ..) (Keeps.refl s)).next ?_
  refine OnNext.ite (dset_keeps s _ _ _).next ?_
  dsimp only
  refine OnNext.ite (keeps_of_eq rfl rfl).next ?_
  refine Keeps.next (Keeps.trans ?_ (dset_keeps ..))
  exact k.trans (keeps_of_eq rfl rfl)

theorem execBeatLock_keeps (s : State) : OnNext (execBeatLock s) (Keeps s) :=
  OnNext.ite (Keeps.next (dset_keeps ..)) (Keeps.next (Keeps.refl _))

theorem execPtpMessage_keeps (m : PtpMessage) (s : State) : OnNext (execPtpMessage m s) (Keeps s) := by
  unfold execPtpMessage
  refine OnNext.ite (Keeps.next (Keeps.refl _)) ?_
  refine OnNext.ite (Keeps.next (emit_keeps ..)) ?_
  refine OnNext.ite (Keeps.next ((emit_keeps ..).trans (emit_keeps ..))) ?_
  refine OnNext.ite ?_ ?_
  · refine OnNext.ite (Keeps.next (Keeps.refl _)) ?_
    split
    · exact Keeps.next (keeps_of_eq rfl rfl)
    · exact OnNext.ite (Keeps.next (keeps_of_eq rfl rfl)) (Keeps.next (Keeps.refl _))
  · refine OnNext.ite ?_ (Keeps.next (Keeps.refl _))
    split
    · exact OnNext.ite (Keeps.next (measureOffset_keeps ..)) (Keeps.next (Keeps.refl _))
    · exact Keeps.next (Keeps.refl _)

theorem sourceLost_keeps (s : State) : Keeps s (sourceLost s) := by
  refine Keeps.ite (keeps_of_eq rfl rfl) ?_
  refine Keeps.ite ?_ (keeps_of_eq rfl rfl)
  refine Keeps.trans ?_ (dset_keeps ..)
  exact keeps_of_eq rfl rfl

theorem execTimeSourceLost_keeps (s : State) : OnNext (execTimeSourceLost s) (Keeps s) := Keeps.next (sourceLost_keeps _)

theorem execHoldoverExpiry_keeps (s : State) : OnNext (execHoldoverExpiry s) (Keeps s) :=
  Keeps.next (Keeps.ite (enterUnaligned_keeps _) (Keeps.refl _))

theorem execStretchRequestFrame_keeps (body : BeatFrame) (now : Nat) (s : State) :
    OnNext (execStretchRequestFrame body now s) (Keeps s) := by
  refine OnNext.ite (Keeps.next (Keeps.refl _)) ?_
  refine OnNext.ite (Keeps.next (beatFrameInvalid_keeps _)) ?_
  refine OnNext.ite (Keeps.next (Keeps.refl _)) ?_
  refine Keeps.next ?_
  refine Keeps.trans ?_ (tellTime_keeps ..)
  exact keeps_of_eq rfl rfl

theorem execStretchRequestSend_keeps (now : Nat) (s : State) :
    OnNext (execStretchRequestSend now s) (Keeps s) := by
  unfold execStretchRequestSend
  dsimp only
  split
  · rw [onNext_next]
    exact tellTime_keeps ..
  · rw [onNext_next]
    refine Keeps.trans ?_ (emit_keeps ..)
    exact keeps_of_eq rfl rfl

theorem execScheduleIssue_keeps (now : Nat) (stayedLow : Bool) (s : State) :
    OnNext (execScheduleIssue now stayedLow s) (Keeps s) := by
  unfold execScheduleIssue
  dsimp only
  refine OnNext.ite (tellTime_keeps s now).next ?_
  exact OnNext.ite (keeps_of_eq rfl rfl).next (tellTime_keeps s now).next

theorem execScheduleAnnounce_keeps (body : BeatFrame) (now : Nat) (s : State) :
    OnNext (execScheduleAnnounce body now s) (Keeps s) := by
  refine OnNext.ite (Keeps.next (Keeps.refl _)) ?_
  refine OnNext.ite (Keeps.next (beatFrameInvalid_keeps _)) ?_
  refine OnNext.ite (Keeps.next (scheduleRejected_keeps _)) ?_
  exact Keeps.next (Keeps.ite (followAnnounce_keeps ..) (Keeps.refl _))

theorem execAnnounceForward_keeps (s : State) : OnNext (execAnnounceForward s) (Keeps s) := by
  unfold execAnnounceForward
  split
  · exact Keeps.next (Keeps.refl _)
  · exact OnNext.ite (Keeps.next (Keeps.refl _)) (Keeps.next (foldl_keeps _ (fun _ _ => emit_keeps ..) _ _))

theorem execThermalEvaluation_keeps (s : State) : OnNext (execThermalEvaluation s) (Keeps s) := by
  refine Keeps.next ?_
  refine Keeps.ite ?_ ?_
  · refine Keeps.trans ?_ (flag_keeps ..)
    refine Keeps.trans ?_ (dset_keeps ..)
    exact keeps_of_eq rfl rfl
  · refine Keeps.trans ?_ (dset_keeps ..)
    exact keeps_of_eq rfl rfl

theorem execMasterLost_keeps (s : State) : OnNext (execMasterLost s) (Keeps s) :=
  Keeps.next (Keeps.ite (flag_keeps ..) (Keeps.refl _))

theorem promoteMaster_keeps (s : State) (v : Nat) :
    Keeps s (promoteMaster s v).2 := by
  unfold promoteMaster
  split
  · dsimp only
    exact Keeps.refl _
  · split
    · dsimp only
      exact keeps_of_eq rfl rfl
    · dsimp only
      exact Keeps.refl _

theorem execPromoteMaster_keeps (r : Requester) (value : Nat) (s : State) :
    OnNext (execPromoteMaster r value s) (Keeps s) :=
  Keeps.next (guardedWrite_keeps _ _ _ _ _ _ _ (promoteMaster_keeps ..))

theorem execPpsEdge_keeps (now : Nat) (offset : Int) (s : State) : OnNext (execPpsEdge now offset s) (Keeps s) := by
  unfold execPpsEdge
  split
  · rw [onNext_next]; exact Keeps.refl s
  · dsimp only
    split
    · rw [onNext_next]; exact keeps_of_eq rfl rfl
    · split
      · rw [onNext_next]
        refine Keeps.trans ?_ (sourceLost_keeps _)
        exact keeps_of_eq rfl rfl
      · rw [onNext_next]
        refine Keeps.trans ?_ (measureOffset_keeps ..)
        exact keeps_of_eq rfl rfl

/-! ## Load check (LoadCheck) -/

theorem probe_keeps (s : State) (c t : Nat) (i : Image) (it : Item) (descs : List Desc) :
    Keeps s (probe s c t i it descs) := by
  refine Keeps.trans ?_ (dsets_keeps ..)
  exact keeps_of_eq rfl rfl

/-! ## The controller (Garnet) -/

theorem logOpen_keeps (s : State) (source event severity : Nat) : Keeps s (s.logOpen source event severity) :=
  log_keeps ..

theorem freeLease_keeps (s : State) : Keeps s (freeLease s) := by
  refine Keeps.trans ?_ (logOpen_keeps ..)
  exact ((dclear_keeps ..).trans (dclear_keeps ..)).trans (setGarnet_keeps _ _ rfl)

theorem endLease_keeps (s : State) : Keeps s (endLease s) := by
  refine Keeps.ite (Keeps.refl _) ?_
  exact ((freeLease_keeps _).trans (record_keeps ..)).trans (garnetNotice_keeps ..)

theorem endFunctionLease_keeps (s : State) (f : Nat) : Keeps s (endFunctionLease s f) :=
  Keeps.ite (endLease_keeps _) (Keeps.refl _)

theorem garnetRestart_keeps (s : State) : Keeps s (garnetRestart s) := by
  refine Keeps.trans ?_ (emit_keeps ..)
  exact ((endLease_keeps _).trans (identityReset_keeps ..)).trans (setGarnet_keeps _ _ rfl)

theorem execWatchdogRestart_keeps (s : State) : OnNext (execWatchdogRestart s) (Keeps s) :=
  Keeps.next (Keeps.ite (Keeps.refl _) ((garnetRestart_keeps _).trans (record_keeps ..)))

theorem sampleSensor_keeps (s : State) (e : Nat × Option Int) : Keeps s (sampleSensor s e) := by
  unfold sampleSensor
  refine Keeps.ite (Keeps.refl _) ?_
  split
  · exact setGarnet_keeps _ _ rfl
  · exact Keeps.ite (setGarnet_keeps _ _ rfl) ((setGarnet_keeps _ _ rfl).trans (record_keeps ..))

theorem refreshHeadroom_keeps (s : State) : Keeps s (refreshHeadroom s) := dset_keeps ..

theorem writeMeasures_keeps (s : State) (mv ma watts ripple : Nat) : Keeps s (writeMeasures s mv ma watts ripple) :=
  (dsets_keeps ..).trans (refreshHeadroom_keeps _)

theorem leakRises_keeps (s : State) (bitsSet : Nat) : Keeps s (leakRises s bitsSet) :=
  (dset_keeps ..).trans (enterFaulted_keeps ..)

theorem execSensorSample_keeps (readings : List (Nat × Option Int)) (mv ma watts ripple : Nat) (corners : List (Nat × Nat))
    (s : State) :
    OnNext (execSensorSample readings mv ma watts ripple corners s) (Keeps s) := by
  refine OnNext.ite (Keeps.next (Keeps.refl _)) ?_
  refine Keeps.next ?_
  refine Keeps.trans ?_ (enterFaultedAll_keeps ..)
  refine Keeps.trans ?_ (dset_keeps ..)
  refine Keeps.trans ?_ (writeMeasures_keeps ..)
  exact (foldl_keeps _ (fun _ _ => sampleSensor_keeps ..) _ _).trans (setGarnet_keeps _ _ rfl)

theorem execLeak_keeps (sensors : Nat) (s : State) : OnNext (execLeak sensors s) (Keeps s) :=
  Keeps.next (Keeps.ite (Keeps.refl _) (leakRises_keeps ..))

theorem execCapEvaluation_keeps (s : State) : OnNext (execCapEvaluation s) (Keeps s) :=
  Keeps.next (Keeps.ite (Keeps.refl _) ((dset_keeps ..).trans (refreshHeadroom_keeps _)))

theorem execSupplyWarningLog_keeps (s : State) : OnNext (execSupplyWarningLog s) (Keeps s) := by
  refine Keeps.next ?_
  refine Keeps.ite (Keeps.refl _) ?_
  refine Keeps.ite ((Keeps.ite (logOpen_keeps ..) (Keeps.refl _)).trans (logOpen_keeps ..)) ?_
  exact Keeps.ite (logOpen_keeps ..) (Keeps.refl _)

theorem execLogWindow_keeps (s : State) : OnNext (execLogWindow s) (Keeps s) := by
  refine Keeps.next ?_
  refine Keeps.ite (Keeps.refl _) ?_
  exact Keeps.ite (setGarnet_keeps _ _ rfl) ((setGarnet_keeps _ _ rfl).trans (log_keeps ..))

theorem execRecordCopyToFlash_keeps (s : State) : OnNext (execRecordCopyToFlash s) (Keeps s) :=
  Keeps.next (Keeps.ite (Keeps.refl _) (setGarnet_keeps _ _ rfl))

theorem setFwStatus_keeps (s : State) (v : Nat) : Keeps s (setFwStatus s v) := by
  refine Keeps.ite (Keeps.refl _) ?_
  exact ((dset_keeps ..).trans (logOpen_keeps ..)).trans (garnetNotice_keeps ..)

theorem appendImage_keeps (s : State) (bs : List Byte) : Keeps s (appendImage s bs).2 := by
  unfold appendImage
  dsimp only
  split
  · exact Keeps.refl s
  · refine Keeps.trans ?_ (dset_keeps ..)
    exact setGarnet_keeps s _ (setUpdateSlot_security _ _)

theorem fwFailed_keeps (s : State) (flag : Nat) : Keeps s (fwFailed s flag) := record_keeps ..

theorem fwBegin_keeps (s : State) : Keeps s (fwBegin s).2 := by
  unfold fwBegin
  split
  · refine Keeps.trans ?_ ((dset_keeps ..).trans (setFwStatus_keeps ..))
    exact setGarnet_keeps s _ (setUpdateSlot_security _ _)
  · exact Keeps.refl s

theorem fwFetch_keeps (s : State) : Keeps s (fwFetch s).2 := by
  unfold fwFetch
  refine Keeps.ite_snd ?_ ?_
  · dsimp only
    exact Keeps.refl _
  · dsimp only
    refine Keeps.ite_snd ?_ ?_
    · dsimp only
      exact Keeps.refl _
    · split
      · dsimp only
        exact deviceRead_keeps ..
      · exact (deviceRead_keeps ..).trans (appendImage_keeps ..)

theorem fwVerify_keeps (s : State) : Keeps s (fwVerify s).2 := by
  unfold fwVerify
  dsimp only
  split
  · exact Keeps.refl s
  · split
    · refine Keeps.trans ?_ (setFwStatus_keeps ..)
      exact setGarnet_keeps s _ (setUpdateSlot_security _ _)
    · exact (setFwStatus_keeps s _).trans (fwFailed_keeps ..)

theorem fwActivate_keeps (s : State) : Keeps s (fwActivate s).2 := by
  refine Keeps.ite_snd (((setGarnet_keeps _ _ rfl).trans (setFwStatus_keeps ..)).trans (garnetRestart_keeps _)) ?_
  exact Keeps.refl _

theorem fwCommit_keeps (s : State) : Keeps s (fwCommit s).2 := by
  unfold fwCommit
  split
  · have h : Keeps s (s.setGarnet fun g => { g with
        trial := false, committed := g.running, security := max g.security (updateSlot g).security }) :=
      ⟨id, le_max_left _ _⟩
    exact h.trans (setFwStatus_keeps ..)
  · exact Keeps.refl s

theorem endTrial_keeps (s : State) : Keeps s (endTrial s) :=
  Keeps.ite ((setGarnet_keeps _ _ rfl).trans (garnetRestart_keeps _)) (Keeps.refl _)

theorem fwAbort_keeps (s : State) : Keeps s (fwAbort s).2 := by
  unfold fwAbort
  split
  · exact Keeps.refl s
  · refine Keeps.trans ?_ (setFwStatus_keeps ..)
    exact (endTrial_keeps s).trans (setGarnet_keeps _ _ (setUpdateSlot_security _ _))

theorem fwCommand_keeps (v : Nat) (s : State) : Keeps s (fwCommand v s).2 := by
  unfold fwCommand
  split
  · exact fwBegin_keeps _
  · exact fwFetch_keeps _
  · exact fwVerify_keeps _
  · exact fwActivate_keeps _
  · exact fwCommit_keeps _
  · exact fwAbort_keeps _
  · exact Keeps.refl _

theorem fwData_keeps (bs : List Byte) (s : State) : Keeps s (fwData bs s).2 :=
  Keeps.ite_snd (Keeps.refl _) (Keeps.ite_snd (Keeps.refl _) (appendImage_keeps ..))

theorem flashFailed_keeps (s : State) : Keeps s (flashFailed s).2 := flag_keeps ..

theorem execBeginUpdate_keeps (r : Requester) (s : State) : OnNext (execBeginUpdate r s) (Keeps s) :=
  Keeps.next (guardedWrite_keeps _ _ _ _ _ _ _ (fwCommand_keeps ..))

theorem execFwData_keeps (r : Requester) (bytes : List Byte) (written : Bool) (s : State) :
    OnNext (execFwData r bytes written s) (Keeps s) :=
  Keeps.next (guardedWrite_keeps _ _ _ _ _ _ _ (Keeps.ite_snd (fwData_keeps ..) (flashFailed_keeps _)))

theorem execFwFetch_keeps (r : Requester) (s : State) : OnNext (execFwFetch r s) (Keeps s) :=
  Keeps.next (guardedWrite_keeps _ _ _ _ _ _ _ (fwCommand_keeps ..))

theorem execVerifyImage_keeps (r : Requester) (s : State) : OnNext (execVerifyImage r s) (Keeps s) :=
  Keeps.next (guardedWrite_keeps _ _ _ _ _ _ _ (fwCommand_keeps ..))

theorem execActivateSlot_keeps (r : Requester) (s : State) : OnNext (execActivateSlot r s) (Keeps s) :=
  Keeps.next (guardedWrite_keeps _ _ _ _ _ _ _ (fwCommand_keeps ..))

theorem execCommitTrial_keeps (r : Requester) (s : State) : OnNext (execCommitTrial r s) (Keeps s) :=
  Keeps.next (guardedWrite_keeps _ _ _ _ _ _ _ (fwCommand_keeps ..))

theorem execAbortUpdate_keeps (r : Requester) (s : State) : OnNext (execAbortUpdate r s) (Keeps s) :=
  Keeps.next (guardedWrite_keeps _ _ _ _ _ _ _ (fwCommand_keeps ..))

theorem execTrialTimeout_keeps (s : State) : OnNext (execTrialTimeout s) (Keeps s) := by
  refine Keeps.next ?_
  exact Keeps.ite (((endTrial_keeps _).trans (setFwStatus_keeps ..)).trans (fwFailed_keeps ..)) (Keeps.refl _)

theorem leaseAcquire_keeps (r : Requester) (s : State) : Keeps s (leaseAcquire r s).2 := by
  refine Keeps.ite_snd (Keeps.refl _) ?_
  refine Keeps.ite_snd ?_ (Keeps.refl _)
  refine Keeps.trans ?_ (logOpen_keeps ..)
  exact ((dset_keeps ..).trans (dset_keeps ..)).trans (setGarnet_keeps _ _ rfl)

theorem leaseRelease_keeps (r : Requester) (s : State) : Keeps s (leaseRelease r s).2 :=
  Keeps.ite_snd (Keeps.refl _) (Keeps.ite_snd (freeLease_keeps _) (Keeps.refl _))

theorem answered_keeps (r : Requester) (s : State) (act : State → Nat × State) (h : Keeps s (act s).2) :
    Keeps s (answered r s act) := by
  unfold answered
  split
  · exact Keeps.refl s
  · exact h.trans (emit_keeps ..)

theorem execLeaseAcquire_keeps (r : Requester) (s : State) : OnNext (execLeaseAcquire r s) (Keeps s) :=
  Keeps.next (answered_keeps _ _ _ (leaseAcquire_keeps ..))

theorem execLeaseRelease_keeps (r : Requester) (s : State) : OnNext (execLeaseRelease r s) (Keeps s) :=
  Keeps.next (answered_keeps _ _ _ (leaseRelease_keeps ..))

theorem execLeaseExpiry_keeps (s : State) : OnNext (execLeaseExpiry s) (Keeps s) :=
  Keeps.next (Keeps.ite (Keeps.refl _) (endLease_keeps _))

theorem execRestoreAllDefaults_keeps (r : Requester) (s : State) : OnNext (execRestoreAllDefaults r s) (Keeps s) :=
  Keeps.next (guardedWrite_keeps _ _ _ _ _ _ _ (setPower_keeps ..))

/-! ## Power (Power) -/

theorem squareLost_keeps (s : State) : Keeps s (squareLost s) := by
  have k := (foldl_keeps _ (abandonEvac_keeps 1) s.zoning.evac s).trans (loseBlocks_keeps _ fun _ => true)
  exact k.trans (keeps_empty rfl rfl)

theorem standbyGarnet_keeps (s : State) : Keeps s (standbyGarnet s) := setGarnet_keeps _ _ rfl

theorem enterStandby_keeps (s : State) : Keeps s (enterStandby s) := by
  have p : Keeps s { s with power := { s.power with state := .standby } } := keeps_of_eq rfl rfl
  have k := (p.trans (squareLost_keeps _)).trans (endLease_keeps _)
  unfold enterStandby
  dsimp only
  generalize endLease (squareLost { s with power := { s.power with state := .standby } }) = a at k ⊢
  refine Keeps.trans ?_ (noteState_keeps ..)
  exact k.trans (keeps_of_eq rfl rfl)

theorem enterOff_keeps (s : State) : Keeps s (enterOff s) := by
  have k := (setPower_keeps s fun p => { p with state := .off }).trans (squareLost_keeps _)
  exact k.trans (keeps_of_eq rfl rfl)

theorem execPresenceAssert_keeps (bus400 bus12 : Nat) (s : State) : OnNext (execPresenceAssert bus400 bus12 s) (Keeps s) :=
  Keeps.next (setPower_keeps ..)

theorem switchOpen_keeps (s : State) : Keeps s (switchOpen s) := (setPower_keeps ..).trans (dsets_keeps ..)

theorem execPresenceDeassert_keeps (s : State) : OnNext (execPresenceDeassert s) (Keeps s) := by
  refine Keeps.next ?_
  refine Keeps.ite (Keeps.ite ((setPower_keeps ..).trans (setPower_keeps ..)) ((setPower_keeps ..).trans (switchOpen_keeps _))) ?_
  exact Keeps.refl _

theorem execInputSwitchTrip_keeps (cause : Nat) (s : State) : OnNext (execInputSwitchTrip cause s) (Keeps s) :=
  Keeps.next (Keeps.ite (Keeps.refl _) (Keeps.ite (setPower_keeps ..) (switchOpen_keeps _)))

theorem execInputSwitchClose_keeps (bus400 : Nat) (s : State) : OnNext (execInputSwitchClose bus400 s) (Keeps s) :=
  Keeps.next (Keeps.ite (setPower_keeps ..) (Keeps.refl _))

theorem execSupplyLoss_keeps (s : State) : OnNext (execSupplyLoss s) (Keeps s) :=
  Keeps.next (Keeps.ite (Keeps.refl _) (enterOff_keeps _))

theorem execInputUndervoltage_keeps (lowest : Nat) (s : State) : OnNext (execInputUndervoltage lowest s) (Keeps s) := by
  refine Keeps.next ?_
  refine Keeps.ite (((enterFaulted_keeps ..).trans (setPower_keeps ..)).trans (enterStandby_keeps _)) ?_
  exact Keeps.refl _

theorem logStraps_keeps (s : State) (samples : List (List Nat)) : Keeps s (logStraps s samples) :=
  foldl_keeps _ (fun _ _ => Keeps.ite (log_keeps ..) (Keeps.refl _)) _ _

theorem restoreFlash_keeps (s : State) (regionOk : Bool) : Keeps s (restoreFlash s regionOk) := by
  refine Keeps.ite (keeps_of_eq rfl rfl) ?_
  refine Keeps.trans ?_ (logOpen_keeps ..)
  exact keeps_of_eq rfl rfl

theorem bootedOther_keeps (s : State) (slot : Bool) : Keeps s (bootedOther s slot) := by
  refine Keeps.ite (((setGarnet_keeps _ _ rfl).trans (setGarnet_keeps _ _ rfl)).trans (fwFailed_keeps ..)) ?_
  exact Keeps.ite ((setGarnet_keeps _ _ rfl).trans (logOpen_keeps ..)) (setGarnet_keeps _ _ rfl)

theorem execPowerGood_keeps (samples : List (List Nat)) (committedOk otherOk regionOk : Bool) (s : State) :
    OnNext (execPowerGood samples committedOk otherOk regionOk s) (Keeps s) := by
  unfold execPowerGood
  refine OnNext.ite (Keeps.next (Keeps.refl _)) ?_
  split
  · exact Keeps.next (setPower_keeps ..)
  · refine Keeps.next ?_
    refine Keeps.trans ?_ (emit_keeps ..)
    refine Keeps.trans ?_ (setPower_keeps ..)
    refine Keeps.trans ?_ (noteState_keeps ..)
    refine Keeps.trans ?_ (standbyGarnet_keeps _)
    refine Keeps.trans ?_ (logStraps_keeps ..)
    refine Keeps.trans ?_ (bootedOther_keeps ..)
    refine Keeps.trans ?_ (setPower_keeps ..)
    refine Keeps.trans ?_ (foldl_keeps _ (fun _ _ => declareCage_keeps ..) _ _)
    exact (setPower_keeps ..).trans (restoreFlash_keeps ..)

theorem barSurvey_keeps (s : State) : Keeps s (barSurvey s) := setPower_keeps ..

theorem stayStandby_keeps (s : State) (cause detail : Nat) : Keeps s (stayStandby s cause detail) :=
  ((barSurvey_keeps _).trans (writeFault_keeps ..)).trans (endRequest_keeps ..)

theorem restoreMap_keeps (s : State) : Keeps s (restoreMap s) := finishCopies_keeps ..

theorem enterSurvey_keeps (s : State) :
    Keeps s (enterSurvey s) := by
  unfold enterSurvey
  dsimp only
  refine Keeps.trans ?_ (noteState_keeps ..)
  exact ((((endRequest_keeps ..).trans (dset_keeps ..)).trans (lockBinding_keeps _)).trans (restoreMap_keeps _)).trans
      (keeps_of_eq rfl rfl)

theorem sequenceFails_keeps (s : State) (f : Nat × Nat × Nat) : Keeps s (sequenceFails s f) := by
  refine Keeps.ite (stayStandby_keeps ..) ?_
  exact ((barSurvey_keeps _).trans (enterFaulted_keeps ..)).trans (setPower_keeps ..)

theorem sequenceEvent_keeps (s : State) (k : RailCheck) : Keeps s (sequenceEvent s k) := by
  unfold sequenceEvent
  split
  · exact ((barSurvey_keeps _).trans (enterStandby_keeps _)).trans (setTransition_keeps ..)
  · exact stayStandby_keeps ..
  · exact ((barSurvey_keeps _).trans (enterFaulted_keeps ..)).trans (enterStandby_keeps _)
  · exact ((barSurvey_keeps _).trans (leakRises_keeps ..)).trans (setPower_keeps ..)

theorem powerSequence_keeps (s : State) (k : RailCheck) : Keeps s (powerSequence s k) := by
  unfold powerSequence
  split
  · refine Keeps.ite (((pendRequest_keeps ..).trans (setPower_keeps ..)).trans (sequenceEvent_keeps ..)) ?_
    exact ((pendRequest_keeps ..).trans (setPower_keeps ..)).trans (sequenceFails_keeps ..)
  · refine Keeps.ite (((pendRequest_keeps ..).trans (setPower_keeps ..)).trans (enterSurvey_keeps _)) ?_
    exact ((pendRequest_keeps ..).trans (setPower_keeps ..)).trans (sequenceEvent_keeps ..)

theorem acceptRequest_keeps (s : State) (code : Nat) (ok : Bool) (effect : State → State) (h : ∀ t, Keeps t (effect t)) :
    Keeps s (acceptRequest s code ok effect).2 := by
  unfold acceptRequest
  split
  · exact Keeps.refl s
  · exact (dset_keeps s _ _ _).trans (h _)

theorem acceptPowerUp_keeps (k : RailCheck) (s : State) : Keeps s (acceptPowerUp k s).2 :=
  acceptRequest_keeps _ _ _ _ (fun _ => powerSequence_keeps ..)

theorem requestPowerUp_keeps (s : State) (r : Requester) (k : RailCheck) : Keeps s (requestPowerUp s r k) :=
  guardedWrite_keeps _ _ _ _ _ _ _ (acceptPowerUp_keeps ..)

theorem execPowerUp_keeps (r : Requester) (check : RailCheck) (s : State) : OnNext (execPowerUp r check s) (Keeps s) :=
  Keeps.next (requestPowerUp_keeps ..)

theorem execAutoSurvey_keeps (check : RailCheck) (s : State) : OnNext (execAutoSurvey check s) (Keeps s) :=
  Keeps.next (Keeps.ite (powerSequence_keeps ..) (Keeps.refl _))

theorem execMicrocodeLoaded_keeps (s : State) : OnNext (execMicrocodeLoaded s) (Keeps s) :=
  Keeps.next (Keeps.ite ((setPower_keeps ..).trans (startPorts_keeps _)) (Keeps.refl _))

theorem checkFails_keeps (s : State) (p : Nat) : Keeps s (checkFails s p) :=
  Keeps.ite ((worsen_keeps ..).trans (log_keeps ..)) (Keeps.refl _)

theorem execBlockCheck_keeps (bad : List Nat) (touch : Touch) (s : State) :
    OnNext (execBlockCheck bad touch s) (Keeps s) := by
  refine Keeps.next ?_
  refine Keeps.ite ?_ (Keeps.refl _)
  refine Keeps.trans ?_ (setPower_keeps ..)
  refine Keeps.trans ?_ (senseAll_keeps ..)
  exact (loseBlocks_keeps ..).trans (foldl_keeps _ (fun _ _ => checkFails_keeps ..) _ _)

theorem execSurveyDone_keeps (limit : Bool) (s : State) : OnNext (execSurveyDone limit s) (Keeps s) := by
  refine Keeps.next ?_
  exact Keeps.ite (((setPower_keeps ..).trans (latchReserves_keeps _)).trans (noteState_keeps ..)) (Keeps.refl _)

theorem bootRejected_keeps (s : State) (v : Nat) : Keeps s (bootRejected s v) :=
  (setPower_keeps ..).trans (logOpen_keeps ..)

theorem submitImage_keeps (s : State) : Keeps s (submitImage s) := by
  refine Keeps.ite (Keeps.refl _) ?_
  exact Keeps.ite (bootRejected_keeps ..) (Keeps.ite (setPower_keeps ..) (bootRejected_keeps ..))

theorem execBootSubmit_keeps (s : State) : OnNext (execBootSubmit s) (Keeps s) := Keeps.next (submitImage_keeps _)

theorem execBootImageTimeout_keeps (s : State) : OnNext (execBootImageTimeout s) (Keeps s) :=
  Keeps.next (Keeps.ite (bootRejected_keeps ..) (Keeps.refl _))

theorem execPcieLinkUp_keeps (s : State) : OnNext (execPcieLinkUp s) (Keeps s) :=
  Keeps.next (Keeps.ite (setPower_keeps ..) (Keeps.refl _))

theorem resetModule_keeps (s : State) : Keeps s (resetModule s) :=
  ((setPower_keeps ..).trans (enterStandby_keeps _)).trans (setTransition_keeps ..)

theorem acceptReset_keeps (s : State) : Keeps s (acceptReset s).2 := acceptRequest_keeps _ _ _ _ (fun _ => resetModule_keeps _)

theorem requestReset_keeps (s : State) (r : Requester) : Keeps s (requestReset s r) :=
  guardedWrite_keeps _ _ _ _ _ _ _ (acceptReset_keeps _)

theorem powerDown_keeps (s : State) : Keeps s (powerDown s) :=
  ((enterStandby_keeps _).trans (setPower_keeps ..)).trans (setTransition_keeps ..)

theorem acceptPowerDown_keeps (s : State) : Keeps s (acceptPowerDown s).2 :=
  acceptRequest_keeps _ _ _ _ (fun _ => powerDown_keeps _)

theorem requestPowerDown_keeps (s : State) (r : Requester) : Keeps s (requestPowerDown s r) :=
  guardedWrite_keeps _ _ _ _ _ _ _ (acceptPowerDown_keeps _)

theorem execPowerDown_keeps (r : Requester) (s : State) : OnNext (execPowerDown r s) (Keeps s) :=
  Keeps.next (requestPowerDown_keeps ..)

theorem execResetRequest_keeps (r : Requester) (s : State) : OnNext (execResetRequest r s) (Keeps s) :=
  Keeps.next (requestReset_keeps ..)

theorem failBlocks_keeps (s : State) (causes : List (Nat × Nat)) : Keeps s (failBlocks s causes) :=
  foldl_keeps _ (fun _ _ => Keeps.ite (worsen_keeps ..) (Keeps.refl _)) _ _

theorem execFatalFault_keeps (causes : List (Nat × Nat)) (s : State) : OnNext (execFatalFault causes s) (Keeps s) := by
  refine OnNext.ite (Keeps.next (Keeps.refl _)) ?_
  refine Keeps.next ?_
  refine Keeps.ite ?_ ((enterFaultedAll_keeps ..).trans (failBlocks_keeps ..))
  refine Keeps.trans ?_ (enterStandby_keeps _)
  exact ((enterFaultedAll_keeps ..).trans (failBlocks_keeps ..)).trans (barSurvey_keeps _)

theorem execFaultFollowupReset_keeps (s : State) : OnNext (execFaultFollowupReset s) (Keeps s) :=
  Keeps.next (Keeps.ite (resetModule_keeps _) (Keeps.refl _))

theorem execFaultCauseClear_keeps (r : Requester) (s : State) : OnNext (execFaultCauseClear r s) (Keeps s) :=
  Keeps.next (guardedWrite_keeps _ _ _ _ _ _ _ (dset_keeps ..))

/-! ## Tenancy (Tenancy) -/

theorem setHostParked_keeps (s : State) (t : Nat) (b : Bool) : Keeps s (setHostParked s t b) := dset_keeps ..

theorem account_keeps (s : State) (t mode lo w : Nat) : Keeps s (account s t mode lo w) :=
  Keeps.ite (dset_keeps ..) (Keeps.refl _)

theorem setTenancy_keeps (s : State) (f : Tenancy → Tenancy) : Keeps s (setTenancy s f) := keeps_of_eq rfl rfl

theorem copyBytes_keeps (s : State) (src n dst : Nat) : Keeps s (copyBytes s src n dst) :=
  ⟨fun h => memPut_foldl_wf _ _ _ _ (eraseBytes_wf s dst n h), le_refl _⟩

theorem loadStatus_keeps (s : State) (c : Nat) (r : Refused) : Keeps s (loadStatus s c r) := dsets_keeps ..

theorem refuseLoad_keeps (s : State) (c : Nat) (r : Refused) : Keeps s (refuseLoad s c r) := by
  refine Keeps.trans ?_ (setTransition_keeps ..)
  exact ((loadStatus_keeps ..).trans (dcount_keeps ..)).trans (log_keeps ..)

theorem mapDistricts_keeps (s : State) (c : Nat) (x : Ctx) : Keeps s (mapDistricts s c x) :=
  foldl_keeps _ (fun _ _ => dset_keeps ..) _ _

theorem placeImage_keeps (s : State) (c : Nat) (i : Image) : Keeps s (placeImage s c i) :=
  ((clearStore_keeps ..).trans (copyBytes_keeps ..)).trans (copyBytes_keeps ..)

theorem bindProgram_keeps (s : State) (c t : Nat) (x : Ctx) : Keeps s (bindProgram s c t x) := by
  have a := ((clearProgramCells_keeps s c).trans (loadStatus_keeps _ c (.plain 0))).trans
    ((dset_keeps _ (0x6060 + c) 5 t).trans (dclear_keeps _ 0x7050 4))
  unfold bindProgram
  dsimp only
  refine Keeps.trans ?_ ((settlePower_keeps s _).trans (setTransition_keeps _ 1))
  refine Keeps.trans ?_ (setTenantState_keeps _ t 1)
  refine Keeps.trans ?_ ((clearMirror_keeps _ c).trans ((dclear_keeps ..).trans (dclear_keeps ..)))
  refine Keeps.trans ?_ ((mapDistricts_keeps _ c x).trans (overBlocks_keeps _ c _))
  refine Keeps.trans ?_ (placeImage_keeps _ c _)
  exact a.trans (keeps_of_eq rfl rfl)

theorem loadTenant_keeps (s : State) (t : Nat) : Keeps s (loadTenant s t) := by
  unfold loadTenant
  dsimp only
  split
  · exact (unmapped_keeps ..).trans (refuseLoad_keeps ..)
  · split
    · exact refuseLoad_keeps ..
    · exact bindProgram_keeps ..

theorem dropUnheld_keeps (s : State) : Keeps s (dropUnheld s) :=
  (foldl_keeps _ (abandonEvac_keeps 3) _ s).trans (keeps_of_eq rfl rfl)

theorem unloadTenant_keeps (s : State) (t : Nat) : Keeps s (unloadTenant s t) := by
  have a := setTenancy_keeps s fun y => { y with stops := y.stops.filter (·.tenant != t) }
  unfold unloadTenant
  dsimp only
  generalize (setTenancy s fun y => { y with stops := y.stops.filter (·.tenant != t) }) = u at a ⊢
  refine Keeps.trans ?_ ((settlePower_keeps s _).trans (setTransition_keeps _ 1))
  refine Keeps.trans ?_ ((dclear_keeps ..).trans ((dclear_keeps ..).trans (setTenantState_keeps _ t 0)))
  split
  · exact ((a.trans (abortSets_keeps u _)).trans (unloadContext_keeps _ _ 6)).trans (dclear_keeps ..)
  · refine Keeps.trans ?_ ((closeTenantFlows_keeps _ t 6).trans (dropUnheld_keeps _))
    exact a.trans (keeps_of_eq rfl rfl)

theorem awaitBeat_keeps (s : State) (q : Request) (accept : State → State) (h : ∀ t, Keeps t (accept t)) :
    Keeps s (awaitBeat s q accept).2 := by
  unfold awaitBeat
  split
  · exact setTransition_keeps s 3
  · exact (pendRequest_keeps s q).trans (h _)

theorem requestStart_keeps (s : State) (t beat : Nat) : Keeps s (requestStart s t beat).2 := by
  refine Keeps.ite_snd (Keeps.refl _) ?_
  exact Keeps.ite_snd (Keeps.refl _) (awaitBeat_keeps _ _ _ (fun _ => account_keeps ..))

theorem requestOf_keeps (s : State) (t code beat : Nat) : Keeps s (requestOf s t code beat).2 := by
  unfold requestOf
  dsimp only
  split
  · exact Keeps.refl s
  · split
    · exact Keeps.ite_snd (loadTenant_keeps s t) (Keeps.refl s)
    · exact requestStart_keeps s t beat
    · exact Keeps.ite_snd (awaitBeat_keeps s _ id Keeps.refl) (Keeps.refl s)
    · exact Keeps.ite_snd (awaitBeat_keeps s _ id Keeps.refl) (Keeps.refl s)
    · exact Keeps.ite_snd (unloadTenant_keeps s t) (Keeps.refl s)
    · exact Keeps.ite_snd ((setHostParked_keeps s t false).trans (setTransition_keeps _ 1)) (Keeps.refl s)
    · exact Keeps.refl s

theorem stateOf_keeps (s : State) (code beat : Nat) : Keeps s (stateOf s code beat).2 := by
  refine Keeps.ite_snd (Keeps.ite_snd ((requestOf_keeps ..).trans (dset_keeps ..)) (Keeps.refl _)) ?_
  exact Keeps.refl _

theorem writeStateRequest_keeps (s : State) (r : Requester) (code : Nat) (beat : State → Nat) :
    Keeps s (writeStateRequest s r code beat) :=
  guardedWrite_keeps _ _ _ _ _ _ _ (stateOf_keeps ..)

theorem execLoadImage_keeps (r : Requester) (s : State) : OnNext (execLoadImage r s) (Keeps s) :=
  Keeps.next (writeStateRequest_keeps ..)

theorem execStart_keeps (r : Requester) (s : State) : OnNext (execStart r s) (Keeps s) :=
  Keeps.next (writeStateRequest_keeps ..)

theorem execHold_keeps (r : Requester) (s : State) : OnNext (execHold r s) (Keeps s) :=
  Keeps.next (writeStateRequest_keeps ..)

theorem execResume_keeps (r : Requester) (s : State) : OnNext (execResume r s) (Keeps s) :=
  Keeps.next (writeStateRequest_keeps ..)

theorem execUnload_keeps (r : Requester) (s : State) : OnNext (execUnload r s) (Keeps s) :=
  Keeps.next (writeStateRequest_keeps ..)

theorem freshWait_keeps (s : State) (c : Nat) : Keeps s (freshWait s c) := (dset_keeps ..).trans (setCtx_keeps ..)

theorem beginRun_keeps (s : State) (t b : Nat) : Keeps s (beginRun s t b) := by
  unfold beginRun
  refine Keeps.trans ?_ (setTenantState_keeps ..)
  refine Keeps.trans ?_ (dclear_keeps ..)
  refine Keeps.trans ?_ (setCairn_keeps ..)
  split
  · exact (dset_keeps ..).trans (freshWait_keeps ..)
  · exact ((newRun_keeps ..).trans (clearMirror_keeps ..)).trans (freshWait_keeps ..)

theorem resumeParked_keeps (s : State) (f : Nat) : Keeps s (resumeParked s f) := by
  refine Keeps.ite (Keeps.refl _) ?_
  exact (Keeps.ite (Keeps.refl _) (sendControl_keeps ..)).trans (resumeFlow_keeps ..)

theorem resumeFlows_keeps (s : State) (c : Nat) : Keeps s (resumeFlows s c) :=
  (foldl_keeps _ (fun _ _ => resumeParked_keeps ..) _ _).trans (setCtx_keeps ..)

theorem resumeRun_keeps (s : State) (t b : Nat) : Keeps s (resumeRun s t b) := by
  refine Keeps.trans ?_ (setTenantState_keeps ..)
  exact ((dset_keeps ..).trans (freshWait_keeps ..)).trans (resumeFlows_keeps ..)

theorem execStartAtBeat_keeps (s : State) : OnNext (execStartAtBeat s) (Keeps s) := by
  unfold execStartAtBeat
  split
  · exact Keeps.next (Keeps.refl _)
  · refine Keeps.next ?_
    refine Keeps.ite (Keeps.refl _) ?_
    refine Keeps.ite ((beginRun_keeps ..).trans (endRequest_keeps ..)) ?_
    exact Keeps.ite ((resumeRun_keeps ..).trans (endRequest_keeps ..)) (Keeps.refl _)

theorem parkFlow_keeps (s : State) (t c f : Nat) : Keeps s (parkFlow s t c f) := by
  refine Keeps.ite (Keeps.refl _) ?_
  refine Keeps.trans ?_ (setCtx_keeps ..)
  refine Keeps.trans ?_ (flowNotice_keeps ..)
  refine Keeps.trans ?_ (record_keeps ..)
  exact Keeps.ite (setFlow_keeps ..) ((setFlow_keeps ..).trans (sendControl_keeps ..))

theorem parkFlows_keeps (s : State) (t : Nat) : Keeps s (parkFlows s t) := foldl_keeps _ (fun _ _ => parkFlow_keeps ..) _ _

theorem stopRun_keeps (s : State) (x : Stop) : Keeps s (stopRun s x) := by
  refine Keeps.ite ?_ ?_
  · refine Keeps.trans ?_ (setTenancy_keeps ..)
    refine Keeps.trans ?_ (setTenantState_keeps ..)
    refine Keeps.ite ?_ ?_
    · refine Keeps.trans ?_ (account_keeps ..)
      refine Keeps.trans ?_ (setTenancy_keeps ..)
      exact ((stopStream_keeps ..).trans (dset_keeps ..)).trans (setCtx_keeps ..)
    · refine Keeps.trans ?_ (setTenancy_keeps ..)
      exact ((stopStream_keeps ..).trans (dset_keeps ..)).trans (setCtx_keeps ..)
  · refine Keeps.trans ?_ (setTenantState_keeps ..)
    refine Keeps.trans ?_ (endRequest_keeps ..)
    refine Keeps.trans ?_ (setTenancy_keeps ..)
    exact ((stopStream_keeps ..).trans (dset_keeps ..)).trans (setCtx_keeps ..)

theorem beginStop_keeps (s : State) (x : Stop) : Keeps s (beginStop s x) := by
  refine Keeps.ite (Keeps.ite ((parkFlows_keeps ..).trans (stopRun_keeps ..)) (setTenancy_keeps ..)) ?_
  exact stopRun_keeps ..

theorem beginPreempt_keeps (s : State) (t beat : Nat) (next : Option Nat) : Keeps s (beginPreempt s t beat next) :=
  Keeps.ite ((record_keeps ..).trans (setTenancy_keeps ..)) (beginStop_keeps ..)

theorem fireStop_keeps (s : State) : Keeps s (fireStop s) := by
  unfold fireStop
  split
  · exact Keeps.refl _
  · refine Keeps.ite (Keeps.refl _) ?_
    refine Keeps.ite (beginStop_keeps ..) ?_
    exact Keeps.ite (beginPreempt_keeps ..) (Keeps.ite (endRequest_keeps ..) (Keeps.refl _))

theorem execHoldAtBeat_keeps (s : State) : OnNext (execHoldAtBeat s) (Keeps s) :=
  Keeps.next ((foldl_keeps _ (fun _ _ => stopRun_keeps ..) _ _).trans (fireStop_keeps _))

theorem execPreemptGraceExpiry_keeps (t : Nat) (s : State) : OnNext (execPreemptGraceExpiry t s) (Keeps s) := by
  unfold execPreemptGraceExpiry
  refine Keeps.next ?_
  split
  · exact Keeps.ite ((parkFlows_keeps ..).trans (stopRun_keeps ..)) (Keeps.refl _)
  · exact Keeps.refl _

theorem tenantRequest_keeps (s : State) (t v : Nat) : Keeps s (tenantRequest s t v).2 := by
  refine Keeps.ite_snd ?_ (Keeps.refl _)
  refine Keeps.trans ?_ (dset_keeps ..)
  refine Keeps.ite_snd (Keeps.refl _) ?_
  refine Keeps.ite_snd ?_ (requestOf_keeps ..)
  refine Keeps.ite_snd (Keeps.refl _) ?_
  refine Keeps.ite_snd (((setHostParked_keeps ..).trans (pendRequest_keeps ..)).trans (beginPreempt_keeps ..)) ?_
  exact awaitBeat_keeps _ _ _ (fun _ => setHostParked_keeps ..)

theorem writeTenantRequest_keeps (s : State) (r : Requester) (t v : Nat) : Keeps s (writeTenantRequest s r t v) :=
  guardedWrite_keeps _ _ _ _ _ _ _ (Keeps.ite_snd (Keeps.refl _) (tenantRequest_keeps ..))

theorem execTenantLoad_keeps (r : Requester) (t : Nat) (s : State) : OnNext (execTenantLoad r t s) (Keeps s) :=
  Keeps.next (writeTenantRequest_keeps ..)

theorem execTenantStart_keeps (r : Requester) (t : Nat) (s : State) : OnNext (execTenantStart r t s) (Keeps s) :=
  Keeps.next (writeTenantRequest_keeps ..)

theorem execPreempt_keeps (r : Requester) (t : Nat) (s : State) : OnNext (execPreempt r t s) (Keeps s) :=
  Keeps.next (writeTenantRequest_keeps ..)

theorem execReleaseTenant_keeps (r : Requester) (t : Nat) (s : State) : OnNext (execReleaseTenant r t s) (Keeps s) :=
  Keeps.next (writeTenantRequest_keeps ..)

theorem execTenantUnload_keeps (r : Requester) (t : Nat) (s : State) : OnNext (execTenantUnload r t s) (Keeps s) :=
  Keeps.next (writeTenantRequest_keeps ..)

theorem execTenantHold_keeps (r : Requester) (t : Nat) (s : State) : OnNext (execTenantHold r t s) (Keeps s) :=
  Keeps.next (writeTenantRequest_keeps ..)

theorem execTenantResume_keeps (r : Requester) (t : Nat) (s : State) : OnNext (execTenantResume r t s) (Keeps s) :=
  Keeps.next (writeTenantRequest_keeps ..)

theorem nextMove_keeps (s : State) (next : Option Nat) : Keeps s (nextMove s next) := by
  unfold nextMove
  split
  · exact setTenancy_keeps ..
  · exact ((setTenancy_keeps ..).trans (setTenantState_keeps ..)).trans (setTenancy_keeps ..)

theorem saveTenantState_keeps (s : State) (m : Move) : Keeps s (saveTenantState s m) := by
  refine Keeps.trans ?_ (nextMove_keeps ..)
  refine Keeps.andThen ?_ (endRequest_keeps ..)
  refine Keeps.trans ?_ ((grantParked_keeps ..).trans (grantParked_keeps ..))
  refine Keeps.trans ?_ ((dcount_keeps ..).trans (setTenantState_keeps ..))
  refine Keeps.trans ?_ (dclear_keeps ..)
  refine Keeps.trans ?_ (setCairn_keeps ..)
  refine Keeps.trans ?_ (clearProgramCells_keeps ..)
  exact keeps_of_eq rfl rfl

theorem execSaveTenant_keeps (t : Nat) (s : State) : OnNext (execSaveTenant t s) (Keeps s) := by
  unfold execSaveTenant
  refine Keeps.next ?_
  split
  · exact Keeps.ite (saveTenantState_keeps ..) (Keeps.refl _)
  · exact Keeps.refl _

theorem reloadBanks_keeps (p : Parked) (s : State) (e : Nat × Nat) : Keeps s (reloadBanks p s e) := by
  refine Keeps.trans ?_ (setBlock_keeps ..)
  exact (eraseBlocks_keeps ..).trans (foldl_keeps _ (fun _ _ => storeRow_keeps ..) _ _)

theorem reloadContext_keeps (s : State) (c : Nat) (p : Parked) : Keeps s (reloadContext s c p) :=
  ⟨fun h => memPut_foldl_wf _ _ _ _ (eraseBytes_wf s _ _ h), le_refl _⟩

theorem reloadTenantState_keeps (s : State) (m : Move) (p : Parked) (bound : List (Nat × Nat)) :
    Keeps s (reloadTenantState s m p bound) := by
  refine Keeps.trans ?_ (setTenancy_keeps ..)
  refine Keeps.trans ?_ (grantRecords_keeps ..)
  refine Keeps.trans ?_ (grantRecords_keeps ..)
  refine Keeps.trans ?_ (resumeFlows_keeps ..)
  refine Keeps.trans ?_ (setCairn_keeps ..)
  refine Keeps.trans ?_ (dset_keeps ..)
  refine Keeps.trans ?_ (reloadContext_keeps ..)
  refine Keeps.trans ?_ (foldl_keeps _ (fun _ _ => reloadBanks_keeps ..) _ _)
  refine Keeps.trans ?_ (settlePower_keeps ..)
  exact keeps_of_eq rfl rfl

theorem refuseSwapIn_keeps (s : State) (t : Nat) : Keeps s (refuseSwapIn s t) :=
  ((record_keeps ..).trans (setTenantState_keeps ..)).trans (nextMove_keeps ..)

theorem execReloadTenant_keeps (t : Nat) (s : State) : OnNext (execReloadTenant t s) (Keeps s) := by
  unfold execReloadTenant
  refine Keeps.next ?_
  split
  · refine Keeps.ite ?_ (Keeps.refl _)
    split
    · exact reloadTenantState_keeps ..
    · exact refuseSwapIn_keeps ..
  · exact Keeps.refl _

theorem beginReload_keeps (s : State) (t : Nat) : Keeps s (beginReload s t) :=
  (setTenantState_keeps ..).trans (setTenancy_keeps ..)

theorem decide463_keeps (s : State) : Keeps s (decide463 s) := by
  unfold decide463
  refine Keeps.ite (Keeps.refl _) ?_
  split
  · exact beginReload_keeps ..
  · refine Keeps.ite ?_ (Keeps.refl _)
    split
    · exact beginPreempt_keeps ..
    · exact Keeps.refl _

theorem countWaits_keeps (s : State) : Keeps s (countWaits s) := foldl_keeps _ (fun _ _ => account_keeps ..) _ _

theorem beginDeferred_keeps (s : State) : Keeps s (beginDeferred s) :=
  foldl_keeps _ (fun _ _ => (setTenancy_keeps ..).trans (beginStop_keeps ..)) _ _

theorem beginReloaded_keeps (s : State) : Keeps s (beginReloaded s) :=
  (setTenancy_keeps ..).trans (foldl_keeps _ (fun _ _ => resumeRun_keeps ..) _ _)

theorem charge_keeps (s : State) (charges : List (Nat × Nat)) : Keeps s (charge s charges) :=
  foldl_keeps _ (fun _ _ => Keeps.ite (dcount_keeps ..) (Keeps.refl _)) _ _

theorem execSchedulerDecision_keeps (charges : List (Nat × Nat)) (s : State) :
    OnNext (execSchedulerDecision charges s) (Keeps s) := by
  refine Keeps.next ?_
  refine Keeps.ite ?_ (Keeps.refl _)
  refine Keeps.trans ?_ (decide463_keeps _)
  refine Keeps.trans ?_ (beginReloaded_keeps _)
  exact ((charge_keeps ..).trans (countWaits_keeps _)).trans (beginDeferred_keeps _)

theorem markSwitched_keeps (s : State) (c d : Nat) : Keeps s (markSwitched s c d) := setCtx_keeps ..

theorem trigger_keeps (s : State) (c d r due : Nat) : Keeps s (trigger s c d r due) := by
  unfold trigger
  split
  · exact (markSwitched_keeps ..).trans (record_keeps ..)
  · refine Keeps.ite (setCtx_keeps ..) ?_
    refine Keeps.trans ?_ (record_keeps ..)
    refine Keeps.trans ?_ (dcount_keeps ..)
    exact (Keeps.ite (recordInvalid_keeps ..) (enqueueRecord_keeps ..)).trans (markSwitched_keeps ..)

theorem checkDeadlines_keeps (s : State) (c : Nat) : Keeps s (checkDeadlines s c) := by
  unfold checkDeadlines
  refine Keeps.ite ?_ (Keeps.refl _)
  refine foldl_keeps _ (fun _ _ => ?_) _ _
  split
  · exact Keeps.refl _
  · exact Keeps.ite (trigger_keeps ..) (Keeps.refl _)

theorem execDeadlineCheck_keeps (s : State) : OnNext (execDeadlineCheck s) (Keeps s) :=
  Keeps.next (Keeps.ite (foldl_keeps _ (fun _ _ => checkDeadlines_keeps ..) _ _) (Keeps.refl _))

/-! ## Dictionary reads (DictRead) -/

theorem readEntry_keeps (s : State) (r : Requester) (idx sub : Nat) : Keeps s (readEntry s r idx sub).2.2.2 := by
  unfold readEntry
  split
  · exact Keeps.refl _
  · split
    · exact Keeps.refl _
    · split
      · exact Keeps.refl _
      · split
        · exact leaseAcquire_keeps ..
        · split
          · exact leaseRelease_keeps ..
          · split <;> exact Keeps.refl _

/-! ## Dictionary effects (DictWrite) -/

theorem storeIf_keeps (s : State) (idx sub v : Nat) (fits : State → Bool) : Keeps s (storeIf s idx sub v fits).2 :=
  Keeps.ite_snd (storeEntry_keeps ..) (Keeps.refl _)

theorem requestEffect_keeps (s : State) (v : Nat) (env : DictEnv) : Keeps s (requestEffect s v env).2 := by
  unfold requestEffect
  split
  · exact dset_keeps ..
  · exact acceptPowerUp_keeps ..
  · exact acceptPowerDown_keeps _
  · exact acceptReset_keeps _
  · exact stateOf_keeps ..
  · exact stateOf_keeps ..
  · exact stateOf_keeps ..
  · exact stateOf_keeps ..

theorem loaderFollows_keeps (s : State) (f : Nat) : Keeps s (loaderFollows s f) := by
  refine Keeps.trans ?_ (grantLoader_keeps ..)
  refine Keeps.ite ((Keeps.ite (dsets_keeps ..) (loaderProgress_keeps ..)).trans (loaderClosed_keeps ..)) ?_
  exact Keeps.ite (dsets_keeps ..) (loaderProgress_keeps ..)

theorem fetchImage_keeps (s : State) : Keeps s (fetchImage s) := by
  refine Keeps.ite ?_ (dset_keeps ..)
  refine Keeps.trans ?_ (sendFetch_keeps ..)
  exact keeps_of_eq rfl rfl

theorem loaderEffect_keeps (s : State) (sub v : Nat) : Keeps s (loaderEffect s sub v).2 := by
  unfold loaderEffect
  split
  · exact (dset_keeps ..).trans (grantLoader_keeps ..)
  · exact (dset_keeps ..).trans (loaderFollows_keeps ..)
  · exact Keeps.ite (fetchImage_keeps _) (Keeps.refl _)
  · exact dset_keeps ..

theorem recordEffect_keeps (s : State) (idx sub v : Nat) : Keeps s (recordEffect s idx sub v) := by
  refine Keeps.ite (Keeps.ite ((dset_keeps ..).trans (dclear_keeps ..)) (dset_keeps ..)) ?_
  exact dset_keeps ..

theorem setCommand_keeps (s : State) (n v : Nat) : Keeps s (setCommand s n v).2 :=
  Keeps.ite_snd (formSet_keeps ..) (Keeps.ite_snd (disbandSet_keeps ..) (Keeps.refl _))

theorem memberEffect_keeps (s : State) (sub v : Nat) : Keeps s (memberEffect s sub v).2 :=
  Keeps.ite_snd (Keeps.refl _) (setRed_keeps ..)

theorem cairnEffect_keeps (s : State) (c sub v : Nat) : Keeps s (cairnEffect s c sub v).2 := by
  refine Keeps.ite_snd (Keeps.ite_snd (takeHeld_keeps ..) (Keeps.ite_snd (startRestore_keeps ..) (Keeps.refl _))) ?_
  exact Keeps.ite_snd (Keeps.refl _) (setCairn_keeps ..)

theorem accountingEffect_keeps (s : State) (v : Nat) : Keeps s (accountingEffect s v) :=
  (dset_keeps ..).trans (foldl_keeps _ (fun _ _ => dclear_keeps ..) _ _)

theorem tenantEffect_keeps (s : State) (t sub v : Nat) : Keeps s (tenantEffect s t sub v).2 := by
  refine Keeps.ite_snd (Keeps.ite_snd (Keeps.refl _) (tenantRequest_keeps ..)) ?_
  exact Keeps.ite_snd (storeIf_keeps ..) (dset_keeps ..)

theorem reserveEffect_keeps (s : State) (sub v : Nat) : Keeps s (reserveEffect s sub v) := by
  refine Keeps.ite (storeEntry_keeps ..) ?_
  refine Keeps.ite ((storeEntry_keeps ..).trans (keeps_of_eq rfl rfl)) ?_
  exact (storeEntry_keeps ..).trans (keeps_of_eq rfl rfl)

theorem networkEffect_keeps (s : State) (sub v : Nat) : Keeps s (networkEffect s sub v) :=
  Keeps.ite ((storeEntry_keeps ..).trans (startPorts_keeps _)) (storeEntry_keeps ..)

theorem entryEffect_keeps (s : State) (idx sub v : Nat) (env : DictEnv) : Keeps s (entryEffect s idx sub v env).2 := by
  unfold entryEffect
  refine Keeps.ite_snd (setPower_keeps s _) ?_
  refine Keeps.ite_snd (writeBeatSource_keeps s v) ?_
  refine Keeps.ite_snd (networkEffect_keeps s sub v) ?_
  refine Keeps.ite_snd (admitPortWrite_keeps s v) ?_
  refine Keeps.ite_snd (admitPeerWrite_keeps s v) ?_
  refine Keeps.ite_snd (requestEffect_keeps s v env) ?_
  refine Keeps.ite_snd (loaderEffect_keeps s sub v) ?_
  refine Keeps.ite_snd (promoteMaster_keeps s v) ?_
  refine Keeps.ite_snd (recordEffect_keeps s idx sub v) ?_
  refine Keeps.ite_snd (setCommand_keeps s _ v) ?_
  refine Keeps.ite_snd (dset_keeps s _ _ _) ?_
  refine Keeps.ite_snd (memberEffect_keeps s sub v) ?_
  refine Keeps.ite_snd (cairnEffect_keeps s _ sub v) ?_
  refine Keeps.ite_snd (storeIf_keeps s idx sub v _) ?_
  refine Keeps.ite_snd (accountingEffect_keeps s v) ?_
  refine Keeps.ite_snd (storeIf_keeps s idx sub v _) ?_
  refine Keeps.ite_snd (tenantEffect_keeps s _ sub v) ?_
  refine Keeps.ite_snd (reserveEffect_keeps s sub v) ?_
  refine Keeps.ite_snd (markBlock_keeps s v 3) ?_
  refine Keeps.ite_snd (markBlock_keeps s v 0) ?_
  refine Keeps.ite_snd (dset_keeps s _ _ _) ?_
  refine Keeps.ite_snd (queueEvacuation_keeps s v) ?_
  exact Keeps.ite_snd (fwCommand_keeps v s) (storeEntry_keeps s idx sub v)

theorem writeEffect_keeps (idx sub len v : Nat) (env : DictEnv) (s : State) :
    Keeps s (writeEffect idx sub len v env s).2 :=
  Keeps.ite_snd (flashFailed_keeps _) (Keeps.ite_snd (fwData_keeps ..) (entryEffect_keeps ..))

theorem writeEntry_keeps (s : State) (r : Requester) (idx sub len v : Nat) (env : DictEnv) :
    Keeps s (writeEntry s r idx sub len v env).2 :=
  Keeps.ite_snd (Keeps.refl _) (writeEffect_keeps ..)

theorem execDictionaryWrite_keeps (r : Requester) (idx sub len value : Nat) (env : DictEnv) (s : State) :
    OnNext (execDictionaryWrite r idx sub len value env s) (Keeps s) :=
  Keeps.next (guardedWrite_keeps _ _ _ _ _ _ _ (writeEffect_keeps ..))

theorem execLoaderFetch_keeps (r : Requester) (s : State) : OnNext (execLoaderFetch r s) (Keeps s) :=
  Keeps.next (guardedWrite_keeps _ _ _ _ _ _ _ (loaderEffect_keeps ..))

theorem execLoaderNoAnswer_keeps (s : State) : OnNext (execLoaderNoAnswer s) (Keeps s) :=
  Keeps.next (Keeps.ite (dset_keeps ..) (Keeps.refl _))

/-! ## Dictionary paths (Paths) -/

theorem setUsdo_keeps (s : State) (node : Nat) (x : Usdo) : Keeps s (setUsdo s node x) := setGarnet_keeps _ _ rfl

theorem dropUsdo_keeps (s : State) (node : Nat) : Keeps s (dropUsdo s node) := setGarnet_keeps _ _ rfl

theorem usdoUpload_keeps (s : State) (node idx sub : Nat) : Keeps s (usdoUpload s node idx sub) := by
  refine Keeps.ite (((readEntry_keeps ..).trans (dropUsdo_keeps ..)).trans (reply_keeps ..)) ?_
  exact (((readEntry_keeps ..).trans (dropUsdo_keeps ..)).trans (setUsdo_keeps ..)).trans (emit_keeps ..)

theorem usdoUploadSegment_keeps (s : State) (node count : Nat) : Keeps s (usdoUploadSegment s node count) := by
  unfold usdoUploadSegment
  split
  · exact reply_keeps ..
  · refine Keeps.ite ((dropUsdo_keeps ..).trans (reply_keeps ..)) ?_
    exact (Keeps.ite (dropUsdo_keeps ..) (setUsdo_keeps ..)).trans (emit_keeps ..)

theorem usdoWrite_keeps (s : State) (node idx sub : Nat) (bs : List Byte) (env : DictEnv) :
    Keeps s (usdoWrite s node idx sub bs env) :=
  ((dropUsdo_keeps ..).trans (writeEntry_keeps ..)).trans (reply_keeps ..)

theorem usdoDownloadSegment_keeps (s : State) (node count : Nat) (bs : List Byte) (env : DictEnv) :
    Keeps s (usdoDownloadSegment s node count bs env) := by
  unfold usdoDownloadSegment
  split
  · exact reply_keeps ..
  · refine Keeps.ite ((dropUsdo_keeps ..).trans (reply_keeps ..)) ?_
    exact Keeps.ite (usdoWrite_keeps ..) ((setUsdo_keeps ..).trans (emit_keeps ..))

theorem execUsdoTransfer_keeps (node op idx sub count : Nat) (bytes : List Byte) (env : DictEnv) (s : State) :
    OnNext (execUsdoTransfer node op idx sub count bytes env s) (Keeps s) := by
  unfold execUsdoTransfer
  refine Keeps.next ?_
  refine Keeps.ite (Keeps.refl _) ?_
  split
  · exact usdoUpload_keeps ..
  · exact usdoUploadSegment_keeps ..
  · exact usdoWrite_keeps ..
  · exact (setUsdo_keeps ..).trans (emit_keeps ..)
  · exact usdoDownloadSegment_keeps ..
  · exact (dropUsdo_keeps ..).trans (reply_keeps ..)

theorem execUsdoIdleTimeout_keeps (node : Nat) (s : State) : OnNext (execUsdoIdleTimeout node s) (Keeps s) :=
  Keeps.next (Keeps.ite ((dropUsdo_keeps ..).trans (reply_keeps ..)) (Keeps.refl _))

theorem nmtTo_keeps (s : State) (command : Nat) : Keeps s (nmtTo s command) := by
  unfold nmtTo
  split
  · exact setGarnet_keeps _ _ rfl
  · exact setGarnet_keeps _ _ rfl
  · exact setGarnet_keeps _ _ rfl
  · exact (setGarnet_keeps _ _ rfl).trans (emit_keeps ..)
  · exact (setGarnet_keeps _ _ rfl).trans (emit_keeps ..)
  · exact Keeps.refl _

theorem execNmtCommand_keeps (command node : Nat) (s : State) : OnNext (execNmtCommand command node s) (Keeps s) :=
  Keeps.next (Keeps.ite (nmtTo_keeps ..) (Keeps.refl _))

theorem execHeartbeat_keeps (s : State) : OnNext (execHeartbeat s) (Keeps s) :=
  Keeps.next (Keeps.ite (Keeps.refl _) (emit_keeps ..))

theorem respond_keeps (s : State) (addr port h abort : Nat) (data : List Byte) :
    Keeps s (respond s addr port h abort data) :=
  (setGarnet_keeps _ _ rfl).trans (emit_keeps ..)

theorem datagramReadEntry_keeps (s : State) (addr port h : Nat) : Keeps s (datagramReadEntry s addr port h) :=
  Keeps.ite (respond_keeps ..) ((readEntry_keeps ..).trans (respond_keeps ..))

theorem dropPartial_keeps (s : State) (addr port session : Nat) : Keeps s (dropPartial s addr port session) :=
  setGarnet_keeps _ _ rfl

theorem datagramWriteSegment_keeps (s : State) (addr port h : Nat) (data : List Byte) (env : DictEnv) :
    Keeps s (datagramWriteSegment s addr port h data env) := by
  refine Keeps.ite (respond_keeps ..) ?_
  refine Keeps.ite (((dropPartial_keeps ..).trans (writeEntry_keeps ..)).trans (respond_keeps ..)) ?_
  exact ((dropPartial_keeps ..).trans (setGarnet_keeps _ _ rfl)).trans (respond_keeps ..)

theorem datagram_keeps (s : State) (addr port h : Nat) (data : List Byte) (env : DictEnv) :
    Keeps s (datagram s addr port h data env) := by
  unfold datagram
  refine Keeps.ite (Keeps.refl _) ?_
  refine Keeps.ite (dcount_keeps ..) ?_
  split
  · exact (setGarnet_keeps _ _ rfl).trans (emit_keeps ..)
  · exact Keeps.ite (datagramReadEntry_keeps ..) (datagramWriteSegment_keeps ..)

theorem execDatagramRead_keeps (addr port header : Nat) (s : State) :
    OnNext (execDatagramRead addr port header s) (Keeps s) :=
  Keeps.next (datagram_keeps ..)

theorem execDatagramWrite_keeps (addr port header : Nat) (data : List Byte) (env : DictEnv) (s : State) :
    OnNext (execDatagramWrite addr port header data env s) (Keeps s) :=
  Keeps.next (datagram_keeps ..)

theorem execPartialWriteTimeout_keeps (addr port session : Nat) (s : State) :
    OnNext (execPartialWriteTimeout addr port session s) (Keeps s) :=
  Keeps.next (Keeps.ite ((dropPartial_keeps ..).trans (reply_keeps ..)) (Keeps.refl _))

theorem setDictWindow_keeps (s : State) (f : Nat) (w : DictWindow) : Keeps s (s.setDictWindow f w) := setGarnet_keeps _ _ rfl

theorem windowDone_keeps (s : State) (f abort status : Nat) : Keeps s (windowDone s f abort status) := setDictWindow_keeps ..

theorem windowRead_keeps (s : State) (f : Nat) : Keeps s (windowRead s f) := by
  refine Keeps.ite (windowDone_keeps ..) ?_
  refine Keeps.ite (windowDone_keeps ..) ?_
  refine Keeps.ite ((readEntry_keeps ..).trans (windowDone_keeps ..)) ?_
  exact (readEntry_keeps ..).trans (setDictWindow_keeps ..)

theorem windowSegment_keeps (s : State) (f : Nat) : Keeps s (windowSegment s f) :=
  Keeps.ite (setDictWindow_keeps ..) (windowDone_keeps ..)

theorem windowWrite_keeps (s : State) (f : Nat) (env : DictEnv) : Keeps s (windowWrite s f env) := by
  refine Keeps.ite ?_ (windowDone_keeps ..)
  refine Keeps.ite (((setDictWindow_keeps ..).trans (writeEntry_keeps ..)).trans (windowDone_keeps ..)) ?_
  exact (setDictWindow_keeps ..).trans (writeEntry_keeps ..)

theorem execDictCommandRead_keeps (f : Nat) (s : State) : OnNext (execDictCommandRead f s) (Keeps s) :=
  Keeps.next (Keeps.ite (windowRead_keeps ..) (Keeps.refl _))

theorem execDictCommandWriteSegment_keeps (f : Nat) (s : State) : OnNext (execDictCommandWriteSegment f s) (Keeps s) :=
  Keeps.next (Keeps.ite (windowSegment_keeps ..) (Keeps.refl _))

theorem execDictCommandWrite_keeps (f : Nat) (env : DictEnv) (s : State) :
    OnNext (execDictCommandWrite f env s) (Keeps s) :=
  Keeps.next (Keeps.ite (windowWrite_keeps ..) (Keeps.refl _))

/-! ## Attestation (Attest) -/

theorem attest_keeps (s : State) (medium target code param : Nat) (ok : Bool) (bytes : List Byte) :
    Keeps s (attest s medium target code param ok bytes) :=
  Keeps.ite (Keeps.refl _) (Keeps.ite (emit_keeps ..) (emit_keeps ..))

theorem attestLimited_keeps (s : State) (medium target code param second : Nat) (ok : Bool) (bytes : List Byte) :
    Keeps s (attestLimited s medium target code param second ok bytes) := by
  refine Keeps.ite (Keeps.refl _) ?_
  exact Keeps.ite (emit_keeps ..) (Keeps.ite (emit_keeps ..) ((setGarnet_keeps _ _ rfl).trans (emit_keeps ..)))

theorem execGetVersion_keeps (medium target : Nat) (s : State) : OnNext (execGetVersion medium target s) (Keeps s) :=
  Keeps.next (attest_keeps ..)

theorem execGetCapabilities_keeps (medium target version : Nat) (s : State) :
    OnNext (execGetCapabilities medium target version s) (Keeps s) :=
  Keeps.next (attest_keeps ..)

theorem execNegotiateAlgorithms_keeps (medium target version : Nat) (offered : Bool) (s : State) :
    OnNext (execNegotiateAlgorithms medium target version offered s) (Keeps s) :=
  Keeps.next (attest_keeps ..)

theorem execGetDigests_keeps (medium target version : Nat) (s : State) :
    OnNext (execGetDigests medium target version s) (Keeps s) :=
  Keeps.next (attest_keeps ..)

theorem execGetCertificate_keeps (medium target version slot offset length : Nat) (s : State) :
    OnNext (execGetCertificate medium target version slot offset length s) (Keeps s) :=
  Keeps.next (attest_keeps ..)

theorem execChallenge_keeps (medium target version slot nonce second : Nat) (s : State) :
    OnNext (execChallenge medium target version slot nonce second s) (Keeps s) :=
  Keeps.next (attestLimited_keeps ..)

theorem execGetMeasurements_keeps (medium target version index : Nat) (signed : Bool) (nonce second : Nat) (s : State) :
    OnNext (execGetMeasurements medium target version index signed nonce second s) (Keeps s) :=
  Keeps.next (attestLimited_keeps ..)

/-! ## The beat edge (BeatEdge) -/

theorem contextEdge_keeps (s : State) (c : Nat) : Keeps s (contextEdge s c) := by
  refine Keeps.ite (((Keeps.ite (setCtx_keeps ..) (Keeps.refl _)).trans (mirrorMask_keeps ..)).trans (armDue_keeps ..)) ?_
  exact Keeps.refl _

theorem enterBeat_keeps (s : State) : Keeps s (enterBeat s) := foldl_keeps _ (fun _ _ => contextEdge_keeps ..) _ _

theorem execBeatEdge_keeps (cycles : Nat) (s : State) : OnNext (execBeatEdge cycles s) (Keeps s) := by
  unfold execBeatEdge
  split
  · rw [onNext_next]; exact Keeps.refl s
  · dsimp only
    rw [onNext_next]
    refine Keeps.trans ?_ ((sampleBeat_keeps _).trans (enterBeat_keeps _))
    exact (dsets_keeps s _).trans (keeps_of_eq rfl rfl)

/-! ## PCIe (Pcie) -/

theorem setAperture_keeps (s : State) (f n v : Nat) : Keeps s (setAperture s f n v) := by
  unfold setAperture
  exact keeps_of_eq rfl rfl

theorem registerRead_keeps (s : State) (f o : Nat) : Keeps s (registerRead s f o).2 :=
  Keeps.ite_snd (mailRegRead_keeps ..) (Keeps.refl _)

theorem flowRegister_keeps (s : State) (f v : Nat) : Keeps s (flowRegister s f v) := by
  unfold flowRegister
  split
  · exact Keeps.refl _
  · exact flowCommand_keeps _ _ _ (fun _ _ => readFlow_keeps ..)
  · exact flowCommand_keeps _ _ _ (fun _ _ => writeFlow_keeps ..)
  · exact flowCommand_keeps _ _ _ (fun _ _ => openCommand_keeps ..)
  · exact flowCommand_keeps _ _ _ (fun _ _ => closeCommand_keeps ..)
  · exact flowResult_keeps ..

theorem peerRegister_keeps (s : State) (f v : Nat) : Keeps s (peerRegister s f v) := by
  unfold peerRegister
  split
  · exact Keeps.refl _
  · exact peerCommand_keeps _ _ _ (fun _ _ => readPeer_keeps ..)
  · exact peerCommand_keeps _ _ _ (fun _ _ => writePeer_keeps ..)
  · exact peerResult_keeps ..

theorem netRegister_keeps (s : State) (f o v : Nat) : Keeps s (netRegister s f o v) := by
  unfold netRegister
  split
  · exact setNetWindow_keeps ..
  · exact flowRegister_keeps ..
  · exact setNetWindow_keeps ..
  · exact setNetWindow_keeps ..
  · exact peerRegister_keeps ..
  · exact setNetWindow_keeps ..
  · exact Keeps.refl _

theorem bootRegister_keeps (s : State) (o v : Nat) : Keeps s (bootRegister s o v) := by
  unfold bootRegister
  refine Keeps.ite (Keeps.refl _) ?_
  split
  · exact setPower_keeps ..
  · exact Keeps.ite (submitImage_keeps _) (Keeps.refl _)
  · exact Keeps.refl _

theorem admitRegister_keeps (s : State) (c o v : Nat) : Keeps s (admitRegister s c o v) := by
  unfold admitRegister
  split
  · exact keeps_of_eq rfl rfl
  · exact keeps_of_eq rfl rfl
  · refine Keeps.ite ((Keeps.ite (pushRecord_keeps ..) (Keeps.refl _)).trans (pushRecord_keeps ..)) ?_
    exact Keeps.ite (pushRecord_keeps ..) (Keeps.refl _)
  · exact Keeps.refl _

theorem dictRegister_keeps (s : State) (f o v : Nat) (env : DictEnv) : Keeps s (dictRegister s f o v env) := by
  unfold dictRegister
  split
  · exact setDictWindow_keeps ..
  · exact setDictWindow_keeps ..
  · exact setDictWindow_keeps ..
  · split
    · exact Keeps.refl _
    · exact windowRead_keeps ..
    · exact windowSegment_keeps ..
    · exact windowWrite_keeps ..
    · exact windowDone_keeps ..
  · exact setDictWindow_keeps ..
  · exact Keeps.refl _

theorem registerWrite_keeps (s : State) (f o v : Nat) (env : DictEnv) : Keeps s (registerWrite s f o v env) := by
  refine Keeps.ite (setAperture_keeps ..) ?_
  refine Keeps.ite (netRegister_keeps ..) ?_
  refine Keeps.ite (bootRegister_keeps ..) ?_
  refine Keeps.ite (admitRegister_keeps ..) ?_
  refine Keeps.ite (Keeps.ite (Keeps.ite (Keeps.refl _) (mailViolation_keeps ..)) (mailRegWrite_keeps ..)) ?_
  exact dictRegister_keeps ..

theorem readRegisters_keeps (f o n : Nat) (l : List (Nat × Nat)) (s : State) : Keeps s (readRegisters f o n l s).2 := by
  refine foldl_keeps_on Prod.snd _ (fun r _ => ?_) l ([], s)
  exact registerRead_keeps r.2 f _

theorem writeRegisters_keeps (f o : Nat) (bs : List Byte) (env : DictEnv) (l : List (Nat × Nat)) (s : State) :
    Keeps s (writeRegisters f o bs env l s) :=
  foldl_keeps _ (fun _ _ => registerWrite_keeps ..) _ _

theorem unsupported_keeps (s : State) (f : Nat) : Keeps s (unsupported s f) := emit_keeps ..

theorem readMemory_keeps (s : State) (f a n : Nat) : Keeps s (readMemory s f a n) := by
  unfold readMemory
  dsimp only
  split
  · refine Keeps.trans ?_ (unsupported_keeps ..)
    refine Keeps.ite_snd ?_ (deviceRead_keeps ..)
    dsimp only
    exact hostPoison_keeps ..
  · refine Keeps.trans ?_ (emit_keeps ..)
    refine Keeps.ite_snd ?_ (deviceRead_keeps ..)
    dsimp only
    exact hostPoison_keeps ..

theorem writeMemory_keeps (s : State) (f a : Nat) (bs : List TByte) : Keeps s (writeMemory s f a bs) :=
  whenGranulesFree_keeps _ _ _ (deviceWrite_keeps ..)

theorem unreached_keeps (s : State) (f a : Nat) (write : Bool) : Keeps s (unreached s f a write) :=
  Keeps.ite (unmapped_keeps ..) ((unmapped_keeps ..).trans (unsupported_keeps ..))

theorem hostRead_keeps (s : State) (f a n : Nat) : Keeps s (hostRead s f a n) := by
  unfold hostRead
  refine Keeps.ite (unreached_keeps ..) ?_
  refine Keeps.ite ?_ (readMemory_keeps ..)
  split
  · exact unreached_keeps ..
  · exact (readRegisters_keeps ..).trans (emit_keeps ..)

theorem hostWrite_keeps (s : State) (f a : Nat) (ep : Bool) (bs : List Byte) (env : DictEnv) :
    Keeps s (hostWrite s f a ep bs env) := by
  unfold hostWrite
  refine Keeps.ite (unreached_keeps ..) ?_
  refine Keeps.ite ?_ (writeMemory_keeps ..)
  split
  · exact unreached_keeps ..
  · exact writeRegisters_keeps ..

theorem execPcieAccess_keeps (f bar off n : Nat) (write ep : Bool) (bytes : List Byte) (errors : List ReadError)
    (env : DictEnv) (s : State) :
    OnNext (execPcieAccess f bar off n write ep bytes errors env s) (Keeps s) := by
  unfold execPcieAccess
  refine Keeps.next ?_
  refine Keeps.ite (Keeps.refl _) ?_
  split
  · exact Keeps.ite (Keeps.refl _) (unsupported_keeps ..)
  · refine Keeps.ite ((senseAll_keeps ..).trans (hostWrite_keeps ..)) ?_
    exact (senseAll_keeps ..).trans (hostRead_keeps ..)

theorem functionRegisters_keeps (s : State) (f : Nat) : Keeps s (functionRegisters s f) := keeps_of_eq rfl rfl

theorem functionReset_keeps (s : State) (f : Nat) : Keeps s (functionReset s f) :=
  ((functionRegisters_keeps ..).trans (endFunctionLease_keeps ..)).trans (identityReset_keeps ..)

theorem execFunctionLevelReset_keeps (f : Nat) (s : State) : OnNext (execFunctionLevelReset f s) (Keeps s) :=
  Keeps.next (Keeps.ite (functionReset_keeps ..) (Keeps.refl _))

theorem execPcieHotReset_keeps (s : State) : OnNext (execPcieHotReset s) (Keeps s) := by
  unfold execPcieHotReset
  rw [onNext_next]
  split
  · exact (foldl_keeps _ functionReset_keeps (List.range 4) s).trans (keeps_of_eq rfl rfl)
  · exact Keeps.refl s

/-! ## Every command, every step -/

/-- Every command keeps the canonical form of memory and does not lower the stored security version. -/
theorem exec_keeps (c : Instr) (s : State) : OnNext (exec c s) (Keeps s) :=
  match c with
  | .powerGood .. => execPowerGood_keeps _ _ _ _ _
  | .presenceAssert .. => execPresenceAssert_keeps _ _ _
  | .presenceDeassert => execPresenceDeassert_keeps _
  | .inputSwitchTrip cause => execInputSwitchTrip_keeps cause _
  | .supplyLoss => execSupplyLoss_keeps _
  | .inputUndervoltage .. => execInputUndervoltage_keeps _ _
  | .autoSurvey .. => execAutoSurvey_keeps _ _
  | .powerUp .. => execPowerUp_keeps _ _ _
  | .microcodeLoaded => execMicrocodeLoaded_keeps _
  | .blockCheck .. => execBlockCheck_keeps _ _ _
  | .surveyDone .. => execSurveyDone_keeps _ _
  | .bootSubmit => execBootSubmit_keeps _
  | .bootImageTimeout => execBootImageTimeout_keeps _
  | .pcieLinkUp => execPcieLinkUp_keeps _
  | .loadImage .. => execLoadImage_keeps _ _
  | .start .. => execStart_keeps _ _
  | .startAtBeat => execStartAtBeat_keeps _
  | .hold .. => execHold_keeps _ _
  | .holdAtBeat => execHoldAtBeat_keeps _
  | .resume .. => execResume_keeps _ _
  | .unload .. => execUnload_keeps _ _
  | .powerDown .. => execPowerDown_keeps _ _
  | .resetRequest .. => execResetRequest_keeps _ _
  | .fatalFault .. => execFatalFault_keeps _ _
  | .faultFollowupReset => execFaultFollowupReset_keeps _
  | .faultCauseClear .. => execFaultCauseClear_keeps _ _
  | .nop .. => execNop_keeps _ _ _ _ _
  | .delay .. => execDelay_keeps _ _ _ _ _ _
  | .waitBeat .. => execWaitBeat_keeps _ _ _ _ _ _ _
  | .lateBeat .. => execLateBeat_keeps _ _ _ _ _
  | .loopOp .. => execLoopOp_keeps _ _ _ _
  | .jump .. => execJump_keeps _ _ _
  | .branch .. => execBranch_keeps _ _ _ _ _
  | .fence .. => execFence_keeps _ _
  | .overlayLoad .. => execOverlayLoad_keeps _ _ _ _
  | .backlogPush .. => execBacklogPush_keeps _ _ _ _ _
  | .checkpointAt .. => execCheckpointAt_keeps _ _ _ _
  | .evacWindow .. => execEvacWindow_keeps _ _ _ _
  | .deadlineArm .. => execDeadlineArm_keeps _ _ _ _
  | .endStream .. => execEndStream_keeps _ _
  | .mmAcc .. => execMmAcc_keeps _ _ _ _ _ _ _ _ _ _ _ _ _ _ _ _ _ _
  | .accStore .. => execAccStore_keeps _ _ _ _ _ _ _ _ _ _
  | .micaFill .. => execMicaFill_keeps _ _ _ _ _ _ _ _ _ _ _ _
  | .setBase .. => execSetBase_keeps _ _ _ _ _ _ _ _
  | .vadd .. => execVadd_keeps _ _ _ _ _ _ _
  | .vsub .. => execVsub_keeps _ _ _ _ _ _ _
  | .vmul .. => execVmul_keeps _ _ _ _ _ _ _
  | .vfma .. => execVfma_keeps _ _ _ _ _ _ _ _
  | .vmin .. => execVmin_keeps _ _ _ _ _ _ _
  | .vmax .. => execVmax_keeps _ _ _ _ _ _ _
  | .vcmp .. => execVcmp_keeps _ _ _ _ _ _ _ _
  | .vsel .. => execVsel_keeps _ _ _ _ _ _ _ _
  | .viadd .. => execViadd_keeps _ _ _ _ _ _ _
  | .vand .. => execVand_keeps _ _ _ _ _ _ _
  | .vor .. => execVor_keeps _ _ _ _ _ _ _
  | .vxor .. => execVxor_keeps _ _ _ _ _ _ _
  | .vshift .. => execVshift_keeps _ _ _ _ _ _ _ _ _ _
  | .vcvt .. => execVcvt_keeps _ _ _ _ _ _ _ _ _ _ _ _
  | .vquant .. => execVquant_keeps _ _ _ _ _ _ _ _ _ _ _
  | .vperm .. => execVperm_keeps _ _ _ _ _ _ _ _
  | .vexp2 .. => execVexp2_keeps _ _ _ _ _ _
  | .vlog2 .. => execVlog2_keeps _ _ _ _ _ _
  | .vrcp .. => execVrcp_keeps _ _ _ _ _ _
  | .vrsqrt .. => execVrsqrt_keeps _ _ _ _ _ _
  | .vsqrt .. => execVsqrt_keeps _ _ _ _ _ _
  | .vtanh .. => execVtanh_keeps _ _ _ _ _ _
  | .vreduceSum .. => execVreduceSum_keeps _ _ _ _ _ _
  | .vreduceMax .. => execVreduceMax_keeps _ _ _ _ _ _
  | .vload .. => execVload_keeps _ _ _ _ _ _ _ _ _ _ _
  | .vstore .. => execVstore_keeps _ _ _ _ _ _ _ _ _ _ _ _ _ _ _
  | .vaccRead .. => execVaccRead_keeps _ _ _ _ _ _ _ _
  | .vpred .. => execVpred_keeps _ _ _ _ _ _ _ _
  | .flagsRead .. => execFlagsRead_keeps _ _ _ _ _
  | .flagsClear .. => execFlagsClear_keeps _ _ _ _ _
  | .micaLoad .. => execMicaLoad_keeps _ _ _ _ _ _ _ _ _ _ _ _ _ _
  | .copyBank .. => execCopyBank_keeps _ _ _ _ _ _ _ _ _ _ _ _ _
  | .copyAvenue .. => execCopyAvenue_keeps _ _ _ _ _ _ _ _ _ _ _ _ _ _ _ _
  | .copySquare .. => execCopySquare_keeps _ _ _ _ _ _ _ _ _ _ _ _ _ _
  | .copyBedrock .. => execCopyBedrock_keeps _ _ _ _ _ _ _ _ _ _ _ _ _ _
  | .copySb .. => execCopySb_keeps _ _ _ _ _ _ _ _ _ _ _
  | .stashPageRelease .. => execStashPageRelease_keeps _ _
  | .netSend .. => execNetSend_keeps _ _ _ _ _ _ _ _
  | .netRecv .. => execNetRecv_keeps _ _ _ _ _ _ _
  | .plazaSend .. => execPlazaSend_keeps _ _ _ _ _ _ _ _ _ _ _
  | .plazaDrain .. => execPlazaDrain_keeps _ _ _ _ _ _ _ _ _ _
  | .qSend .. => execQSend_keeps _ _ _ _ _ _ _ _ _ _
  | .qRecv .. => execQRecv_keeps _ _ _ _ _ _ _ _
  | .qClose .. => execQClose_keeps _ _ _ _ _
  | .admitFwd .. => execAdmitFwd_keeps _ _ _ _
  | .admitGrad .. => execAdmitGrad_keeps _ _ _ _
  | .waitTimeout .. => execWaitTimeout_keeps _ _
  | .rowMigration .. => execRowMigration_keeps _ _ _ _ _
  | .patrolScrub .. => execPatrolScrub_keeps _ _
  | .evacRequest .. => execEvacRequest_keeps _ _ _
  | .evacPrepare .. => execEvacPrepare_keeps _ _
  | .evacSwitch .. => execEvacSwitch_keeps _ _
  | .mapOut .. => execMapOut_keeps _ _ _
  | .returnToService .. => execReturnToService_keeps _ _ _
  | .admitPushFwd .. => execAdmitPushFwd_keeps _ _
  | .admitPushGrad .. => execAdmitPushGrad_keeps _ _
  | .beatEdge .. => execBeatEdge_keeps _ _
  | .beatSourceWrite .. => execBeatSourceWrite_keeps _ _ _
  | .acquisitionStart .. => execAcquisitionStart_keeps _ _ _ _ _
  | .beatLock => execBeatLock_keeps _
  | .ptpMessage .. => execPtpMessage_keeps _ _
  | .timeSourceLost => execTimeSourceLost_keeps _
  | .holdoverExpiry => execHoldoverExpiry_keeps _
  | .stretchRequestFrame .. => execStretchRequestFrame_keeps _ _ _
  | .stretchRequestSend .. => execStretchRequestSend_keeps _ _
  | .scheduleIssue .. => execScheduleIssue_keeps _ _ _
  | .scheduleAnnounce .. => execScheduleAnnounce_keeps _ _ _
  | .announceForward => execAnnounceForward_keeps _
  | .thermalEvaluation => execThermalEvaluation_keeps _
  | .masterLost => execMasterLost_keeps _
  | .promoteMaster .. => execPromoteMaster_keeps _ _ _
  | .cageInsert .. => execCageInsert_keeps _ _ _ _ _ _
  | .cageRemove .. => execCageRemove_keeps _ _
  | .cagePowerSample .. => execCagePowerSample_keeps _ _ _
  | .cageOvercurrent .. => execCageOvercurrent_keeps _ _
  | .linkUp .. => execLinkUp_keeps _ _ _ _
  | .identityRecheck .. => execIdentityRecheck_keeps _ _
  | .linkDown .. => execLinkDown_keeps _ _
  | .capabilityFrame .. => execCapabilityFrame_keeps _ _ _
  | .capabilityTimeout .. => execCapabilityTimeout_keeps _ _
  | .dataFrame .. => execDataFrame_keeps _ _
  | .ackFrame .. => execAckFrame_keeps _ _
  | .ackSend .. => execAckSend_keeps _ _
  | .retransmitTimeout .. => execRetransmitTimeout_keeps _ _ _
  | .flowBreak .. => execFlowBreak_keeps _ _
  | .openFrame .. => execOpenFrame_keeps _ _
  | .openRetry .. => execOpenRetry_keeps _ _
  | .rejectFrame .. => execRejectFrame_keeps _ _
  | .closeFrame .. => execCloseFrame_keeps _ _
  | .parkFrame .. => execParkFrame_keeps _ _
  | .resumeFrame .. => execResumeFrame_keeps _ _
  | .addressResolution .. => execAddressResolution_keeps _ _ _
  | .flowRead .. => execFlowRead_keeps _ _
  | .flowWrite .. => execFlowWrite_keeps _ _
  | .flowOpen .. => execFlowOpen_keeps _ _
  | .flowClose .. => execFlowClose_keeps _ _
  | .peerRead .. => execPeerRead_keeps _ _
  | .peerWrite .. => execPeerWrite_keeps _ _
  | .rdmaCreditPoll .. => execRdmaCreditPoll_keeps _ _
  | .rdmaResponse .. => execRdmaResponse_keeps _ _ _ _ _ _
  | .congestionNotification .. => execCongestionNotification_keeps _ _
  | .form .. => execForm_keeps _ _ _
  | .disband .. => execDisband_keeps _ _ _
  | .formationRecord .. => execFormationRecord_keeps _ _ _ _ _ _ _ _ _ _ _
  | .formationRetry .. => execFormationRetry_keeps _ _
  | .reduce .. => execReduce_keeps _ _ _
  | .gather .. => execGather_keeps _ _ _
  | .partialUnit .. => execPartialUnit_keeps _ _
  | .recordsUnit .. => execRecordsUnit_keeps _ _
  | .scalesUnit .. => execScalesUnit_keeps _ _
  | .takeoverNotice .. => execTakeoverNotice_keeps _ _
  | .abortNotice .. => execAbortNotice_keeps _ _
  | .gatherUnit .. => execGatherUnit_keeps _ _
  | .lateShardUnit .. => execLateShardUnit_keeps _ _
  | .reductionDeadline .. => execReductionDeadline_keeps _ _ _ _
  | .summaryDelivery .. => execSummaryDelivery_keeps _ _
  | .takeCheckpoint .. => execTakeCheckpoint_keeps _ _ _
  | .restoreGeneration .. => execRestoreGeneration_keeps _ _ _
  | .fastCopyGranule .. => execFastCopyGranule_keeps _ _ _
  | .fastCopyEnd .. => execFastCopyEnd_keeps _ _ _
  | .granuleWait .. => execGranuleWait_keeps _ _ _
  | .drainGeneration .. => execDrainGeneration_keeps _ _
  | .durableAnswer .. => execDurableAnswer_keeps _ _
  | .claimResult .. => execClaimResult_keeps _ _
  | .verifyResult .. => execVerifyResult_keeps _ _
  | .dataLast .. => execDataLast_keeps _ _
  | .absentAnswer .. => execAbsentAnswer_keeps _ _
  | .ckptTimeout .. => execCkptTimeout_keeps _ _
  | .peerGet .. => execPeerGet_keeps _ _
  | .hostDrainAnswer .. => execHostDrainAnswer_keeps _ _
  | .tenantLoad .. => execTenantLoad_keeps _ _ _
  | .tenantStart .. => execTenantStart_keeps _ _ _
  | .preempt .. => execPreempt_keeps _ _ _
  | .releaseTenant .. => execReleaseTenant_keeps _ _ _
  | .tenantUnload .. => execTenantUnload_keeps _ _ _
  | .tenantHold .. => execTenantHold_keeps _ _ _
  | .tenantResume .. => execTenantResume_keeps _ _ _
  | .preemptGraceExpiry .. => execPreemptGraceExpiry_keeps _ _
  | .schedulerDecision .. => execSchedulerDecision_keeps _ _
  | .saveTenant .. => execSaveTenant_keeps _ _
  | .reloadTenant .. => execReloadTenant_keeps _ _
  | .deadlineCheck => execDeadlineCheck_keeps _
  | .lockAccess .. => execLockAccess_keeps _ _ _ _ _
  | .producer .. => execProducer_keeps _ _ _ _ _
  | .consumer .. => execConsumer_keeps _ _ _ _ _
  | .ringSet .. => execRingSet_keeps _ _ _ _ _ _
  | .doorbellSet .. => execDoorbellSet_keeps _ _ _ _ _
  | .doorbellStatus .. => execDoorbellStatus_keeps _ _ _ _ _
  | .doorbellMask .. => execDoorbellMask_keeps _ _ _ _ _
  | .identityReset .. => execIdentityReset_keeps _ _
  | .noticePost .. => execNoticePost_keeps _ _
  | .hardwareReceiverTake .. => execHardwareReceiverTake_keeps _ _ _
  | .watchdogRestart => execWatchdogRestart_keeps _
  | .sensorSample .. => execSensorSample_keeps _ _ _ _ _ _ _
  | .capEvaluation => execCapEvaluation_keeps _
  | .leak .. => execLeak_keeps _ _
  | .supplyWarningLog => execSupplyWarningLog_keeps _
  | .logWindow => execLogWindow_keeps _
  | .dictionaryWrite .. => execDictionaryWrite_keeps _ _ _ _ _ _ _
  | .usdoTransfer .. => execUsdoTransfer_keeps _ _ _ _ _ _ _ _
  | .usdoIdleTimeout .. => execUsdoIdleTimeout_keeps _ _
  | .nmtCommand .. => execNmtCommand_keeps _ _ _
  | .heartbeat => execHeartbeat_keeps _
  | .datagramRead .. => execDatagramRead_keeps _ _ _ _
  | .datagramWrite .. => execDatagramWrite_keeps _ _ _ _ _ _
  | .partialWriteTimeout .. => execPartialWriteTimeout_keeps _ _ _ _
  | .dictCommandRead .. => execDictCommandRead_keeps _ _
  | .dictCommandWriteSegment .. => execDictCommandWriteSegment_keeps _ _
  | .dictCommandWrite .. => execDictCommandWrite_keeps _ _ _
  | .leaseAcquire .. => execLeaseAcquire_keeps _ _
  | .leaseRelease .. => execLeaseRelease_keeps _ _
  | .leaseExpiry => execLeaseExpiry_keeps _
  | .beginUpdate .. => execBeginUpdate_keeps _ _
  | .fwData .. => execFwData_keeps _ _ _ _
  | .fwFetch .. => execFwFetch_keeps _ _
  | .verifyImage .. => execVerifyImage_keeps _ _
  | .activateSlot .. => execActivateSlot_keeps _ _
  | .commitTrial .. => execCommitTrial_keeps _ _
  | .abortUpdate .. => execAbortUpdate_keeps _ _
  | .trialTimeout => execTrialTimeout_keeps _
  | .restoreAllDefaults .. => execRestoreAllDefaults_keeps _ _
  | .admitPort .. => execAdmitPort_keeps _ _ _
  | .admitPeer .. => execAdmitPeer_keeps _ _ _
  | .loaderFetch .. => execLoaderFetch_keeps _ _
  | .loaderNoAnswer => execLoaderNoAnswer_keeps _
  | .getVersion .. => execGetVersion_keeps _ _ _
  | .getCapabilities .. => execGetCapabilities_keeps _ _ _ _
  | .negotiateAlgorithms .. => execNegotiateAlgorithms_keeps _ _ _ _ _
  | .getDigests .. => execGetDigests_keeps _ _ _ _
  | .getCertificate .. => execGetCertificate_keeps _ _ _ _ _ _ _
  | .challenge .. => execChallenge_keeps _ _ _ _ _ _ _
  | .getMeasurements .. => execGetMeasurements_keeps _ _ _ _ _ _ _ _
  | .pcieAccess .. => execPcieAccess_keeps _ _ _ _ _ _ _ _ _ _
  | .functionLevelReset .. => execFunctionLevelReset_keeps _ _
  | .pcieHotReset => execPcieHotReset_keeps _
  | .ppsEdge .. => execPpsEdge_keeps _ _ _
  | .inputSwitchClose .. => execInputSwitchClose_keeps _ _
  | .linkTrainingLimit .. => execLinkTrainingLimit_keeps _ _
  | .landingEntryFree .. => execLandingEntryFree_keeps _ _ _
  | .receiveUnitsFreed .. => execReceiveUnitsFreed_keeps _ _
  | .peerExchangeTimeout .. => execPeerExchangeTimeout_keeps _ _
  | .spdmResponse .. => execSpdmResponse_keeps _ _ _ _ _ _
  | .identityCheckTimeout .. => execIdentityCheckTimeout_keeps _ _
  | .pathUsableAgain .. => execPathUsableAgain_keeps _ _ _
  | .qpRateRecovery .. => execQpRateRecovery_keeps _ _
  | .receiverWake .. => execReceiverWake_keeps _ _
  | .recordCopyToFlash => execRecordCopyToFlash_keeps _

/-- A step keeps the canonical form of memory and does not lower the stored security version. -/
theorem step_keeps (s : State) : OnNext (step s) (Keeps s) := step_onNext Keeps.refl exec_keeps keeps_front s

end Sys2Proof.Machine
end

section
open Sys2Proof Sys2Proof.Machine

/-- Settles O59: every command keeps the canonical form, and a step is the front command or idle. -/
theorem memoryStaysCanonical : Obligations.MemoryStaysCanonical := by
  unfold Obligations.MemoryStaysCanonical
  intro s t h e
  exact (step_keeps s t e).1 h

end

section
/-! PROOF. The state after reset (O3). -/

open Sys2Proof Sys2Proof.Machine

/-- Settles O3: every part is the reset state's own value, and an empty memory reads 0 everywhere. -/
theorem resetState : Obligations.ResetState := by
  have modState : State.reset.modState = .standby := rfl
  have wf : Memory.wf State.reset.mem = true := rfl
  have pending : State.reset.pending = [] := rfl
  have clean : ∀ a, memByte State.reset.mem a = 0 := fun _ => rfl
  exact ⟨modState, wf, pending, by decide, by decide, by decide, by decide, by decide, by decide, clean⟩

end

section
/-! PROOF. Which dictionary entries the shared operations leave as they were. -/

namespace Sys2Proof.Machine
open Sys2Proof

/-! ## Folds of a relation between states -/

/-- A reflexive and transitive relation that every step of a fold meets relates its ends. -/
theorem foldl_related {β : Type} (R : State → State → Prop) (refl : ∀ s, R s s) (trans : ∀ {s t u}, R s t → R t u → R s u)
    (f : State → β → State) (h : ∀ t e, R t (f t e)) (l : List β) (s : State) : R s (l.foldl f s) := by
  induction l generalizing s with
  | nil => exact refl s
  | cons e r ih => exact trans (h s e) (ih _)

/-! ## Which entries an operation leaves -/

/-- An entry reads as its cell and the straps give it. -/
theorem State.dget_congr {s t : State} (d : t.dict = s.dict) (p : t.power.straps = s.power.straps) (idx sub : Nat) :
    t.dget idx sub = s.dget idx sub := by
  simp only [State.dget, d, p]

theorem State.dclear_dget (s : State) (idx sub j b : Nat) (h : sub < 256) (h' : b < 256) :
    (s.dclear idx sub).dget j b = if idx = j ∧ sub = b then dictDefault s.power.straps j b else s.dget j b := by
  simp only [State.dget, State.dclear, kfind_kerase, dictKey_inj h h']
  by_cases e : idx = j ∧ sub = b
  · rw [if_pos e, if_pos e]
  · rw [if_neg e, if_neg e]

theorem State.dclear_dget_other (s : State) (idx sub j b : Nat) (h : sub < 256) (h' : b < 256) (n : idx ≠ j ∨ sub ≠ b) :
    (s.dclear idx sub).dget j b = s.dget j b := by
  rw [State.dclear_dget s idx sub j b h h', if_neg (by omega)]

theorem State.dcount_dget_other (s : State) (idx sub n j b : Nat) (h : sub < 256) (h' : b < 256) (e : idx ≠ j ∨ sub ≠ b) :
    (s.dcount idx sub n).dget j b = s.dget j b := State.dset_dget_other s idx sub _ j b h h' e

theorem IndexKept.refl (s : State) (l : List Nat) : IndexKept s s l := fun _ _ _ _ => rfl

theorem IndexKept.trans {s t u : State} {l : List Nat} (h : IndexKept s t l) (k : IndexKept t u l) : IndexKept s u l :=
  fun idx sub b n => (k idx sub b n).trans (h idx sub b n)

theorem IndexKept.mono {s t : State} {l m : List Nat} (h : IndexKept s t l) (i : l ⊆ m) : IndexKept s t m :=
  fun idx sub b n => h idx sub b fun e => n (i e)

theorem indexKept_of_dict {s t : State} (d : t.dict = s.dict) (p : t.power.straps = s.power.straps) (l : List Nat) :
    IndexKept s t l := fun idx sub _ _ => State.dget_congr d p idx sub

theorem foldl_indexKept {β : Type} {l : List Nat} (f : State → β → State) (h : ∀ t e, IndexKept t (f t e) l) (es : List β)
    (s : State) : IndexKept s (es.foldl f s) l :=
  foldl_related (fun a b => IndexKept a b l) (fun a => IndexKept.refl a l) IndexKept.trans f h es s

theorem dset_indexKept (s : State) (idx v : Nat) {sub : Nat} (h : sub < 256) : IndexKept s (s.dset idx sub v) [idx] :=
  fun j b hb n => State.dset_dget_other s idx sub v j b h hb (.inl fun e => n (by simp [e]))

theorem dcount_indexKept (s : State) (idx n : Nat) {sub : Nat} (h : sub < 256) : IndexKept s (s.dcount idx sub n) [idx] :=
  dset_indexKept s idx _ h

theorem log_indexKept (s : State) (source event severity a b : Nat) :
    IndexKept s (s.log source event severity a b) [0x50D0] := by
  unfold State.log
  split
  · exact indexKept_of_dict rfl rfl _
  · exact (IndexKept.trans (indexKept_of_dict rfl rfl _) (dcount_indexKept _ _ _ (by decide))).trans
      (dset_indexKept _ _ _ (by decide))

/-- The first-case entry of every record area lies within its index. -/
theorem firstSub_lt {idx sub : Nat} (h : firstSub idx = some sub) : sub < 256 := by
  have small : ∀ (p : Prop) [Decidable p] (v : Nat) (o : Option Nat), v < 256 → (∀ x ∈ o, x < 256) →
      ∀ x ∈ (if p then some v else o), x < 256 := by
    intro p _ v o hv ho x hx
    by_cases hp : p
    · rw [if_pos hp, Option.mem_some_iff] at hx; omega
    · rw [if_neg hp] at hx; exact ho x hx
  refine (?_ : ∀ x ∈ firstSub idx, x < 256) sub h
  unfold firstSub
  iterate 16 refine small _ _ _ (by decide) ?_
  exact nofun

theorem recordFirst_indexKept (s : State) (idx v : Nat) : IndexKept s (s.recordFirst idx v) [idx] := by
  unfold State.recordFirst
  split
  · exact IndexKept.refl _ _
  · next h =>
    split
    · exact dset_indexKept _ _ _ (firstSub_lt h)
    · exact IndexKept.refl _ _

/-- A case of a sticky record changes its own record area, and the log's where the entry is dropped (R502, R583). -/
theorem recordWith_indexKept (s : State) (idx flag : Nat) {counts : List (Nat × Nat)} (first : Option Nat) (b : Nat)
    (h : ∀ e ∈ counts, e.1 < 256) : IndexKept s (s.recordWith idx flag counts first b) [idx, 0x50D0] := by
  have counted : ∀ (l : List (Nat × Nat)) (t : State), (∀ e ∈ l, e.1 < 256) →
      IndexKept t (l.foldl (fun t c => t.dcount idx c.1 c.2) t) [idx] := by
    intro l
    induction l with
    | nil => exact fun t _ => IndexKept.refl t _
    | cons e r ih =>
      intro t hl
      exact (dcount_indexKept t idx e.2 (hl e (by simp))).trans (ih _ fun x hx => hl x (by simp [hx]))
  unfold State.recordWith
  refine IndexKept.trans ?_ ((log_indexKept _ _ _ _ _ _).mono (by simp))
  refine IndexKept.trans ?_ ((dset_indexKept _ _ _ (by decide)).mono (by simp))
  refine IndexKept.mono (l := [idx]) ?_ (by simp)
  cases first with
  | none => exact counted counts s h
  | some v => exact (counted counts s h).trans (recordFirst_indexKept _ _ _)

theorem record_indexKept (s : State) (idx flag : Nat) {counts : List (Nat × Nat)} (first : Option Nat)
    (h : ∀ e ∈ counts, e.1 < 256) : IndexKept s (s.record idx flag counts first) [idx, 0x50D0] :=
  recordWith_indexKept s idx flag first 0 h

/-! ## What a sticky record holds (R583) -/

/-- The flag of a case reads 1. -/
theorem record_flag (s : State) {idx flag : Nat} (counts : List (Nat × Nat)) (first : Option Nat) (h : idx ≠ 0x50D0) :
    bit ((s.record idx flag counts first).dget idx 1) flag = true := by
  unfold State.record State.recordWith
  dsimp only
  rw [log_indexKept _ _ _ _ _ _ idx 1 (by decide) (by simp [h]), State.dset_dget_same]
  simp [bit, setBit]

/-- A counter of a case is raised once, where the case counts it alone and its first-case entry is another. -/
theorem record_count (s : State) {idx flag sub n : Nat} (first : Option Nat) (h : idx ≠ 0x50D0) (small : sub < 256) (notFlags : sub ≠ 1)
    (notFirst : firstSub idx ≠ some sub) :
    (s.record idx flag [(sub, n)] first).dget idx sub = countUp (entryBytes idx sub) (s.dget idx sub) n := by
  unfold State.record State.recordWith
  simp only [List.foldl_cons, List.foldl_nil]
  rw [log_indexKept _ _ _ _ _ _ idx sub small (by simp [h]),
    State.dset_dget_other _ _ _ _ _ _ (by decide) small (.inr (Ne.symm notFlags))]
  cases first with
  | none => exact State.dcount_dget_same s _ _ _
  | some v =>
    dsimp only
    unfold State.recordFirst
    split
    · exact State.dcount_dget_same s _ _ _
    next sub' e =>
      split
      · have other : sub' ≠ sub := fun k => notFirst (by rw [e, k])
        rw [State.dset_dget_other _ _ _ _ _ _ (firstSub_lt e) small (.inr other), State.dcount_dget_same]
      · exact State.dcount_dget_same s _ _ _

end Sys2Proof.Machine

end

section
/-! PROOF. What notices, a change of `MODULE_STATE` and a change of a tenant's state leave as it was. -/

namespace Sys2Proof.Machine
open Sys2Proof

/-! ## What a notice may change (R484, R489, R501, R511) -/

/-- A notice posts records in memory, moves the directions of a mailbox, notifies receivers and writes records and the log; a change of
state latches the reserve sizes as well (R299). Everything else stands. -/
structure NoticeFrame (s t : State) : Prop where
  parts : t = { s with
    out := t.out, freeCount := t.freeCount, dict := t.dict, garnet := t.garnet
    mail := t.mail, zoning := t.zoning, mem := t.mem, poison := t.poison }
  log : LogOnly s t
  dirs : t.mail = { s.mail with dirs := t.mail.dirs }
  reserves : t.zoning = { s.zoning with stashMiB := t.zoning.stashMiB, overlayMiB := t.zoning.overlayMiB }

namespace NoticeFrame

variable {s t u : State}

theorem refl (s : State) : NoticeFrame s s := ⟨rfl, rfl, rfl, rfl⟩

theorem trans (h : NoticeFrame s t) (k : NoticeFrame t u) : NoticeFrame s u where
  parts := by rw [k.parts, h.parts]
  log := h.log.trans k.log
  dirs := by rw [k.dirs, h.dirs]
  reserves := by rw [k.reserves, h.reserves]

theorem pending (h : NoticeFrame s t) : t.pending = s.pending := by rw [h.parts]
theorem power (h : NoticeFrame s t) : t.power = s.power := by rw [h.parts]
theorem quartz (h : NoticeFrame s t) : t.quartz = s.quartz := by rw [h.parts]
theorem net (h : NoticeFrame s t) : t.net = s.net := by rw [h.parts]
theorem blocks (h : NoticeFrame s t) : t.blocks = s.blocks := by rw [h.parts]
theorem plaza (h : NoticeFrame s t) : t.plaza = s.plaza := by rw [h.parts]
theorem contexts (h : NoticeFrame s t) : t.contexts = s.contexts := by rw [h.parts]
theorem cairn (h : NoticeFrame s t) : t.cairn = s.cairn := by rw [h.parts]
theorem parked (h : NoticeFrame s t) : t.parked = s.parked := by rw [h.parts]
theorem tenancy (h : NoticeFrame s t) : t.tenancy = s.tenancy := by rw [h.parts]
theorem sets (h : NoticeFrame s t) : t.sets = s.sets := by rw [h.parts]
theorem staging (h : NoticeFrame s t) : t.staging = s.staging := by rw [h.parts]
theorem sampled (h : NoticeFrame s t) : t.sampled = s.sampled := by rw [h.parts]
theorem binding (h : NoticeFrame s t) : t.mail.binding = s.mail.binding := by rw [h.dirs]
theorem locked (h : NoticeFrame s t) : t.mail.locked = s.mail.locked := by rw [h.dirs]
theorem asleep (h : NoticeFrame s t) : t.mail.asleep = s.mail.asleep := by rw [h.dirs]
theorem evac (h : NoticeFrame s t) : t.zoning.evac = s.zoning.evac := by rw [h.reserves]

end NoticeFrame

theorem RecordOnly.noticeFrame {s t : State} (h : RecordOnly s t) : NoticeFrame s t where
  parts := by rw [h.1]
  log := h.2
  dirs := by rw [h.1]
  reserves := by rw [h.1]

theorem emit_noticeFrame (s : State) (o : Out) : NoticeFrame s (s.emit o) := ⟨rfl, rfl, rfl, rfl⟩
theorem setMailDir_noticeFrame (s : State) (ch dir : Nat) (m : MailDir) : NoticeFrame s (setMailDir s ch dir m) :=
  ⟨rfl, rfl, rfl, rfl⟩
theorem writeTagged_noticeFrame (s : State) (a : Nat) (bs : List TByte) : NoticeFrame s (writeTagged s a bs) :=
  ⟨rfl, rfl, rfl, rfl⟩
theorem latchReserves_noticeFrame (s : State) : NoticeFrame s (latchReserves s) := ⟨rfl, rfl, rfl, rfl⟩

/-- What a notice leaves: its frame, and every entry outside the mailbox and log records. -/
def Notice.Quiet (s t : State) : Prop := NoticeFrame s t ∧ IndexKept s t [0x50C0, 0x50D0]

namespace Notice.Quiet

variable {s t u : State}

theorem refl (s : State) : Notice.Quiet s s := ⟨NoticeFrame.refl s, IndexKept.refl s _⟩
theorem trans (h : Notice.Quiet s t) (k : Notice.Quiet t u) : Notice.Quiet s u := ⟨h.1.trans k.1, h.2.trans k.2⟩

/-- An operation that leaves the dictionary and the power alone is quiet where its frame is a notice's. -/
theorem of_dict (h : NoticeFrame s t) (d : t.dict = s.dict) : Notice.Quiet s t :=
  ⟨h, indexKept_of_dict d (by rw [h.power]) _⟩

end Notice.Quiet

theorem mailRecord_quiet (s : State) (flag : Nat) {counts : List (Nat × Nat)} (first : Option Nat)
    (h : ∀ e ∈ counts, e.1 < 256) : Notice.Quiet s (s.record 0x50C0 flag counts first) :=
  ⟨(record_recordOnly s _ _ _ _).noticeFrame, record_indexKept s 0x50C0 flag first h⟩

theorem log_quiet (s : State) (source event severity a b : Nat) : Notice.Quiet s (s.log source event severity a b) :=
  ⟨(log_recordOnly s _ _ _ _ _).noticeFrame, (log_indexKept s _ _ _ _ _).mono (by simp)⟩

theorem emit_quiet (s : State) (o : Out) : Notice.Quiet s (s.emit o) := .of_dict (emit_noticeFrame s o) rfl

theorem setMailDir_quiet (s : State) (ch dir : Nat) (m : MailDir) : Notice.Quiet s (setMailDir s ch dir m) :=
  .of_dict (setMailDir_noticeFrame s ch dir m) rfl

theorem writeTagged_quiet (s : State) (a : Nat) (bs : List TByte) : Notice.Quiet s (writeTagged s a bs) :=
  .of_dict (writeTagged_noticeFrame s a bs) rfl

theorem mailNotify_quiet (s : State) (ch dir : Nat) : Notice.Quiet s (mailNotify s ch dir) := by
  unfold mailNotify
  dsimp only
  split
  · exact emit_quiet s _
  · exact emit_quiet s _

theorem mailRing_quiet (s : State) (ch dir : Nat) : Notice.Quiet s (mailRing s ch dir) := by
  unfold mailRing
  dsimp only
  split
  · split
    · exact (setMailDir_quiet s _ _ _).trans (emit_quiet _ _)
    · exact setMailDir_quiet s _ _ _
  · exact mailNotify_quiet s _ _

theorem mailUpdate_quiet (s : State) (ch dir : Nat) (m : MailDir) : Notice.Quiet s (mailUpdate s ch dir m) := by
  unfold mailUpdate
  dsimp only
  split
  · exact (setMailDir_quiet s _ _ _).trans (mailRing_quiet _ _ _)
  · exact setMailDir_quiet s _ _ _

theorem postRecord_quiet (s : State) (ident ch dir : Nat) (n : Notice) : Notice.Quiet s (postRecord s ident ch dir n) := by
  unfold postRecord
  exact (writeTagged_quiet s _ _).trans (mailUpdate_quiet _ _ _ _)

theorem postNotice_quiet (s : State) (ident ch kind tag : Nat) : Notice.Quiet s (postNotice s ident ch kind tag) := by
  unfold postNotice
  dsimp only
  split
  · exact .refl s
  · split
    · exact mailRecord_quiet s _ _ (by simp)
    · split
      · exact postRecord_quiet s _ _ _ _
      · split
        · exact setMailDir_quiet s _ _ _
        · exact mailRecord_quiet s _ _ (by simp)

theorem garnetNotice_quiet (s : State) (kind tag : Nat) : Notice.Quiet s (garnetNotice s kind tag) :=
  foldl_related Notice.Quiet .refl .trans _ (fun t p => postNotice_quiet t 5 (4 * p) kind tag) _ s

/-- A change of `MODULE_STATE` is logged and posted, and latches the reserve sizes (R299, R501, R511). -/
theorem noteState_quiet (was : ModState) (s : State) : Notice.Quiet s (noteState was s) := by
  unfold noteState
  split
  · exact .refl s
  · dsimp only
    refine Notice.Quiet.trans ?_ (garnetNotice_quiet _ _ _)
    refine Notice.Quiet.trans ?_ (log_quiet _ _ _ _ _ _)
    split
    · exact .of_dict (latchReserves_noticeFrame s) rfl
    · exact .refl s

theorem sequencerNotice_quiet (s : State) (ctx kind tag : Nat) : Notice.Quiet s (sequencerNotice s ctx kind tag) :=
  postNotice_quiet s 6 _ kind tag

/-! ## A tenant's state -/

theorem setTenantState_noticeFrame (s : State) (t v : Nat) : NoticeFrame s (setTenantState s t v) := by
  unfold setTenantState
  dsimp only
  split
  · exact .refl s
  · exact (dset_recordOnly s _ _ _).noticeFrame.trans ((sequencerNotice_quiet _ _ _ _).1.trans (noteState_quiet _ _).1)

/-- A change of a tenant's state writes `TENANT_STATE`, and the records of its notices (R451). -/
theorem setTenantState_dget (s : State) (t v idx sub : Nat) (h : sub < 256) (m : idx ≠ 0x50C0) (l : idx ≠ 0x50D0)
    (n : 0x6070 + t ≠ idx ∨ sub ≠ 5) : (setTenantState s t v).dget idx sub = s.dget idx sub := by
  have hl : idx ∉ [0x50C0, 0x50D0] := by simp [m, l]
  unfold setTenantState
  dsimp only
  split
  · rfl
  · rw [(noteState_quiet _ _).2 idx sub h hl, (sequencerNotice_quiet _ _ _ _).2 idx sub h hl]
    exact State.dset_dget_other s _ _ _ _ _ (by decide) h (by omega)

theorem setTenantState_indexKept (s : State) (t v : Nat) : IndexKept s (setTenantState s t v) [0x6070 + t, 0x50C0, 0x50D0] := by
  intro idx sub h n
  simp only [List.mem_cons, List.not_mem_nil, or_false, not_or] at n
  exact setTenantState_dget s t v idx sub h n.2.1 n.2.2 (.inl (Ne.symm n.1))

/-- The tenant's state afterwards (R451). -/
theorem setTenantState_tenantState (s : State) (t v : Nat) : (setTenantState s t v).tenantState t = v := by
  have hl : 0x6070 + t ∉ [0x50C0, 0x50D0] := by simp; omega
  unfold setTenantState
  dsimp only
  split
  · assumption
  · unfold State.tenantState
    rw [(noteState_quiet _ _).2 _ 5 (by decide) hl, (sequencerNotice_quiet _ _ _ _).2 _ 5 (by decide) hl]
    exact State.dset_dget_same s _ _ _

end Sys2Proof.Machine

end

section
/-! PROOF. Entry into STANDBY and OFF: what is empty afterwards, and what the controller keeps (O5). -/

namespace Sys2Proof.Machine
open Sys2Proof

/-! ## An unpowered Square posts nothing (R487) -/

theorem postNotice_unpowered {s : State} (h : s.squareUp = false) (ident ch kind tag : Nat) :
    postNotice s ident ch kind tag = s := by
  unfold postNotice
  simp [h]

theorem garnetNotice_unpowered {s : State} (h : s.squareUp = false) (kind tag : Nat) : garnetNotice s kind tag = s :=
  List.foldlRecOn (motive := (· = s)) _ _ rfl fun t e p _ => by rw [e, postNotice_unpowered h]

theorem RecordOnly.squareUp {s t : State} (h : RecordOnly s t) : t.squareUp = s.squareUp := by
  unfold State.squareUp; rw [h.power]

/-- A change of state of an unpowered Square is logged, and nothing more. -/
theorem noteState_unpowered {s : State} (h : s.squareUp = false) (was : ModState) : RecordOnly s (noteState was s) := by
  have notReady : s.modState ≠ .ready := by
    unfold State.squareUp at h
    unfold State.modState
    cases e : s.power.state <;> simp [e] at h ⊢
  unfold noteState
  split
  · exact RecordOnly.refl s
  · dsimp only
    have logged : RecordOnly s (s.logChange 0x4000 1) := log_recordOnly s _ _ _ _ _
    rw [garnetNotice_unpowered (logged.squareUp.trans h)]
    exact logged

/-! ## What blocks lose (R97, R124) -/

/-- The bytes, the poison and the registers of blocks, and the remap entries of copies that end, are all that a loss changes. -/
def LossFrame (s t : State) : Prop :=
  t = { s with mem := t.mem, poison := t.poison, blocks := t.blocks, zoning := { s.zoning with remap := t.zoning.remap } }

theorem LossFrame.refl (s : State) : LossFrame s s := rfl

theorem LossFrame.trans {s t u : State} (h : LossFrame s t) (k : LossFrame t u) : LossFrame s u := by
  unfold LossFrame at *
  rw [k, h]

theorem LossFrame.power {s t : State} (h : LossFrame s t) : t.power = s.power := by rw [h]
theorem LossFrame.garnet {s t : State} (h : LossFrame s t) : t.garnet = s.garnet := by rw [h]
theorem LossFrame.dict {s t : State} (h : LossFrame s t) : t.dict = s.dict := by rw [h]
theorem LossFrame.mail {s t : State} (h : LossFrame s t) : t.mail = s.mail := by rw [h]
theorem LossFrame.net {s t : State} (h : LossFrame s t) : t.net = s.net := by rw [h]
theorem LossFrame.out {s t : State} (h : LossFrame s t) : t.out = s.out := by rw [h]
theorem LossFrame.contexts {s t : State} (h : LossFrame s t) : t.contexts = s.contexts := by rw [h]
theorem LossFrame.cairn {s t : State} (h : LossFrame s t) : t.cairn = s.cairn := by rw [h]
theorem LossFrame.tenancy {s t : State} (h : LossFrame s t) : t.tenancy = s.tenancy := by rw [h]
theorem LossFrame.evac {s t : State} (h : LossFrame s t) : t.zoning.evac = s.zoning.evac := by rw [h]
theorem LossFrame.dget {s t : State} (h : LossFrame s t) (idx sub : Nat) : t.dget idx sub = s.dget idx sub :=
  State.dget_congr h.dict (by rw [h.power]) idx sub

theorem setRemap_lossFrame (s : State) (p bank i : Nat) (r : Remap) : LossFrame s (s.setRemap p bank i r) := rfl

theorem adoptSpare_lossFrame (s : State) (p bank i : Nat) : LossFrame s (adoptSpare s p bank i) := by
  unfold adoptSpare
  dsimp only
  split
  · exact (setRemap_lossFrame s _ _ _ _).trans (setRemap_lossFrame _ _ _ _ _)
  · exact setRemap_lossFrame s _ _ _ _

theorem finishCopies_lossFrame (s : State) (p : Nat → Bool) : LossFrame s (finishCopies s p) := by
  unfold finishCopies
  dsimp only
  refine foldl_related LossFrame LossFrame.refl LossFrame.trans _ (fun t e => ?_) _ s
  refine LossFrame.trans ?_ (adoptSpare_lossFrame _ _ _ _)
  exact rfl

theorem loseBlocks_lossFrame (s : State) (p : Nat → Bool) : LossFrame s (loseBlocks s p) := by
  unfold loseBlocks
  refine LossFrame.trans ?_ (finishCopies_lossFrame _ p)
  exact rfl

theorem abandonEvacs_recordOnly (kind : Nat) (s : State) (l : List Evac) : RecordOnly s (l.foldl (abandonEvac kind) s) :=
  foldl_recordOnly _ (fun _ _ => record_recordOnly _ _ _ _ _) l s

/-! ## The Square without power (R562) -/

theorem squareLost_power (s : State) : (squareLost s).power = s.power :=
  (loseBlocks_lossFrame _ _).power.trans (abandonEvacs_recordOnly 1 s _).power

theorem squareLost_logOnly (s : State) : LogOnly s (squareLost s) := by
  have h := (abandonEvacs_recordOnly 1 s s.zoning.evac).2
  have k : (squareLost s).garnet = (s.zoning.evac.foldl (abandonEvac 1) s).garnet := (loseBlocks_lossFrame _ _).garnet
  unfold LogOnly at h ⊢
  rw [k]
  exact h

theorem squareLost_squareEmpty (s : State) : SquareEmpty (squareLost s) :=
  ⟨rfl, rfl, rfl, rfl, rfl, rfl, rfl, rfl, rfl, rfl, rfl, rfl, rfl, rfl, rfl, rfl⟩

/-- Only the controller has changed: its registers, the dictionary and the count of free values. -/
def ControllerOnly (s t : State) : Prop := t = { s with dict := t.dict, garnet := t.garnet, freeCount := t.freeCount }

theorem ControllerOnly.refl (s : State) : ControllerOnly s s := rfl

theorem ControllerOnly.trans {s t u : State} (h : ControllerOnly s t) (k : ControllerOnly t u) : ControllerOnly s u := by
  unfold ControllerOnly at *
  rw [k, h]

theorem RecordOnly.controllerOnly {s t : State} (h : RecordOnly s t) : ControllerOnly s t := h.1

theorem ControllerOnly.power {s t : State} (h : ControllerOnly s t) : t.power = s.power := by rw [h]

theorem ControllerOnly.squareUp {s t : State} (h : ControllerOnly s t) : t.squareUp = s.squareUp := by
  unfold State.squareUp; rw [h.power]

theorem ControllerOnly.squareEmpty {s t : State} (h : ControllerOnly s t) (k : SquareEmpty s) : SquareEmpty t := by
  rw [h]
  exact k

/-! ## Entry into STANDBY and OFF -/

theorem freeLease_controllerOnly (s : State) : ControllerOnly s (freeLease s) := by
  unfold freeLease
  refine ControllerOnly.trans ?_ (log_recordOnly _ _ _ _ _ _).controllerOnly
  exact rfl

/-- The lease ends without a notice where the Square is unpowered (R510). -/
theorem endLease_unpowered {s : State} (h : s.squareUp = false) : ControllerOnly s (endLease s) := by
  unfold endLease
  dsimp only
  split
  · exact ControllerOnly.refl s
  · have freed : ControllerOnly s ((freeLease s).record 0x50D0 2 [(5, 1)] none) :=
      (freeLease_controllerOnly s).trans (record_recordOnly _ _ _ _ _).controllerOnly
    rw [garnetNotice_unpowered (freed.squareUp.trans h)]
    exact freed

/-- What entry into STANDBY ends: requests, the rails, the survey and the boot (R562). -/
def Power.ended (p : Power) : Power :=
  { p with
    request := none, followUp := false, railsUp := 0, microDone := false, healthDone := false
    blocksDone := false, microDigest := 0, bootLength := 0, bootStatus := 0, pcieUp := false, restoreMark := false }

/-- The module between the loss of the Square and the new state of its power: the lease has ended, and the controller keeps what survives
(R510, R528). -/
def standbyLeft (s : State) : State :=
  let a := endLease (squareLost { s with power := { s.power with state := .standby } })
  standbyGarnet { a with dict := standbyCells a }

theorem enterStandby_eq (s : State) :
    enterStandby s = noteState s.modState { standbyLeft s with power := (standbyLeft s).power.ended } := rfl

theorem standbyLeft_controllerOnly (s : State) :
    ControllerOnly (squareLost { s with power := { s.power with state := .standby } }) (standbyLeft s) := by
  unfold standbyLeft
  have atStandby := squareLost_power { s with power := { s.power with state := .standby } }
  generalize squareLost { s with power := { s.power with state := .standby } } = a at atStandby ⊢
  have low : a.squareUp = false := by unfold State.squareUp; rw [atStandby]
  exact (endLease_unpowered low).trans rfl

theorem standbyLeft_power (s : State) : (standbyLeft s).power = { s.power with state := .standby } :=
  (standbyLeft_controllerOnly s).power.trans (squareLost_power _)

/-- The change into STANDBY is logged, and nobody is notified. -/
theorem enterStandby_recordOnly (s : State) :
    RecordOnly { standbyLeft s with power := (standbyLeft s).power.ended } (enterStandby s) := by
  rw [enterStandby_eq]
  have atStandby := standbyLeft_power s
  generalize standbyLeft s = d at atStandby ⊢
  refine noteState_unpowered (s := { d with power := d.power.ended }) ?_ s.modState
  simp [State.squareUp, Power.ended, atStandby]

theorem enterStandby_power (s : State) : (enterStandby s).power = { s.power.ended with state := .standby } := by
  rw [(enterStandby_recordOnly s).power]
  show (standbyLeft s).power.ended = _
  rw [standbyLeft_power]
  rfl

theorem enterStandby_squareEmpty (s : State) : SquareEmpty (enterStandby s) := by
  have left : SquareEmpty (standbyLeft s) := (standbyLeft_controllerOnly s).squareEmpty (squareLost_squareEmpty _)
  have powered : SquareEmpty { standbyLeft s with power := (standbyLeft s).power.ended } := left
  exact (enterStandby_recordOnly s).controllerOnly.squareEmpty powered

theorem enterOff_flash (s : State) : (enterOff s).garnet.flash = s.garnet.flash ∧ (enterOff s).garnet.flashLog = s.garnet.flashLog := by
  have h := squareLost_logOnly { s with power := { s.power with state := .off } }
  have flash : (enterOff s).garnet.flash = (squareLost { s with power := { s.power with state := .off } }).garnet.flash := rfl
  have flashLog : (enterOff s).garnet.flashLog = (squareLost { s with power := { s.power with state := .off } }).garnet.flashLog := rfl
  rw [flash, flashLog, h]
  exact ⟨rfl, rfl⟩

theorem enterOff_squareEmpty (s : State) : SquareEmpty (enterOff s) := by
  have e : enterOff s = { squareLost { s with power := { s.power with state := .off } } with
      dict := (enterOff s).dict, power := (enterOff s).power, garnet := (enterOff s).garnet } := rfl
  rw [e]
  exact squareLost_squareEmpty { s with power := { s.power with state := .off } }

/-! ## RESET and POWER_DOWN (R38, R44, R552) -/

theorem setTransition_dget_status (s : State) (v : Nat) : (setTransition s v).dget 0x4000 5 = v := State.dset_dget_same s _ _ _

/-- `RESET` completes in STANDBY, with `TRANSITION_STATUS` `DONE`. -/
theorem resetModule_power (s : State) : (resetModule s).power = { s.power.ended with state := .standby, fromDown := false } :=
  enterStandby_power _

theorem resetModule_squareEmpty (s : State) : SquareEmpty (resetModule s) := by
  have standby := enterStandby_squareEmpty (s.setPower fun p => { p with fromDown := false })
  unfold resetModule
  generalize enterStandby (s.setPower fun p => { p with fromDown := false }) = t at standby ⊢
  exact standby

theorem resetModule_dget_status (s : State) : (resetModule s).dget 0x4000 5 = 1 := by
  unfold resetModule
  exact setTransition_dget_status _ 1

theorem powerDown_power (s : State) : (powerDown s).power = { s.power.ended with state := .standby, fromDown := true } := by
  have h : (powerDown s).power = { (enterStandby s).power with fromDown := true } := rfl
  rw [h, enterStandby_power]

theorem powerDown_dget_status (s : State) : (powerDown s).dget 0x4000 5 = 1 := by
  unfold powerDown
  exact setTransition_dget_status _ 1

theorem powerDown_squareEmpty (s : State) : SquareEmpty (powerDown s) := by
  have down : SquareEmpty (enterStandby s) := enterStandby_squareEmpty s
  unfold powerDown
  generalize enterStandby s = t at down ⊢
  exact down

/-- An accepted `RESET` cancels what is pending and takes effect at once (R38). -/
theorem requestReset_accepted {s : State} {r : Requester} (h : Accepted s r 0x4000 2 1 8) :
    requestReset s r = (resetModule (s.dset 0x4000 2 8)).emit (.answer r 0 0) := by
  have accepted : acceptReset s = (0, resetModule (s.dset 0x4000 2 8)) := by simp [acceptReset, acceptRequest]
  unfold requestReset
  rw [guardedWrite_accepted _ h, accepted, State.reply_eq_emit]

/-- A `POWER_DOWN` from READY takes effect at once (R552). -/
theorem requestPowerDown_accepted {s : State} {r : Requester} (h : Accepted s r 0x4000 2 1 7) (free : s.power.request = none)
    (ready : s.modState = .ready) : requestPowerDown s r = (powerDown (s.dset 0x4000 2 7)).emit (.answer r 0 0) := by
  have accepted : acceptPowerDown s = (0, powerDown (s.dset 0x4000 2 7)) := by
    simp [acceptPowerDown, acceptRequest, free, ready]
  unfold requestPowerDown
  rw [guardedWrite_accepted _ h, accepted, State.reply_eq_emit]

theorem execSupplyLoss_powered {s : State} (h : s.power.state ≠ .off) : exec .supplyLoss s = .next (enterOff s) := by
  show execSupplyLoss s = _
  simp [execSupplyLoss, h]

/-- An undervoltage of a powered Square is a fatal fault that ends in STANDBY (R43). -/
theorem execInputUndervoltage_low {s : State} {lowest : Nat} (h : s.squareUp = true) (low : lowest < 360000) :
    exec (.inputUndervoltage lowest) s =
      .next (enterStandby ((enterFaulted s 1 lowest).setPower fun p => { p with surveyBarred := true, fromDown := false })) := by
  show execInputUndervoltage lowest s = _
  simp [execInputUndervoltage, h, low]

theorem execFaultFollowupReset_due {s : State} (h : s.power.state = .faulted) (due : s.power.followUp = true) :
    exec .faultFollowupReset s = .next (resetModule s) := by
  show execFaultFollowupReset s = _
  simp [execFaultFollowupReset, h, due]

end Sys2Proof.Machine

open Sys2Proof Sys2Proof.Machine

/-- Settles O5: each of the four ends in `enterStandby` or `enterOff`, which empty the Square. -/
theorem powerLossEmptiesSquare : Obligations.PowerLossEmptiesSquare := by
  intro s r lowest
  refine ⟨fun powered => ?_, fun up low => ?_, fun free ready accepted => ?_, fun accepted => ?_, fun faulted due => ?_⟩
  · obtain ⟨flash, flashLog⟩ := enterOff_flash s
    exact ⟨_, execSupplyLoss_powered powered, rfl, rfl, rfl, flash, flashLog, enterOff_squareEmpty s⟩
  · refine ⟨_, execInputUndervoltage_low up low, ?_, ?_, enterStandby_squareEmpty _⟩
    all_goals simp [enterStandby_power, Power.ended]
  · have e : exec (.powerDown r) s = .next (requestPowerDown s r) := rfl
    rw [e, requestPowerDown_accepted accepted free ready]
    have p := powerDown_power (s.dset 0x4000 2 7)
    have d := powerDown_dget_status (s.dset 0x4000 2 7)
    have q := powerDown_squareEmpty (s.dset 0x4000 2 7)
    generalize powerDown (s.dset 0x4000 2 7) = t at p d q ⊢
    refine ⟨_, rfl, ?_, ?_, ?_, d, rfl, q⟩
    all_goals simp [p, Power.ended]
  · have e : exec (.resetRequest r) s = .next (requestReset s r) := rfl
    rw [e, requestReset_accepted accepted]
    have p := resetModule_power (s.dset 0x4000 2 8)
    have d := resetModule_dget_status (s.dset 0x4000 2 8)
    have q := resetModule_squareEmpty (s.dset 0x4000 2 8)
    generalize resetModule (s.dset 0x4000 2 8) = t at p d q ⊢
    refine ⟨_, rfl, ?_, ?_, ?_, ?_, d, rfl, q⟩
    all_goals simp [p, Power.ended]
  · refine ⟨_, execFaultFollowupReset_due faulted due, ?_, ?_, resetModule_dget_status s, resetModule_squareEmpty s⟩
    all_goals simp [resetModule_power, Power.ended]

end

section
/-! PROOF. Requests that are refused, and RESET (O18). -/

namespace Sys2Proof.Machine
open Sys2Proof

/-! ## The module's state where only tenant 0 has one (R453) -/

/-- No tenant but tenant 0 is anything but `EMPTY`. -/
def AloneInUse (s : State) : Prop := ∀ u, u < 8 → 0 < u → s.tenantState u = 0

/-- A test that no `EMPTY` tenant passes is then one of tenant 0 alone. -/
theorem anyTenant_alone {s : State} (h : AloneInUse s) (p : Nat → Bool) (p0 : p 0 = false) :
    s.anyTenant p = p (s.tenantState 0) := by
  have rest : ∀ u, u < 8 → 0 < u → p (s.tenantState u) = false := fun u hu pos => by rw [h u hu pos, p0]
  have all : List.range 8 = [0, 1, 2, 3, 4, 5, 6, 7] := rfl
  simp only [State.anyTenant, all, List.any_cons, List.any_nil, rest 1 (by decide) (by decide), rest 2 (by decide) (by decide),
    rest 3 (by decide) (by decide), rest 4 (by decide) (by decide), rest 5 (by decide) (by decide), rest 6 (by decide) (by decide),
    rest 7 (by decide) (by decide), Bool.or_false]

/-- In a module that is up, tenant 0's state is then the module's (R453). -/
theorem modState_alone {s : State} (h : AloneInUse s) (up : s.power.state = .up) :
    s.modState = if s.tenantState 0 = 2 ∨ s.tenantState 0 = 3 then .running else if s.tenantState 0 = 6 then .held
      else if s.tenantState 0 = 1 ∨ s.tenantState 0 = 4 ∨ s.tenantState 0 = 5 then .loaded else .ready := by
  unfold State.modState
  rw [up, anyTenant_alone h _ rfl, anyTenant_alone h _ rfl, anyTenant_alone h _ rfl]
  simp only [Bool.or_eq_true, beq_iff_eq, or_assoc]

/-! ## Refused requests (R38) -/

/-- A request that the state refuses changes nothing, and is answered with 0x0800_0022. -/
theorem acceptRequest_refused {s : State} {code : Nat} {ok : Bool} (effect : State → State) (reset : code ≠ 8)
    (h : s.power.request.isSome = true ∨ ok = false) : acceptRequest s code ok effect = (abortState, s) := by
  unfold acceptRequest
  rcases h with h | h <;> simp [h, reset]

/-- While a request is pending, no request of a tenant is taken. -/
theorem requestOf_pending {s : State} (h : s.power.request.isSome = true) (t code beat : Nat) :
    requestOf s t code beat = (abortState, s) := by
  unfold requestOf
  simp [h]

/-- What a request of a tenant needs (R36, R452): the tenant's states in which it is taken. -/
def requestFrom (code st : Nat) : Prop :=
  (code = 2 ∧ st = 0) ∨ (code = 3 ∧ st = 1) ∨ (code = 4 ∧ st = 2) ∨ (code = 5 ∧ st = 6) ∨
  (code = 6 ∧ (st = 1 ∨ st = 4 ∨ st = 5 ∨ st = 6)) ∨ (code = 10 ∧ st = 4)

/-- A request that the tenant's state, or the module's, does not allow is refused. -/
theorem requestOf_refused {s : State} {t code : Nat} (h : s.power.state ≠ .up ∨ ¬requestFrom code (s.tenantState t)) (beat : Nat) :
    requestOf s t code beat = (abortState, s) := by
  unfold requestOf
  dsimp only
  split
  · rfl
  next free =>
    have up : s.power.state = .up := by
      simp only [Bool.or_eq_true, bne_iff_ne, not_or, not_not] at free
      exact free.1.2
    have wrong : ¬requestFrom code (s.tenantState t) := h.resolve_left (absurd up)
    unfold requestFrom at wrong
    split
    · rw [if_neg fun k => wrong (by omega)]
    · unfold requestStart
      rw [if_pos (.inl (by omega))]
    · rw [if_neg (by omega)]
    · rw [if_neg fun k => wrong (by omega)]
    · rw [if_neg (by omega)]
    · rw [if_neg (by omega)]
    · rfl

/-- A request written to `STATE_REQUEST` is refused with tenant 0's (R453). -/
theorem stateOf_refused {s : State} {code beat : Nat} (h : requestOf s 0 code beat = (abortState, s)) :
    stateOf s code beat = (abortState, s) := by
  unfold stateOf
  split
  · rw [h]
    rfl
  · rfl

theorem guardedWrite_refused {s : State} {r : Requester} {idx sub len v : Nat} {effect : State → Nat × State}
    (h : Accepted s r idx sub len v) (e : effect s = (abortState, s)) :
    guardedWrite s r idx sub len v effect = { s with out := .answer r 0x08000022 0 :: s.out } := by
  rw [guardedWrite_accepted effect h, e]
  rfl

/-- The state of the module that a request of `STATE_REQUEST` needs follows from tenant 0's, where no other tenant has one. -/
theorem requestOf_wrongState {s : State} {code : Nat} {from' : List ModState}
    (states : (code, from') ∈ [(2, [.ready]), (3, [.loaded]), (4, [.running]), (5, [.held]), (6, [.loaded, .held])])
    (alone : AloneInUse s) (wrong : s.modState ∉ from') (beat : Nat) : requestOf s 0 code beat = (abortState, s) := by
  refine requestOf_refused ?_ beat
  by_cases up : s.power.state = .up
  · right
    intro allowed
    refine wrong ?_
    rw [modState_alone alone up]
    generalize s.tenantState 0 = st at allowed ⊢
    simp only [List.mem_cons, Prod.mk.injEq, List.not_mem_nil, or_false] at states
    unfold requestFrom at allowed
    rcases states with ⟨rfl, rfl⟩ | ⟨rfl, rfl⟩ | ⟨rfl, rfl⟩ | ⟨rfl, rfl⟩ | ⟨rfl, rfl⟩
    · obtain rfl : st = 0 := by omega
      decide
    · obtain rfl : st = 1 := by omega
      decide
    · obtain rfl : st = 2 := by omega
      decide
    · obtain rfl : st = 6 := by omega
      decide
    · obtain rfl | rfl | rfl | rfl : st = 1 ∨ st = 4 ∨ st = 5 ∨ st = 6 := by omega
      all_goals decide
  · exact .inl up

theorem tenantRequest_pending {s : State} (h : s.power.request.isSome = true) (t : Nat) {v : Nat} (hv : v ≠ 0) :
    tenantRequest s t v = (abortState, s) := by
  unfold tenantRequest
  dsimp only
  rw [if_neg hv]
  split
  · simp [h, abortState]
  · rw [requestOf_pending h]
    rfl

/-! ## `STATE_REQUEST` passes check 6 in every powered state (R36, R524) -/

theorem stateRequest_memberOutside (s : State) : memberOutside s 0x4000 2 = false := by
  have c : entryContext 0x4000 = none := by decide +kernel
  have t : entryTenant 0x4000 = none := by decide
  simp [memberOutside, c, t]

theorem stateRequest_narrowed (s : State) : narrowed s 0x4000 2 = true := by
  simp [narrowed]

theorem stateRequest_accepted {s : State} (h : s.power.state ≠ .off) : stateAccepts s 0x4000 2 = true := by
  have powered : s.modState ≠ .off := by
    unfold State.modState
    cases e : s.power.state with
    | off => exact absurd e h
    | up => simp only; split_ifs <;> simp
    | _ => simp
  have area : areaAccepted s.modState 0x4000 2 = true := by
    cases e : s.modState with
    | off => exact absurd e powered
    | _ => rfl
  simp [stateAccepts, powered, stateRequest_memberOutside, stateRequest_narrowed, area]

end Sys2Proof.Machine

open Sys2Proof Sys2Proof.Machine

/-- Settles O18: every request but `RESET` is refused by the first test of its effect while one is pending, and otherwise by the state it
needs; `RESET` has no such test. -/
theorem oneRequestAtATime : Obligations.OneRequestAtATime := by
  intro s r k t ht
  refine ⟨fun e he accepted refused => ?_, fun e he accepted pending => ?_, stateRequest_accepted, fun accepted => ?_⟩
  · have tenant0 : ∀ (code : Nat) (from' : List ModState),
        (code, from') ∈ [(2, [ModState.ready]), (3, [.loaded]), (4, [.running]), (5, [.held]), (6, [.loaded, .held])] →
        s.power.request.isSome = true ∨ ((code = 1 ∨ code = 7 ∨ AloneInUse s) ∧ s.modState ∉ from') → ∀ beat,
        stateOf s code beat = (abortState, s) := by
      intro code from' states h beat
      refine stateOf_refused ?_
      obtain h | ⟨alone, wrong⟩ := h
      · exact requestOf_pending h 0 code beat
      · refine requestOf_wrongState states ?_ wrong beat
        simp only [List.mem_cons, Prod.mk.injEq, List.not_mem_nil, or_false] at states
        exact (alone.resolve_left (by omega)).resolve_left (by omega)
    simp only [stateRequests, List.mem_cons, List.not_mem_nil, or_false] at he
    obtain rfl | rfl | rfl | rfl | rfl | rfl | rfl := he
    · refine congrArg Host.Outcome.next (guardedWrite_refused accepted (acceptRequest_refused _ (by decide) ?_))
      exact refused.imp_right fun h => by simp [List.mem_singleton.not.1 h.2]
    · exact congrArg Host.Outcome.next (guardedWrite_refused accepted (tenant0 2 [.ready] (by simp) refused 0))
    · exact congrArg Host.Outcome.next (guardedWrite_refused accepted (tenant0 3 [.loaded] (by simp) refused _))
    · exact congrArg Host.Outcome.next (guardedWrite_refused accepted (tenant0 4 [.running] (by simp) refused _))
    · exact congrArg Host.Outcome.next (guardedWrite_refused accepted (tenant0 5 [.held] (by simp) refused _))
    · exact congrArg Host.Outcome.next (guardedWrite_refused accepted (tenant0 6 [.loaded, .held] (by simp) refused 0))
    · refine congrArg Host.Outcome.next (guardedWrite_refused accepted (acceptRequest_refused _ (by decide) ?_))
      exact refused.imp_right fun h => by simp [List.mem_singleton.not.1 h.2]
  · simp only [tenantRequests, List.mem_cons, List.not_mem_nil, or_false] at he
    have write : ∀ v, v ≠ 0 → v ≤ 7 → Accepted s r (0x6070 + t) 3 1 v →
        writeTenantRequest s r t v = { s with out := .answer r 0x08000022 0 :: s.out } := by
      intro v hv small a
      refine guardedWrite_refused a ?_
      rw [if_neg (by omega)]
      exact tenantRequest_pending pending t hv
    obtain rfl | rfl | rfl | rfl | rfl | rfl | rfl := he
    all_goals exact congrArg Host.Outcome.next (write _ (by decide) (by decide) accepted)
  · have e : exec (.resetRequest r) s = .next (requestReset s r) := rfl
    rw [e, requestReset_accepted accepted]
    have p := resetModule_power (s.dset 0x4000 2 8)
    have d := resetModule_dget_status (s.dset 0x4000 2 8)
    generalize resetModule (s.dset 0x4000 2 8) = u at p d ⊢
    refine ⟨_, rfl, ?_, ?_, d, rfl⟩
    all_goals simp [State.modState, p, Power.ended]

end

section
/-! PROOF. POWER_UP into SURVEY (O7). -/

namespace Sys2Proof.Machine
open Sys2Proof

/-! ## Entry into SURVEY (R44, R477, R553) -/

/-- The module as it enters SURVEY, before its power state and the change are noted: the request has ended, the bindings are locked, and
the health map serves the banks again (R274, R477). -/
def surveyBase (s : State) : State := restoreMap (lockBinding ((endRequest s 1).dset 0x4070 4 0))

theorem surveyBase_lossFrame (s : State) : LossFrame (lockBinding ((endRequest s 1).dset 0x4070 4 0)) (surveyBase s) := by
  unfold surveyBase restoreMap
  exact finishCopies_lossFrame _ _

theorem surveyBase_power (s : State) : (surveyBase s).power = { s.power with request := none } :=
  (surveyBase_lossFrame s).power

theorem surveyBase_mail (s : State) : (surveyBase s).mail = { s.mail with
    binding := (List.range 16).map fun c => s.dget 0x2050 (c + 1), locked := true } := by
  rw [(surveyBase_lossFrame s).mail]
  have cell : ∀ c ∈ List.range 16, ((endRequest s 1).dset 0x4070 4 0).dget 0x2050 (c + 1) = s.dget 0x2050 (c + 1) := by
    intro c hc
    have small : c + 1 < 256 := by have := List.mem_range.1 hc; omega
    rw [State.dset_dget_other _ _ _ _ _ _ (by decide) small (.inl (by decide))]
    exact State.dset_dget_other _ _ _ _ _ _ (by decide) small (.inl (by decide))
  have bound := List.map_congr_left cell
  show { s.mail with binding := (List.range 16).map fun c => ((endRequest s 1).dset 0x4070 4 0).dget 0x2050 (c + 1)
                     locked := true } = _
  rw [bound]

theorem surveyBase_dget_status (s : State) : (surveyBase s).dget 0x4000 5 = 1 := by
  rw [(surveyBase_lossFrame s).dget]
  show ((endRequest s 1).dset 0x4070 4 0).dget 0x4000 5 = 1
  rw [State.dset_dget_other _ _ _ _ _ _ (by decide) (by decide) (.inl (by decide))]
  exact State.dset_dget_same _ _ _ _

/-- The power of a module in SURVEY: every rail is on (R553, R559). -/
def Power.surveying (p : Power) (boot : Nat) : Power :=
  { p with
    state := .survey, railsUp := 8, microDone := false, healthDone := true, blocksDone := false, microDigest := 0
    bootLength := 0, bootStatus := boot, fromDown := false }

theorem enterSurvey_eq (s : State) : enterSurvey s = noteState s.modState { surveyBase s with
    power := (surveyBase s).power.surveying (if (surveyBase s).dget 0x2020 0 = 1 then 0 else 8) } := rfl

/-- The notices of the change leave the power, the bindings and the request's outcome. -/
theorem enterSurvey_quiet (s : State) : Notice.Quiet { surveyBase s with
    power := (surveyBase s).power.surveying (if (surveyBase s).dget 0x2020 0 = 1 then 0 else 8) } (enterSurvey s) := by
  rw [enterSurvey_eq]
  exact noteState_quiet _ _

/-- What SURVEY finds: its power, `TRANSITION_STATUS` `DONE`, and the bindings as the entries 0x2050 give them, locked. -/
structure Surveying (s t : State) : Prop where
  state : t.power.state = .survey
  rails : t.power.railsUp = 8
  request : t.power.request = none
  status : t.dget 0x4000 5 = 1
  locked : t.mail.locked = true
  binding : ∀ ch, ch < 16 → nth 0 t.mail.binding ch = s.dget 0x2050 (ch + 1)

theorem enterSurvey_surveying (s : State) : Surveying s (enterSurvey s) := by
  obtain ⟨frame, cells⟩ := enterSurvey_quiet s
  have power : (enterSurvey s).power = _ := frame.power
  refine ⟨?_, ?_, ?_, ?_, ?_, fun ch h => ?_⟩
  · rw [power]; rfl
  · rw [power]; rfl
  · rw [power]
    show (surveyBase s).power.request = none
    rw [surveyBase_power]
  · rw [cells 0x4000 5 (by decide) (by decide)]
    exact (State.dget_congr rfl rfl 0x4000 5).trans (surveyBase_dget_status s)
  · rw [frame.locked]
    show (surveyBase s).mail.locked = true
    rw [surveyBase_mail]
  · rw [frame.binding]
    show nth 0 (surveyBase s).mail.binding ch = _
    rw [surveyBase_mail]
    simp [nth, h]

/-- A sequence whose checks all pass and that nothing interrupts ends in SURVEY (R548). -/
theorem powerSequence_surveying {s : State} {k : RailCheck} (passed : failedCheck k = none) (quiet : k.event = 0) :
    Surveying s (powerSequence s k) := by
  have e : powerSequence s k = enterSurvey ((pendRequest s ⟨1, 0, 0⟩).setPower fun p => { p with surveyBarred := false }) := by
    unfold powerSequence
    simp only [passed, quiet, if_true]
  obtain ⟨state, rails, request, status, locked, binding⟩ :=
    enterSurvey_surveying ((pendRequest s ⟨1, 0, 0⟩).setPower fun p => { p with surveyBarred := false })
  rw [e]
  refine ⟨state, rails, request, status, locked, fun ch h => (binding ch h).trans ?_⟩
  exact State.dset_dget_other _ _ _ _ _ _ (by decide) (by omega) (.inl (by decide))

/-- An accepted `POWER_UP` runs the sequence (R547). -/
theorem requestPowerUp_accepted {s : State} {r : Requester} {k : RailCheck} (h : Accepted s r 0x4000 2 1 1)
    (free : s.power.request = none) (standby : s.modState = .standby) (ready : powerReady s = true) :
    requestPowerUp s r k = (powerSequence (s.dset 0x4000 2 1) k).emit (.answer r 0 0) := by
  have accepted : acceptPowerUp k s = (0, powerSequence (s.dset 0x4000 2 1) k) := by
    simp [acceptPowerUp, acceptRequest, free, standby, ready]
  unfold requestPowerUp
  rw [guardedWrite_accepted _ h, accepted, State.reply_eq_emit]

end Sys2Proof.Machine

open Sys2Proof Sys2Proof.Machine

/-- Settles O7: by request and by `AUTO_SURVEY` the power sequence runs to `enterSurvey`. -/
theorem powerUpEntersSurvey : Obligations.PowerUpEntersSurvey := by
  intro s r k standby ready free passed quiet
  refine ⟨fun accepted => ?_, fun auto fromDown barred => ?_⟩
  · have e : exec (.powerUp r k) s = .next (requestPowerUp s r k) := rfl
    rw [e, requestPowerUp_accepted accepted free standby ready]
    obtain ⟨state, rails, request, status, locked, binding⟩ := powerSequence_surveying (s := s.dset 0x4000 2 1) passed quiet
    generalize powerSequence (s.dset 0x4000 2 1) k = t at state rails request status locked binding ⊢
    refine ⟨_, rfl, state, rails, request, status, locked, fun ch h => (binding ch h).trans ?_, rfl⟩
    exact State.dset_dget_other _ _ _ _ _ _ (by decide) (by omega) (.inl (by decide))
  · have e : exec (.autoSurvey k) s = .next (powerSequence s k) := by
      show execAutoSurvey k s = _
      simp [execAutoSurvey, standby, auto, fromDown, barred, ready, free]
    obtain ⟨state, rails, request, status, locked, binding⟩ := powerSequence_surveying (s := s) passed quiet
    exact ⟨_, e, state, rails, request, status, locked, binding⟩

end

section
/-! PROOF. Entry into FAULTED (O9). -/

namespace Sys2Proof.Machine
open Sys2Proof

/-! ## What the rest of the entry into FAULTED leaves (R567) -/

/-- The parts of the module that the end of the entry into FAULTED leaves as the loss of the slabs and the fault record made them. -/
structure FaultHeld (s t : State) : Prop where
  state : t.power.state = s.power.state
  contexts : t.contexts = s.contexts
  plaza : t.plaza = s.plaza
  blocks : t.blocks = s.blocks
  parked : t.parked = s.parked
  evac : t.zoning.evac = s.zoning.evac
  cells : ∀ sub ∈ [1, 2, 3], t.dget 0x5000 sub = s.dget 0x5000 sub

namespace FaultHeld

variable {s t u : State}

theorem refl (s : State) : FaultHeld s s := ⟨rfl, rfl, rfl, rfl, rfl, rfl, fun _ _ => rfl⟩

theorem trans (h : FaultHeld s t) (k : FaultHeld t u) : FaultHeld s u where
  state := k.state.trans h.state
  contexts := k.contexts.trans h.contexts
  plaza := k.plaza.trans h.plaza
  blocks := k.blocks.trans h.blocks
  parked := k.parked.trans h.parked
  evac := k.evac.trans h.evac
  cells sub i := (k.cells sub i).trans (h.cells sub i)

/-- A notice holds them, where it leaves the record of the fault. -/
theorem of_noticeFrame (h : NoticeFrame s t) {l : List Nat} (k : IndexKept s t l) (n : 0x5000 ∉ l) : FaultHeld s t where
  state := by rw [h.power]
  contexts := h.contexts
  plaza := h.plaza
  blocks := h.blocks
  parked := h.parked
  evac := h.evac
  cells sub i := by
    refine k 0x5000 sub ?_ n
    simp only [List.mem_cons, List.not_mem_nil, or_false] at i
    omega

theorem of_quiet (h : Notice.Quiet s t) : FaultHeld s t := of_noticeFrame h.1 h.2 (by decide)

theorem of_recordOnly (h : RecordOnly s t) {l : List Nat} (k : IndexKept s t l) (n : 0x5000 ∉ l) : FaultHeld s t :=
  of_noticeFrame h.noticeFrame k n

end FaultHeld

theorem foldl_faultHeld {β : Type} (f : State → β → State) (h : ∀ t e, FaultHeld t (f t e)) (l : List β) (s : State) :
    FaultHeld s (l.foldl f s) := foldl_related FaultHeld .refl .trans f h l s

theorem closeFlow_faultHeld (s : State) (f reason : Nat) : FaultHeld s (closeFlow s f reason) := by
  unfold closeFlow
  dsimp only
  split
  · exact .refl s
  · split
    · exact ⟨rfl, rfl, rfl, rfl, rfl, rfl, fun _ _ => rfl⟩
    · exact ⟨rfl, rfl, rfl, rfl, rfl, rfl, fun _ _ => rfl⟩

theorem closeFlows_faultHeld (s : State) (reason : Nat) (p : Nat → Flow → Bool) : FaultHeld s (closeFlows s reason p) :=
  foldl_faultHeld _ (fun t (e : Nat × Flow) => closeFlow_faultHeld t e.1 reason) _ s

theorem setTransition_indexKept (s : State) (v : Nat) : IndexKept s (setTransition s v) [0x4000] :=
  dset_indexKept s 0x4000 v (by decide)

theorem endRequest_faultHeld (s : State) (v : Nat) : FaultHeld s (endRequest s v) := by
  have e : FaultHeld s { s with power := { s.power with request := none } } := ⟨rfl, rfl, rfl, rfl, rfl, rfl, fun _ _ => rfl⟩
  exact e.trans (.of_recordOnly (dset_recordOnly _ _ _ _) (setTransition_indexKept _ v) (by decide))

theorem setTenantState_faultHeld (s : State) (t v : Nat) : FaultHeld s (setTenantState s t v) :=
  .of_noticeFrame (setTenantState_noticeFrame s t v) (setTenantState_indexKept s t v) (by simp; omega)

theorem emptyTenants_faultHeld (s : State) : FaultHeld s (emptyTenants s) := by
  unfold emptyTenants
  dsimp only
  refine (foldl_faultHeld _ (fun t i => setTenantState_faultHeld t i 0) (List.range 8) s).trans ?_
  refine foldl_faultHeld _ (fun t p => ?_) _ _
  refine .of_recordOnly (dclear_recordOnly t _ _) (l := [0x6060 + p]) (fun idx sub h n => ?_) (by simp; omega)
  exact State.dclear_dget_other _ _ _ _ _ (by decide) h (.inl fun e => n (by simp [e]))

/-- A direction after the reset of an identity has released the lock that it owned (R487). -/
def lockReleased (s : State) (ident : Nat) (cd : Nat × Nat) : State :=
  let m := mailDir s cd.1 cd.2
  if m.lock = ident ∧ ident ≠ 0 then
    State.record (setMailDir s cd.1 cd.2 { m with lock := 0 }) 0x50C0 5 [] (some (mailFirst 5 ident cd.1 cd.2))
  else s

theorem lockReleased_quiet (s : State) (ident : Nat) (cd : Nat × Nat) : Notice.Quiet s (lockReleased s ident cd) := by
  unfold lockReleased
  dsimp only
  split
  · exact (setMailDir_quiet s _ _ _).trans (mailRecord_quiet _ _ _ (by simp))
  · exact .refl s

theorem resetDir_quiet (s : State) (ident : Nat) (cd : Nat × Nat) : Notice.Quiet s (resetDir s ident cd) := by
  have e : resetDir s ident cd = if !channelUnused (lockReleased s ident cd) cd.1 &&
      mailReceiver (lockReleased s ident cd) cd.1 cd.2 == ident && (mailDir (lockReleased s ident cd) cd.1 cd.2).pending then
        setMailDir (lockReleased s ident cd) cd.1 cd.2 { mailDir (lockReleased s ident cd) cd.1 cd.2 with owed := true }
      else lockReleased s ident cd := rfl
  rw [e]
  split
  · exact (lockReleased_quiet s ident cd).trans (setMailDir_quiet _ _ _ _)
  · exact lockReleased_quiet s ident cd

theorem identityReset_faultHeld (s : State) (ident : Nat) : FaultHeld s (identityReset s ident) := by
  unfold identityReset
  dsimp only
  have reset : Notice.Quiet s (allDirs.foldl (fun t cd => resetDir t ident cd) s) :=
    foldl_related Notice.Quiet .refl .trans _ (fun t cd => resetDir_quiet t ident cd) _ s
  generalize allDirs.foldl (fun t cd => resetDir t ident cd) s = t at reset ⊢
  exact (FaultHeld.of_quiet reset).trans ⟨rfl, rfl, rfl, rfl, rfl, rfl, fun _ _ => rfl⟩

/-! ## The slabs in reset (R42, R567) -/

theorem finishCopies_blocks (s : State) (p : Nat → Bool) : (finishCopies s p).blocks = s.blocks := by
  unfold finishCopies
  dsimp only
  refine foldl_related (fun a b : State => b.blocks = a.blocks) (fun _ => rfl) (fun h k => k.trans h) _ (fun t e => ?_) _ s
  unfold adoptSpare
  dsimp only
  split <;> rfl

theorem loseBlocks_all_blocks (s : State) : (loseBlocks s fun _ => true).blocks = [] := by
  unfold loseBlocks
  rw [finishCopies_blocks]
  simp

theorem setCairn_indexKept (s : State) (c : Nat) (f : Cairn → Cairn) : IndexKept s (s.setCairn c f) [0x6040 + c] :=
  IndexKept.trans (indexKept_of_dict rfl rfl _) (dset_indexKept _ _ _ (by decide))

theorem setCairn_faultHeld (s : State) (c : Nat) (f : Cairn → Cairn) : FaultHeld s (s.setCairn c f) := by
  refine ⟨rfl, rfl, rfl, rfl, rfl, rfl, fun sub i => setCairn_indexKept s c f 0x5000 sub ?_ (by simp; omega)⟩
  simp only [List.mem_cons, List.not_mem_nil, or_false] at i
  omega

theorem failDrain_faultHeld (s : State) (c : Nat) : FaultHeld s (failDrain s c) := by
  unfold failDrain
  split
  · exact .refl s
  · dsimp only
    exact (setCairn_faultHeld s c _).trans (.of_recordOnly (record_recordOnly _ _ _ _ _) (record_indexKept _ _ _ _ (by simp)) (by decide))

/-- The record of the fault is no entry that the reset of the slabs drops. -/
theorem faultCell_kept (d : List (Nat × Nat)) {sub : Nat} (h : sub ∈ [1, 2, 3]) :
    kfind (dropIndices (keepCells d fun p => p != .program) 0x6010 0x6017) (dictKey 0x5000 sub) = kfind d (dictKey 0x5000 sub) := by
  have outside : ∀ sub ∈ [1, 2, 3],
      (decide (dictKey 0x5000 sub / 256 < 0x6010) || decide (0x6017 < dictKey 0x5000 sub / 256)) = true := by decide
  have kept : ∀ sub ∈ [1, 2, 3], (keyPersist (dictKey 0x5000 sub) != .program) = true := by decide +kernel
  unfold dropIndices keepCells
  rw [kfind_filter _ (fun k => decide (k / 256 < 0x6010) || decide (0x6017 < k / 256)), if_pos (outside sub h),
    kfind_filter _ (fun k => keyPersist k != .program), if_pos (kept sub h)]

/-- Both slabs in reset: nothing is bound, and the record of the fault stands. -/
structure SlabsReset (s t : State) : Prop where
  state : t.power.state = s.power.state
  contexts : t.contexts = []
  plaza : t.plaza = []
  blocks : t.blocks = []
  parked : t.parked = []
  evac : t.zoning.evac = []
  cells : ∀ sub ∈ [1, 2, 3], t.dget 0x5000 sub = s.dget 0x5000 sub

theorem SlabsReset.held {s t u : State} (h : SlabsReset s t) (k : FaultHeld t u) : SlabsReset s u where
  state := k.state.trans h.state
  contexts := k.contexts.trans h.contexts
  plaza := k.plaza.trans h.plaza
  blocks := k.blocks.trans h.blocks
  parked := k.parked.trans h.parked
  evac := k.evac.trans h.evac
  cells sub i := (k.cells sub i).trans (h.cells sub i)

theorem slabsLost_slabsReset (s : State) : SlabsReset s (slabsLost s) := by
  unfold slabsLost
  dsimp only
  have ended : FaultHeld s ((List.range 4).foldl (fun t c => failDrain t c) (s.zoning.evac.foldl (abandonEvac 1) s)) := by
    refine FaultHeld.trans ?_ (foldl_faultHeld _ (fun t c => failDrain_faultHeld t c) _ _)
    refine foldl_faultHeld _ (fun t e => ?_) _ s
    exact .of_recordOnly (record_recordOnly _ _ _ _ _) (record_indexKept _ _ _ _ (by simp)) (by decide)
  generalize (List.range 4).foldl (fun t c => failDrain t c) (s.zoning.evac.foldl (abandonEvac 1) s) = b at ended ⊢
  have lost := loseBlocks_lossFrame { b with zoning := { b.zoning with evac := [] } } fun _ => true
  have none := loseBlocks_all_blocks { b with zoning := { b.zoning with evac := [] } }
  generalize loseBlocks { b with zoning := { b.zoning with evac := [] } } (fun _ => true) = d at lost none ⊢
  have reset : SlabsReset s { d with plaza := [], contexts := [], parked := [], tenancy := Tenancy.empty
                                     dict := dropIndices (keepCells d.dict fun p => p != .program) 0x6010 0x6017
                                     sets := d.sets.map fun e => (e.1, { RedSet.empty with members := e.2.members }) } := by
    refine ⟨?_, rfl, rfl, none, rfl, lost.evac, fun sub i => ?_⟩
    · exact (congrArg Power.state lost.power).trans ended.state
    · refine Eq.trans ?_ (ended.cells sub i)
      refine Eq.trans ?_ (lost.dget 0x5000 sub)
      simp only [State.dget, faultCell_kept d.dict i]
  exact reset.held (foldl_faultHeld _ (fun t c => setCairn_faultHeld t c _) _ _)

/-! ## The fault record -/

theorem writeFault_dget (s : State) (cause detail : Nat) : (writeFault s cause detail).dget 0x5000 1 = cause ∧
    (writeFault s cause detail).dget 0x5000 2 = detail % 2 ^ 64 ∧ (writeFault s cause detail).dget 0x5000 3 = s.beatStamp := by
  unfold writeFault State.dsets
  simp only [List.foldl_cons, List.foldl_nil]
  refine ⟨?_, ?_, ?_⟩
  all_goals simp [State.dcount_dget_other, State.dset_dget]

/-- Entry into FAULTED from another state, step by step (R567). -/
theorem enterFaulted_eq {s : State} (h : s.power.state ≠ .faulted) (cause detail : Nat) :
    let p := { s.power with followUp := s.power.followUp || resetsAfter cause }
    let b := closeFlows (slabsLost (writeFault { s with power := { p with state := .faulted } } cause detail)) 7
      fun _ x => x.state != flowClosed
    let e := (List.range 3).foldl (fun t i => identityReset t (6 + i))
      (emptyTenants (if b.power.request.isSome then endRequest b 5 else b))
    enterFaulted s cause detail =
      (garnetNotice (logCause (noteState { s with power := p }.modState e) cause detail) 2 cause).emit (.can 1 cause) := by
  unfold enterFaulted
  simp only [h, if_false]

/-- The end of the entry: the change is noted, the cause logged, and both are told (R511, R567). -/
theorem faultNotices_quiet (was : ModState) (s : State) (cause detail : Nat) : Notice.Quiet s
    ((garnetNotice (logCause (noteState was s) cause detail) 2 cause).emit (.can 1 cause)) :=
  (((noteState_quiet was s).trans (log_quiet _ _ _ _ _ _)).trans (garnetNotice_quiet _ _ _)).trans (emit_quiet _ _)

theorem enterFaulted_slabsReset {s : State} (h : s.power.state ≠ .faulted) (cause detail : Nat) :
    SlabsReset (writeFault { s with power := { s.power with
      followUp := s.power.followUp || resetsAfter cause, state := .faulted } } cause detail) (enterFaulted s cause detail) := by
  rw [enterFaulted_eq h]
  dsimp only
  generalize writeFault { s with power := { s.power with
      followUp := s.power.followUp || resetsAfter cause, state := .faulted } } cause detail = a
  have b := (slabsLost_slabsReset a).held (closeFlows_faultHeld _ 7 fun _ x => x.state != flowClosed)
  generalize closeFlows (slabsLost a) 7 (fun _ x => x.state != flowClosed) = x at b ⊢
  have d : SlabsReset a (if x.power.request.isSome then endRequest x 5 else x) := by
    split
    · exact b.held (endRequest_faultHeld x 5)
    · exact b
  generalize (if x.power.request.isSome then endRequest x 5 else x) = y at d ⊢
  have e := (d.held (emptyTenants_faultHeld y)).held
    (foldl_faultHeld (fun t i => identityReset t (6 + i)) (fun t i => identityReset_faultHeld t _)
      (List.range 3) (emptyTenants y))
  generalize (List.range 3).foldl (fun t i => identityReset t (6 + i)) (emptyTenants y) = z at e ⊢
  exact e.held (.of_quiet (faultNotices_quiet _ z cause detail))

theorem enterFaulted_out {s : State} (h : s.power.state ≠ .faulted) (cause detail : Nat) :
    (enterFaulted s cause detail).out.head? = some (.can 1 cause) := by
  rw [enterFaulted_eq h]
  rfl

/-! ## Fatal causes -/

/-- With no evacuation left, a block that fails loses its health alone. -/
theorem worsen_noEvac {s : State} (h : s.zoning.evac = []) (p v : Nat) : worsen s p v = setHealth s p v := by
  unfold worsen spareLost
  have none : (setHealth s p v).zoning.evac = [] := h
  simp [none]

/-- One fatal cause but the loss of the input enters FAULTED, and fails its block where it is cause 10 (R565). -/
theorem execFatalFault_one {s : State} {k : Nat} (up : s.squareUp = true) (low : 2 ≤ k) (high : k ≤ 13) (d : Nat) :
    exec (.fatalFault [(k, d)]) s = .next (failBlocks (enterFaulted s k d) [(k, d)]) := by
  have taken : [(k, d)].filter (fun c : Nat × Nat => decide (1 ≤ c.1) && decide (c.1 ≤ 13)) = [(k, d)] := by
    simp [show 1 ≤ k by omega, high]
  have one : k ≠ 1 := by omega
  show execFatalFault [(k, d)] s = _
  unfold execFatalFault
  simp only [taken]
  simp [up, one, enterFaultedAll]

/-- What a failed block changes of a module in FAULTED: nothing but its health. -/
theorem failBlocks_one {t : State} (h : t.zoning.evac = []) (k d : Nat) :
    failBlocks t [(k, d)] = if k = 10 ∧ d % 2048 < 1088 then setHealth t (d % 2048) 2 else t := by
  simp only [failBlocks, List.foldl_cons, List.foldl_nil, worsen_noEvac h]

theorem failBlocks_faultHeld {t : State} (h : t.zoning.evac = []) (k d : Nat) : FaultHeld t (failBlocks t [(k, d)]) := by
  rw [failBlocks_one h]
  split
  · exact ⟨rfl, rfl, rfl, rfl, rfl, rfl, fun _ _ => rfl⟩
  · exact .refl t

theorem failBlocks_out {t : State} (h : t.zoning.evac = []) (k d : Nat) : (failBlocks t [(k, d)]).out = t.out := by
  rw [failBlocks_one h]
  split <;> rfl

end Sys2Proof.Machine

open Sys2Proof Sys2Proof.Machine

/-- Settles O9: the record is written first, the slabs are reset, and nothing after that touches either. -/
theorem fatalFaultEntersFaulted : Obligations.FatalFaultEntersFaulted := by
  intro s r k d
  refine ⟨fun up notFaulted low high => ?_, fun accepted => ?_⟩
  · rw [execFatalFault_one up low high]
    have out := enterFaulted_out notFaulted k d
    have reset := enterFaulted_slabsReset notFaulted k d
    generalize enterFaulted s k d = t at out reset ⊢
    obtain ⟨cause, detail, beat⟩ := writeFault_dget { s with power := { s.power with
      followUp := s.power.followUp || resetsAfter k, state := .faulted } } k d
    obtain ⟨state, contexts, plaza, blocks, parked, evac, cells⟩ := reset.held (failBlocks_faultHeld reset.evac k d)
    refine ⟨_, rfl, state, (cells 1 (by simp)).trans cause, (cells 2 (by simp)).trans detail, (cells 3 (by simp)).trans beat,
      contexts, plaza, blocks, parked, evac, fun ten small => ?_, ?_⟩
    · rw [failBlocks_one reset.evac, if_pos ⟨ten, small⟩, setHealth_healthOf, if_pos rfl]
    · rw [failBlocks_out reset.evac, out]
  · have e : exec (.faultCauseClear r) s = .next ((s.dset 0x5000 1 0).emit (.answer r 0 0)) :=
      congrArg Host.Outcome.next (guardedWrite_accepted (fun t => (0, t.dset 0x5000 1 0)) accepted)
    refine ⟨_, e, rfl, rfl, State.dset_dget_same s _ _ _, fun idx sub h n => ?_⟩
    refine State.dset_dget_other s _ _ _ _ _ (by decide) h ?_
    simp only [List.mem_singleton, Prod.mk.injEq] at n
    omega

end

section
/-! PROOF. Requests that wait for a beat (O19). -/

namespace Sys2Proof.Machine
open Sys2Proof

/-! ## A pending request (R37, R38) -/

/-- The request `q` is pending with `TRANSITION_STATUS` 2, and nothing has been sent, stored or run for it yet. -/
structure Pended (s u : State) (q : Request) : Prop where
  request : u.power.request = some q
  status : u.dget 0x4000 5 = 2
  out : u.out = s.out
  mem : u.mem = s.mem
  contexts : u.contexts = s.contexts

theorem pendRequest_pended (s : State) (q : Request) : Pended s (pendRequest s q) q :=
  ⟨rfl, State.dset_dget_same _ _ _ _, rfl, rfl, rfl⟩

/-- Another entry than `TRANSITION_STATUS` is written. -/
theorem Pended.dset {s u : State} {q : Request} (h : Pended s u q) {idx sub : Nat} (v : Nat) (small : sub < 256)
    (other : idx ≠ 0x4000 ∨ sub ≠ 5) : Pended s (u.dset idx sub v) q where
  request := h.request
  status := (State.dset_dget_other u idx sub v _ _ small (by decide) other).trans h.status
  out := h.out
  mem := h.mem
  contexts := h.contexts

theorem account_pended {s u : State} {q : Request} (h : Pended s u q) (t mode lo w : Nat) : Pended s (account u t mode lo w) q := by
  unfold account
  split
  · exact h.dset _ (by decide) (.inl (by omega))
  · exact h

theorem setHostParked_pended {s u : State} {q : Request} (h : Pended s u q) (t : Nat) (b : Bool) :
    Pended s (setHostParked u t b) q := h.dset _ (by decide) (.inl (by omega))

/-! ## Requests that are taken -/

/-- A request whose beat lies far enough ahead waits for it (R37). -/
theorem awaitBeat_ahead {s : State} {q : Request} (h : s.beat + 2 ≤ q.beat) (accept : State → State) :
    awaitBeat s q accept = (0, accept (pendRequest s q)) := by
  unfold awaitBeat
  rw [if_neg (by omega)]

/-- A request of a tenant that is up, configured and free goes by its code. -/
theorem requestOf_free {s : State} {t : Nat} (up : s.power.state = .up) (free : s.power.request = none)
    (configured : s.configured t = true) : (s.power.request.isSome || s.power.state != .up || !s.configured t) = false := by
  simp [up, free, configured]

/-- `START` of a loaded and resident tenant becomes pending (R36, R438, R441). -/
theorem requestOf_start {s : State} {t beat : Nat} (up : s.power.state = .up) (free : s.power.request = none)
    (configured : s.configured t = true) (loaded : s.tenantState t = 1) (resident : s.resident (homeOfTenant s t) = some t)
    (beats : beatsAllow s (s.ctx (homeOfTenant s t)) = true) (noRestore : NoRestore s (homeOfTenant s t))
    (ahead : s.beat + 2 ≤ beat) : requestOf s t 3 beat = (0, account (pendRequest s ⟨3, beat, t⟩) t 0 0 64) := by
  obtain ⟨notFailed, notRunning, notRestored⟩ := noRestore
  have start : requestOf s t 3 beat = requestStart s t beat := by
    unfold requestOf
    simp [requestOf_free up free configured]
  rw [start]
  unfold requestStart
  simp only [loaded, resident, beats, notFailed, notRunning, notRestored]
  simp [awaitBeat_ahead (q := ⟨3, beat, t⟩) ahead]

/-- `HOLD` of a running tenant becomes pending (R36). -/
theorem requestOf_hold {s : State} {t beat : Nat} (up : s.power.state = .up) (free : s.power.request = none)
    (configured : s.configured t = true) (running : s.tenantState t = 2) (ahead : s.beat + 2 ≤ beat) :
    requestOf s t 4 beat = (0, pendRequest s ⟨4, beat, t⟩) := by
  unfold requestOf
  simp [requestOf_free up free configured, running, awaitBeat_ahead (q := ⟨4, beat, t⟩) ahead]

/-- `RESUME` of a held tenant becomes pending (R36). -/
theorem requestOf_resume {s : State} {t beat : Nat} (up : s.power.state = .up) (free : s.power.request = none)
    (configured : s.configured t = true) (held : s.tenantState t = 6) (beats : beatsAllow s (s.ctx (homeOfTenant s t)) = true)
    (ahead : s.beat + 2 ≤ beat) : requestOf s t 5 beat = (0, pendRequest s ⟨5, beat, t⟩) := by
  unfold requestOf
  simp [requestOf_free up free configured, held, beats, awaitBeat_ahead (q := ⟨5, beat, t⟩) ahead]

/-- `RELEASE` of a parked tenant is done at once (R452). -/
theorem requestOf_release {s : State} {t : Nat} (up : s.power.state = .up) (free : s.power.request = none)
    (configured : s.configured t = true) (parked : s.tenantState t = 4) (beat : Nat) :
    requestOf s t 10 beat = (0, setTransition (setHostParked s t false) 1) := by
  unfold requestOf
  simp [requestOf_free up free configured, parked]

/-- A request of tenant 0 that is taken through `STATE_REQUEST` (R453). -/
theorem writeStateRequest_taken {s u : State} {r : Requester} {code : Nat} {beat : State → Nat} (h : Accepted s r 0x4000 2 1 code)
    (single : s.single = true) (taken : requestOf s 0 code (beat s) = (0, u)) :
    writeStateRequest s r code beat = (u.dset 0x4000 2 code).emit (.answer r 0 0) := by
  have e : stateOf s code (beat s) = (0, u.dset 0x4000 2 code) := by
    unfold stateOf
    simp only [single, taken, if_true]
  unfold writeStateRequest
  rw [guardedWrite_accepted _ h, e, State.reply_eq_emit]

/-- A request that is taken through `TENANT_REQUEST` (R452). -/
theorem writeTenantRequest_taken {s u : State} {r : Requester} {t v : Nat} (h : Accepted s r (0x6070 + t) 3 1 v) (small : v ≤ 7)
    (taken : tenantRequest s t v = (0, u)) : writeTenantRequest s r t v = u.emit (.answer r 0 0) := by
  unfold writeTenantRequest
  rw [guardedWrite_accepted _ h, if_neg (by omega), taken, State.reply_eq_emit]

/-- Every value of `TENANT_REQUEST` but `PREEMPT` is a request as R36 codes it (R452). -/
theorem tenantRequest_of {s u : State} {t v code : Nat}
    (codes : (v, code) ∈ [(1, 2), (2, 3), (4, 10), (5, 6), (6, 4), (7, 5)])
    (taken : requestOf s t code (s.dget (0x6070 + t) 4) = (0, u)) : tenantRequest s t v = (0, u.dset (0x6070 + t) 3 v) := by
  simp only [List.mem_cons, Prod.mk.injEq, List.not_mem_nil, or_false] at codes
  unfold tenantRequest
  obtain ⟨rfl, rfl⟩ | ⟨rfl, rfl⟩ | ⟨rfl, rfl⟩ | ⟨rfl, rfl⟩ | ⟨rfl, rfl⟩ | ⟨rfl, rfl⟩ := codes
  all_goals simp [taken]

/-- `PREEMPT` of a running tenant becomes pending (R457). -/
theorem tenantRequest_preempt {s : State} {t : Nat} (up : s.power.state = .up) (free : s.power.request = none)
    (running : s.tenantState t = 2) (notStopping : stopping s t = false) (ahead : s.beat + 2 ≤ s.dget (0x6070 + t) 4) :
    tenantRequest s t 3 =
      (0, (setHostParked (pendRequest s ⟨9, s.dget (0x6070 + t) 4, t⟩) t true).dset (0x6070 + t) 3 3) := by
  unfold tenantRequest
  simp [up, free, running, notStopping, awaitBeat_ahead (q := ⟨9, s.dget (0x6070 + t) 4, t⟩) ahead]

/-- The lowest bit of a word reads what was put there. -/
theorem bit_putBits_zero (f : Nat) (b : Bool) : bit (putBits f 0 1 (b2n b)) 0 = b := by
  have low : putBits f 0 1 (b2n b) % 2 = b2n b := by
    simp only [putBits, bits, pow_zero, pow_one, Nat.div_one, mul_one]
    cases b
    · simp only [b2n, Bool.false_eq_true, if_false]; omega
    · simp only [b2n, if_true]; omega
  unfold bit
  rw [Nat.testBit_zero, low]
  cases b <;> rfl

theorem setHostParked_tenantFlags (s : State) (t : Nat) (b : Bool) : bit (tenantFlags (setHostParked s t b) t) 0 = b := by
  have written : tenantFlags (setHostParked s t b) t = putBits (tenantFlags s t) 0 1 (b2n b) := State.dset_dget_same s _ _ _
  rw [written, bit_putBits_zero]

end Sys2Proof.Machine

open Sys2Proof Sys2Proof.Machine

/-- Settles O19: each request passes its checks, and `awaitBeat` makes it pending. -/
theorem requestsBecomePending : Obligations.RequestsBecomePending := by
  intro s r t ht up free configured
  have viaState : ∀ {q : Request} {u : State} {code : Nat}, Pended s u q →
      Pended s (u.dset 0x4000 2 code) q ∧ (u.dset 0x4000 2 code).dget 0x4000 2 = code :=
    fun h => ⟨h.dset _ (by decide) (.inr (by decide)), State.dset_dget_same _ _ _ _⟩
  have viaTenant : ∀ {q : Request} {u : State} {v : Nat}, Pended s u q →
      Pended s (u.dset (0x6070 + t) 3 v) q ∧ (u.dset (0x6070 + t) 3 v).dget (0x6070 + t) 3 = v :=
    fun h => ⟨h.dset _ (by decide) (.inr (by decide)), State.dset_dget_same _ _ _ _⟩
  refine ⟨?_, ?_, ?_, ?_, ?_, ?_, ?_, ?_⟩
  · rintro rfl single loaded resident beats noRestore ahead accepted
    have taken := requestOf_start up free configured loaded resident beats noRestore ahead
    obtain ⟨⟨request, status, out, mem, contexts⟩, written⟩ :=
      viaState (account_pended (pendRequest_pended s ⟨3, s.dget 0x4000 3, 0⟩) 0 0 0 64) (code := 3)
    exact ⟨_, congrArg Host.Outcome.next (writeStateRequest_taken accepted single taken), request, status, written,
      congrArg _ out, mem, contexts⟩
  · rintro rfl single running ahead accepted
    have taken := requestOf_hold up free configured running ahead
    obtain ⟨⟨request, status, out, mem, contexts⟩, written⟩ :=
      viaState (pendRequest_pended s ⟨4, s.dget 0x4000 4, 0⟩) (code := 4)
    exact ⟨_, congrArg Host.Outcome.next (writeStateRequest_taken accepted single taken), request, status, written,
      congrArg _ out, mem, contexts⟩
  · rintro rfl single held beats ahead accepted
    have taken := requestOf_resume up free configured held beats ahead
    obtain ⟨⟨request, status, out, mem, contexts⟩, written⟩ :=
      viaState (pendRequest_pended s ⟨5, s.dget 0x4000 3, 0⟩) (code := 5)
    exact ⟨_, congrArg Host.Outcome.next (writeStateRequest_taken accepted single taken), request, status, written,
      congrArg _ out, mem, contexts⟩
  · intro loaded resident beats noRestore ahead accepted
    have taken := tenantRequest_of (v := 2) (by simp) (requestOf_start up free configured loaded resident beats noRestore ahead)
    obtain ⟨⟨request, status, out, mem, -⟩, written⟩ :=
      viaTenant (account_pended (pendRequest_pended s ⟨3, s.dget (0x6070 + t) 4, t⟩) t 0 0 64) (v := 2)
    exact ⟨_, congrArg Host.Outcome.next (writeTenantRequest_taken accepted (by decide) taken), request, status, written,
      congrArg _ out, mem⟩
  · intro running ahead accepted
    have taken := tenantRequest_of (v := 6) (by simp) (requestOf_hold up free configured running ahead)
    obtain ⟨⟨request, status, out, mem, -⟩, written⟩ :=
      viaTenant (pendRequest_pended s ⟨4, s.dget (0x6070 + t) 4, t⟩) (v := 6)
    exact ⟨_, congrArg Host.Outcome.next (writeTenantRequest_taken accepted (by decide) taken), request, status, written,
      congrArg _ out, mem⟩
  · intro held beats ahead accepted
    have taken := tenantRequest_of (v := 7) (by simp) (requestOf_resume up free configured held beats ahead)
    obtain ⟨⟨request, status, out, mem, -⟩, written⟩ :=
      viaTenant (pendRequest_pended s ⟨5, s.dget (0x6070 + t) 4, t⟩) (v := 7)
    exact ⟨_, congrArg Host.Outcome.next (writeTenantRequest_taken accepted (by decide) taken), request, status, written,
      congrArg _ out, mem⟩
  · intro running notStopping ahead accepted
    have taken := tenantRequest_preempt up free running notStopping ahead
    have pended := setHostParked_pended (pendRequest_pended s ⟨9, s.dget (0x6070 + t) 4, t⟩) t true
    have parked := setHostParked_tenantFlags (pendRequest s ⟨9, s.dget (0x6070 + t) 4, t⟩) t true
    generalize setHostParked (pendRequest s ⟨9, s.dget (0x6070 + t) 4, t⟩) t true = u at taken pended parked
    obtain ⟨⟨request, status, out, mem, -⟩, -⟩ := viaTenant pended (v := 3)
    refine ⟨_, congrArg Host.Outcome.next (writeTenantRequest_taken accepted (by decide) taken), request, status, ?_,
      congrArg _ out, mem⟩
    exact (congrArg (bit · 0) (State.dset_dget_other u _ 3 3 _ 6 (by decide) (by decide) (.inr (by decide)))).trans parked
  · intro parked accepted
    have taken := tenantRequest_of (v := 4) (by simp) (requestOf_release up free configured parked (s.dget (0x6070 + t) 4))
    refine ⟨_, congrArg Host.Outcome.next (writeTenantRequest_taken accepted (by decide) taken), ?_, ?_, rfl, rfl, rfl⟩
    · refine Eq.trans (congrArg (bit · 0) ?_) (setHostParked_tenantFlags s t false)
      refine (State.dset_dget_other _ _ 3 _ _ 6 (by decide) (by decide) (.inr (by decide))).trans ?_
      exact State.dset_dget_other _ _ 5 _ _ 6 (by decide) (by decide) (.inl (by omega))
    · refine (State.dset_dget_other _ _ 3 _ _ 5 (by decide) (by decide) (.inl (by omega))).trans ?_
      exact setTransition_dget_status _ 1

end

section
/-! PROOF. The beat of a pending request arrives (O21). -/

namespace Sys2Proof.Machine
open Sys2Proof

/-! ## Flows that open again (R459) -/

/-- The record areas of a flow that sends (R370, R373, R575). -/
def flowAreas : List Nat := [0x5080, 0x50E0, 0x50D0]

theorem setFlow_indexKept (s : State) (f : Nat) (x : Flow) (l : List Nat) : IndexKept s (s.setFlow f x) l :=
  indexKept_of_dict rfl rfl l

theorem emit_indexKept (s : State) (o : Out) (l : List Nat) : IndexKept s (s.emit o) l := indexKept_of_dict rfl rfl l

theorem transmit_indexKept (s : State) (f u : Nat) : IndexKept s (transmit s f u) flowAreas := by
  unfold transmit
  dsimp only
  split
  · exact .refl s _
  next y _ =>
    have moved := setFlow_indexKept s f
      ((s.flow f).putUnit { y with path := (pathFor s f u y.attempt).1, port := (pathFor s f u y.attempt).2 }) flowAreas
    generalize s.setFlow f ((s.flow f).putUnit { y with
      path := (pathFor s f u y.attempt).1, port := (pathFor s f u y.attempt).2 }) = t at moved ⊢
    split
    · exact setFlow_indexKept s _ _ _
    · refine moved.trans ?_
      split
      · split
        · exact emit_indexKept _ _ _
        · exact (emit_indexKept t _ _).trans ((record_indexKept _ _ _ _ (by simp)).mono (by simp [flowAreas]))
      · split
        · exact emit_indexKept _ _ _
        · split
          · exact emit_indexKept _ _ _
          · exact (emit_indexKept t _ _).trans ((record_indexKept _ _ _ _ (by simp)).mono (by simp [flowAreas]))

theorem retransmit_indexKept (s : State) (f u : Nat) : IndexKept s (retransmit s f u) flowAreas := by
  unfold retransmit
  dsimp only
  split
  · exact .refl s _
  · split
    · exact setFlow_indexKept s _ _ _
    · refine IndexKept.trans ?_ (transmit_indexKept _ _ _)
      exact (setFlow_indexKept s _ _ _).trans ((dcount_indexKept _ _ _ (by decide)).mono (by simp [flowAreas]))

theorem goBack_indexKept (s : State) (f u : Nat) : IndexKept s (goBack s f u) flowAreas :=
  foldl_indexKept _ (fun t (y : StoreUnit) => retransmit_indexKept t f y.seq) _ s

theorem ackUnits_indexKept (s : State) (f seq map : Nat) (l : List Nat) : IndexKept s (ackUnits s f seq map) l :=
  indexKept_of_dict rfl rfl l

theorem resumeFlow_indexKept (s : State) (f u : Nat) : IndexKept s (resumeFlow s f u) flowAreas := by
  unfold resumeFlow
  dsimp only
  split
  · exact ((setFlow_indexKept s _ _ _).trans (ackUnits_indexKept _ _ _ _ _)).trans (goBack_indexKept _ _ _)
  · exact setFlow_indexKept s _ _ _

theorem resumeParked_indexKept (s : State) (f : Nat) : IndexKept s (resumeParked s f) flowAreas := by
  unfold resumeParked
  dsimp only
  split
  · exact .refl s _
  · refine IndexKept.trans ?_ (resumeFlow_indexKept _ _ _)
    split
    · exact .refl s _
    · exact emit_indexKept s _ _

theorem setCtx_indexKept (s : State) (c : Nat) (f : Ctx → Ctx) (l : List Nat) : IndexKept s (s.setCtx c f) l :=
  indexKept_of_dict rfl rfl l

theorem resumeFlows_indexKept (s : State) (c : Nat) : IndexKept s (resumeFlows s c) flowAreas :=
  (foldl_indexKept _ (fun t f => resumeParked_indexKept t f) _ s).trans (setCtx_indexKept _ _ _ _)

/-! ## A context's stream entries (R157, R158) -/

/-- The stream entries of the four contexts are no record area and no tenant's entry. -/
theorem streamEntry_notMem {c : Nat} (h : c < 4) {l : List Nat} (low : ∀ i ∈ l, i < 0x4030 ∨ 0x4034 ≤ i) : 0x4030 + c ∉ l := by
  intro m
  have := low _ m
  omega

theorem flowAreas_high : ∀ i ∈ flowAreas, i < 0x4030 ∨ 0x4034 ≤ i := by decide

theorem freshWait_dget (s : State) (c : Nat) {idx sub : Nat} (small : sub < 256) (other : idx ≠ 0x4030 + c ∨ sub ≠ 2) :
    (freshWait s c).dget idx sub = s.dget idx sub := by
  show (s.dset (0x4030 + c) 2 0).dget idx sub = _
  exact State.dset_dget_other s _ _ _ _ _ (by decide) small (by omega)

/-! ## The end of a request (R37) -/

/-- A request has ended: tenant `t` is in state `v`, `TRANSITION_STATUS` is `DONE`, and the contexts' stream entries stand as in `w`. -/
structure Ended (w u : State) (t v : Nat) : Prop where
  tenant : u.tenantState t = v
  request : u.power.request = none
  status : u.dget 0x4000 5 = 1
  contexts : u.contexts = w.contexts
  tenancy : u.tenancy = w.tenancy
  stream : ∀ c sub, c < 4 → sub < 256 → u.dget (0x4030 + c) sub = w.dget (0x4030 + c) sub

theorem endRequest_indexKept (s : State) (v : Nat) : IndexKept s (endRequest s v) [0x4000] :=
  IndexKept.trans (indexKept_of_dict rfl rfl _) (setTransition_indexKept _ v)

theorem endRequest_dget_status (s : State) (v : Nat) : (endRequest s v).dget 0x4000 5 = v := setTransition_dget_status _ v

/-- The tenant's state changes, and then the request ends. -/
theorem endRequest_setTenantState (w : State) (t v : Nat) : Ended w (endRequest (setTenantState w t v) 1) t v where
  tenant := by
    unfold State.tenantState
    rw [endRequest_indexKept _ 1 _ 5 (by decide) (by simp; omega)]
    exact setTenantState_tenantState w t v
  request := rfl
  status := endRequest_dget_status _ 1
  contexts := (setTenantState_noticeFrame w t v).contexts
  tenancy := (setTenantState_noticeFrame w t v).tenancy
  stream c sub hc small := by
    rw [endRequest_indexKept _ 1 _ sub small (by simp; omega)]
    exact setTenantState_dget w t v _ sub small (by omega) (by omega) (.inl (by omega))

/-- The request ends, and then the tenant's state changes. -/
theorem setTenantState_endRequest (w : State) (t v : Nat) : Ended w (setTenantState (endRequest w 1) t v) t v where
  tenant := setTenantState_tenantState _ t v
  request := by rw [(setTenantState_noticeFrame _ t v).power]; rfl
  status := by
    rw [setTenantState_dget _ t v 0x4000 5 (by decide) (by decide) (by decide) (.inl (by omega))]
    exact endRequest_dget_status w 1
  contexts := (setTenantState_noticeFrame _ t v).contexts
  tenancy := (setTenantState_noticeFrame _ t v).tenancy
  stream c sub hc small := by
    rw [setTenantState_dget _ t v _ sub small (by omega) (by omega) (.inl (by omega))]
    exact endRequest_indexKept w 1 _ sub small (by simp; omega)

/-! ## A new run (R147, R149) -/

theorem overBlocks_eq (s : State) (c : Nat) (f : Nat → Block → Block) :
    overBlocks s c f = { s with blocks := (overBlocks s c f).blocks } := by
  unfold overBlocks
  exact foldl_related (fun a b : State => b = { a with blocks := b.blocks }) (fun _ => rfl) (fun h k => by rw [k, h])
    _ (fun _ _ => rfl) _ s

theorem mirrorMask_eq (s : State) (c : Nat) :
    mirrorMask s c = { s with mem := (mirrorMask s c).mem, poison := (mirrorMask s c).poison } := by
  unfold mirrorMask
  split <;> rfl

theorem clearMirror_eq (s : State) (c : Nat) :
    clearMirror s c = { s with mem := (clearMirror s c).mem, poison := (clearMirror s c).poison } := by
  unfold clearMirror
  split
  · rfl
  · rw [mirrorMask_eq]; rfl

theorem clearMirror_indexKept (s : State) (c : Nat) (l : List Nat) : IndexKept s (clearMirror s c) l := by
  rw [clearMirror_eq]
  exact indexKept_of_dict rfl rfl l

/-- The stream entries that a new run writes: the entry address, its beat and no skip (R147, R149). -/
theorem newRun_dget (s : State) (c b : Nat) : (newRun s c b).dget (0x4030 + c) 1 = (s.ctx c).entry ∧
    (newRun s c b).dget (0x4030 + c) 3 = b ∧ (newRun s c b).dget (0x4030 + c) 5 = 0 := by
  unfold newRun
  simp only [State.setCtx_dget, State.dsets, List.foldl_cons, List.foldl_nil]
  simp [State.dset_dget]

theorem newRun_ctx (s : State) (c b : Nat) : ((newRun s c b).ctx c).loops = [] ∧ ((newRun s c b).ctx c).backlog = [] := by
  unfold newRun
  simp only [State.setCtx_ctx, if_true, and_self]

/-- A new run of tenant `t` on context `c` from beat `b`, before the tenant is `RUNNING`. -/
def runBase (s : State) (c t b : Nat) : State :=
  let u := freshWait (clearMirror (newRun s c b) c) c
  (u.setCairn c fun y => { y with restored := none, started := true }).dclear (0x6070 + t) 0xF

/-- The run of a context that no restore awaits begins at its entry address. -/
theorem beginRun_eq {s : State} {t : Nat} (noRestore : (s.cairnOf (homeOfTenant s t)).restored = none) (b : Nat) :
    beginRun s t b = setTenantState (runBase s (homeOfTenant s t) t b) t 2 := by
  unfold beginRun runBase
  simp only [noRestore]

/-- But for the wait class, the stream entries stand as the new run wrote them. -/
theorem runBase_dget (s : State) (c t b : Nat) {sub : Nat} (h : c < 4) (small : sub < 256) (notWait : sub ≠ 2) :
    (runBase s c t b).dget (0x4030 + c) sub = (newRun s c b).dget (0x4030 + c) sub := by
  unfold runBase
  dsimp only
  rw [State.dclear_dget_other _ _ _ _ _ (by decide) small (.inl (by omega)),
    setCairn_indexKept _ _ _ _ sub small (by simp), freshWait_dget _ _ small (.inr notWait),
    clearMirror_indexKept _ _ [] _ sub small (by simp)]

theorem runBase_ctx (s : State) (c t b : Nat) :
    (runBase s c t b).ctx c = { (newRun s c b).ctx c with waitBeats := 0, waitTold := false } := by
  have kept : (clearMirror (newRun s c b) c).ctx c = (newRun s c b).ctx c := by
    unfold State.ctx
    rw [clearMirror_eq]
  have waited : (runBase s c t b).ctx c = (((clearMirror (newRun s c b) c).dset (0x4030 + c) 2 0).setCtx c fun x =>
      { x with waitBeats := 0, waitTold := false }).ctx c := rfl
  rw [waited, State.setCtx_ctx, if_pos rfl, ← kept]
  rfl

/-- What the run finds before its tenant is `RUNNING`. -/
theorem runBase_facts {c : Nat} (h : c < 4) (s : State) (t b : Nat) :
    (runBase s c t b).pc c = (s.ctx c).entry ∧ (runBase s c t b).dget (0x4030 + c) 3 = b ∧
      (runBase s c t b).dget (0x4030 + c) 5 = 0 ∧ ((runBase s c t b).ctx c).loops = [] ∧
      ((runBase s c t b).ctx c).backlog = [] := by
  obtain ⟨entry, start, skip⟩ := newRun_dget s c b
  obtain ⟨loops, backlog⟩ := newRun_ctx s c b
  refine ⟨?_, ?_, ?_, ?_, ?_⟩
  · exact (runBase_dget s c t b h (by decide) (by decide)).trans entry
  · exact (runBase_dget s c t b h (by decide) (by decide)).trans start
  · exact (runBase_dget s c t b h (by decide) (by decide)).trans skip
  · rw [runBase_ctx]; exact loops
  · rw [runBase_ctx]; exact backlog

/-! ## A run that goes on (R151, R457) -/

/-- A resumed stream is further behind its schedule by the beats that it stood, and stands where it stopped. -/
theorem resumeRun_ended {s : State} {t : Nat} (h : homeOfTenant s t < 4) (b : Nat) :
    ∃ w, Ended w (endRequest (resumeRun s t b) 1) t 2 ∧ w.pc (homeOfTenant s t) = s.pc (homeOfTenant s t) ∧
      w.dget (0x4030 + homeOfTenant s t) 5 =
        s.dget (0x4030 + homeOfTenant s t) 5 + (b - (s.ctx (homeOfTenant s t)).stopBeat) := by
  unfold resumeRun
  dsimp only
  generalize homeOfTenant s t = c at h ⊢
  refine ⟨_, endRequest_setTenantState _ t 2, ?_, ?_⟩
  · refine (resumeFlows_indexKept _ c _ 1 (by decide) (streamEntry_notMem h flowAreas_high)).trans ?_
    refine (freshWait_dget _ c (by decide) (.inr (by decide))).trans ?_
    exact State.dset_dget_other s _ _ _ _ _ (by decide) (by decide) (.inr (by decide))
  · refine (resumeFlows_indexKept _ c _ 5 (by decide) (streamEntry_notMem h flowAreas_high)).trans ?_
    refine (freshWait_dget _ c (by decide) (.inr (by decide))).trans ?_
    exact State.dset_dget_same s _ _ _

/-! ## A stop (R40, R298, R419) -/

/-- The record areas of a stop of context `c`. -/
def stopAreas (c : Nat) : List Nat := [0x5060, 0x6040 + c, 0x50A0, 0x50D0]

theorem stopWindow_indexKept (s : State) (c : Nat) : IndexKept s (stopWindow s c) (stopAreas c) := by
  unfold stopWindow
  split
  · dsimp only
    refine IndexKept.trans ?_ (indexKept_of_dict rfl rfl _)
    refine IndexKept.trans ?_ (setCtx_indexKept _ c (fun x => { x with window := false }) _)
    refine foldl_indexKept _ (fun t e => ?_) _ s
    exact (record_indexKept _ _ _ _ (by simp)).mono (by simp [stopAreas])
  · exact .refl s _

theorem stopWindow_tenancy (s : State) (c : Nat) : (stopWindow s c).tenancy = s.tenancy := by
  unfold stopWindow
  split
  · exact (abandonEvacs_recordOnly 1 s _).noticeFrame.tenancy
  · rfl

theorem abandonCut_indexKept (s : State) (c : Nat) : IndexKept s (abandonCut s c) (stopAreas c) := by
  unfold abandonCut
  split
  · refine IndexKept.trans ?_ ((record_indexKept _ _ _ _ (by simp)).mono (by simp [stopAreas]))
    exact (setCairn_indexKept s c _).mono (by simp [stopAreas])
  · exact .refl s _

theorem abandonCut_tenancy (s : State) (c : Nat) : (abandonCut s c).tenancy = s.tenancy := by
  unfold abandonCut
  split
  · exact (record_recordOnly _ _ _ _ _).noticeFrame.tenancy
  · rfl

theorem stopStream_indexKept (s : State) (c : Nat) : IndexKept s (stopStream s c) (stopAreas c) :=
  (stopWindow_indexKept s c).trans (abandonCut_indexKept _ c)

theorem stopStream_tenancy (s : State) (c : Nat) : (stopStream s c).tenancy = s.tenancy :=
  (abandonCut_tenancy _ c).trans (stopWindow_tenancy s c)

theorem setTenancy_ctx (s : State) (f : Tenancy → Tenancy) (c : Nat) : (setTenancy s f).ctx c = s.ctx c := rfl

/-- A stop by `HOLD` ends its request: the stream stands at its bundle, and the beat of the stop is kept (R40, R151). -/
theorem stopRun_hold {s : State} {t b : Nat} (h : homeOfTenant s t < 4) (idle : s.tenancy.stops = []) :
    ∃ w, Ended w (stopRun s ⟨t, false, b, false, none⟩) t 6 ∧ w.pc (homeOfTenant s t) = s.pc (homeOfTenant s t) ∧
      (w.ctx (homeOfTenant s t)).stopBeat = b ∧ w.tenancy.stops = [] := by
  unfold stopRun
  dsimp only
  refine ⟨_, setTenantState_endRequest _ t 6, ?_, ?_, ?_⟩
  · have flags := State.dset_dget_other (stopStream s (homeOfTenant s t)) (0x6070 + t) 6
    refine (flags _ _ 1 (by decide) (by decide) (.inl (by omega))).trans ?_
    refine stopStream_indexKept s _ _ 1 (by decide) (streamEntry_notMem h ?_)
    simp [stopAreas]
    omega
  · rw [setTenancy_ctx, State.setCtx_ctx, if_pos rfl]
  · show ((stopStream s (homeOfTenant s t)).tenancy.stops.filter _) = []
    rw [stopStream_tenancy, idle]
    rfl

end Sys2Proof.Machine

open Sys2Proof Sys2Proof.Machine

/-- Settles O21: a start writes the stream entries of a new run, a resume adds the beats that the stream stood, and a stop leaves the
stream at its bundle; the tenant's state and the end of the request touch none of them. -/
theorem pendingRequestsFire : Obligations.PendingRequestsFire := by
  intro s t b ht home schedule begun due
  refine ⟨fun pending loaded noRestore => ?_, fun pending held => ?_, fun pending running idle noWait => ?_⟩
  · have e : exec .startAtBeat s = .next (endRequest (beginRun s t b) 1) := by
      show execStartAtBeat s = _
      simp [execStartAtBeat, pending, schedule, begun, due, loaded]
    rw [e, beginRun_eq noRestore]
    obtain ⟨pc, start, skip, loops, backlog⟩ := runBase_facts home s t b
    generalize runBase s (homeOfTenant s t) t b = w at pc start skip loops backlog ⊢
    obtain ⟨tenant, request, status, contexts, -, stream⟩ := endRequest_setTenantState w t 2
    generalize endRequest (setTenantState w t 2) 1 = u at tenant request status contexts stream ⊢
    have ctx : u.ctx (homeOfTenant s t) = w.ctx (homeOfTenant s t) := by unfold State.ctx; rw [contexts]
    refine ⟨u, rfl, tenant, request, status, ?_, ?_, ?_, ?_, ?_⟩
    · exact (stream _ 1 home (by decide)).trans pc
    · exact (stream _ 3 home (by decide)).trans start
    · exact (stream _ 5 home (by decide)).trans skip
    · rw [ctx, loops]
    · rw [ctx, backlog]
  · have e : exec .startAtBeat s = .next (endRequest (resumeRun s t b) 1) := by
      show execStartAtBeat s = _
      simp [execStartAtBeat, pending, schedule, begun, due, held]
    rw [e]
    obtain ⟨w, ⟨tenant, request, status, -, -, stream⟩, pc, skip⟩ := resumeRun_ended home b
    exact ⟨_, rfl, tenant, request, status, (stream _ 1 home (by decide)).trans pc, (stream _ 5 home (by decide)).trans skip⟩
  · have e : exec .holdAtBeat s = .next (stopRun s ⟨t, false, b, false, none⟩) := by
      have notStopping : stopping s t = false := by simp [stopping, idle]
      show execHoldAtBeat s = _
      simp [execHoldAtBeat, idle, fireStop, pending, schedule, begun, due, notStopping, running, beginStop, noWait]
    rw [e]
    obtain ⟨w, ⟨tenant, request, status, contexts, tenancy, stream⟩, pc, stop, stops⟩ := stopRun_hold (b := b) home idle
    refine ⟨_, rfl, tenant, request, status, (stream _ 1 home (by decide)).trans pc, ?_, ?_⟩
    · unfold State.ctx at stop ⊢
      rw [contexts, stop]
    · rw [tenancy, stops]

end

section
/-! PROOF. LOAD and UNLOAD (O20). -/

namespace Sys2Proof.Machine
open Sys2Proof

/-! ## The entries that a request leaves -/

/-- The request entries that a taken request is written to: `STATE_REQUEST`, or `TENANT_REQUEST` of tenant `t`. -/
def RequestEntry (t idx sub : Nat) : Prop := (idx = 0x4000 ∧ sub = 2) ∨ (idx = 0x6070 + t ∧ sub = 3)

theorem RequestEntry.dget {t idx sub : Nat} (h : RequestEntry t idx sub) (s : State) (v : Nat) {j b : Nat} (small : b < 256)
    (status : j ≠ 0x4000 ∨ b ≠ 2) (tenant : j ≠ 0x6070 + t ∨ b ≠ 3) : (s.dset idx sub v).dget j b = s.dget j b := by
  unfold RequestEntry at h
  exact State.dset_dget_other s idx sub v j b (by omega) small (by omega)

/-! ## A refused load (R37, R286) -/

theorem loadStatus_recordOnly (s : State) (c : Nat) (r : Refused) : RecordOnly s (loadStatus s c r) := dsets_recordOnly s _

theorem loadStatus_indexKept (s : State) (c : Nat) (r : Refused) : IndexKept s (loadStatus s c r) [0x7010 + c] := by
  intro idx sub small n
  have other : 0x7010 + c ≠ idx := fun e => n (by simp [e])
  unfold loadStatus State.dsets
  simp only [List.foldl_cons, List.foldl_nil]
  simp [State.dset_dget, small, other]

theorem loadStatus_dget (s : State) (c : Nat) (r : Refused) :
    (loadStatus s c r).dget (0x7010 + c) 1 = r.code ∧ (loadStatus s c r).dget (0x7010 + c) 2 = r.bundle := by
  unfold loadStatus State.dsets
  simp only [List.foldl_cons, List.foldl_nil]
  simp [State.dset_dget]

theorem refuseLoad_recordOnly (s : State) (c : Nat) (r : Refused) : RecordOnly s (refuseLoad s c r) := by
  unfold refuseLoad
  dsimp only
  refine RecordOnly.trans ?_ (dset_recordOnly _ _ _ _)
  refine RecordOnly.trans ?_ (log_recordOnly _ _ _ _ _ _)
  exact (loadStatus_recordOnly s c r).trans (dcount_recordOnly _ _ _ _)

/-- What follows the load status leaves it. -/
theorem refuseLoad_after (s : State) (c : Nat) (r : Refused) :
    IndexKept (loadStatus s c r) (refuseLoad s c r) [0x5060, 0x50D0, 0x4000] := by
  unfold refuseLoad
  dsimp only
  refine IndexKept.trans ?_ ((setTransition_indexKept _ 4).mono (by simp))
  refine IndexKept.trans ?_ ((log_indexKept _ _ _ _ _ _).mono (by simp))
  exact (dcount_indexKept _ _ _ (by decide)).mono (by simp)

theorem refuseLoad_indexKept (s : State) (c : Nat) (r : Refused) :
    IndexKept s (refuseLoad s c r) [0x7010 + c, 0x5060, 0x50D0, 0x4000] :=
  ((loadStatus_indexKept s c r).mono (by simp)).trans ((refuseLoad_after s c r).mono (by simp))

theorem refuseLoad_dget_status (s : State) (c : Nat) (r : Refused) : (refuseLoad s c r).dget 0x4000 5 = 4 :=
  setTransition_dget_status _ 4

/-- A load is refused with code and bundle; the module stands as it did. -/
structure LoadRefused (s u : State) (c t code bundle : Nat) : Prop where
  status : u.dget 0x4000 5 = 4
  code : u.dget (0x7010 + c) 1 = code
  bundle : u.dget (0x7010 + c) 2 = bundle
  tenant : u.tenantState t = s.tenantState t
  mem : u.mem = s.mem
  contexts : u.contexts = s.contexts

theorem LoadRefused.request {s u : State} {c t code bundle idx sub : Nat} (h : LoadRefused s u c t code bundle)
    (e : RequestEntry t idx sub) (v : Nat) : LoadRefused s (u.dset idx sub v) c t code bundle where
  status := (e.dget u v (by decide) (.inr (by decide)) (.inr (by decide))).trans h.status
  code := (e.dget u v (by decide) (.inr (by decide)) (.inr (by decide))).trans h.code
  bundle := (e.dget u v (by decide) (.inl (by omega)) (.inr (by decide))).trans h.bundle
  tenant := (e.dget u v (by decide) (.inr (by decide)) (.inr (by decide))).trans h.tenant
  mem := h.mem
  contexts := h.contexts

theorem refuseLoad_refused {c t : Nat} (far : c < 4) (small : t < 8) (s : State) (r : Refused) :
    LoadRefused s (refuseLoad s c r) c t r.code r.bundle := by
  obtain ⟨code, bundle⟩ := loadStatus_dget s c r
  have notMem : 0x7010 + c ∉ [0x5060, 0x50D0, 0x4000] := by simp; omega
  refine ⟨refuseLoad_dget_status s c r, ?_, ?_, ?_, (refuseLoad_recordOnly s c r).mem, (refuseLoad_recordOnly s c r).contexts⟩
  · exact (refuseLoad_after s c r _ 1 (by decide) notMem).trans code
  · exact (refuseLoad_after s c r _ 2 (by decide) notMem).trans bundle
  · exact refuseLoad_indexKept s c r _ 5 (by decide) (by simp; omega)

/-! ## A program that is bound (R36, R301) -/

/-- The keys of the dictionary up to a bound read as before. -/
def CellsBelow (s t : State) (bound : Nat) : Prop := ∀ idx sub, sub < 256 → idx < bound → t.dget idx sub = s.dget idx sub

theorem CellsBelow.trans {s t u : State} {n : Nat} (h : CellsBelow s t n) (k : CellsBelow t u n) : CellsBelow s u n :=
  fun idx sub b l => (k idx sub b l).trans (h idx sub b l)

/-- A cell of the district map lies above every entry of a lower index, whatever its district. -/
theorem mapDistricts_below (s : State) (c : Nat) (x : Ctx) : CellsBelow s (mapDistricts s c x) (0x7044 + c) := by
  unfold mapDistricts
  refine foldl_related (fun a b => CellsBelow a b (0x7044 + c)) (fun _ _ _ _ _ => rfl) CellsBelow.trans _ (fun t e => ?_) _ s
  intro idx sub small low
  have other : dictKey (0x7044 + c) (e.1 + 1) ≠ dictKey idx sub := by unfold dictKey; omega
  simp only [State.dget, State.dset, kfind_kset, other, if_false]

theorem mapDistricts_eq (s : State) (c : Nat) (x : Ctx) : mapDistricts s c x = { s with dict := (mapDistricts s c x).dict } := by
  unfold mapDistricts
  exact foldl_related (fun a b : State => b = { a with dict := b.dict }) (fun _ => rfl) (fun h k => by rw [k, h])
    _ (fun _ _ => rfl) _ s

/-- Only bytes of memory and their poison have changed. -/
def BytesOnly (s t : State) : Prop := t = { s with mem := t.mem, poison := t.poison }

theorem BytesOnly.trans {s t u : State} (h : BytesOnly s t) (k : BytesOnly t u) : BytesOnly s u := by
  unfold BytesOnly at *
  rw [k, h]

theorem copyBytes_bytesOnly (s : State) (src n dst : Nat) : BytesOnly s (copyBytes s src n dst) := by
  unfold copyBytes
  dsimp only
  generalize (s.mem.filter fun e => decide (src ≤ e.1) && decide (e.1 < src + n)) = cells
  exact rfl

theorem clearStore_bytesOnly (s : State) (c : Nat) : BytesOnly s (clearStore s c) := rfl

theorem placeImage_bytesOnly (s : State) (c : Nat) (i : Image) : BytesOnly s (placeImage s c i) := by
  unfold placeImage
  exact ((clearStore_bytesOnly s c).trans (copyBytes_bytesOnly _ _ _ _)).trans (copyBytes_bytesOnly _ _ _ _)

theorem placeImage_eq (s : State) (c : Nat) (i : Image) :
    placeImage s c i = { s with mem := (placeImage s c i).mem, poison := (placeImage s c i).poison } := placeImage_bytesOnly s c i

theorem settlePower_lossFrame (was s : State) : LossFrame s (settlePower was s) := by
  unfold settlePower
  dsimp only
  refine (loseBlocks_lossFrame s fun p => blockPower was p != 0 && blockPower s p == 0).trans ?_
  exact rfl

/-- Tenant `t` is resident on context `c`, whose load status reads success (R286). -/
def residentProgram (s : State) (c t : Nat) : State := (loadStatus (clearProgramCells s c) c (.plain 0)).dset (0x6060 + c) 5 t

/-- The program of the tenant is bound as well, before its state and the blocks' power follow. -/
def boundProgram (s : State) (c t : Nat) (x : Ctx) : State :=
  let a := (residentProgram s c t).dclear 0x7050 4
  let b := mapDistricts (placeImage { a with contexts := kset a.contexts c x } c (imageAt s)) c x
  let d := overBlocks b c fun l _ => { Block.empty with bases := x.loadedBases l }
  ((clearMirror d c).dclear (0x6070 + t) 0xF).dclear (0x6070 + t) 6

theorem bindProgram_eq (s : State) (c t : Nat) (x : Ctx) :
    bindProgram s c t x = setTransition (settlePower s (setTenantState (boundProgram s c t x) t 1)) 1 := rfl

theorem boundProgram_ctx (s : State) (c t : Nat) (x : Ctx) : (boundProgram s c t x).ctx c = x := by
  unfold boundProgram
  dsimp only
  generalize (residentProgram s c t).dclear 0x7050 4 = a
  generalize hb : mapDistricts (placeImage { a with contexts := kset a.contexts c x } c (imageAt s)) c x = b
  have bound : b.contexts = kset a.contexts c x := by rw [← hb, mapDistricts_eq]; rfl
  have kept : (clearMirror (overBlocks b c fun l _ => { Block.empty with bases := x.loadedBases l }) c).contexts =
      kset a.contexts c x := by
    rw [clearMirror_eq, overBlocks_eq]
    exact bound
  show kget Ctx.empty (clearMirror _ c).contexts c = x
  rw [kept, kget_kset, if_pos rfl]

/-- The entries below the district maps, outside the tenant's own, are not the binding's. -/
theorem boundProgram_dget (s : State) (c : Nat) (x : Ctx) {t idx sub : Nat} (small : sub < 256) (low : idx < 0x7044)
    (other : idx ≠ 0x6070 + t) : (boundProgram s c t x).dget idx sub = (residentProgram s c t).dget idx sub := by
  unfold boundProgram
  dsimp only
  generalize residentProgram s c t = r
  rw [State.dclear_dget_other _ _ _ _ _ (by decide) small (.inl (Ne.symm other)),
    State.dclear_dget_other _ _ _ _ _ (by decide) small (.inl (Ne.symm other)),
    clearMirror_indexKept _ c [] idx sub small (by simp), overBlocks_eq]
  refine (mapDistricts_below _ c x idx sub small (by omega)).trans ?_
  rw [placeImage_eq]
  exact State.dclear_dget_other r _ _ _ _ (by decide) small (.inl (by omega))

theorem residentProgram_dget (s : State) (c t : Nat) :
    (residentProgram s c t).dget (0x7010 + c) 1 = 0 ∧ (residentProgram s c t).dget (0x6060 + c) 5 = t := by
  unfold residentProgram
  refine ⟨?_, State.dset_dget_same _ _ _ _⟩
  rw [State.dset_dget_other _ _ _ _ _ _ (by decide) (by decide) (.inl (by omega))]
  exact (loadStatus_dget _ c (.plain 0)).1

/-- A tenant's state and the blocks' power settle, and `TRANSITION_STATUS` is `DONE`: how `LOAD` and `UNLOAD` end. -/
structure Settled (w u : State) (t v : Nat) : Prop where
  status : u.dget 0x4000 5 = 1
  tenant : u.tenantState t = v
  contexts : u.contexts = w.contexts
  cells : ∀ idx sub, sub < 256 → idx ∉ [0x6070 + t, 0x50C0, 0x50D0, 0x4000] → u.dget idx sub = w.dget idx sub

theorem settled_of (was w : State) {t : Nat} (small : t < 8) (v : Nat) :
    Settled w (setTransition (settlePower was (setTenantState w t v)) 1) t v where
  status := setTransition_dget_status _ 1
  tenant := by
    refine (setTransition_indexKept _ 1 _ 5 (by decide) (by simp; omega)).trans ?_
    exact ((settlePower_lossFrame was _).dget _ 5).trans (setTenantState_tenantState w t v)
  contexts := (settlePower_lossFrame was (setTenantState w t v)).contexts.trans (setTenantState_noticeFrame w t v).contexts
  cells idx sub low n := by
    simp only [List.mem_cons, List.not_mem_nil, or_false, not_or] at n
    obtain ⟨own, mail, log, request⟩ := n
    refine (setTransition_indexKept _ 1 idx sub low (by simp [request])).trans ?_
    exact ((settlePower_lossFrame was _).dget _ sub).trans (setTenantState_dget w t v idx sub low mail log (.inl (Ne.symm own)))

theorem Settled.request {w u : State} {t v idx sub : Nat} (h : Settled w u t v) (e : RequestEntry t idx sub) (n : Nat) :
    Settled w (u.dset idx sub n) t v where
  status := (e.dget u n (by decide) (.inr (by decide)) (.inr (by decide))).trans h.status
  tenant := (e.dget u n (by decide) (.inr (by decide)) (.inr (by decide))).trans h.tenant
  contexts := h.contexts
  cells j b low out := by
    simp only [List.mem_cons, List.not_mem_nil, or_false, not_or] at out
    refine (e.dget u n low (.inl out.2.2.2) (.inl out.1)).trans (h.cells j b low ?_)
    simp only [List.mem_cons, List.not_mem_nil, or_false, not_or]
    exact out

theorem resident_of_dget {s : State} {c t : Nat} (h : s.dget (0x6060 + c) 5 = t) (small : t < 8) : s.resident c = some t := by
  unfold State.resident
  simp [h, small]

/-! ## UNLOAD (R41, R452) -/

/-- A program is gone: its context holds none, and its partition has no resident, before the tenant's state follows. -/
def unloadedProgram (s : State) (t : Nat) : State :=
  let c := homeOfTenant s t
  let a := setTenancy s fun y => { y with stops := y.stops.filter (·.tenant != t) }
  ((((unloadContext (abortSets a c) c 6).dclear (0x6060 + c) 5).dclear (0x6070 + t) 6).dclear (0x6070 + t) 0xF)

theorem unloadTenant_resident {s : State} {t : Nat} (h : s.resident (homeOfTenant s t) = some t) :
    unloadTenant s t = setTransition (settlePower s (setTenantState (unloadedProgram s t) t 0)) 1 := by
  unfold unloadTenant unloadedProgram
  simp only [h, if_true]

theorem unloadContext_ctx (s : State) (c reason : Nat) : ((unloadContext s c reason).ctx c).loaded = false := by
  unfold unloadContext State.ctx
  dsimp only
  rw [State.setCairn_contexts]
  simp [kget, kfind_kerase, Ctx.empty]

theorem unloadedProgram_ctx (s : State) (t : Nat) : ((unloadedProgram s t).ctx (homeOfTenant s t)).loaded = false := by
  unfold unloadedProgram
  dsimp only
  generalize abortSets (setTenancy s fun y => { y with stops := y.stops.filter (·.tenant != t) }) (homeOfTenant s t) = a
  have gone := unloadContext_ctx a (homeOfTenant s t) 6
  generalize unloadContext a (homeOfTenant s t) 6 = u at gone ⊢
  exact gone

/-- A partition without a resident reads 0xFF (R447). -/
theorem dictDefault_resident (straps : Nat) {c : Nat} (h : c < 4) : 8 ≤ dictDefault straps (0x6060 + c) 5 := by
  have line : ∀ c, c < 4 → 8 ≤ ((dictLine (0x6060 + c) 5).map (·.default)).getD 0 := by decide +kernel
  have value : dictDefault straps (0x6060 + c) 5 = ((dictLine (0x6060 + c) 5).map (·.default)).getD 0 := by
    interval_cases c <;> simp [dictDefault, strapDefault, memberDefault]
  rw [value]
  exact line c h

theorem unloadedProgram_resident {s : State} {t : Nat} (h : homeOfTenant s t < 4) (small : t < 8) :
    8 ≤ (unloadedProgram s t).dget (0x6060 + homeOfTenant s t) 5 := by
  unfold unloadedProgram
  dsimp only
  generalize unloadContext (abortSets (setTenancy s fun y => { y with stops := y.stops.filter (·.tenant != t) }) (homeOfTenant s t))
    (homeOfTenant s t) 6 = u
  rw [State.dclear_dget_other _ _ _ _ _ (by decide) (by decide) (.inl (by omega)),
    State.dclear_dget_other _ _ _ _ _ (by decide) (by decide) (.inl (by omega)), State.dclear_dget_same]
  exact dictDefault_resident _ h

/-- A tenant is `EMPTY`, and its partition has neither a resident nor a program. -/
structure Unloaded (u : State) (c t : Nat) : Prop where
  tenant : u.tenantState t = 0
  resident : u.resident c = none
  program : (u.ctx c).loaded = false
  status : u.dget 0x4000 5 = 1

theorem unloadTenant_unloaded {s : State} {t idx sub : Nat} (far : homeOfTenant s t < 4) (small : t < 8)
    (resident : s.resident (homeOfTenant s t) = some t) (e : RequestEntry t idx sub) (v : Nat) :
    Unloaded ((unloadTenant s t).dset idx sub v) (homeOfTenant s t) t := by
  have none := unloadedProgram_resident far small
  have program := unloadedProgram_ctx s t
  rw [unloadTenant_resident resident]
  generalize homeOfTenant s t = c at far none program ⊢
  generalize unloadedProgram s t = w at none program ⊢
  obtain ⟨status, tenant, contexts, cells⟩ := (settled_of s w small 0).request e v
  refine ⟨tenant, ?_, ?_, status⟩
  · unfold State.resident
    rw [cells (0x6060 + c) 5 (by decide) (by simp; omega)]
    exact if_neg (by omega)
  · unfold State.ctx at program ⊢
    rw [contexts, program]

/-! ## LOAD (R36, R134, R286) -/

/-- A program is bound: its tenant is `LOADED` and resident, and its context is the one that the load check made. -/
structure LoadBound (u : State) (c t : Nat) (x : Ctx) : Prop where
  status : u.dget 0x4000 5 = 1
  code : u.dget (0x7010 + c) 1 = 0
  tenant : u.tenantState t = 1
  resident : u.resident c = some t
  context : u.ctx c = x

theorem bindProgram_bound {c t idx sub : Nat} (far : c < 4) (small : t < 8) (s : State) (x : Ctx) (e : RequestEntry t idx sub)
    (v : Nat) : LoadBound ((bindProgram s c t x).dset idx sub v) c t x := by
  obtain ⟨code, resident⟩ := residentProgram_dget s c t
  rw [← boundProgram_dget s c x (by decide) (by omega) (by omega)] at code resident
  have context := boundProgram_ctx s c t x
  rw [bindProgram_eq]
  generalize boundProgram s c t x = w at code resident context ⊢
  obtain ⟨status, tenant, contexts, cells⟩ := (settled_of s w small 1).request e v
  refine ⟨status, ?_, tenant, ?_, ?_⟩
  · exact (cells (0x7010 + c) 1 (by decide) (by simp; omega)).trans code
  · exact resident_of_dget ((cells (0x6060 + c) 5 (by decide) (by simp; omega)).trans resident) small
  · unfold State.ctx at context ⊢
    rw [contexts, context]

theorem loadTenant_noHeader {s : State} {t a : Nat} (h : unmappedByte s (homeOfTenant s t) (imageAt s).base 128 = some a) :
    loadTenant s t = refuseLoad (unmapped s 2 a) (homeOfTenant s t) (.plain 1) := by
  unfold loadTenant
  simp only [h]

theorem loadTenant_refused {s : State} {t : Nat} {r : Refused} (h : unmappedByte s (homeOfTenant s t) (imageAt s).base 128 = none)
    (k : loadCheck s (homeOfTenant s t) t = .error r) : loadTenant s t = refuseLoad s (homeOfTenant s t) r := by
  unfold loadTenant
  simp only [h, k]

theorem loadTenant_bound {s : State} {t : Nat} {x : Ctx} (h : unmappedByte s (homeOfTenant s t) (imageAt s).base 128 = none)
    (k : loadCheck s (homeOfTenant s t) t = .ok x) : loadTenant s t = bindProgram s (homeOfTenant s t) t x := by
  unfold loadTenant
  simp only [h, k]

/-- `LOAD` of an `EMPTY` tenant into a free partition is taken (R36). -/
theorem requestOf_load {s : State} {t : Nat} (up : s.power.state = .up) (free : s.power.request = none)
    (configured : s.configured t = true) (empty : s.tenantState t = 0) (partition : homeOfTenant s t < s.partitions)
    (vacant : s.resident (homeOfTenant s t) = none) (still : moving s (homeOfTenant s t) = false) (beat : Nat) :
    requestOf s t 2 beat = (0, loadTenant s t) := by
  unfold requestOf
  simp [requestOf_free up free configured, empty, partition, vacant, still]

/-- `UNLOAD` of a loaded or held tenant is taken (R36). -/
theorem requestOf_unload {s : State} {t : Nat} (up : s.power.state = .up) (free : s.power.request = none)
    (configured : s.configured t = true) (stands : s.tenantState t = 1 ∨ s.tenantState t = 6) (beat : Nat) :
    requestOf s t 6 beat = (0, unloadTenant s t) := by
  have allowed : s.tenantState t = 1 ∨ s.tenantState t = 4 ∨ s.tenantState t = 5 ∨ s.tenantState t = 6 := by omega
  unfold requestOf
  simp only [requestOf_free up free configured, allowed, if_true, Bool.false_eq_true, if_false]

/-- A load whose header nothing answers is refused as no header, and counted (R26, R534). -/
theorem loadTenant_noHeader_refused {s : State} {t a idx sub : Nat} (far : homeOfTenant s t < 4) (small : t < 8)
    (h : unmappedByte s (homeOfTenant s t) (imageAt s).base 128 = some a) (e : RequestEntry t idx sub) (v : Nat) :
    LoadRefused s ((loadTenant s t).dset idx sub v) (homeOfTenant s t) t 1 0xFFFF ∧
      bit (((loadTenant s t).dset idx sub v).dget 0x5001 1) 2 = true := by
  have counted : RecordOnly s (unmapped s 2 a) := record_recordOnly _ _ _ _ _
  have cells : IndexKept s (unmapped s 2 a) [0x5001, 0x50D0] := record_indexKept _ _ _ _ (by simp)
  have flag : bit ((unmapped s 2 a).dget 0x5001 1) 2 = true := record_flag s _ _ (by decide)
  rw [loadTenant_noHeader h]
  obtain ⟨status, code, bundle, tenant, mem, contexts⟩ := (refuseLoad_refused far small (unmapped s 2 a) (.plain 1)).request e v
  refine ⟨⟨status, code, bundle, tenant.trans (cells _ 5 (by decide) (by simp; omega)), mem.trans counted.mem,
    contexts.trans counted.contexts⟩, ?_⟩
  rw [e.dget _ v (by decide) (.inl (by decide)) (.inl (by omega)),
    refuseLoad_indexKept _ _ _ 0x5001 1 (by decide) (by simp; omega)]
  exact flag

end Sys2Proof.Machine

open Sys2Proof Sys2Proof.Machine

/-- Settles O20: a load ends in `refuseLoad` or `bindProgram` and an unload in `unloadTenant`, by either path of the request. -/
theorem loadAndUnload : Obligations.LoadAndUnload := by
  intro s r t small up free configured far
  have viaState : RequestEntry t 0x4000 2 := .inl ⟨rfl, rfl⟩
  have viaTenant : RequestEntry t (0x6070 + t) 3 := .inr ⟨rfl, rfl⟩
  refine ⟨fun empty partition vacant still => ⟨fun a noHeader accepted => ?_, ?_, fun header accepted => ?_⟩,
    fun resident stands => ⟨?_, fun accepted => ?_⟩⟩
  · have taken := requestOf_load up free configured empty partition vacant still
    have written := writeTenantRequest_taken accepted (by decide) (tenantRequest_of (v := 1) (by simp) (taken _))
    obtain ⟨⟨status, code, -, tenant, mem, contexts⟩, flag⟩ := loadTenant_noHeader_refused far small noHeader viaTenant 1
    exact ⟨_, congrArg Host.Outcome.next written, rfl, status, code, flag, tenant.trans empty, mem, contexts⟩
  · rintro header rfl single accepted
    have taken := requestOf_load up free configured empty partition vacant still
    have written := writeStateRequest_taken (beat := fun _ => 0) accepted single (taken 0)
    refine ⟨_, congrArg Host.Outcome.next written, rfl, ?_⟩
    cases check : loadCheck s (homeOfTenant s 0) 0 with
    | error e =>
      rw [loadTenant_refused header check]
      obtain ⟨status, code, bundle, tenant, mem, contexts⟩ := (refuseLoad_refused far small s e).request viaState 2
      exact ⟨status, code, bundle, tenant.trans empty, mem, contexts⟩
    | ok x =>
      rw [loadTenant_bound header check]
      obtain ⟨status, code, tenant, resident, context⟩ := bindProgram_bound far small s x viaState 2
      generalize (bindProgram s (homeOfTenant s 0) 0 x).dset 0x4000 2 2 = u at status code tenant resident context ⊢
      exact ⟨status, code, tenant, resident, context⟩
  · have taken := requestOf_load up free configured empty partition vacant still
    have written := writeTenantRequest_taken accepted (by decide) (tenantRequest_of (v := 1) (by simp) (taken _))
    refine ⟨_, congrArg Host.Outcome.next written, rfl, ?_⟩
    cases check : loadCheck s (homeOfTenant s t) t with
    | error e =>
      rw [loadTenant_refused header check]
      obtain ⟨status, code, bundle, tenant, mem, contexts⟩ := (refuseLoad_refused far small s e).request viaTenant 1
      exact ⟨status, code, bundle, tenant.trans empty, mem, contexts⟩
    | ok x =>
      rw [loadTenant_bound header check]
      obtain ⟨status, code, tenant, resident, context⟩ := bindProgram_bound far small s x viaTenant 1
      generalize (bindProgram s (homeOfTenant s t) t x).dset (0x6070 + t) 3 1 = u at status code tenant resident context ⊢
      exact ⟨status, code, tenant, resident, context⟩
  · rintro rfl single accepted
    have taken := requestOf_unload up free configured stands 0
    obtain ⟨tenant, none, program, status⟩ := unloadTenant_unloaded far small resident viaState 6
    have written := writeStateRequest_taken (beat := fun _ => 0) accepted single taken
    generalize (unloadTenant s 0).dset 0x4000 2 6 = u at tenant none program status written
    exact ⟨_, congrArg Host.Outcome.next written, tenant, none, program,
      status, rfl⟩
  · have taken := tenantRequest_of (v := 5) (by simp) (requestOf_unload up free configured stands (s.dget (0x6070 + t) 4))
    obtain ⟨tenant, none, program, status⟩ := unloadTenant_unloaded far small resident viaTenant 5
    have written := writeTenantRequest_taken accepted (by decide) taken
    generalize (unloadTenant s t).dset (0x6070 + t) 3 5 = u at tenant none program status written
    exact ⟨_, congrArg Host.Outcome.next written, tenant, none, program, status, rfl⟩

end

section
/-! PROOF. A PCIe function's accesses and resets (O58). -/

namespace Sys2Proof.Machine
open Sys2Proof

/-! ## Square buffers and Bedrock by device address (R22, R25) -/

/-- The `n` bytes from `a` are Square buffers or program-visible Bedrock outside every save area, where memory answers by its own
address. -/
def PlainBytes (s : State) (a n : Nat) : Prop :=
  (squareBase ≤ a ∧ a + n ≤ squareEnd) ∨ (bedrockBase ≤ a ∧ a + n ≤ bedrockTop s ∧ meetsSave s a n = false)

theorem mem_rangeFrom {lo n x : Nat} : x ∈ rangeFrom lo n ↔ lo ≤ x ∧ x < lo + n := by
  simp only [rangeFrom, List.mem_map, List.mem_range]
  constructor
  · rintro ⟨i, hi, rfl⟩; omega
  · intro h; exact ⟨x - lo, by omega, by omega⟩

/-- No block window lies from the Square buffers upwards. -/
theorem windowAt_none {a : Nat} (h : squareBase ≤ a) (s : State) (c : Nat) : windowAt s c a = none := by
  have notBlock : ¬a < blockEnd := by unfold squareBase at h; unfold blockEnd; omega
  have notLogical : ¬(logicalBase ≤ a ∧ a < logicalBase + 1024 * windowBytes) := by
    unfold squareBase at h; unfold logicalBase windowBytes; omega
  unfold windowAt
  rw [if_neg notBlock, if_neg notLogical]

theorem PlainBytes.above {s : State} {a n : Nat} (h : PlainBytes s a n) : squareBase ≤ a := by
  unfold PlainBytes squareBase bedrockBase at *
  omega

/-- No engine register and no program store stands there. -/
theorem PlainBytes.memory {s : State} {a n : Nat} (h : PlainBytes s a n) (pos : 0 < n) : a < engineBase ∨ storeEnd ≤ a := by
  unfold PlainBytes squareEnd bedrockBase at h
  unfold engineBase storeEnd
  omega

/-- A save area that meets a byte meets the range around it. -/
theorem meetsSave_byte {s : State} {a n x : Nat} (h : meetsSave s a n = false) (low : a ≤ x) (high : x < a + n) :
    meetsSave s x 1 = false := by
  simp only [meetsSave, List.any_eq_false, Bool.and_eq_true, decide_eq_true_eq] at h ⊢
  intro t ht
  have := h t ht
  omega

theorem memKey_plain {s : State} {a n x : Nat} (h : PlainBytes s a n) (low : a ≤ x) (high : x < a + n) (c : Nat) :
    memKey s c x = some x := by
  unfold memKey
  rw [windowAt_none (h.above.trans low)]
  dsimp only
  split
  · rfl
  next notSquare =>
    split
    · rfl
    · obtain h | ⟨base, top, save⟩ := h
      · exact absurd ⟨by omega, by omega⟩ notSquare
      · rw [if_pos ⟨by omega, by omega, meetsSave_byte save low high⟩]

theorem unmappedByte_plain {s : State} {a n : Nat} (h : PlainBytes s a n) (c : Nat) : unmappedByte s c a n = none := by
  unfold unmappedByte lowestByte
  refine List.find?_eq_none.2 fun x hx => ?_
  obtain ⟨low, high⟩ := mem_rangeFrom.1 hx
  simp [memKey_plain h low high]

theorem readKeys_plain {s : State} {a n : Nat} (h : PlainBytes s a n) (c : Nat) : readKeys s c a n = readTagged s a n := by
  unfold readKeys readTagged
  refine List.map_congr_left fun x hx => ?_
  obtain ⟨low, high⟩ := mem_rangeFrom.1 hx
  rw [memKey_plain h low high]

theorem readTagged_bytes (s : State) (a n : Nat) : (readTagged s a n).map (·.1) = memRead s.mem a n := by
  simp [readTagged, memRead]

/-! ## Reads and writes of memory -/

theorem hostPoison_recordOnly (s : State) (unit a : Nat) (bs : List TByte) : RecordOnly s (hostPoison s unit a bs) := by
  unfold hostPoison
  split
  · exact RecordOnly.refl s
  · exact record_recordOnly _ _ _ _ _

theorem hostPoison_indexKept (s : State) (unit a : Nat) (bs : List TByte) :
    IndexKept s (hostPoison s unit a bs) [0x50E0, 0x50D0] := by
  unfold hostPoison
  split
  · exact IndexKept.refl s _
  · exact record_indexKept _ _ _ _ (by simp)

theorem hostPoison_clean (s : State) (unit a : Nat) (bs : List Byte) :
    hostPoison s unit a (bs.map fun b => (b, false)) = s := by
  have clean : (bs.map fun b => (b, false)).findIdx? (·.2) = none := by simp [List.findIdx?_eq_none_iff]
  unfold hostPoison
  rw [clean]

/-- A read of plain memory completes with its bytes and EP where they are poisoned (R578). -/
theorem readMemory_plain {s : State} {a n : Nat} (h : PlainBytes s a n) (f : Nat) :
    readMemory s f a n = (hostPoison s 5 a (readTagged s a n)).emit
      (.completion f 0 (anyTagged (readTagged s a n)) (memRead s.mem a n)) := by
  unfold readMemory deviceRead
  rw [unmappedByte_plain h]
  dsimp only
  rw [readKeys_plain h, ite_self]
  dsimp only
  rw [readTagged_bytes]

/-- While no fast copy runs, no write waits for one (R425). -/
theorem copyHolds_none {s : State} (idle : ∀ c, c < 4 → (s.cairnOf c).copying = none) (gs : List Nat) : copyHolds s gs = none := by
  unfold copyHolds
  refine List.find?_eq_none.2 fun c hc => ?_
  have none : pendingGranules s c = [] := by
    unfold pendingGranules
    rw [idle c (List.mem_range.1 hc)]
  simp [none]

theorem writeMemory_plain {s : State} {a : Nat} {bs : List Byte} (h : PlainBytes s a bs.length) (pos : 0 < bs.length)
    (idle : ∀ c, c < 4 → (s.cairnOf c).copying = none) (f : Nat) :
    writeMemory s f a (bs.map fun b => (b, false)) = writeTagged s a (bs.map fun b => (b, false)) := by
  have window := windowAt_none h.above s (windowContext s f)
  have notRunning : lowestByte a bs.length (runningBlock s (windowContext s f)) = none := by
    refine List.find?_eq_none.2 fun x hx => ?_
    unfold runningBlock
    rw [windowAt_none (h.above.trans (mem_rangeFrom.1 hx).1)]
    exact Bool.false_ne_true
  have notStore : ¬(storeBase ≤ a ∧ a < storeEnd) := by
    have := h.memory pos
    unfold engineBase at this
    unfold storeBase
    omega
  unfold writeMemory whenGranulesFree
  dsimp only
  rw [copyHolds_none idle]
  unfold deviceWrite
  simp only [List.length_map, unmappedByte_plain h, notRunning, notStore, if_false, hostPoison_clean, window]

theorem senseAll_nil (unit : Nat) (s : State) : senseAll unit s [] = s := rfl

/-- A served access through an enabled aperture goes to the device address (R27). -/
theorem execPcieAccess_served {s : State} {f off a : Nat} (served : windowServes s f = true) (at' : apertureAddress s f off = some a)
    (n : Nat) (write ep : Bool) (bs : List Byte) (env : DictEnv) :
    exec (.pcieAccess f 2 off n write ep bs [] env) s =
      .next (if write then hostWrite s f a ep bs env else hostRead s f a n) := by
  show execPcieAccess f 2 off n write ep bs [] env s = _
  simp [execPcieAccess, served, at', senseAll_nil]

theorem hostRead_memory {s : State} {f a n : Nat} (reach : functionReach s f a n = true) (memory : a < engineBase ∨ storeBase ≤ a) :
    hostRead s f a n = readMemory s f a n := by
  have notRegister : ¬(engineBase ≤ a ∧ a < storeBase) := by omega
  unfold hostRead
  simp [reach, notRegister]

theorem hostWrite_memory {s : State} {f a : Nat} {bs : List Byte} (reach : functionReach s f a bs.length = true)
    (memory : a < engineBase ∨ storeBase ≤ a) (ep : Bool) (env : DictEnv) :
    hostWrite s f a ep bs env = writeMemory s f a (bs.map fun b => (b, ep)) := by
  have notRegister : ¬(engineBase ≤ a ∧ a < storeBase) := by omega
  unfold hostWrite
  simp [reach, notRegister]

/-- Nothing stands from the end of Bedrock upwards (R22). -/
theorem unmappedByte_beyond {a n : Nat} (h : bedrockEnd ≤ a) (pos : 0 < n) (s : State) (c : Nat) : unmappedByte s c a n = some a := by
  have above : squareBase ≤ a := by unfold bedrockEnd at h; unfold squareBase; omega
  have nothing : memKey s c a = none := by
    have notSquare : ¬(squareBase ≤ a ∧ a < squareEnd) := by unfold bedrockEnd at h; unfold squareEnd; omega
    have notStore : ¬(storeBase ≤ a ∧ a < storeEnd) := by unfold bedrockEnd at h; unfold storeEnd; omega
    have notBedrock : ¬(bedrockBase ≤ a ∧ a < bedrockTop s ∧ meetsSave s a 1 = false) := by unfold bedrockTop; omega
    unfold memKey
    rw [windowAt_none above]
    dsimp only
    rw [if_neg notSquare, if_neg notStore, if_neg notBedrock]
  obtain ⟨m, rfl⟩ := Nat.exists_eq_succ_of_ne_zero (Nat.pos_iff_ne_zero.1 pos)
  have first : rangeFrom a (m + 1) = a :: (List.range m).map fun i => a + (i + 1) := by
    simp [rangeFrom, List.range_succ_eq_map, Function.comp_def]
  unfold unmappedByte lowestByte
  rw [first, List.find?_cons_of_pos (by simp [nothing])]

/-! ## The reset of a function (R487, R510, R562) -/

theorem mem_sinsert {l : List Nat} {k x : Nat} : x ∈ sinsert l k ↔ x = k ∨ x ∈ l := by
  induction l with
  | nil => simp [sinsert]
  | cons j r ih =>
    unfold sinsert
    split
    · simp
    · split
      · next e => subst e; simp
      · simp only [List.mem_cons, ih]; tauto

/-- What the end of a lease and the reset of an identity leave of the PCIe endpoint. -/
structure EndpointHeld (s t : State) : Prop where
  power : t.power = s.power
  net : t.net = s.net
  staging : t.staging = s.staging
  windows : t.garnet.windows = s.garnet.windows
  asleep : ∀ x ∈ s.mail.asleep, x ∈ t.mail.asleep

namespace EndpointHeld

variable {s t u : State}

theorem refl (s : State) : EndpointHeld s s := ⟨rfl, rfl, rfl, rfl, fun _ h => h⟩

theorem trans (h : EndpointHeld s t) (k : EndpointHeld t u) : EndpointHeld s u where
  power := k.power.trans h.power
  net := k.net.trans h.net
  staging := k.staging.trans h.staging
  windows := k.windows.trans h.windows
  asleep x hx := k.asleep x (h.asleep x hx)

theorem of_noticeFrame (h : NoticeFrame s t) : EndpointHeld s t where
  power := h.power
  net := h.net
  staging := h.staging
  windows := by rw [h.log]
  asleep x hx := by rw [h.asleep]; exact hx

end EndpointHeld

theorem freeLease_endpointHeld (s : State) : EndpointHeld s (freeLease s) := by
  unfold freeLease
  have freed : EndpointHeld s (((s.dclear 0x2060 4).dclear 0x2060 5).setGarnet fun g => { g with leasePort := 0 }) :=
    ⟨rfl, rfl, rfl, rfl, fun _ h => h⟩
  exact freed.trans (.of_noticeFrame (log_recordOnly _ _ _ _ _ _).noticeFrame)

theorem endLease_endpointHeld (s : State) : EndpointHeld s (endLease s) := by
  unfold endLease
  dsimp only
  split
  · exact .refl s
  · have recorded := (freeLease_endpointHeld s).trans
      (.of_noticeFrame (record_recordOnly (freeLease s) 0x50D0 2 [(5, 1)] none).noticeFrame)
    exact recorded.trans (.of_noticeFrame (garnetNotice_quiet _ _ _).1)

/-- The holder of an ended lease reads 0 (R510). -/
theorem endLease_dget_holder (s : State) : (endLease s).dget 0x2060 4 = 0 := by
  have zero : ∀ straps, dictDefault straps 0x2060 4 = 0 := by
    intro straps
    have line : ((dictLine 0x2060 4).map (·.default)).getD 0 = 0 := by decide +kernel
    simp [dictDefault, strapDefault, memberDefault, line]
  have freed : (freeLease s).dget 0x2060 4 = 0 := by
    unfold freeLease
    dsimp only
    refine (log_indexKept _ _ _ _ _ _ 0x2060 4 (by decide) (by decide)).trans ?_
    have other : ((s.dclear 0x2060 4).dclear 0x2060 5).dget 0x2060 4 = (s.dclear 0x2060 4).dget 0x2060 4 :=
      State.dclear_dget_other _ _ _ _ _ (by decide) (by decide) (.inr (by decide))
    exact other.trans ((State.dclear_dget_same s 0x2060 4).trans (zero _))
  unfold endLease
  dsimp only
  split
  · assumption
  · rw [(garnetNotice_quiet _ _ _).2 0x2060 4 (by decide) (by decide),
      record_indexKept _ _ _ _ (by simp) 0x2060 4 (by decide) (by decide)]
    exact freed

theorem identityReset_endpointHeld (s : State) (ident : Nat) :
    EndpointHeld s (identityReset s ident) ∧ ident ∈ (identityReset s ident).mail.asleep := by
  have reset : Notice.Quiet s (allDirs.foldl (fun t cd => resetDir t ident cd) s) :=
    foldl_related Notice.Quiet .refl .trans _ (fun t cd => resetDir_quiet t ident cd) _ s
  unfold identityReset
  dsimp only
  generalize allDirs.foldl (fun t cd => resetDir t ident cd) s = t at reset ⊢
  have held := EndpointHeld.of_noticeFrame reset.1
  exact ⟨⟨held.power, held.net, held.staging, held.windows, fun x hx => mem_sinsert.2 (.inr (held.asleep x hx))⟩,
    mem_sinsert.2 (.inl rfl)⟩

theorem identityReset_indexKept (s : State) (ident : Nat) : IndexKept s (identityReset s ident) [0x50C0, 0x50D0] := by
  have reset : Notice.Quiet s (allDirs.foldl (fun t cd => resetDir t ident cd) s) :=
    foldl_related Notice.Quiet .refl .trans _ (fun t cd => resetDir_quiet t ident cd) _ s
  exact reset.2.trans (indexKept_of_dict rfl rfl _)

theorem endFunctionLease_endpointHeld (s : State) (f : Nat) : EndpointHeld s (endFunctionLease s f) := by
  unfold endFunctionLease
  split
  · exact endLease_endpointHeld s
  · exact .refl s

/-- A function's reset leaves the endpoint as its registers' reset does, and the function asleep. -/
theorem functionReset_endpointHeld (s : State) (f : Nat) :
    EndpointHeld (functionRegisters s f) (functionReset s f) ∧ f + 1 ∈ (functionReset s f).mail.asleep := by
  obtain ⟨held, asleep⟩ := identityReset_endpointHeld (endFunctionLease (functionRegisters s f) f) (f + 1)
  exact ⟨(endFunctionLease_endpointHeld _ f).trans held, asleep⟩

/-- A function that holds the lease loses it with its reset (R510). -/
theorem functionReset_lease {s : State} {f : Nat} (holds : s.dget 0x2060 4 = 3 * 2 ^ 24 + f) :
    (functionReset s f).dget 0x2060 4 = 0 := by
  unfold functionReset
  rw [identityReset_indexKept _ _ 0x2060 4 (by decide) (by decide)]
  unfold endFunctionLease
  have held : (functionRegisters s f).dget 0x2060 4 = 3 * 2 ^ 24 + f := holds
  rw [if_pos held]
  exact endLease_dget_holder _

/-- The reset of a function's registers, by function: its own read their reset values, the others' stand. -/
theorem functionReset_aperture (s : State) (f g k : Nat) (h : k < 8) :
    (functionReset s f).aperture g k = if g = f then apertureReset k else s.aperture g k := by
  have e : (functionReset s f).net.apertures = s.net.apertures.filter fun e => e.1 / 8 != f := by
    rw [(functionReset_endpointHeld s f).1.net]; rfl
  have quotient : (8 * g + k) / 8 = g := by omega
  unfold State.aperture kget
  rw [e, kfind_filter _ (fun i => i / 8 != f), quotient]
  by_cases same : g = f <;> simp [same]

theorem functionReset_dictWindow (s : State) (f g : Nat) :
    (functionReset s f).dictWindow g = if g = f then DictWindow.empty else s.dictWindow g := by
  have e : (functionReset s f).garnet.windows = kerase s.garnet.windows f := by
    rw [(functionReset_endpointHeld s f).1.windows]; rfl
  unfold State.dictWindow kget
  rw [e, kfind_kerase]
  by_cases same : g = f
  · simp [same]
  · simp [same, Ne.symm same]

theorem functionReset_staging (s : State) (f j : Nat) :
    kget 0 (functionReset s f).staging j = if j / 2 = f then 0 else kget 0 s.staging j := by
  have e : (functionReset s f).staging = s.staging.filter fun e => e.1 / 2 != f := by
    rw [(functionReset_endpointHeld s f).1.staging]; rfl
  unfold kget
  rw [e, kfind_filter _ (fun i => i / 2 != f)]
  by_cases same : j / 2 = f <;> simp [same]

theorem functionReset_power (s : State) (f : Nat) : (functionReset s f).power = s.power :=
  (functionReset_endpointHeld s f).1.power

theorem functionReset_flows (s : State) (f : Nat) : (functionReset s f).net.flows = s.net.flows := by
  rw [(functionReset_endpointHeld s f).1.net]; rfl

theorem functionReset_asleep (s : State) (f : Nat) {x : Nat} (h : x = f + 1 ∨ x ∈ s.mail.asleep) :
    x ∈ (functionReset s f).mail.asleep := by
  obtain ⟨held, own⟩ := functionReset_endpointHeld s f
  obtain rfl | h := h
  · exact own
  · exact held.asleep x h

theorem execFunctionLevelReset_served {s : State} {f : Nat} (served : windowServes s f = true) :
    exec (.functionLevelReset f) s = .next (functionReset s f) := by
  show execFunctionLevelReset f s = _
  simp [execFunctionLevelReset, served]

/-! ## The hot reset (R562) -/

/-- Every function is reset, in order. -/
def allFunctionsReset (s : State) : State := functionReset (functionReset (functionReset (functionReset s 0) 1) 2) 3

theorem execPcieHotReset_up {s : State} (up : s.squareUp = true) : exec .pcieHotReset s =
    .next (State.setPower { allFunctionsReset s with net := { (allFunctionsReset s).net with windows := [] } } fun p =>
      { p with pcieUp := false }) := by
  show execPcieHotReset s = _
  unfold execPcieHotReset
  rw [if_pos up]
  rfl

theorem allFunctionsReset_aperture (s : State) {g k : Nat} (hg : g < 4) (h : k < 8) :
    (allFunctionsReset s).aperture g k = apertureReset k := by
  unfold allFunctionsReset
  simp only [functionReset_aperture _ _ _ _ h]
  interval_cases g <;> rfl

theorem allFunctionsReset_dictWindow (s : State) {g : Nat} (hg : g < 4) : (allFunctionsReset s).dictWindow g = DictWindow.empty := by
  unfold allFunctionsReset
  simp only [functionReset_dictWindow]
  interval_cases g <;> rfl

theorem allFunctionsReset_staging (s : State) {g : Nat} (hg : g < 4) : kget 0 (allFunctionsReset s).staging (2 * g) = 0 := by
  have quotient : 2 * g / 2 = g := by omega
  unfold allFunctionsReset
  simp only [functionReset_staging, quotient]
  interval_cases g <;> rfl

theorem allFunctionsReset_asleep (s : State) {g : Nat} (hg : g < 4) : g + 1 ∈ (allFunctionsReset s).mail.asleep := by
  unfold allFunctionsReset
  interval_cases g
  · exact functionReset_asleep _ _ (.inr (functionReset_asleep _ _ (.inr (functionReset_asleep _ _ (.inr
      (functionReset_asleep _ _ (.inl rfl)))))))
  · exact functionReset_asleep _ _ (.inr (functionReset_asleep _ _ (.inr (functionReset_asleep _ _ (.inl rfl)))))
  · exact functionReset_asleep _ _ (.inr (functionReset_asleep _ _ (.inl rfl)))
  · exact functionReset_asleep _ _ (.inl rfl)

theorem allFunctionsReset_power (s : State) : (allFunctionsReset s).power = s.power := by
  simp only [allFunctionsReset, functionReset_power]

theorem allFunctionsReset_flows (s : State) : (allFunctionsReset s).net.flows = s.net.flows := by
  simp only [allFunctionsReset, functionReset_flows]

end Sys2Proof.Machine

open Sys2Proof Sys2Proof.Machine

/-- Settles O58: a plain range answers by its own address; each reset touches the registers of its functions, and the notices that follow
leave the endpoint as it is. -/
theorem pcieFunctions : Obligations.PcieFunctions := by
  intro s f off a n bs env served
  refine ⟨fun at' pos reach plain => ⟨?_, ?_⟩, fun disabled => ⟨?_, ?_⟩, fun at' beyond pos single notDrained => ?_, ?_, ?_⟩
  · have plain : PlainBytes s a n := plain
    have memory : a < engineBase ∨ storeBase ≤ a := (plain.memory pos).imp_right (le_trans (by decide))
    rw [execPcieAccess_served served at', if_neg Bool.false_ne_true, hostRead_memory reach memory, readMemory_plain plain]
    have recorded := hostPoison_recordOnly s 5 a (readTagged s a n)
    exact ⟨_, rfl, recorded.mem, congrArg _ recorded.out, hostPoison_indexKept s 5 a _⟩
  · rintro rfl idle
    have plain : PlainBytes s a bs.length := plain
    have memory : a < engineBase ∨ storeBase ≤ a := (plain.memory pos).imp_right (le_trans (by decide))
    have bytes : (bs.map fun b => (b, false)).map (·.1) = bs := by rw [List.map_map]; exact List.map_id bs
    rw [execPcieAccess_served served at', if_pos rfl, hostWrite_memory reach memory, writeMemory_plain plain pos idle]
    refine ⟨_, rfl, rfl, ?_, fun x hx => ?_⟩
    · show memRead (memWrite s.mem a _) a bs.length = bs
      rw [bytes, memRead_memWrite]
    · show memByte (memWrite s.mem a _) x = memByte s.mem x
      rw [bytes, memByte_memWrite_other _ _ hx]
  · show execPcieAccess f 2 off n true false bs [] env s = _
    simp [execPcieAccess, served, disabled]
  · show execPcieAccess f 2 off n false false bs [] env s = _
    simp [execPcieAccess, served, disabled, unsupported, State.emit]
  · have reach : functionReach s f a n = true := by simp [functionReach, single]
    have memory : storeBase ≤ a := by unfold bedrockEnd at beyond; unfold storeBase; omega
    have read : readMemory s f a n = unsupported (unmapped s 0 a) f := by
      unfold readMemory deviceRead
      rw [unmappedByte_beyond beyond pos]
      simp [notDrained]
    rw [execPcieAccess_served served at', if_neg Bool.false_ne_true, hostRead_memory reach (.inr memory), read]
    have recorded : RecordOnly s (unmapped s 0 a) := record_recordOnly _ _ _ _ _
    exact ⟨_, rfl, recorded.mem, record_flag s _ _ (by decide), record_count s _ (by decide) (by decide) (by decide) (by decide),
      congrArg _ recorded.out⟩
  · refine ⟨_, execFunctionLevelReset_served served, fun k h => ?_, ?_, ?_, ?_, functionReset_asleep s f (.inl rfl),
      functionReset_lease, fun g other => ⟨fun k h => ?_, ?_, ?_⟩⟩
    · rw [functionReset_aperture s f f k h, if_pos rfl]
    · rw [functionReset_dictWindow, if_pos rfl]
    · rw [functionReset_staging, if_pos (by omega)]
    · rw [functionReset_staging, if_pos (by omega)]
    · rw [functionReset_aperture s f g k h, if_neg other]
    · rw [functionReset_dictWindow, if_neg other]
    · rw [functionReset_staging, if_neg (by omega)]
  · have up : s.squareUp = true := by
      simp only [windowServes, Bool.and_eq_true] at served
      exact served.1.1
    have power := allFunctionsReset_power s
    refine ⟨_, execPcieHotReset_up up, ?_, rfl, allFunctionsReset_flows s, fun g hg => ⟨fun k h => ?_, ?_, ?_, ?_⟩⟩
    · rw [State.setPower_power]
      show { (allFunctionsReset s).power with pcieUp := false } = _
      rw [power]
    · exact allFunctionsReset_aperture s hg h
    · exact allFunctionsReset_dictWindow s hg
    · exact allFunctionsReset_staging s hg
    · exact allFunctionsReset_asleep s hg

end

section
/-! PROOF. What an operation in blocks changes: the registers of the blocks that it acts in, and records of the dictionary. -/

namespace Sys2Proof.Machine
open Sys2Proof

/-! ## States that differ in some blocks and in records -/

/-- Beside the blocks `ps`, only the records at the indices `l` and the log have changed. -/
structure BlocksOnly (s t : State) (l ps : List Nat) : Prop where
  rest : t = { s with blocks := t.blocks, dict := t.dict, garnet := t.garnet, freeCount := t.freeCount }
  log : LogOnly s t
  index : IndexKept s t l
  block : ∀ p, p ∉ ps → t.block p = s.block p

namespace BlocksOnly

variable {s t u : State} {l m ps qs : List Nat}

theorem refl (s : State) (l ps : List Nat) : BlocksOnly s s l ps := ⟨rfl, .refl s, .refl s l, fun _ _ => rfl⟩

theorem trans (h : BlocksOnly s t l ps) (k : BlocksOnly t u l ps) : BlocksOnly s u l ps where
  rest := by rw [k.rest, h.rest]
  log := h.log.trans k.log
  index := h.index.trans k.index
  block p out := (k.block p out).trans (h.block p out)

theorem mono (h : BlocksOnly s t l ps) (i : l ⊆ m) (j : ps ⊆ qs) : BlocksOnly s t m qs :=
  ⟨h.rest, h.log, h.index.mono i, fun p out => h.block p fun e => out (j e)⟩

theorem of_recordOnly (r : RecordOnly s t) (i : IndexKept s t l) : BlocksOnly s t l [] where
  rest := by rw [r.blocks]; exact r.1
  log := r.2
  index := i
  block p _ := by rw [State.block, State.block, r.blocks]

theorem setBlock (s : State) (p : Nat) (f : Block → Block) (l : List Nat) : BlocksOnly s (s.setBlock p f) l [p] where
  rest := rfl
  log := rfl
  index := indexKept_of_dict rfl rfl l
  block q other := by
    rw [State.setBlock_block, if_neg (Ne.symm (List.ne_of_not_mem_cons other))]

theorem ctx (h : BlocksOnly s t l ps) (c : Nat) : t.ctx c = s.ctx c := by
  rw [h.rest]
  rfl

/-- Where the blocks are those that act, this is what the statements say of the operations that read no bank. -/
theorem actorsOnly {c sel pred : Nat} (h : BlocksOnly s t [0x5010, 0x50E0, 0x50D0] ((actors s c sel pred).map (·.phys))) :
    ActorsOnly s t c sel pred := ⟨h.rest, h.log, h.index, h.block⟩

end BlocksOnly

theorem State.setBlock_block_same (s : State) (p : Nat) (f : Block → Block) : (s.setBlock p f).block p = f (s.block p) := by
  rw [State.setBlock_block, if_pos rfl]

/-! ## Acting in each block of a list (R140) -/

/-- An operation that may issue acts in every selected block in turn. -/
theorem sensingBlocks_next {s : State} {c sel pred : Nat} {legal : Bool} (may : MayAct s c sel pred) (ok : legal = true)
    (act : Actor → State → State) :
    sensingBlocks c sel pred legal [] act s = .next ((actors s c sel pred).foldl (fun t a => act a t) s) := by
  obtain ⟨run, valid, small, low, -, -⟩ := may
  have header : (legal && headerOk s c sel pred) = true := by simp [ok, headerOk, valid, small, low]
  obtain ⟨stopped, -⟩ | ⟨-, reserved, -⟩ | ⟨-, -, e⟩ := sensingBlocks_cases c sel pred legal [] act s
  · rw [run] at stopped; cases stopped
  · rw [header] at reserved; cases reserved
  · exact e

section
variable {act : Actor → State → State} {l : List Nat} (alone : ∀ a t, BlocksOnly t (act a t) l [a.phys])
include alone

theorem foldl_blocksOnly (as : List Actor) (s : State) :
    BlocksOnly s (as.foldl (fun t a => act a t) s) l (as.map (·.phys)) := by
  induction as generalizing s with
  | nil => exact .refl s l _
  | cons a r ih => exact ((alone a s).mono (by simp) (by simp)).trans ((ih _).mono (by simp) (by simp))

/-- No block acts twice, so each is acted in once, in a state that holds it as it was at the start. -/
theorem foldl_block {as : List Actor} (distinct : (as.map (·.phys)).Nodup) (s : State) {a : Actor} (acts : a ∈ as) :
    ∃ u ps, BlocksOnly s u l ps ∧ u.block a.phys = s.block a.phys ∧
      (as.foldl (fun t a => act a t) s).block a.phys = (act a u).block a.phys := by
  induction as generalizing s with
  | nil => exact absurd acts List.not_mem_nil
  | cons e r ih =>
    rw [List.map_cons, List.nodup_cons] at distinct
    obtain ⟨apart, distinct⟩ := distinct
    obtain rfl | acts := List.mem_cons.1 acts
    · exact ⟨s, [], .refl s l _, rfl, (foldl_blocksOnly alone r _).block _ apart⟩
    · obtain ⟨u, ps, frame, same, acted⟩ := ih distinct (act e s) acts
      have other : a.phys ≠ e.phys := fun h => apart (h ▸ List.mem_map_of_mem acts)
      refine ⟨u, e.phys :: ps, ((alone e s).mono (by simp) (by simp)).trans (frame.mono (by simp) (by simp)), ?_, acted⟩
      rw [same, (alone e s).block _ (by simpa using other)]

/-- It acts in each of them as the block was before the operation. -/
theorem sensingBlocks_acts {s : State} {c sel pred : Nat} {legal : Bool} (may : MayAct s c sel pred) (ok : legal = true) :
    ∃ t, sensingBlocks c sel pred legal [] act s = .next t ∧
      BlocksOnly s t l ((actors s c sel pred).map (·.phys)) ∧
      ∀ a ∈ actors s c sel pred, ∃ u ps, BlocksOnly s u l ps ∧ u.block a.phys = s.block a.phys ∧
        t.block a.phys = (act a u).block a.phys := by
  have next := sensingBlocks_next may ok act
  obtain ⟨-, -, -, -, distinct, -⟩ := may
  exact ⟨_, next, foldl_blocksOnly alone _ s, fun a acts => foldl_block alone distinct s acts⟩

end

/-! ## Arithmetic flags and consumed poison (R81, R82, R580) -/

/-- A block takes the flags into its own copy, which the Square engine 0x440 has not; the rest is recorded. -/
theorem arith_records (s : State) (p : Nat) (ev : Events) :
    BlocksOnly (if p = 0x440 then s else s.setBlock p fun b => { b with flags := b.flags ||| ev.flags }) (s.arith p ev)
      [0x5010, 0x50D0] [] := by
  unfold State.arith
  generalize (if p = 0x440 then s else s.setBlock p _) = t
  refine .trans (.of_recordOnly (dcount_recordOnly t 0x5010 3 ev.sats)
    ((dcount_indexKept t 0x5010 ev.sats (by decide)).mono (by simp))) ?_
  refine .of_recordOnly (foldl_recordOnly _ (fun u i => ?_) _ _) (foldl_indexKept _ (fun u i => ?_) _ _)
  · split
    · exact record_recordOnly ..
    · exact .refl u
  · split
    · exact record_indexKept _ _ _ _ (by simp)
    · exact .refl u _

theorem arith_blocksOnly (s : State) (p : Nat) (ev : Events) : BlocksOnly s (s.arith p ev) [0x5010, 0x50D0] [p] := by
  refine .trans ?_ ((arith_records s p ev).mono (by simp) (by simp))
  split
  · exact .refl s _ _
  · exact .setBlock s p _ _

theorem arith_block (s : State) {p : Nat} (h : p < 1088) (ev : Events) :
    (s.arith p ev).block p = { s.block p with flags := (s.block p).flags ||| ev.flags } := by
  have records := (arith_records s p ev).block p List.not_mem_nil
  rw [if_neg (by omega), State.setBlock_block_same] at records
  exact records

theorem consumed_blocksOnly (s : State) (c p : Nat) : BlocksOnly s (s.consumed c p) [0x50E0, 0x50D0] [] :=
  .of_recordOnly (record_recordOnly ..) (record_indexKept _ _ _ _ (by simp))

/-! ## A computed register (R115, R580) -/

/-- The records of an operation of the vector unit: arithmetic flags, consumed poison and the log. -/
def vectorAreas : List Nat := [0x5010, 0x50E0, 0x50D0]

theorem commitVector_blocksOnly (c p vd : Nat) (out : List Lane) (ev : Events) (poison : Bool) (s : State) :
    BlocksOnly s (commitVector c p vd out ev poison s) vectorAreas [p] := by
  have computed : BlocksOnly s ((s.setBlock p fun b => b.setVreg vd out).arith p ev) vectorAreas [p] :=
    (BlocksOnly.setBlock s p _ _).trans ((arith_blocksOnly _ p ev).mono (by simp [vectorAreas]) (by simp))
  unfold commitVector
  dsimp only
  split
  · exact computed.trans ((consumed_blocksOnly _ c p).mono (by simp [vectorAreas]) (by simp))
  · exact computed

theorem commitVector_block (c : Nat) {p : Nat} (h : p < 1088) (vd : Nat) (out : List Lane) (ev : Events) (poison : Bool)
    (s : State) : (commitVector c p vd out ev poison s).block p =
      { (s.block p).setVreg vd out with flags := (s.block p).flags ||| ev.flags } := by
  have computed : ((s.setBlock p fun b => b.setVreg vd out).arith p ev).block p =
      { (s.block p).setVreg vd out with flags := (s.block p).flags ||| ev.flags } := by
    rw [arith_block _ h, State.setBlock_block_same]
    rfl
  unfold commitVector
  dsimp only
  split
  · rw [(consumed_blocksOnly _ c p).block p List.not_mem_nil, computed]
  · exact computed

theorem Block.setVreg_vreg (b : Block) (r q : Nat) (l : List Lane) :
    (b.setVreg r l).vreg q = if r = q then l else b.vreg q := kget_kset _ _ r q l

end Sys2Proof.Machine

end

section
/-! PROOF. FP32 operations lane by lane (O25). -/

namespace Sys2Proof.Machine
open Sys2Proof

/-! ## Lane-wise operations -/

section
variable (s : State) (srcs : List Nat) (f : List Nat → Nat × Events) (a : Actor)

theorem lanewise_lane {l : Nat} (h : l < 64) :
    (lanesFrom (lanewise f (srcs.map (s.block a.phys).vreg))).getD l Lane.zero = fpLane f s srcs a l := by
  simp [lanesFrom, lanewise, fpLane, laneOf, h, Function.comp_def]

theorem lanewise_events :
    Events.all ((lanewise f (srcs.map (s.block a.phys).vreg)).map (·.events)) = fpEvents f s srcs a := by
  simp [lanewise, fpEvents, laneOf, Function.comp_def]

end

theorem lanewiseOp_blocksOnly (c vd : Nat) (srcs : List Nat) (f : List Nat → Nat × Events) (a : Actor) (s : State) :
    BlocksOnly s (lanewiseOp c vd srcs f a s) vectorAreas [a.phys] := commitVector_blocksOnly ..

theorem lanewiseOp_block (c vd : Nat) (srcs : List Nat) (f : List Nat → Nat × Events) {a : Actor} (h : a.phys < 1088)
    (s : State) : (lanewiseOp c vd srcs f a s).block a.phys =
      { (s.block a.phys).setVreg vd (lanesFrom (lanewise f (srcs.map (s.block a.phys).vreg))) with
        flags := (s.block a.phys).flags ||| (fpEvents f s srcs a).flags } := by
  unfold lanewiseOp
  rw [commitVector_block c h, lanewise_events]

/-- A lane-wise operation that may issue gives every acting block its result register and its flags. -/
theorem lanewise_vectorResult {s : State} {c sel pred : Nat} {legal : Bool} (may : MayAct s c sel pred) (ok : legal = true)
    (vd : Nat) (srcs : List Nat) (f : List Nat → Nat × Events) :
    ∃ t, inBlocks c sel pred legal (lanewiseOp c vd srcs f) s = .next t ∧
      VectorResult s t c sel pred vd (fpLane f s srcs) (fpEvents f s srcs) := by
  obtain ⟨t, e, frame, acted⟩ := sensingBlocks_acts (lanewiseOp_blocksOnly c vd srcs f) may ok
  obtain ⟨-, -, -, -, -, low⟩ := may
  refine ⟨t, e, frame.actorsOnly, fun a acts => ?_⟩
  obtain ⟨u, ps, -, same, block⟩ := acted a acts
  have events : fpEvents f u srcs a = fpEvents f s srcs a := by unfold fpEvents laneOf; rw [same]
  rw [lanewiseOp_block c vd srcs f (low a acts), same, events] at block
  have vregs (r : Nat) : (t.block a.phys).vreg r =
      if vd = r then lanesFrom (lanewise f (srcs.map (s.block a.phys).vreg)) else (s.block a.phys).vreg r := by
    rw [block]
    exact Block.setVreg_vreg _ vd r _
  refine ⟨fun l hl => ?_, ?_, fun r other => ?_, ?_⟩
  · rw [laneOf, vregs, if_pos rfl, lanewise_lane s srcs f a hl]
  · rw [vregs, if_pos rfl]
    simp [lanesFrom, lanewise]
  · rw [vregs, if_neg (Ne.symm other)]
  · rw [block]
    rfl

end Sys2Proof.Machine

open Sys2Proof Sys2Proof.Machine

/-- Settles O25: every FP32 operation is lane-wise in its acting blocks. -/
theorem floatVectorOps : Obligations.FloatVectorOps := by
  intro s c sel pred vd va vb vc kind may hd ha hb hc
  have unaryLegal : regs [vd, va] = true := by simp [regs, hd, ha]
  have binaryLegal : regs [vd, va, vb] = true := by simp [regs, hd, ha, hb]
  have ternaryLegal : regs [vd, va, vb, vc] = true := by simp [regs, hd, ha, hb, hc]
  have unaryOp (f : Nat → Nat × Nat) := lanewise_vectorResult may unaryLegal vd [va] (unary f)
  have binaryOp := lanewise_vectorResult may binaryLegal vd [va, vb]
  refine ⟨?_, fun small => ?_, lanewise_vectorResult may ternaryLegal vd [va, vb, vc] fmaOp, ?_⟩
  · simp only [List.forall_mem_cons]
    exact ⟨binaryOp addOp, binaryOp subOp, binaryOp mulOp, binaryOp minOp, binaryOp maxOp, List.forall_mem_nil _⟩
  · have legal : (regs [vd, va, vb] && decide (kind < 6)) = true := by simp [binaryLegal, small]
    exact lanewise_vectorResult may legal vd [va, vb] (cmpOp kind)
  · simp only [List.forall_mem_cons]
    exact ⟨unaryOp opExp2, unaryOp opLog2, unaryOp opRcp, unaryOp opRsqrt, unaryOp opSqrt, unaryOp opTanh,
      List.forall_mem_nil _⟩

end

section
/-! PROOF. Conversions between formats and into MX blocks (O29). -/

namespace Sys2Proof.Machine
open Sys2Proof

/-! ## A raised base register or index (R141) -/

theorem Block.change_nextValue (b : Block) (i v : Nat) : (b.change i v).nextValue i = v % 2 ^ (if i = 16 then 48 else 10) := by
  simp [Block.nextValue, Block.change]

theorem Block.bump_eq (b : Block) (i n : Nat) : b.bump i n = { b with changes := (b.bump i n).changes } := by
  unfold Block.bump
  split <;> rfl

/-- What advances `SR_INDEX` after a conversion leaves the registers as they are. -/
theorem advance_blocksOnly {s t : State} {p : Nat} (h : BlocksOnly s t vectorAreas [p]) (adv n : Nat) :
    BlocksOnly s (if adv = 1 then t.setBlock p (·.bump 16 n) else t) vectorAreas [p] := by
  split
  · exact h.trans (.setBlock t p _ _)
  · exact h

theorem advance_block (t : State) (p adv n : Nat) : (if adv = 1 then t.setBlock p (·.bump 16 n) else t).block p =
    if adv = 1 then (t.block p).bump 16 n else t.block p := by
  split
  · rw [State.setBlock_block_same]
  · rfl

theorem advance_vreg (b : Block) (adv n r : Nat) : (if adv = 1 then b.bump 16 n else b).vreg r = b.vreg r := by
  split
  · rw [Block.bump_eq]
    rfl
  · rfl

/-! ## What the rounding of an element rests on (R74, R75) -/

theorem roundingOf_congr {s u : State} {ps : List Nat} (h : BlocksOnly s u vectorAreas ps) {p : Nat} (same : u.block p = s.block p)
    (c sel : Nat) : roundingOf u c sel p = roundingOf s c sel p := by
  funext round tensor i
  have seed : u.dget 0x4020 1 = s.dget 0x4020 1 := h.index _ _ (by decide) (by simp [vectorAreas])
  rw [roundingOf, roundingOf, seed, h.ctx, same]

/-! ## Conversions (R71, R72) -/

/-- The register that a conversion packs from a source register. -/
def converted (s : State) (c sel p src dst round ovf tensor : Nat) (l : List Lane) : List Lane :=
  packLanes (elementBits dst) ((unpackLanes (elementBits src) l).zipIdx.map fun e =>
    ((if dst = 0 then upConvert src e.1.1
      else downConvert dst (roundingOf s c sel p round tensor e.2) (ovf == 1) e.1.1).1, e.1.2))

theorem cvtOp_blocksOnly (c sel vd va src dst round ovf adv tensor : Nat) (a : Actor) (s : State) :
    BlocksOnly s (cvtOp c sel vd va src dst round ovf adv tensor a s) vectorAreas [a.phys] :=
  advance_blocksOnly (commitVector_blocksOnly ..) adv 64

theorem cvtOp_vreg (c sel vd va src dst round ovf adv tensor : Nat) {a : Actor} (h : a.phys < 1088) (s : State) (r : Nat) :
    ((cvtOp c sel vd va src dst round ovf adv tensor a s).block a.phys).vreg r =
      if vd = r then converted s c sel a.phys src dst round ovf tensor ((s.block a.phys).vreg va)
      else (s.block a.phys).vreg r := by
  unfold cvtOp
  dsimp only
  rw [advance_block, advance_vreg, commitVector_block c h, List.map_map]
  exact Block.setVreg_vreg _ vd r _

theorem cvtOp_nextValue (c sel vd va src dst round ovf adv tensor : Nat) {a : Actor} (h : a.phys < 1088) (s : State) :
    ((cvtOp c sel vd va src dst round ovf adv tensor a s).block a.phys).nextValue 16 =
      if adv = 1 then ((s.block a.phys).nextValue 16 + 64) % 2 ^ 48 else (s.block a.phys).nextValue 16 := by
  unfold cvtOp
  dsimp only
  rw [advance_block, commitVector_block c h]
  split
  · exact Block.change_nextValue _ 16 _
  · rfl

theorem converted_congr {s u : State} {ps : List Nat} (h : BlocksOnly s u vectorAreas ps) {p : Nat}
    (same : u.block p = s.block p) (c sel : Nat) : converted u c sel p = converted s c sel p := by
  funext src dst round ovf tensor l
  rw [converted, converted, roundingOf_congr h same]

/-! ## Quantisation into MX blocks (R58) -/

theorem quantBlock_congr {s u : State} {ps : List Nat} (h : BlocksOnly s u vectorAreas ps) {p : Nat} (same : u.block p = s.block p)
    (c sel : Nat) : quantBlock u c sel p = quantBlock s c sel p := by
  funext dst round tensor lowest ins top
  unfold quantBlock
  rw [roundingOf_congr h same]

/-- The register that quantised blocks fill: their elements, and in lane 16 their scales. -/
def quantised (dst : Nat) (lo hi : List (Nat × Bool) × Nat × Events × Bool) : List Lane :=
  (packLanes (elementBits dst) (lo.1 ++ hi.1)).set 16 ⟨BitVec.ofNat 32 (lo.2.1 + 256 * hi.2.1), lo.2.2.2 || hi.2.2.2⟩

/-- The register of a `VQUANT`: two blocks of one source register, or one tile row of two (R189). -/
def quantRegister (s : State) (c sel p va vb dst round tensor : Nat) (b : Block) : List Lane :=
  if dst = 9 then
    quantised 9 (quantBlock s c sel p 9 round tensor 0 (b.vreg va ++ b.vreg (va + 1)) (some ((b.vreg vb).getD 0 Lane.zero)))
      ([], 0, .none, false)
  else
    quantised dst (quantBlock s c sel p dst round tensor 0 ((b.vreg va).take 32) none)
      (quantBlock s c sel p dst round tensor 32 ((b.vreg va).drop 32) none)

theorem quantOp_blocksOnly (c sel vd va vb dst round adv tensor : Nat) (a : Actor) (s : State) :
    BlocksOnly s (quantOp c sel vd va vb dst round adv tensor a s) vectorAreas [a.phys] :=
  advance_blocksOnly (commitVector_blocksOnly ..) adv _

theorem quantOp_vreg (c sel vd va vb dst round adv tensor : Nat) {a : Actor} (h : a.phys < 1088) (s : State) (r : Nat) :
    ((quantOp c sel vd va vb dst round adv tensor a s).block a.phys).vreg r =
      if vd = r then quantRegister s c sel a.phys va vb dst round tensor (s.block a.phys) else (s.block a.phys).vreg r := by
  unfold quantOp
  dsimp only
  rw [advance_block, advance_vreg, commitVector_block c h]
  refine (Block.setVreg_vreg _ vd r _).trans ?_
  congr 1
  unfold quantRegister
  by_cases tile : dst = 9
  · subst tile; rfl
  · simp only [if_neg tile]; rfl

theorem quantRegister_congr {s u : State} {ps : List Nat} (h : BlocksOnly s u vectorAreas ps) {p : Nat}
    (same : u.block p = s.block p) (c sel : Nat) : quantRegister u c sel p = quantRegister s c sel p := by
  funext va vb dst round tensor b
  rw [quantRegister, quantRegister, quantBlock_congr h same]

/-- A quantisation that may issue fills the result register of every acting block. -/
theorem execVquant_acts {s : State} {c sel pred vd va vb dst round adv tensor : Nat} (may : MayAct s c sel pred)
    (legal : (regs [vd, va, vb] && scaled dst && decide (round < 2) && decide (adv < 2) && decide (tensor < 2 ^ 16) &&
      (if dst = 9 then va % 2 == 0 else vb == 0)) = true) :
    ∃ t, exec (.vquant c sel pred vd va vb dst round adv tensor) s = .next t ∧ ActorsOnly s t c sel pred ∧
      ∀ a ∈ actors s c sel pred, ∀ r, (t.block a.phys).vreg r =
        if vd = r then quantRegister s c sel a.phys va vb dst round tensor (s.block a.phys) else (s.block a.phys).vreg r := by
  obtain ⟨t, e, frame, acted⟩ := sensingBlocks_acts (quantOp_blocksOnly c sel vd va vb dst round adv tensor) may legal
  obtain ⟨-, -, -, -, -, low⟩ := may
  refine ⟨t, e, frame.actorsOnly, fun a acts r => ?_⟩
  obtain ⟨u, ps, before, same, block⟩ := acted a acts
  rw [block, quantOp_vreg _ _ _ _ _ _ _ _ _ (low a acts), quantRegister_congr before same, same]

end Sys2Proof.Machine

open Sys2Proof Sys2Proof.Machine

/-- Settles O29: a conversion packs its register from the source as each block held it, and so does a quantisation. -/
theorem conversionOps : Obligations.ConversionOps := by
  intro s c sel pred vd va vb src dst round ovf adv tensor may hd ha hb hround hadv htensor
  refine ⟨fun legal => ?_, fun low high => ?_, fun even => ?_⟩
  · have legal : (regs [vd, va] && cvtLegal src dst round ovf && decide (adv < 2) && decide (tensor < 2 ^ 16)) = true := by
      simp [-Nat.reducePow, regs, hd, ha, legal, hadv, htensor]
    obtain ⟨t, e, frame, acted⟩ := sensingBlocks_acts (cvtOp_blocksOnly c sel vd va src dst round ovf adv tensor) may legal
    obtain ⟨-, -, -, -, -, inSquare⟩ := may
    refine ⟨t, e, frame.actorsOnly, fun a acts => ?_⟩
    obtain ⟨u, ps, before, same, block⟩ := acted a acts
    have vregs := cvtOp_vreg c sel vd va src dst round ovf adv tensor (inSquare a acts) u
    have index := cvtOp_nextValue c sel vd va src dst round ovf adv tensor (inSquare a acts) u
    rw [← block, same] at index
    simp only [← block, same, converted_congr before same] at vregs
    exact ⟨(vregs vd).trans (if_pos rfl), index, fun r other => (vregs r).trans (if_neg (Ne.symm other))⟩
  · have legal : (regs [vd, va, 0] && scaled dst && decide (round < 2) && decide (adv < 2) && decide (tensor < 2 ^ 16) &&
        (if dst = 9 then va % 2 == 0 else 0 == 0)) = true := by
      have notTile : dst ≠ 9 := by omega
      have block : scaled dst = true := by simp [scaled, low]; omega
      simp [-Nat.reducePow, regs, hd, ha, block, hround, hadv, htensor, notTile]
    obtain ⟨t, e, frame, acted⟩ := execVquant_acts may legal
    refine ⟨t, e, frame, fun a acts => ⟨?_, fun r other => ?_⟩⟩
    · rw [acted a acts, if_pos rfl, quantRegister, if_neg (by omega)]
      rfl
    · rw [acted a acts, if_neg (Ne.symm other)]
  · have legal : (regs [vd, va, vb] && scaled 9 && decide (round < 2) && decide (adv < 2) && decide (tensor < 2 ^ 16) &&
        (if 9 = 9 then va % 2 == 0 else vb == 0)) = true := by
      have tile : scaled 9 = true := rfl
      simp [-Nat.reducePow, regs, hd, ha, hb, tile, hround, hadv, htensor, even]
    obtain ⟨t, e, frame, acted⟩ := execVquant_acts may legal
    refine ⟨t, e, frame, fun a acts => ⟨?_, fun r other => ?_⟩⟩
    · rw [acted a acts, if_pos rfl, quantRegister, if_pos rfl, quantised]
      simp [laneOf]
    · rw [acted a acts, if_neg (Ne.symm other)]

end

section
/-! PROOF. Special values of the arithmetic (O26). -/

namespace Sys2Proof.Machine
open Sys2Proof

theorem FpVal.isNan_iff {v : FpVal} : v.isNan = true ↔ v = .nan := by cases v <;> simp [FpVal.isNan]

/-! ## Single-operand functions (R80) -/

section
variable {x m : Nat} {n : Bool} {e : Int}

theorem unary_nan (v : dec32 x = .nan) :
    ∀ f ∈ [opExp2, opLog2, opRcp, opRsqrt, opSqrt, opTanh], f x = (0x7FC00000, flagNanInput) := by
  simp [opExp2, opLog2, opRcp, opRsqrt, opSqrt, opTanh, v]

theorem infCode_fp32 (n : Bool) : infCode fp32 n = if n then 0xFF800000 else 0x7F800000 := by cases n <;> rfl

theorem unary_inf (v : dec32 x = .inf n) :
    opExp2 x = (if n then 0 else 0x7F800000, flagInfInput) ∧ opRcp x = (if n then 0x80000000 else 0, flagInfInput) ∧
      opTanh x = (if n then 0xBF800000 else 0x3F800000, flagInfInput) ∧
      ∀ f ∈ [opLog2, opSqrt], f x =
        if n then (0x7FC00000, flagInfInput ||| flagNanGenerated) else (0x7F800000, flagInfInput) := by
  cases n <;> simp [opExp2, opRcp, opTanh, opLog2, opSqrt, v, infCode_fp32, b2n]

theorem unary_zero (small : x < 2 ^ 32) (v : dec32 x = .num n 0 e) :
    opExp2 x = (0x3F800000, 0) ∧ opLog2 x = (0xFF800000, 0) ∧ opSqrt x = (x, 0) ∧ opTanh x = (x, 0) ∧
      ∀ f ∈ [opRcp, opRsqrt], f x = (if n then 0xFF800000 else 0x7F800000, 0) := by
  have whole : x % 2 ^ 32 = x := Nat.mod_eq_of_lt small
  simp [-Nat.reducePow, opExp2, opRcp, opTanh, opLog2, opSqrt, opRsqrt, v, infCode_fp32, whole]

theorem unary_negative (v : dec32 x = .num true m e) (h : m ≠ 0) :
    ∀ f ∈ [opLog2, opRsqrt, opSqrt], f x = (0x7FC00000, flagNanGenerated) := by
  simp [opLog2, opRsqrt, opSqrt, v, h]

theorem scaledInt_zero (n : Bool) (e q : Int) : FpVal.scaledInt n 0 e q = 0 := by cases n <;> simp [FpVal.scaledInt]

theorem zero_lt_positive (n : Bool) (e : Int) {k : Nat} (h : 0 < k) (f : Int) :
    (FpVal.num n 0 e).lt (.num false k f) = true := by
  have above : 0 < FpVal.scaledInt false k f (min e f) := by
    simp only [FpVal.scaledInt, Bool.false_eq_true, if_false]
    positivity
  simpa only [FpVal.lt, scaledInt_zero, decide_eq_true_eq] using above

theorem zero_not_lt_negative (n : Bool) (e : Int) (k : Nat) (f : Int) : (FpVal.num n 0 e).lt (.num true k f) = false := by
  have below : FpVal.scaledInt true k f (min e f) ≤ 0 := by
    simp only [FpVal.scaledInt, if_true]
    omega
  simpa only [FpVal.lt, scaledInt_zero, decide_eq_false_iff_not, not_lt] using below

/-- 2^x of an x from 128 on overflows; a zero lies below 128. -/
theorem opExp2_overflow (v : dec32 x = .num false m e) (large : (dec32 x).lt (.num false 128 0) = false) :
    opExp2 x = (0x7F800000, flagFpOverflow) := by
  rw [v] at large
  have nonzero : m ≠ 0 := by
    rintro rfl
    rw [zero_lt_positive _ _ (by decide)] at large
    cases large
  simp [opExp2, v, nonzero, large, infCode_fp32]

/-- 2^x of an x below −149 is 0; a zero lies above. -/
theorem opExp2_underflow (v : dec32 x = .num true m e) (small : (dec32 x).lt (.num true 149 0) = true) :
    opExp2 x = (0, 0) := by
  rw [v] at small
  have nonzero : m ≠ 0 := by
    rintro rfl
    rw [zero_not_lt_negative] at small
    cases small
  simp [opExp2, v, nonzero, small]

end

/-! ## Sums, products and comparisons (R79) -/

/-- A finite value less itself is an exact cancellation, +0. -/
theorem subOp_self {x m : Nat} {n : Bool} {e : Int} (v : dec32 x = .num n m e) : (subOp [x, x]).1 = 0 := by
  have cancelled : (FpVal.num n m e).add (FpVal.num n m e).negate = .num false 0 e := by
    cases n <;> simp [FpVal.add, FpVal.negate, FpVal.scaledInt]
  have zero (anyNan : Bool) (q : Int) : (pack32 anyNan (.num false 0 q)).1 = 0 := rfl
  simp only [subOp, fpOp, val, List.map_cons, List.map_nil, List.getD_cons_zero, List.getD_cons_succ, v, cancelled]
  exact zero _ _

theorem FpVal.lt_nan (v : FpVal) : FpVal.nan.lt v = false ∧ v.lt .nan = false := by cases v <;> exact ⟨rfl, rfl⟩
theorem FpVal.add_nan (v : FpVal) : FpVal.nan.add v = .nan ∧ v.add .nan = .nan := by cases v <;> exact ⟨rfl, rfl⟩
theorem FpVal.mul_nan (v : FpVal) : FpVal.nan.mul v = .nan ∧ v.mul .nan = .nan := by cases v <;> exact ⟨rfl, rfl⟩
theorem FpVal.min_nan (v : FpVal) : FpVal.nan.min v = .nan ∧ v.min .nan = .nan := by cases v <;> exact ⟨rfl, rfl⟩
theorem FpVal.max_nan (v : FpVal) : FpVal.nan.max v = .nan ∧ v.max .nan = .nan := by cases v <;> exact ⟨rfl, rfl⟩

theorem binary_nan {x : Nat} (v : dec32 x = .nan) (y : Nat) :
    ∀ f ∈ [addOp, mulOp, minOp, maxOp], (f [x, y]).1 = 0x7FC00000 ∧ (f [y, x]).1 = 0x7FC00000 := by
  simp [addOp, mulOp, minOp, maxOp, fpOp, val, v, pack32, FpVal.add_nan, FpVal.mul_nan, FpVal.min_nan, FpVal.max_nan]

theorem cmpOp_nan {x : Nat} (v : dec32 x = .nan) (y k : Nat) : (cmpOp k [x, y]).1 = 0 := by
  simp [cmpOp, val, v, FpVal.eq, FpVal.isNan, FpVal.lt_nan]

end Sys2Proof.Machine

open Sys2Proof Sys2Proof.Machine

/-- Settles O26: each special operand by its branch of the function, and the worked values by evaluation. -/
theorem floatSpecialValues : Obligations.FloatSpecialValues := by
  refine ⟨fun x small => ⟨fun h => unary_nan (FpVal.isNan_iff.1 h), fun n v => unary_inf v, fun n e v => unary_zero small v,
    fun m e v h => unary_negative v h, fun m e v large => opExp2_overflow v large, fun m e v low => opExp2_underflow v low,
    fun n m e v _ => subOp_self v, fun h y _ => binary_nan (FpVal.isNan_iff.1 h) y,
    fun h y k _ _ => cmpOp_nan (FpVal.isNan_iff.1 h) y k⟩, ?_⟩
  decide +kernel

end

section
/-! PROOF. `MM_ACC` (O32). -/

namespace Sys2Proof.Machine
open Sys2Proof

/-! ## Reads of bank rows (R95) -/

/-- The records of an operation of the multiply array: those of the vector unit, and reads out of range. -/
def arrayAreas : List Nat := [0x5010, 0x5020, 0x50E0, 0x50D0]

/-- A read of what stands in the banks: it adds records and changes nothing else, and its value is the same in states that differ in
block registers and in records only. -/
structure Reads {α : Type} (f : State → α × State) : Prop where
  records : ∀ s, BlocksOnly s (f s).2 arrayAreas []
  value : ∀ {s t ps}, BlocksOnly s t arrayAreas ps → (f t).1 = (f s).1

namespace Reads

variable {α β : Type}

theorem const (x : α) : Reads fun s => (x, s) := ⟨fun s => .refl s _ _, fun _ => rfl⟩

theorem map {f : State → α × State} (h : Reads f) (g : α → β) : Reads fun s => (g (f s).1, (f s).2) :=
  ⟨h.records, fun frame => congrArg g (h.value frame)⟩

theorem andThen {f : State → α × State} {g : α → State → β × State} (h : Reads f) (k : ∀ x, Reads (g x)) :
    Reads fun s => g (f s).1 (f s).2 where
  records s := (h.records s).trans ((k _).records _)
  value {s t ps} frame := by
    have first : BlocksOnly s (f s).2 arrayAreas [] := h.records s
    have second : BlocksOnly t (f t).2 arrayAreas [] := h.records t
    rw [h.value frame, (k _).value second, (k _).value frame, (k _).value first]

/-- Reads in a row, each appended to the ones before. -/
theorem append {f : β → State → List α × State} (h : ∀ e, Reads (f e)) (l : List β) (before : List α) :
    Reads fun s => l.foldl (fun (t : List α × State) e => (t.1 ++ (f e t.2).1, (f e t.2).2)) (before, s) := by
  induction l generalizing before with
  | nil => exact const before
  | cons e r ih => exact (h e).andThen fun x => ih (before ++ x)

theorem append_value {f : β → State → List α × State} (h : ∀ e, Reads (f e)) (l : List β) (before : List α) (s : State) :
    (l.foldl (fun (t : List α × State) e => (t.1 ++ (f e t.2).1, (f e t.2).2)) (before, s)).1 =
      before ++ l.flatMap fun e => (f e s).1 := by
  induction l generalizing before s with
  | nil => simp
  | cons e r ih =>
    have same : (fun x => (f x (f e s).2).1) = fun x => (f x s).1 := funext fun x => (h x).value ((h e).records s)
    rw [List.foldl_cons, ih, same, List.flatMap_cons, List.append_assoc]

end Reads

theorem readTagged_congr {s t : State} {l ps : List Nat} (h : BlocksOnly s t l ps) (a n : Nat) :
    readTagged t a n = readTagged s a n := by
  rw [h.rest]
  rfl

theorem readTarget_congr {s t : State} {l ps : List Nat} (h : BlocksOnly s t l ps) (p bank row : Nat) :
    readTarget t p bank row = readTarget s p bank row := by
  rw [h.rest]
  rfl

theorem readRow_reads (p bank row : Nat) : Reads fun s => readRow s p bank row where
  records s := by
    unfold readRow
    split
    · have outOfRange : BlocksOnly s (rowRange s) [0x5020, 0x50D0] [] :=
        .of_recordOnly (record_recordOnly ..) (record_indexKept _ _ _ _ (by simp))
      exact outOfRange.mono (by simp [arrayAreas]) (by simp)
    · exact .refl s _ _
  value frame := by
    unfold readRow
    split
    · rfl
    · dsimp only
      rw [readTarget_congr frame, readTagged_congr frame]

theorem readBanks_reads (p row : Nat) : Reads fun s => readBanks s p row :=
  .append (fun bank => (readRow_reads p bank row).map fun x => [x]) _ _

theorem readBankRows_reads (p : Nat) (rows : List Nat) : Reads fun s => readBankRows s p rows :=
  .append (fun row => (readBanks_reads p row).map fun x => [x]) _ _

theorem loadPair_reads (p row q : Nat) : Reads fun s => loadPair s p row q :=
  (readRow_reads p (2 * (q % 8)) row).andThen fun x => (readRow_reads p (2 * (q % 8) + 1) row).map fun y => x ++ y

theorem startRow_reads (b : Block) (d : Desc) (p : Nat) (f : MmFields) (h : Nat) : Reads fun s => startRow s b d p f h := by
  unfold startRow
  by_cases zero : f.start = 0
  · simp only [if_pos zero]
    exact .const _
  by_cases keep : f.start = 1
  · simp only [if_neg zero, if_pos keep]
    exact .const _
  · simp only [if_neg zero, if_neg keep]
    exact .append (fun c => (loadPair_reads _ _ _).map (lanesOf 64)) _ _

/-! ## The operands of a multiplication (R62, R184) -/

section
variable (b : Block) (d : Desc) (p : Nat) (f : MmFields)

/-- The starting rows of the accumulators. -/
def mmStarts (s : State) : List (List Lane) × State :=
  (List.range f.h).foldl (fun (t : List (List Lane) × State) h =>
    let r := startRow t.2 b d p f h
    (t.1 ++ [r.1], r.2)) ([], s)

/-- The rows of B, and its scale rows. -/
def mmColumns (s : State) : List (List (List TByte)) × State :=
  readBankRows s p ((rangeFrom f.bRow (if f.bSel = 0 then f.steps else 0)).map (b.rowOf d.selB))

def mmScales (s : State) : List (List (List TByte)) × State :=
  readBankRows s p ((rangeFrom (f.scale + loadRows f.fmtA f.fmtB f.start f.h) (scaleRows f.fmtA f.fmtB f.steps f.h)).map
    (b.rowOf d.selAux))

theorem mmStarts_reads : Reads (mmStarts b d p f) :=
  .append (fun h => (startRow_reads b d p f h).map fun x => [x]) _ _

theorem mmStarts_value (s : State) : (mmStarts b d p f s).1 = (List.range f.h).map fun h => (startRow s b d p f h).1 :=
  (Reads.append_value (fun h => (startRow_reads b d p f h).map fun x => [x]) _ _ s).trans List.map_eq_flatMap.symm

theorem mmColumns_reads : Reads (mmColumns b d p f) := readBankRows_reads ..
theorem mmScales_reads : Reads (mmScales b d p f) := readBankRows_reads ..

/-- The states after the reads of the columns and of the scales. -/
def mmColumnsRead (s : State) : State := (mmColumns b d p f (mmStarts b d p f s).2).2
def mmRead (s : State) : State := (mmScales b d p f (mmColumnsRead b d p f s)).2

theorem mmColumnsRead_records (s : State) : BlocksOnly s (mmColumnsRead b d p f s) arrayAreas [] :=
  ((mmStarts_reads b d p f).records s).trans ((mmColumns_reads b d p f).records _)

theorem mmRead_records (s : State) : BlocksOnly s (mmRead b d p f s) arrayAreas [] :=
  (mmColumnsRead_records b d p f s).trans ((mmScales_reads b d p f).records _)

/-- The accumulator rows that the multiplication makes of what it has read, each read after the ones before (R62, R108). -/
def mmOut (x : Ctx) (s : State) : List (List LaneResult) :=
  (List.range f.h).map fun h =>
    macRow b x f (mmColumns b d p f (mmStarts b d p f s).2).1 (mmScales b d p f (mmColumnsRead b d p f s)).1 h
      ((mmStarts b d p f s).1.getD h [])

theorem mmOut_length (x : Ctx) (s : State) : (mmOut b d p f x s).length = f.h := by simp [mmOut]

/-- No read changes what a later one reads. -/
theorem mmOut_getD (x : Ctx) (s : State) {h : Nat} (below : h < f.h) : (mmOut b d p f x s).getD h [] =
    macRow b x f (mmColumns b d p f s).1 (mmScales b d p f s).1 h (startRow s b d p f h).1 := by
  unfold mmOut
  rw [(mmColumns_reads b d p f).value ((mmStarts_reads b d p f).records s),
    (mmScales_reads b d p f).value (mmColumnsRead_records b d p f s), mmStarts_value]
  simp [below]

end

/-! ## The accumulator rows written (R108) -/

/-- One row is written, and marked as INT32 sums or not. -/
def writeAccRow (f : MmFields) (z : Block) (e : List LaneResult × Nat) : Block :=
  { z.setAcc (f.acc + e.2) (lanesFrom e.1) with
    accInt := if f.fmtA = 10 then sinsert z.accInt (f.acc + e.2) else serase z.accInt (f.acc + e.2) }

theorem writeAccRow_accRow (f : MmFields) (z : Block) (e : List LaneResult × Nat) (r : Nat) :
    (writeAccRow f z e).accRow r = if f.acc + e.2 = r then lanesFrom e.1 else z.accRow r := kget_kset _ _ _ r _

theorem writeAccRows_accRow (f : MmFields) (out : List (List LaneResult)) (k : Nat) (y : Block) (r : Nat) :
    ((out.zipIdx k).foldl (writeAccRow f) y).accRow r =
      if f.acc + k ≤ r ∧ r < f.acc + k + out.length then lanesFrom (out.getD (r - (f.acc + k)) []) else y.accRow r := by
  induction out generalizing k y with
  | nil => rw [List.length_nil, if_neg (by omega)]; rfl
  | cons o rest ih =>
    rw [List.zipIdx_cons, List.foldl_cons, ih, writeAccRow_accRow, List.length_cons]
    by_cases first : f.acc + k = r
    · rw [if_neg (by omega), if_pos first, if_pos (by omega), show r - (f.acc + k) = 0 by omega]
      rfl
    · by_cases later : f.acc + (k + 1) ≤ r ∧ r < f.acc + (k + 1) + rest.length
      · rw [if_pos later, if_pos (by omega), show r - (f.acc + k) = r - (f.acc + (k + 1)) + 1 by omega, List.getD_cons_succ]
      · rw [if_neg later, if_neg first, if_neg (by omega)]

/-- What a multiplication makes of a block, beside its flags: the rows are written, and the base registers raised (R180). -/
def mmCommit (d : Desc) (f : MmFields) (out : List (List LaneResult)) (y : Block) : Block :=
  let z := out.zipIdx.foldl (writeAccRow f) y
  if f.postinc = 1 then
    (z.bump d.selB (if f.bSel = 0 then f.steps else 0)).bump d.selAux
      (scaleRows f.fmtA f.fmtB f.steps f.h + loadRows f.fmtA f.fmtB f.start f.h)
  else z

/-- Beside accumulators, flags and base registers a block's registers are as before. -/
def SameRegisters (y z : Block) : Prop :=
  z.vregs = y.vregs ∧ z.mica = y.mica ∧ z.queues = y.queues ∧ z.preds = y.preds

theorem writeAccRows_sameRegisters (f : MmFields) (es : List (List LaneResult × Nat)) (y : Block) :
    SameRegisters y (es.foldl (writeAccRow f) y) := by
  induction es generalizing y with
  | nil => exact ⟨rfl, rfl, rfl, rfl⟩
  | cons e r ih => exact ih (writeAccRow f y e)

theorem mmCommit_eq (d : Desc) (f : MmFields) (out : List (List LaneResult)) (y : Block) :
    mmCommit d f out y = { out.zipIdx.foldl (writeAccRow f) y with changes := (mmCommit d f out y).changes } := by
  unfold mmCommit
  dsimp only
  split
  · rw [Block.bump_eq, Block.bump_eq]
  · rfl

theorem mmCommit_sameRegisters (d : Desc) (f : MmFields) (out : List (List LaneResult)) (y : Block) :
    SameRegisters y (mmCommit d f out y) := by
  rw [mmCommit_eq]
  exact writeAccRows_sameRegisters f _ y

theorem mmCommit_accRow (d : Desc) (f : MmFields) (out : List (List LaneResult)) (y : Block) (r : Nat) :
    (mmCommit d f out y).accRow r =
      if f.acc ≤ r ∧ r < f.acc + out.length then lanesFrom (out.getD (r - f.acc) []) else y.accRow r := by
  rw [mmCommit_eq]
  exact writeAccRows_accRow f out 0 y r

/-! ## The operation in one block (R181, R182) -/

section
variable (c sel : Nat) (f : MmFields) (a : Actor) (s : State)

/-- The rows that `MM_ACC` makes in a block. -/
def mmResult : List (List LaneResult) := mmOut (s.block a.phys) ((s.ctx c).desc sel) a.phys f (s.ctx c) s

/-- The state in which a block holds its result and its flags. -/
def mmCommitted : State :=
  ((mmRead (s.block a.phys) ((s.ctx c).desc sel) a.phys f s).setBlock a.phys
    (mmCommit ((s.ctx c).desc sel) f (mmResult c sel f a s))).arith a.phys
    (Events.all ((mmResult c sel f a s).flatMap fun r => r.map (·.events)))

theorem mmOp_none (h : f.h = 0) : mmOp c sel f a s = s := if_pos h

theorem mmOp_some (h : f.h ≠ 0) : mmOp c sel f a s =
    if f.steps ≠ 0 ∧ ((mmResult c sel f a s).any fun r => r.any (·.poison)) = true then
      (mmCommitted c sel f a s).consumed c a.phys
    else mmCommitted c sel f a s := by
  unfold mmOp
  rw [if_neg h]
  rfl

theorem mmOp_blocksOnly : BlocksOnly s (mmOp c sel f a s) arrayAreas [a.phys] := by
  by_cases h : f.h = 0
  · rw [mmOp_none c sel f a s h]
    exact .refl s _ _
  · have committed : BlocksOnly s (mmCommitted c sel f a s) arrayAreas [a.phys] :=
      (((mmRead_records ..).mono (by simp) (by simp)).trans (.setBlock _ _ _ _)).trans
        ((arith_blocksOnly ..).mono (by simp [arrayAreas]) (by simp))
    rw [mmOp_some c sel f a s h]
    split
    · exact committed.trans ((consumed_blocksOnly ..).mono (by simp [arrayAreas]) (by simp))
    · exact committed

theorem mmOp_block (h : f.h ≠ 0) (square : a.phys < 1088) : ∃ flags, (mmOp c sel f a s).block a.phys =
    { mmCommit ((s.ctx c).desc sel) f (mmResult c sel f a s) (s.block a.phys) with flags := flags } := by
  have committed : ∃ flags, (mmCommitted c sel f a s).block a.phys =
      { mmCommit ((s.ctx c).desc sel) f (mmResult c sel f a s) (s.block a.phys) with flags := flags } := by
    unfold mmCommitted
    rw [arith_block _ square, State.setBlock_block_same, (mmRead_records _ _ _ f s).block _ List.not_mem_nil]
    exact ⟨_, rfl⟩
  rw [mmOp_some c sel f a s h]
  split
  · rw [(consumed_blocksOnly ..).block _ List.not_mem_nil]
    exact committed
  · exact committed

end

theorem mmOp_accRow (c sel : Nat) {f : MmFields} {a : Actor} (s : State) (h : f.h ≠ 0) (square : a.phys < 1088) (r : Nat) :
    ((mmOp c sel f a s).block a.phys).accRow r =
      if f.acc ≤ r ∧ r < f.acc + f.h then lanesFrom ((mmResult c sel f a s).getD (r - f.acc) [])
      else (s.block a.phys).accRow r := by
  obtain ⟨flags, block⟩ := mmOp_block c sel f a s h square
  rw [block]
  refine (mmCommit_accRow _ f _ _ r).trans ?_
  rw [mmResult, mmOut_length]

theorem mmOp_sameRegisters (c sel : Nat) {f : MmFields} {a : Actor} (s : State) (h : f.h ≠ 0) (square : a.phys < 1088) :
    SameRegisters (s.block a.phys) ((mmOp c sel f a s).block a.phys) := by
  obtain ⟨flags, block⟩ := mmOp_block c sel f a s h square
  rw [block]
  exact mmCommit_sameRegisters _ f _ _

/-- The rows are the same in every state that holds the block as it was. -/
theorem mmResult_getD {s u : State} {ps : List Nat} (frame : BlocksOnly s u arrayAreas ps) (c sel : Nat) {f : MmFields} {a : Actor}
    (same : u.block a.phys = s.block a.phys) {h : Nat} (below : h < f.h) :
    (mmResult c sel f a u).getD h [] =
      let b := s.block a.phys
      let d := (s.ctx c).desc sel
      macRow b (s.ctx c) f (mmColumns b d a.phys f s).1 (mmScales b d a.phys f s).1 h (startRow s b d a.phys f h).1 := by
  rw [mmResult, mmOut_getD _ _ _ _ _ _ below, same, frame.ctx, (mmColumns_reads ..).value frame, (mmScales_reads ..).value frame,
    (startRow_reads ..).value frame]

end Sys2Proof.Machine

open Sys2Proof Sys2Proof.Machine

/-- Settles O32: the reads leave memory and blocks alone, so each block's rows follow from what stood there before the operation. -/
theorem multiplyAccumulates : Obligations.MultiplyAccumulates := by
  intro s c sel pred f may legal
  refine ⟨fun idle => ?_, fun works => ?_⟩
  · refine (sensingBlocks_next may legal (mmOp c sel f)).trans (congrArg _ ?_)
    exact List.foldl_fixed' (fun a => mmOp_none c sel f a s idle) _
  · obtain ⟨t, e, frame, acted⟩ := sensingBlocks_acts (mmOp_blocksOnly c sel f) may legal
    obtain ⟨-, -, -, -, -, square⟩ := may
    refine ⟨t, e, frame.rest, frame.index, frame.block, fun a acts => ?_⟩
    obtain ⟨u, ps, before, same, block⟩ := acted a acts
    have works : f.h ≠ 0 := by omega
    have rows := mmOp_accRow c sel u works (square a acts)
    have others := mmOp_sameRegisters c sel u works (square a acts)
    rw [← block, same] at rows others
    obtain ⟨vregs, mica, queues, preds⟩ := others
    refine ⟨fun h below => ?_, fun r outside => ?_, vregs, mica, queues, preds⟩
    · rw [rows, if_pos (by omega), Nat.add_sub_cancel_left, mmResult_getD before c sel same below]
      rfl
    · rw [rows, if_neg (by omega)]

end

section
/-! PROOF. Operations across lanes: reductions, permutation, reads of accumulators and flags, and predicates (O27). -/

namespace Sys2Proof.Machine
open Sys2Proof

/-! ## One register or predicate of a block changes -/

/-- What is done to a block's registers alone changes nothing but the blocks. -/
theorem foldl_setBlock_blocks (f : Block → Block) (as : List Actor) (s : State) :
    as.foldl (fun t a => t.setBlock a.phys f) s =
      { s with blocks := (as.foldl (fun t a => t.setBlock a.phys f) s).blocks } :=
  foldl_related (fun u v => v = { u with blocks := v.blocks }) (fun _ => rfl) (fun h k => by rw [k, h]) _ (fun _ _ => rfl) as s

/-- An operation that changes registers as each block held them does so once in every acting block. -/
theorem setBlocks_acts {s : State} {c sel pred : Nat} {legal : Bool} (may : MayAct s c sel pred) (ok : legal = true)
    (f : Block → Block) :
    ∃ t, inBlocks c sel pred legal (fun a u => u.setBlock a.phys f) s = .next t ∧ t = { s with blocks := t.blocks } ∧
      ActorsOnly s t c sel pred ∧ ∀ a ∈ actors s c sel pred, t.block a.phys = f (s.block a.phys) := by
  have next := sensingBlocks_next may ok fun a u => u.setBlock a.phys f
  have alone (a : Actor) (u : State) : BlocksOnly u (u.setBlock a.phys f) vectorAreas [a.phys] := .setBlock u a.phys f _
  obtain ⟨-, -, -, -, distinct, -⟩ := may
  refine ⟨_, next, foldl_setBlock_blocks f _ s, (foldl_blocksOnly alone _ s).actorsOnly, fun a acts => ?_⟩
  obtain ⟨u, ps, -, same, block⟩ := foldl_block alone distinct s acts
  rw [block, State.setBlock_block_same, same]

/-- A register of 64 lanes that is written without an event. -/
theorem vectorResult_of_setVreg {s t : State} {c sel pred vd : Nat} {out : Actor → List Lane} {f : Actor → Nat → Lane}
    (frame : ActorsOnly s t c sel pred) (length : ∀ a ∈ actors s c sel pred, (out a).length = 64)
    (lanes : ∀ a ∈ actors s c sel pred, ∀ l, l < 64 → (out a).getD l Lane.zero = f a l)
    (block : ∀ a ∈ actors s c sel pred, t.block a.phys = (s.block a.phys).setVreg vd (out a)) :
    VectorResult s t c sel pred vd f fun _ => .none := by
  refine ⟨frame, fun a acts => ?_⟩
  have vregs (r : Nat) : (t.block a.phys).vreg r = if vd = r then out a else (s.block a.phys).vreg r := by
    rw [block a acts, Block.setVreg_vreg]
  refine ⟨fun l low => ?_, ?_, fun r other => ?_, ?_⟩
  · rw [laneOf, vregs, if_pos rfl, lanes a acts l low]
  · rw [vregs, if_pos rfl, length a acts]
  · rw [vregs, if_neg (Ne.symm other)]
  · rw [block a acts, show (s.block a.phys).flags ||| Events.none.flags = (s.block a.phys).flags from Nat.or_zero _]
    rfl

/-- Lane 0 of a register that is +0 elsewhere. -/
theorem zeroLanes_getD (n l : Nat) : (zeroLanes n).getD l Lane.zero = Lane.zero := by
  rw [zeroLanes, List.getD_eq_getElem?_getD, List.getElem?_replicate]
  split <;> rfl

theorem headLane_getD (x : Lane) (n l : Nat) : (x :: zeroLanes n).getD l Lane.zero = if l = 0 then x else Lane.zero := by
  cases l with
  | zero => rfl
  | succ l => rw [List.getD_cons_succ, zeroLanes_getD, if_neg l.succ_ne_zero]

/-! ## The pairwise tree (R117) -/

theorem value_getD {l m : List LaneResult} (same : l.map (·.value) = m.map (·.value)) (i : Nat) :
    (l.getD i ⟨0, false, .none⟩).value = (m.getD i ⟨0, false, .none⟩).value := by
  rw [← List.getD_map (f := LaneResult.value), same, List.getD_map]

/-- The tree's value comes from the values of its leaves alone. -/
theorem reduceTree_value (f : List Nat → Nat × Nat) (n : Nat) {l m : List LaneResult} (same : l.map (·.value) = m.map (·.value)) :
    (reduceTree f n l).value = (reduceTree f n m).value := by
  induction n generalizing l m with
  | zero => simpa [reduceTree, List.headD_eq_head?_getD, List.head?_eq_getElem?] using value_getD same 0
  | succ n ih =>
    have length : l.length = m.length := by simpa using congrArg List.length same
    refine ih ?_
    simp only [List.map_map, Function.comp_def, pairStep, value_getD same, length]

/-- One level of the tree joins the poison of neighbours. -/
theorem any_pairs {α : Type} (l : List α) (d : α) (p : α → Bool) (k : Nat) (even : l.length = 2 * k) :
    ((List.range k).any fun i => p (l.getD (2 * i) d) || p (l.getD (2 * i + 1) d)) = l.any p := by
  rw [Bool.eq_iff_iff, List.any_eq_true, List.any_eq_true]
  constructor
  · rintro ⟨i, below, found⟩
    rw [List.mem_range] at below
    rw [List.getD_eq_getElem _ _ (by omega), List.getD_eq_getElem _ _ (by omega), Bool.or_eq_true] at found
    obtain found | found := found
    · exact ⟨_, List.getElem_mem _, found⟩
    · exact ⟨_, List.getElem_mem _, found⟩
  · rintro ⟨x, inside, found⟩
    obtain ⟨j, below, rfl⟩ := List.getElem_of_mem inside
    refine ⟨j / 2, List.mem_range.2 (by omega), ?_⟩
    obtain left | right := Nat.mod_two_eq_zero_or_one j
    · rw [show 2 * (j / 2) = j by omega, List.getD_eq_getElem _ _ below, found, Bool.true_or]
    · rw [show 2 * (j / 2) + 1 = j by omega, List.getD_eq_getElem l d below, found, Bool.or_true]

/-- A tree over all of its leaves is poisoned where one of them is. -/
theorem reduceTree_poison (f : List Nat → Nat × Nat) (n : Nat) {l : List LaneResult} (full : l.length = 2 ^ n) :
    (reduceTree f n l).poison = l.any (·.poison) := by
  induction n generalizing l with
  | zero =>
    obtain ⟨x, rfl⟩ := List.length_eq_one_iff.1 full
    simp [reduceTree]
  | succ n ih =>
    have half : l.length / 2 = 2 ^ n := by rw [full, pow_succ]; omega
    rw [reduceTree, ih (by simp [half]), half, List.any_map]
    exact any_pairs l _ (·.poison) (2 ^ n) (by rw [full, pow_succ, mul_comm])

/-- The leaves of a reduction: the lanes of the source, each with the flags of its value where it is clean. -/
def reduceLeaves (src : List Lane) : List LaneResult := (List.range 64).map fun l =>
  let x := src.getD l Lane.zero
  ⟨x.bits.toNat, x.poison, if x.poison then .none else .of (inputFlags [dec32 x.bits.toNat])⟩

theorem reduceOp_eq (c vd va : Nat) (f : List Nat → Nat × Nat) (a : Actor) (s : State) :
    reduceOp c vd va f a s =
      let r := reduceTree f 6 (reduceLeaves ((s.block a.phys).vreg va))
      commitVector c a.phys vd (⟨BitVec.ofNat 32 r.value, r.poison⟩ :: zeroLanes 63) r.events r.poison s := rfl

theorem reduceOp_blocksOnly (c vd va : Nat) (f : List Nat → Nat × Nat) (a : Actor) (s : State) :
    BlocksOnly s (reduceOp c vd va f a s) vectorAreas [a.phys] := commitVector_blocksOnly ..

theorem reduceOp_vreg (c vd va : Nat) (f : List Nat → Nat × Nat) {a : Actor} (h : a.phys < 1088) (s : State) (r : Nat) :
    ((reduceOp c vd va f a s).block a.phys).vreg r =
      if vd = r then
        let x := reduceTree f 6 (reduceLeaves ((s.block a.phys).vreg va))
        ⟨BitVec.ofNat 32 x.value, x.poison⟩ :: zeroLanes 63
      else (s.block a.phys).vreg r := by
  rw [reduceOp_eq]
  dsimp only
  rw [commitVector_block c h]
  exact Block.setVreg_vreg _ vd r _

/-- A reduction that may issue: its result in lane 0, and +0 in the other lanes of the destination. -/
theorem reduce_acts {s : State} {c sel pred vd va : Nat} (may : MayAct s c sel pred) (legal : regs [vd, va] = true)
    (f : List Nat → Nat × Nat) :
    ∃ t, inBlocks c sel pred (regs [vd, va]) (reduceOp c vd va f) s = .next t ∧ ActorsOnly s t c sel pred ∧
      ∀ a ∈ actors s c sel pred,
        (∀ l, 0 < l → l < 64 → laneOf t a vd l = Lane.zero) ∧
        (laneOf t a vd 0).poison = ((List.range 64).any fun l => (laneOf s a va l).poison) ∧
        (laneOf t a vd 0).bits = BitVec.ofNat 32 (reduceTree f 6 ((List.range 64).map fun l =>
          ⟨(laneOf s a va l).bits.toNat, (laneOf s a va l).poison, .none⟩)).value ∧
        ∀ r, r ≠ vd → (t.block a.phys).vreg r = (s.block a.phys).vreg r := by
  obtain ⟨t, e, frame, acted⟩ := sensingBlocks_acts (reduceOp_blocksOnly c vd va f) may legal
  obtain ⟨-, -, -, -, -, low⟩ := may
  refine ⟨t, e, frame.actorsOnly, fun a acts => ?_⟩
  obtain ⟨u, ps, -, same, block⟩ := acted a acts
  have vregs := reduceOp_vreg c vd va f (low a acts) u
  rw [← block, same] at vregs
  have lane (l : Nat) : laneOf t a vd l = if l = 0 then
      let x := reduceTree f 6 (reduceLeaves ((s.block a.phys).vreg va))
      ⟨BitVec.ofNat 32 x.value, x.poison⟩ else Lane.zero := by
    rw [laneOf, vregs, if_pos rfl]
    exact headLane_getD _ 63 l
  refine ⟨fun l other _ => ?_, ?_, ?_, fun r other => ?_⟩
  · rw [lane, if_neg (by omega)]
  · rw [lane, if_pos rfl]
    dsimp only
    rw [reduceTree_poison f 6 (by simp [reduceLeaves]), reduceLeaves, List.any_map]
    rfl
  · rw [lane, if_pos rfl]
    dsimp only
    congr 1
    exact reduceTree_value f 6 (by simp [reduceLeaves, laneOf])
  · rw [vregs, if_neg (Ne.symm other)]

/-! ## Bits of predicates and flags (R82, R120) -/

theorem bit_putBits_one (v i j : Nat) (b : Bool) : bit (putBits v i 1 (b2n b)) j = if j = i then b else bit v j := by
  have small : v % 2 ^ i < 2 ^ i := Nat.mod_lt _ (Nat.two_pow_pos i)
  have parts : v = 2 ^ i * (v / 2 ^ i % 2 + 2 * (v / 2 ^ i / 2)) + v % 2 ^ i := by
    rw [Nat.mod_add_div]
    exact (Nat.div_add_mod v _).symm
  have put : putBits v i 1 (b2n b) = 2 ^ i * (b2n b + 2 * (v / 2 ^ i / 2)) + v % 2 ^ i := by
    have value : b2n b % 2 = b2n b := by cases b <;> rfl
    rw [putBits, bits, pow_one, value]
    nth_rewrite 1 [parts]
    rw [mul_add, add_assoc, mul_comm _ (v / 2 ^ i % 2), Nat.add_sub_cancel_left]
    ring
  unfold bit
  rw [put]
  nth_rewrite 3 [parts]
  rw [Nat.testBit_two_pow_mul_add _ small, Nat.testBit_two_pow_mul_add _ small]
  obtain below | rfl | above := Nat.lt_trichotomy j i
  · rw [if_pos below, if_pos below, if_neg below.ne]
  · rw [if_neg (lt_irrefl j), if_pos rfl, Nat.sub_self, Nat.testBit_zero]
    cases b <;> simp [b2n]
  · obtain ⟨k, gap⟩ : ∃ k, j - i = k + 1 := ⟨j - i - 1, by omega⟩
    have half (x : Nat) (odd : x < 2) : (x + 2 * (v / 2 ^ i / 2)) / 2 = v / 2 ^ i / 2 := by omega
    rw [if_neg above.not_gt, if_neg above.not_gt, if_neg above.ne', gap, Nat.testBit_succ, Nat.testBit_succ,
      half _ (by cases b <;> decide), half _ (Nat.mod_lt _ two_pos)]

theorem bit_clearBits (v m i : Nat) : bit (clearBits v m) i = (bit v i && !bit m i) := by
  unfold bit clearBits
  rw [Nat.testBit_xor, Nat.testBit_and]
  cases v.testBit i <;> cases m.testBit i <;> rfl

/-! ## Predicates (R192) -/

/-- Whether a predicate takes 1: of any lane or of all, inverted or not. -/
def predValue (l : List Lane) (mode invert : Nat) : Bool :=
  (if mode = 0 then l.any fun x => nonzeroLane x.bits.toNat else l.all fun x => nonzeroLane x.bits.toNat) != (invert == 1)

theorem predOp_eq (c dest va mode invert : Nat) (a : Actor) (s : State) : predOp c dest va mode invert a s =
    let t := s.setBlock a.phys fun b =>
      { b with preds := putBits b.preds dest 1 (b2n (predValue ((s.block a.phys).vreg va) mode invert)) }
    if ((s.block a.phys).vreg va).any (·.poison) then t.consumed c a.phys else t := rfl

theorem predOp_blocksOnly (c dest va mode invert : Nat) (a : Actor) (s : State) :
    BlocksOnly s (predOp c dest va mode invert a s) vectorAreas [a.phys] := by
  rw [predOp_eq]
  dsimp only
  split
  · exact (BlocksOnly.setBlock s a.phys _ _).trans ((consumed_blocksOnly ..).mono (by simp [vectorAreas]) (by simp))
  · exact .setBlock s a.phys _ _

theorem predOp_block (c dest va mode invert : Nat) (a : Actor) (s : State) :
    (predOp c dest va mode invert a s).block a.phys = { s.block a.phys with
      preds := putBits (s.block a.phys).preds dest 1 (b2n (predValue ((s.block a.phys).vreg va) mode invert)) } := by
  rw [predOp_eq]
  dsimp only
  split
  · rw [(consumed_blocksOnly ..).block _ List.not_mem_nil, State.setBlock_block_same]
  · rw [State.setBlock_block_same]

end Sys2Proof.Machine

open Sys2Proof Sys2Proof.Machine

/-- Settles O27: every acting block computes from the registers that it held before the operation. -/
theorem crossLaneOps : Obligations.CrossLaneOps := by
  intro s c sel pred vd va kind arg row half dest mode invert mask may hd ha
  have two : regs [vd, va] = true := by simp [regs, hd, ha]
  have one : regs [vd] = true := by simp [regs, hd]
  refine ⟨?_, fun hkind harg reversed => ?_, fun hrow hhalf => ?_, ?_, fun hmask => ?_, fun positive hdest hmode hinvert => ?_⟩
  · simp only [List.forall_mem_cons]
    exact ⟨reduce_acts may two sumPair, reduce_acts may two maxPair, List.forall_mem_nil _⟩
  · have legal : (regs [vd, va] && decide (kind < 4) && decide (arg < 64) && (kind != 3 || arg == 0)) = true := by
      simpa [two, hkind, harg] using reversed
    obtain ⟨t, e, -, frame, block⟩ := setBlocks_acts may legal fun b =>
      b.setVreg vd ((List.range 64).map fun l => (b.vreg va).getD (permLane kind arg l) Lane.zero)
    refine ⟨t, e, vectorResult_of_setVreg frame (by simp) (fun a _ l low => ?_) block⟩
    simp [low, laneOf, permLane]
  · have legal : (regs [vd] && decide (row < 16) && decide (half < 2)) = true := by simp [one, hrow, hhalf]
    obtain ⟨t, e, -, frame, block⟩ := setBlocks_acts may legal fun b =>
      b.setVreg vd (((b.accRow row).drop (64 * half)).take 64)
    refine ⟨t, e, frame, fun a acts l low => ?_⟩
    rw [laneOf, block a acts, Block.setVreg_vreg, if_pos rfl]
    simp [List.getD_eq_getElem?_getD, low]
  · obtain ⟨t, e, -, frame, block⟩ := setBlocks_acts may one fun b =>
      b.setVreg vd (⟨BitVec.ofNat 32 b.flags, false⟩ :: zeroLanes 63)
    exact ⟨t, e, vectorResult_of_setVreg frame (by simp [zeroLanes]) (fun a _ l _ => headLane_getD _ 63 l) block⟩
  · obtain ⟨t, e, rest, frame, block⟩ := setBlocks_acts may (decide_eq_true hmask) fun b =>
      { b with flags := clearBits b.flags mask }
    obtain ⟨-, -, -, others⟩ := frame
    refine ⟨t, e, rest, others, fun a acts => ?_⟩
    rw [block a acts]
    exact ⟨rfl, bit_clearBits _ mask⟩
  · have legal : (regs [va] && decide (0 < dest) && decide (dest < 8) && decide (mode < 2) && decide (invert < 2)) = true := by
      simp [regs, ha, positive, hdest, hmode, hinvert]
    obtain ⟨t, e, frame, acted⟩ := sensingBlocks_acts (predOp_blocksOnly c dest va mode invert) may legal
    refine ⟨t, e, frame.actorsOnly, fun a acts => ?_⟩
    obtain ⟨u, ps, -, same, block⟩ := acted a acts
    rw [block, predOp_block, same]
    refine ⟨rfl, fun i other => ?_, ?_⟩
    · exact (bit_putBits_one _ dest i _).trans (if_neg other)
    · exact (bit_putBits_one _ dest dest _).trans (if_pos rfl)

end

section
/-! PROOF. Where the rows of the banks stand, and what a write of a row changes. -/

namespace Sys2Proof.Machine
open Sys2Proof

/-! ## The places of a row (R24, R94, R95) -/

theorem remapOf_eq_some {s : State} {p bank row k i : Nat} (h : remapOf s p bank row k = some i) :
    i < 16 ∧ s.remapEntry p bank i = ⟨k, row⟩ := by
  have found := List.find?_some h
  have below := List.mem_of_find?_eq_some h
  exact ⟨List.mem_range.1 below, by simpa using found⟩

/-- A row stands at its own address, or in a spare row that serves it. -/
theorem readTarget_cases (s : State) (p bank row : Nat) :
    readTarget s p bank row = rowAddress p bank row ∨
      ∃ i, i < 16 ∧ readTarget s p bank row = spareAddress p bank i ∧ s.remapEntry p bank i = ⟨2, row⟩ := by
  unfold readTarget
  split
  next i found =>
    obtain ⟨below, entry⟩ := remapOf_eq_some found
    exact .inr ⟨i, below, rfl, entry⟩
  · exact .inl rfl

theorem mem_writeTargets {s : State} {p bank row y : Nat} (h : y ∈ writeTargets s p bank row) :
    y = rowAddress p bank row ∨ ∃ i, i < 16 ∧ y = spareAddress p bank i ∧ (s.remapEntry p bank i).target = row := by
  unfold writeTargets at h
  obtain rfl | copied := List.mem_cons.1 h
  · obtain own | ⟨i, below, spare, entry⟩ := readTarget_cases s p bank row
    · exact .inl own
    · exact .inr ⟨i, below, spare, by rw [entry]⟩
  · split at copied
    next i found =>
      obtain ⟨below, entry⟩ := remapOf_eq_some found
      exact .inr ⟨i, below, List.mem_singleton.1 copied, by rw [entry]⟩
    · cases copied

theorem readTarget_mem (s : State) (p bank row : Nat) : readTarget s p bank row ∈ writeTargets s p bank row :=
  List.mem_cons_self

theorem writeTargets_congr {s t : State} (h : t.zoning = s.zoning) (p bank row : Nat) :
    writeTargets t p bank row = writeTargets s p bank row := by
  simp only [writeTargets, readTarget, remapOf, State.remapEntry, h]

/-- Every place of a row is a row of 128 bytes. -/
theorem writeTargets_aligned {s : State} {p bank row y : Nat} (h : y ∈ writeTargets s p bank row) : 128 ∣ y := by
  obtain rfl | ⟨i, -, rfl, -⟩ := mem_writeTargets h
  · unfold rowAddress windowBytes bankBytes; omega
  · unfold spareAddress; omega

/-- A row of a bank that a device address names. -/
structure InBank (p bank row : Nat) : Prop where
  block : p < 1088
  bank : bank < 16
  row : row < 768

theorem rowAddress_lt {p bank row : Nat} (h : InBank p bank row) : rowAddress p bank row < 2 ^ 48 := by
  obtain ⟨hp, hb, hr⟩ := h
  unfold rowAddress windowBytes bankBytes
  omega

theorem rowAddress_inj {p bank row p' bank' row' : Nat} (h : InBank p bank row) (h' : InBank p' bank' row')
    (e : rowAddress p bank row = rowAddress p' bank' row') : p = p' ∧ bank = bank' ∧ row = row' := by
  obtain ⟨-, hb, hr⟩ := h
  obtain ⟨-, hb', hr'⟩ := h'
  unfold rowAddress windowBytes bankBytes at e
  obtain rfl : p = p' := by omega
  obtain rfl : bank = bank' := by omega
  exact ⟨rfl, rfl, by omega⟩

theorem spareAddress_inj {p bank i p' bank' i' : Nat} (hb : bank < 16) (hi : i < 16) (hb' : bank' < 16) (hi' : i' < 16)
    (e : spareAddress p bank i = spareAddress p' bank' i') : p = p' ∧ bank = bank' ∧ i = i' := by
  unfold spareAddress at e
  omega

theorem le_spareAddress (p bank i : Nat) : 2 ^ 48 ≤ spareAddress p bank i := Nat.le_add_right ..

/-- No place serves two rows. -/
theorem writeTargets_inj {s : State} {p bank row p' bank' row' y : Nat} (h : InBank p bank row) (h' : InBank p' bank' row')
    (here : y ∈ writeTargets s p bank row) (there : y ∈ writeTargets s p' bank' row') : p = p' ∧ bank = bank' ∧ row = row' := by
  have low := rowAddress_lt h
  have low' := rowAddress_lt h'
  obtain rfl | ⟨i, hi, rfl, target⟩ := mem_writeTargets here
  · obtain e | ⟨i', -, e, -⟩ := mem_writeTargets there
    · exact rowAddress_inj h h' e
    · have := le_spareAddress p' bank' i'; omega
  · obtain e | ⟨i', hi', e, target'⟩ := mem_writeTargets there
    · have := le_spareAddress p bank i; omega
    · obtain ⟨-, hb, -⟩ := h
      obtain ⟨-, hb', -⟩ := h'
      obtain ⟨rfl, rfl, rfl⟩ := spareAddress_inj hb hi hb' hi' e
      exact ⟨rfl, rfl, target.symm.trans target'⟩

/-- The places of a row, spare rows included, belong to its block. -/
theorem bankOwner_writeTargets {s : State} {p bank row y i : Nat} (h : InBank p bank row) (place : y ∈ writeTargets s p bank row)
    (hi : i < 128) : bankOwner (y + i) = some p := by
  obtain ⟨hp, hb, hr⟩ := h
  unfold bankOwner blockEnd windowBytes
  obtain rfl | ⟨k, hk, rfl, -⟩ := mem_writeTargets place
  · unfold rowAddress windowBytes bankBytes
    rw [if_pos (by omega)]
    congr 1
    omega
  · unfold spareAddress
    rw [if_neg (by omega), if_pos (by omega)]
    congr 1
    omega

/-! ## Bytes written to rows -/

theorem memRead_congr {m m' : List Host.Cell} {a n : Nat} (h : ∀ i, i < n → memByte m (a + i) = memByte m' (a + i)) :
    memRead m a n = memRead m' a n := by
  simpa [memRead, rangeFrom] using h

theorem memRead_length (m : List Host.Cell) (a n : Nat) : (memRead m a n).length = n := by simp [memRead, rangeFrom]

section
variable (off : Nat) (bs : List TByte)

/-- The bytes are written at the offset of each of some places. -/
def writePlaces (ys : List Nat) (s : State) : State := ys.foldl (fun u y => writeTagged u (y + off) bs) s

theorem writePlaces_bytesOnly (ys : List Nat) (s : State) :
    writePlaces off bs ys s = { s with mem := (writePlaces off bs ys s).mem, poison := (writePlaces off bs ys s).poison } :=
  foldl_related (fun u v => v = { u with mem := v.mem, poison := v.poison }) (fun _ => rfl) (fun h k => by rw [k, h]) _
    (fun _ _ => rfl) ys s

theorem writePlaces_outside {ys : List Nat} {x : Nat} (h : ∀ y ∈ ys, x < y + off ∨ y + off + bs.length ≤ x) (s : State) :
    memByte (writePlaces off bs ys s).mem x = memByte s.mem x := by
  induction ys generalizing s with
  | nil => rfl
  | cons y r ih =>
    rw [List.forall_mem_cons] at h
    obtain ⟨first, rest⟩ := h
    refine (ih rest _).trans (memByte_memWrite_other s.mem _ ?_)
    rwa [List.length_map]

/-- Rows do not overlap, so each of them holds the bytes afterwards. -/
theorem writePlaces_holds {ys : List Nat} (rows : ∀ y ∈ ys, 128 ∣ y) (fits : off + bs.length ≤ 128) (s : State) {y : Nat}
    (h : y ∈ ys) : memRead (writePlaces off bs ys s).mem (y + off) bs.length = bs.map (·.1) := by
  induction ys generalizing s with
  | nil => cases h
  | cons z r ih =>
    by_cases later : y ∈ r
    · exact ih (fun y m => rows y (List.mem_cons_of_mem z m)) _ later
    · obtain rfl | m := List.mem_cons.1 h
      · have written := memRead_memWrite s.mem (y + off) (bs.map (·.1))
        rw [List.length_map] at written
        refine (memRead_congr fun i below => ?_).trans written
        refine writePlaces_outside off bs (fun w m => ?_) (writeTagged s (y + off) bs)
        have apart : w ≠ y := fun e => later (e ▸ m)
        have := rows w (List.mem_cons_of_mem y m)
        have := rows y List.mem_cons_self
        omega
      · exact absurd m later

end

/-! ## A row that is written (R95, R97) -/

/-- The bytes stand at every place of a row, and no byte beside them has changed. -/
structure RowStored (s t : State) (p bank row off : Nat) (bs : List Byte) : Prop where
  holds : RowHolds s t p bank row off bs
  rest : ∀ x, OutsideRow s p bank row off bs.length x → memByte t.mem x = memByte s.mem x

theorem OutsideRow.mono {s : State} {p bank row off m n x : Nat} (h : OutsideRow s p bank row off n x) (le : m ≤ n) :
    OutsideRow s p bank row off m x := fun y place => (h y place).imp_right fun above => by omega

theorem OutsideRow.congr {s t : State} (z : t.zoning = s.zoning) {p bank row off n x : Nat} (h : OutsideRow s p bank row off n x) :
    OutsideRow t p bank row off n x := by
  unfold OutsideRow
  rw [writeTargets_congr z]
  exact h

theorem RowHolds.congr {s s' t t' : State} (z : s'.zoning = s.zoning) (m : t'.mem = t.mem) {p bank row off : Nat} {bs : List Byte}
    (h : RowHolds s t p bank row off bs) : RowHolds s' t' p bank row off bs := by
  unfold RowHolds
  rw [writeTargets_congr z, m]
  exact h

/-- A byte of another block stands beside every place of a row. -/
theorem outsideRow_of_owner {s : State} {p bank row off n x : Nat} (h : InBank p bank row) (fits : off + n ≤ 128)
    (other : bankOwner x ≠ some p) : OutsideRow s p bank row off n x := by
  intro y place
  by_contra inside
  have owner := bankOwner_writeTargets h place (i := x - y) (by omega)
  rw [show y + (x - y) = x by omega] at owner
  exact other owner

/-- What stands in a row stays where bytes are written elsewhere. -/
theorem RowHolds.of_kept {s t u : State} {p bank row off : Nat} {bs : List Byte} (h : RowHolds s t p bank row off bs)
    (kept : ∀ y ∈ writeTargets s p bank row, ∀ i, off ≤ i → i < off + bs.length → memByte u.mem (y + i) = memByte t.mem (y + i)) :
    RowHolds s u p bank row off bs := by
  intro y place
  refine (memRead_congr fun i below => ?_).trans (h y place)
  have same := kept y place (off + i) (by omega) (by omega)
  rwa [← add_assoc] at same

/-- Another row of the same state's tables stands beside the places of a row. -/
theorem outsideRow_of_row {s : State} {p bank row off n p' bank' row' y i : Nat} (h : InBank p bank row) (h' : InBank p' bank' row')
    (other : p ≠ p' ∨ bank ≠ bank' ∨ row ≠ row') (fits : off + n ≤ 128) (place : y ∈ writeTargets s p' bank' row') (hi : i < 128) :
    OutsideRow s p bank row off n (y + i) := by
  intro z here
  have apart : z ≠ y := by
    rintro rfl
    have same := writeTargets_inj h h' here place
    omega
  have := writeTargets_aligned here
  have := writeTargets_aligned place
  omega

theorem storeRow_direct {s : State} (none : s.zoning.evac = []) (p bank row off : Nat) (bs : List TByte) :
    storeRow s p bank row off bs = writePlaces off bs (writeTargets s p bank row) s := by
  simp [storeRow, mirrors, none, writePlaces]

theorem storeRow_stored {s : State} (none : s.zoning.evac = []) {p bank row off : Nat} {bs : List TByte}
    (fits : off + bs.length ≤ 128) : RowStored s (storeRow s p bank row off bs) p bank row off (bs.map (·.1)) := by
  rw [storeRow_direct none]
  refine ⟨fun y place => ?_, fun x outside => ?_⟩
  · rw [List.length_map]
    exact writePlaces_holds off bs (fun y => writeTargets_aligned) fits s place
  · rw [List.length_map] at outside
    exact writePlaces_outside off bs outside s

/-- A program write of a row that exists commits, and then records at most that it met another one (R101). -/
theorem writeRow_cases (s : State) (t : Touch) (p bank : Nat) {row : Nat} (off : Nat) (bs : List TByte) (inside : row < 768) :
    (bs = [] ∧ writeRow s t p bank row off bs = s) ∨
    ∃ u, RecordOnly (storeRow s p bank row off bs) u ∧ IndexKept (storeRow s p bank row off bs) u [0x5021, 0x50D0] ∧
      writeRow s t p bank row off bs = u := by
  unfold writeRow
  cases bs with
  | nil => exact .inl ⟨rfl, rfl⟩
  | cons b r =>
    refine .inr ⟨_, ?_, ?_, rfl⟩
    all_goals
      rw [if_neg (by simp), if_neg (by omega)]
      dsimp only
      split
    · exact record_recordOnly ..
    · exact .refl _
    · exact record_indexKept _ _ _ _ (by simp)
    · exact .refl _ _

theorem writeRow_stored {s : State} (none : s.zoning.evac = []) (t : Touch) {p bank row off : Nat} {bs : List TByte}
    (inside : row < 768) (fits : off + bs.length ≤ 128) :
    RowStored s (writeRow s t p bank row off bs) p bank row off (bs.map (·.1)) := by
  obtain ⟨rfl, e⟩ | ⟨u, recorded, -, e⟩ := writeRow_cases s t p bank off bs inside
  · rw [e]
    exact ⟨fun _ _ => rfl, fun _ _ => rfl⟩
  · have stored := storeRow_stored none (p := p) (bank := bank) (row := row) fits
    rw [e]
    exact ⟨RowHolds.congr rfl recorded.mem stored.holds, fun x outside => recorded.mem ▸ stored.rest x outside⟩

end Sys2Proof.Machine

end

section
/-! PROOF. `VSTORE` and `ACC_STORE` (O31). -/

namespace Sys2Proof.Machine
open Sys2Proof

/-! ## States that differ in the banks of some blocks and in records -/

/-- The records of a store: arithmetic flags, writes that meet, and the log. -/
def storeAreas : List Nat := [0x5010, 0x5021, 0x50D0]

/-- Beside the banks of the blocks `ps`, their flags and base registers, only the records of a store have changed. -/
structure BanksOnly (s t : State) (ps : List Nat) : Prop where
  rest : t = { s with
    mem := t.mem, poison := t.poison, blocks := t.blocks, dict := t.dict, garnet := t.garnet, freeCount := t.freeCount }
  index : IndexKept s t storeAreas
  block : ∀ p, p ∉ ps → t.block p = s.block p
  registers : ∀ p, (t.block p).vregs = (s.block p).vregs ∧ (t.block p).acc = (s.block p).acc
  mem : ∀ x, (∀ p ∈ ps, bankOwner x ≠ some p) → memByte t.mem x = memByte s.mem x

namespace BanksOnly

variable {s t u : State} {l ps qs : List Nat}

theorem refl (s : State) (ps : List Nat) : BanksOnly s s ps :=
  ⟨rfl, .refl s _, fun _ _ => rfl, fun _ => ⟨rfl, rfl⟩, fun _ _ => rfl⟩

theorem trans (h : BanksOnly s t ps) (k : BanksOnly t u ps) : BanksOnly s u ps where
  rest := by rw [k.rest, h.rest]
  index := h.index.trans k.index
  block p out := (k.block p out).trans (h.block p out)
  registers p := ⟨(k.registers p).1.trans (h.registers p).1, (k.registers p).2.trans (h.registers p).2⟩
  mem x out := (k.mem x out).trans (h.mem x out)

theorem mono (h : BanksOnly s t ps) (i : ps ⊆ qs) : BanksOnly s t qs :=
  ⟨h.rest, h.index, fun p out => h.block p fun e => out (i e), h.registers, fun x out => h.mem x fun p e => out p (i e)⟩

theorem of_blocksOnly (h : BlocksOnly s t l ps) (i : l ⊆ storeAreas)
    (registers : ∀ p ∈ ps, (t.block p).vregs = (s.block p).vregs ∧ (t.block p).acc = (s.block p).acc) : BanksOnly s t ps where
  rest := by rw [h.rest]
  index := h.index.mono i
  block := h.block
  registers p := by
    by_cases inside : p ∈ ps
    · exact registers p inside
    · rw [h.block p inside]
      exact ⟨rfl, rfl⟩
  mem x _ := by rw [h.rest]

theorem zoning (h : BanksOnly s t ps) : t.zoning = s.zoning := by rw [h.rest]
theorem ctx (h : BanksOnly s t ps) (c : Nat) : t.ctx c = s.ctx c := by rw [h.rest]; rfl

end BanksOnly

/-! ## Steps of a store -/

theorem writeRow_banksOnly {s : State} (none : s.zoning.evac = []) (t : Touch) {p bank row off : Nat} {bs : List TByte}
    (h : InBank p bank row) (fits : off + bs.length ≤ 128) : BanksOnly s (writeRow s t p bank row off bs) [p] := by
  have mem (x : Nat) (other : ∀ q ∈ [p], bankOwner x ≠ some q) :
      memByte (writeRow s t p bank row off bs).mem x = memByte s.mem x := by
    refine (writeRow_stored none t h.row fits).rest x (outsideRow_of_owner h ?_ (other p List.mem_cons_self))
    rwa [List.length_map]
  obtain ⟨-, e⟩ | ⟨u, recorded, index, e⟩ := writeRow_cases s t p bank off bs h.row
  · rw [e]
    exact .refl s _
  · have blocks : u.blocks = s.blocks := by rw [recorded.blocks, storeRow_frame]
    have dict : (storeRow s p bank row off bs).dict = s.dict := by rw [storeRow_frame]
    have power : (storeRow s p bank row off bs).power = s.power := by rw [storeRow_frame]
    have same (q : Nat) : u.block q = s.block q := by rw [State.block, blocks]; rfl
    rw [e] at mem ⊢
    refine ⟨by rw [recorded.1, storeRow_frame], ?_, fun q _ => same q, fun q => by simp [same q], mem⟩
    exact (indexKept_of_dict dict (by rw [power]) _).trans (index.mono (by simp [storeAreas]))

theorem arith_registers (s : State) (p q : Nat) (ev : Events) :
    ((s.arith p ev).block q).vregs = (s.block q).vregs ∧ ((s.arith p ev).block q).acc = (s.block q).acc := by
  rw [(arith_records s p ev).block q List.not_mem_nil]
  split
  · exact ⟨rfl, rfl⟩
  · rw [State.setBlock_block]
    split
    next e => subst e; exact ⟨rfl, rfl⟩
    · exact ⟨rfl, rfl⟩

theorem nonfinite_blocksOnly (s : State) (p n : Nat) : BlocksOnly s (s.nonfinite p n) [0x5010, 0x50D0] [p] := by
  unfold State.nonfinite
  split
  · exact .refl s _ _
  · have counted : BlocksOnly s (s.dcount 0x5010 4 n) [0x5010] [] :=
      .of_recordOnly (dcount_recordOnly ..) (dcount_indexKept _ _ _ (by decide))
    exact (counted.mono (by simp) (by simp)).trans (arith_blocksOnly ..)

theorem nonfinite_registers (s : State) (p n q : Nat) :
    ((s.nonfinite p n).block q).vregs = (s.block q).vregs ∧ ((s.nonfinite p n).block q).acc = (s.block q).acc := by
  unfold State.nonfinite
  split
  · exact ⟨rfl, rfl⟩
  · exact arith_registers (s.dcount 0x5010 4 n) p q _

theorem setBlock_banksOnly (s : State) (p : Nat) {f : Block → Block}
    (registers : ∀ b, (f b).vregs = b.vregs ∧ (f b).acc = b.acc) : BanksOnly s (s.setBlock p f) [p] := by
  refine .of_blocksOnly (.setBlock s p f []) (by simp) fun q inside => ?_
  obtain rfl := List.mem_singleton.1 inside
  rw [State.setBlock_block_same]
  exact registers _

theorem Block.bump_registers (b : Block) (i n : Nat) : (b.bump i n).vregs = b.vregs ∧ (b.bump i n).acc = b.acc := by
  rw [Block.bump_eq]
  exact ⟨rfl, rfl⟩

/-- What a store in block `p` does once it has written: elements that are not finite are counted and base registers raised. -/
def Finishes (p : Nat) (s t : State) : Prop := BanksOnly s t [p] ∧ t.mem = s.mem

theorem finishes_nonfinite (s : State) (p n : Nat) {f : Block → Block}
    (registers : ∀ b, (f b).vregs = b.vregs ∧ (f b).acc = b.acc) : Finishes p s ((s.nonfinite p n).setBlock p f) := by
  have counted := nonfinite_blocksOnly s p n
  refine ⟨(BanksOnly.of_blocksOnly counted (by simp [storeAreas]) fun q _ => nonfinite_registers s p n q).trans
    (setBlock_banksOnly _ p registers), ?_⟩
  rw [State.setBlock_mem, counted.rest]

/-! ## Rows written one after another -/

/-- Bytes for a part of a row. -/
structure RowPut where
  bank  : Nat
  row   : Nat
  off   : Nat
  bytes : List TByte

/-- The row is one of block `p`'s, and the bytes lie in it. -/
structure RowPut.Fits (w : RowPut) (p : Nat) : Prop where
  place : InBank p w.bank w.row
  small : w.off + w.bytes.length ≤ 128

/-- Program writes of a block's rows, in order. -/
def writePuts (t : Touch) (p : Nat) (ws : List RowPut) (s : State) : State :=
  ws.foldl (fun u w => writeRow u t p w.bank w.row w.off w.bytes) s

section
variable (t : Touch) {p : Nat} {ws : List RowPut} {s : State}

theorem writePuts_banksOnly (none : s.zoning.evac = []) (fits : ∀ w ∈ ws, w.Fits p) : BanksOnly s (writePuts t p ws s) [p] := by
  induction ws generalizing s with
  | nil => exact .refl s _
  | cons w r ih =>
    rw [List.forall_mem_cons] at fits
    obtain ⟨⟨place, small⟩, fits⟩ := fits
    have first := writeRow_banksOnly none t place small
    exact first.trans (ih (by rw [first.zoning, none]) fits)

/-- A byte beside all that is written stays. -/
theorem writePuts_outside (none : s.zoning.evac = []) (fits : ∀ w ∈ ws, w.Fits p) {x : Nat}
    (outside : ∀ w ∈ ws, OutsideRow s p w.bank w.row w.off w.bytes.length x) :
    memByte (writePuts t p ws s).mem x = memByte s.mem x := by
  induction ws generalizing s with
  | nil => rfl
  | cons w r ih =>
    rw [List.forall_mem_cons] at fits outside
    obtain ⟨⟨place, small⟩, fits⟩ := fits
    obtain ⟨here, outside⟩ := outside
    have zoning := (writeRow_banksOnly none t place small).zoning
    refine (ih (by rw [zoning, none]) fits fun z m => OutsideRow.congr zoning (outside z m)).trans ?_
    exact (writeRow_stored none t place.row small).rest x (by rwa [List.length_map])

/-- What is written to a row stands there at the end where no later write goes to that row. -/
theorem writePuts_holds (none : s.zoning.evac = []) (before : List RowPut) {w : RowPut} {after : List RowPut}
    (fits : ∀ z ∈ before ++ w :: after, z.Fits p) (last : ∀ z ∈ after, z.bank ≠ w.bank ∨ z.row ≠ w.row) :
    RowHolds s (writePuts t p (before ++ w :: after) s) p w.bank w.row w.off (w.bytes.map (·.1)) := by
  have earlier := writePuts_banksOnly t none fun z m => fits z (List.mem_append_left _ m)
  obtain ⟨place, small⟩ := fits w (by simp)
  have free : (writePuts t p before s).zoning.evac = [] := by rw [earlier.zoning, none]
  have stored := writeRow_stored free t (p := p) (bank := w.bank) place.row small
  have zoning := (writeRow_banksOnly free t place small).zoning
  have later : ∀ z ∈ after, z.Fits p := fun z m => fits z (by simp [m])
  have order : writePuts t p (before ++ w :: after) s =
      writePuts t p after (writeRow (writePuts t p before s) t p w.bank w.row w.off w.bytes) := by
    simp [writePuts]
  rw [order]
  refine RowHolds.of_kept (RowHolds.congr earlier.zoning.symm rfl stored.holds) fun y target i low high => ?_
  rw [List.length_map] at high
  refine writePuts_outside t (by rw [zoning, free]) later fun z m => ?_
  refine OutsideRow.congr (zoning.trans earlier.zoning) ?_
  have other := last z m
  exact outsideRow_of_row (later z m).place place (by omega) (later z m).small target (by omega)

end

/-! ## Storing in each block of a list -/

/-- What a store of program `c` presumes of the state in which it acts in block `a`, in terms of the state before. -/
structure Undisturbed (s u : State) (a : Actor) : Prop where
  zoning : u.zoning = s.zoning
  ctx : ∀ c, u.ctx c = s.ctx c
  block : u.block a.phys = s.block a.phys
  mem : ∀ x, bankOwner x = some a.phys → memByte u.mem x = memByte s.mem x

theorem BanksOnly.undisturbed {s u : State} {ps : List Nat} (h : BanksOnly s u ps) {a : Actor} (out : a.phys ∉ ps) :
    Undisturbed s u a where
  zoning := h.zoning
  ctx := h.ctx
  block := h.block _ out
  mem x owner := h.mem x fun p inside e => out (by rw [owner] at e; cases e; exact inside)

section
variable {s : State} {act : Actor → State → State}

/-- A store acts once in each block, as the block's banks and registers were before, and no other block's banks change. -/
theorem foldl_banksOnly {as : List Actor} (distinct : (as.map (·.phys)).Nodup)
    (alone : ∀ a ∈ as, ∀ u, Undisturbed s u a → BanksOnly u (act a u) [a.phys]) {u : State} {ps : List Nat}
    (before : BanksOnly s u ps) (apart : ∀ a ∈ as, a.phys ∉ ps) :
    BanksOnly u (as.foldl (fun t a => act a t) u) (as.map (·.phys)) ∧ ∀ a ∈ as, ∃ v, Undisturbed s v a ∧
      ∀ x, bankOwner x = some a.phys → memByte (as.foldl (fun t a => act a t) u).mem x = memByte (act a v).mem x := by
  induction as generalizing u ps with
  | nil => exact ⟨.refl u _, fun a acts => absurd acts List.not_mem_nil⟩
  | cons e r ih =>
    rw [List.map_cons, List.nodup_cons] at distinct
    obtain ⟨first, distinct⟩ := distinct
    have undisturbed := before.undisturbed (apart e List.mem_cons_self)
    have acted := alone e List.mem_cons_self u undisturbed
    have other (a : Actor) (acts : a ∈ r) : a.phys ∉ e.phys :: ps := by
      rw [List.mem_cons, not_or]
      exact ⟨fun h => first (h ▸ List.mem_map_of_mem acts), apart a (List.mem_cons_of_mem e acts)⟩
    obtain ⟨frame, each⟩ := ih distinct (fun a acts => alone a (List.mem_cons_of_mem e acts))
      ((before.mono (by simp)).trans (acted.mono (by simp))) other
    refine ⟨(acted.mono (by simp)).trans (frame.mono (by simp)), fun a acts => ?_⟩
    obtain rfl | acts := List.mem_cons.1 acts
    · refine ⟨u, undisturbed, fun x owner => frame.mem x fun p inside h => first ?_⟩
      rw [owner] at h
      cases h
      exact inside
    · exact each a acts

end

/-- No write waits while no fast copy runs (R425). -/
theorem pendingGranules_none {s : State} {c : Nat} (idle : (s.cairnOf c).copying = none) : pendingGranules s c = [] := by
  unfold pendingGranules
  rw [idle]

/-- A store that may issue and waits for no granule acts in every selected block in turn. -/
theorem writingBlocks_next {s : State} {c sel pred : Nat} {legal : Bool} (may : StoresDirectly s c sel pred) (ok : legal = true)
    (gs : State → Actor → List Nat) (act : Actor → State → State) :
    writingBlocks c sel pred legal [] gs act s = .next ((actors s c sel pred).foldl (fun t a => act a t) s) := by
  obtain ⟨⟨run, valid, small, low, -, -⟩, idle, -⟩ := may
  have header : (legal && headerOk s c sel pred) = true := by simp [ok, headerOk, valid, small, low]
  unfold writingBlocks
  rw [run, header, if_neg (by simp), if_neg (by simp)]
  obtain ⟨-, e⟩ | ⟨waits, -⟩ := whenCopied_cases c ((actors s c sel pred).flatMap (gs s)) s fun t =>
    .next ((actors t c sel pred).foldl (fun u a => act a u) (senseAll 0 t []))
  · rw [e]
    rfl
  · rw [pendingGranules_none idle] at waits
    exact absurd (List.filter_eq_nil_iff.2 (by simp)) waits

/-- What a store leaves, and what each acting block's banks hold, in terms of the store in one block. -/
theorem writingBlocks_acts {s : State} {c sel pred : Nat} {legal : Bool} {act : Actor → State → State}
    (may : StoresDirectly s c sel pred) (ok : legal = true)
    (alone : ∀ a ∈ actors s c sel pred, ∀ u, Undisturbed s u a → BanksOnly u (act a u) [a.phys]) :
    ∃ t, (∀ gs, writingBlocks c sel pred legal [] gs act s = .next t) ∧ BanksOnly s t ((actors s c sel pred).map (·.phys)) ∧
      ∀ a ∈ actors s c sel pred, ∃ v, Undisturbed s v a ∧
        ∀ x, bankOwner x = some a.phys → memByte t.mem x = memByte (act a v).mem x := by
  have next (gs : State → Actor → List Nat) := writingBlocks_next may ok gs act
  obtain ⟨⟨-, -, -, -, distinct, -⟩, -, -⟩ := may
  obtain ⟨frame, each⟩ := foldl_banksOnly distinct alone (.refl s []) (fun _ _ => List.not_mem_nil)
  exact ⟨_, next, frame, each⟩

/-- Stores of rows in the acting blocks: what stands there afterwards, and that every other byte stays. -/
theorem writingBlocks_puts {s : State} {c sel pred : Nat} {legal : Bool} {act : Actor → State → State} {touch : Touch}
    {puts : Actor → List RowPut} (may : StoresDirectly s c sel pred) (ok : legal = true)
    (fits : ∀ a ∈ actors s c sel pred, ∀ w ∈ puts a, w.Fits a.phys)
    (acts : ∀ a ∈ actors s c sel pred, ∀ u, Undisturbed s u a → Finishes a.phys (writePuts touch a.phys (puts a) u) (act a u)) :
    ∃ t, (∀ gs, writingBlocks c sel pred legal [] gs act s = .next t) ∧
      BanksOnly s t ((actors s c sel pred).map (·.phys)) ∧
      (∀ a ∈ actors s c sel pred, ∀ before w after, puts a = before ++ w :: after →
        (∀ z ∈ after, z.bank ≠ w.bank ∨ z.row ≠ w.row) →
        RowHolds s t a.phys w.bank w.row w.off (w.bytes.map (·.1))) ∧
      ∀ x, (∀ a ∈ actors s c sel pred, ∀ w ∈ puts a, OutsideRow s a.phys w.bank w.row w.off w.bytes.length x) →
        memByte t.mem x = memByte s.mem x := by
  have ⟨_, _, unmirrored⟩ := may
  have free {u : State} {a : Actor} (same : Undisturbed s u a) : u.zoning.evac = [] := by rw [same.zoning, unmirrored]
  obtain ⟨t, e, frame, each⟩ := writingBlocks_acts may ok fun a m u same =>
    (writePuts_banksOnly touch (free same) (fits a m)).trans (acts a m u same).1
  refine ⟨t, e, frame, fun a m before w after order last => ?_, fun x outside => ?_⟩
  · obtain ⟨u, same, banks⟩ := each a m
    obtain ⟨-, mem⟩ := acts a m u same
    have fit := fits a m
    rw [order] at fit mem
    have holds := writePuts_holds touch (free same) before fit last
    obtain ⟨place, small⟩ := fit w (by simp)
    refine RowHolds.of_kept (RowHolds.congr same.zoning.symm rfl holds) fun y target i low high => ?_
    rw [List.length_map] at high
    rw [banks _ (bankOwner_writeTargets place target (by omega)), mem]
  · by_cases inside : ∃ a ∈ actors s c sel pred, bankOwner x = some a.phys
    · obtain ⟨a, m, owner⟩ := inside
      obtain ⟨u, same, banks⟩ := each a m
      rw [banks x owner, (acts a m u same).2, ← same.mem x owner]
      exact writePuts_outside touch (free same) (fits a m) fun w here => OutsideRow.congr same.zoning (outside a m w here)
    · refine frame.mem x fun p acting owner => inside ?_
      obtain ⟨a, m, rfl⟩ := List.mem_map.1 acting
      exact ⟨a, m, owner⟩

/-! ## The bytes of registers (R191) -/

theorem laneBytes_bytes (l : List Lane) : (laneBytes l).map (·.1) = bytesOf l := by
  simp [laneBytes, bytesOf, List.map_flatMap, Lane.bytes, Function.comp_def]

theorem leBytes_length (n v : Nat) : (leBytes n v).length = n := by
  induction n generalizing v with
  | zero => rfl
  | succ n ih => rw [leBytes, List.length_cons, ih]

theorem laneBytes_length (l : List Lane) : (laneBytes l).length = 4 * l.length := by
  simp [laneBytes, List.length_flatMap, Lane.bytes, leBytes_length, mul_comm]

theorem bytesOf_take (l : List Lane) (k : Nat) : (bytesOf l).take (4 * k) = bytesOf (l.take k) := by
  induction l generalizing k with
  | nil => simp [bytesOf]
  | cons x r ih =>
    cases k with
    | zero => rfl
    | succ k =>
      have lane : (bytesOf (x :: r)) = leBytes 4 x.bits.toNat ++ bytesOf r := rfl
      rw [lane, List.take_append, leBytes_length, List.take_of_length_le (by rw [leBytes_length]; omega),
        show 4 * (k + 1) - 4 = 4 * k by omega, ih]
      rfl

theorem bytesOf_drop (l : List Lane) (k : Nat) : (bytesOf l).drop (4 * k) = bytesOf (l.drop k) := by
  have whole : bytesOf (l.take k) ++ bytesOf (l.drop k) = bytesOf l := by
    rw [bytesOf, bytesOf, ← List.flatMap_append, List.take_append_drop]
    rfl
  refine (List.append_cancel_left (as := (bytesOf l).take (4 * k)) ?_)
  rw [List.take_append_drop, bytesOf_take, whole]

/-! ## The stores in one block -/

/-- The rows that a `VSTORE` writes in a block. -/
def storePuts (b : Block) (d : Desc) (vd size bank offset row scales sbank srow sbyte : Nat) : List RowPut :=
  let bs := (laneBytes (b.vreg vd)).take (storeSize size)
  let r := b.rowOf d.selOut row
  (if size = 0 then [⟨bank, r, 0, bs.take 128⟩, ⟨bank + 1, r, 0, bs.drop 128⟩] else [⟨bank, r, 16 * offset, bs⟩]) ++
    if scales = 1 then [⟨sbank, b.rowOf d.selAux srow, sbyte,
      ((b.vreg vd).getD 16 Lane.zero).bytes.take (if oneScale size sbyte then 1 else 2)⟩] else []

theorem storeOp_finishes (c sel vd bank offset row sbank srow sbyte postinc : Nat) {size scales : Nat}
    (narrow : size = 0 → scales ≠ 1) (touch : Touch) (a : Actor) (s : State) :
    Finishes a.phys (writePuts touch a.phys (storePuts (s.block a.phys) ((s.ctx c).desc sel) vd size bank offset row scales sbank
      srow sbyte) s) (storeOp c sel vd size bank offset row scales sbank srow sbyte postinc touch a s) := by
  have raised (i n j m : Nat) (b : Block) :
      ((b.bump i n).bump j m).vregs = b.vregs ∧ ((b.bump i n).bump j m).acc = b.acc :=
    ⟨((b.bump i n).bump_registers j m).1.trans (b.bump_registers i n).1,
      ((b.bump i n).bump_registers j m).2.trans (b.bump_registers i n).2⟩
  have uncounted (t : State) : t.nonfinite a.phys 0 = t := if_pos rfl
  unfold storeOp storePuts
  dsimp only
  by_cases wide : size = 0
  · simp only [if_pos wide, if_neg (narrow wide)]
    exact finishes_nonfinite _ _ _ (raised _ _ _ _)
  · by_cases scaled : scales = 1
    · simp only [if_neg wide, if_pos scaled]
      exact finishes_nonfinite _ _ _ (raised _ _ _ _)
    · simp only [if_neg wide, if_neg scaled]
      have ends := finishes_nonfinite (writeRow s touch a.phys bank ((s.block a.phys).rowOf ((s.ctx c).desc sel).selOut row)
        (16 * offset) ((laneBytes ((s.block a.phys).vreg vd)).take (storeSize size))) a.phys 0
        (raised ((s.ctx c).desc sel).selOut (bits postinc 1 1) ((s.ctx c).desc sel).selAux (bits postinc 0 1))
      rwa [uncounted] at ends

/-- The rows that an `ACC_STORE` writes in a block. -/
def accPuts (b : Block) (d : Desc) (acc half bank row : Nat) : List RowPut :=
  let l := ((b.accRow acc).drop (64 * half)).take 64
  let r := b.rowOf d.selOut row
  [⟨bank, r, 0, laneBytes (l.take 32)⟩, ⟨bank + 1, r, 0, laneBytes (l.drop 32)⟩]

theorem accStoreOp_finishes (c sel acc half bank row postinc : Nat) (touch : Touch) (a : Actor) (s : State) :
    Finishes a.phys (writePuts touch a.phys (accPuts (s.block a.phys) ((s.ctx c).desc sel) acc half bank row) s)
      (accStoreOp c sel acc half bank row postinc touch a s) := by
  have uncounted (t : State) : t.nonfinite a.phys 0 = t := if_pos rfl
  have ends (n : Nat) := finishes_nonfinite (writePuts touch a.phys
    (accPuts (s.block a.phys) ((s.ctx c).desc sel) acc half bank row) s) a.phys n
    fun b => b.bump_registers ((s.ctx c).desc sel).selOut postinc
  unfold accStoreOp
  dsimp only
  split
  · have plain := ends 0
    rwa [uncounted] at plain
  · exact ends _

end Sys2Proof.Machine
end

section
/-! PROOF. What `VSTORE` and `ACC_STORE` store (O31). -/

namespace Sys2Proof.Machine
open Sys2Proof

/-! ## Beyond the rows (R121) -/

theorem writeRow_outOfRange (s : State) (t : Touch) (p bank : Nat) {row : Nat} (off : Nat) {bs : List TByte} (beyond : 768 ≤ row)
    (some : bs ≠ []) : writeRow s t p bank row off bs = rowRange s := by
  unfold writeRow
  rw [if_neg (by simpa using some), if_pos beyond]

/-! ## `VSTORE` -/

section
variable {vd size bank offset row scales sbank srow sbyte postinc : Nat}

/-- What a legal `VSTORE` says of its fields (R191). -/
theorem storeLegal_fields (h : storeLegal vd size bank offset row scales sbank srow sbyte postinc = true) :
    bank < 16 ∧ sbank < 16 ∧ sbyte < 128 ∧ (size = 0 → bank % 2 = 0) ∧ (size ≠ 0 → 16 * offset + storeSize size ≤ 128) ∧
      (size = 0 → scales ≠ 1) ∧ (scales = 1 → sbyte % 2 = 0 ∨ oneScale size sbyte = true) := by
  simp only [storeLegal, Bool.and_eq_true, Bool.or_eq_true, decide_eq_true_eq, bne_iff_ne, beq_iff_eq, and_assoc] at h
  obtain ⟨-, -, bank, -, -, -, sbank, -, sbyte, -, even, -, fits, wide, scale⟩ := h
  exact ⟨bank, sbank, sbyte, fun e => even.resolve_left (· e), fun n => fits.resolve_left n, fun e one => by omega,
    fun one => scale.elim (fun h => .inl (h.resolve_left (by omega))) .inr⟩

theorem scaleCount_eq (size sbyte : Nat) : (if oneScale size sbyte then 1 else 2) = if size = 2 ∧ sbyte % 2 = 1 then 1 else 2 := by
  simp [oneScale]

theorem Lane.bytes_bytes (x : Lane) : x.bytes.map (·.1) = leBytes 4 x.bits.toNat := by
  simp [Lane.bytes, Function.comp_def]

theorem Lane.bytes_length (x : Lane) : x.bytes.length = 4 := by simp [Lane.bytes, leBytes_length]

theorem storePuts_fits {b : Block} {d : Desc} {p : Nat} (square : p < 1088)
    (legal : storeLegal vd size bank offset row scales sbank srow sbyte postinc = true) (out : b.rowOf d.selOut row < 768)
    (aux : scales = 1 → b.rowOf d.selAux srow < 768) :
    ∀ w ∈ storePuts b d vd size bank offset row scales sbank srow sbyte, w.Fits p := by
  obtain ⟨hbank, hsbank, hsbyte, even, fits, -, scale⟩ := storeLegal_fields legal
  unfold storePuts
  dsimp only
  intro w m
  obtain m | m := List.mem_append.1 m
  · split at m
    next wide =>
      subst wide
      have pair := even rfl
      simp only [List.mem_cons, List.not_mem_nil, or_false] at m
      obtain rfl | rfl := m
      · exact ⟨⟨square, hbank, out⟩, by simp only [List.length_take]; omega⟩
      · refine ⟨⟨square, ?_, out⟩, ?_⟩
        · change bank + 1 < 16; omega
        · simp only [List.length_drop, List.length_take, storeSize, List.getD_cons_zero]; omega
    next narrow =>
      obtain rfl := List.mem_singleton.1 m
      have := fits narrow
      exact ⟨⟨square, hbank, out⟩, by simp only [List.length_take]; omega⟩
  · split at m
    next one =>
      obtain rfl := List.mem_singleton.1 m
      refine ⟨⟨square, hsbank, aux one⟩, ?_⟩
      simp only [List.length_take, Lane.bytes_length]
      obtain even | single := scale one
      · split <;> omega
      · rw [if_pos single]; omega
    · cases m

/-- A byte beside the rows of a `VSTORE` stands beside each of its writes. -/
theorem storePuts_outside {s : State} {b : Block} {d : Desc} {p x : Nat}
    (wide : size = 0 → OutsideRow s p bank (b.rowOf d.selOut row) 0 128 x ∧ OutsideRow s p (bank + 1) (b.rowOf d.selOut row) 0 128 x)
    (narrow : 0 < size → OutsideRow s p bank (b.rowOf d.selOut row) (16 * offset) (storeSize size) x)
    (scale : scales = 1 → OutsideRow s p sbank (b.rowOf d.selAux srow) sbyte (if size = 2 ∧ sbyte % 2 = 1 then 1 else 2) x) :
    ∀ w ∈ storePuts b d vd size bank offset row scales sbank srow sbyte, OutsideRow s p w.bank w.row w.off w.bytes.length x := by
  unfold storePuts
  dsimp only
  intro w m
  obtain m | m := List.mem_append.1 m
  · split at m
    next zero =>
      obtain ⟨left, right⟩ := wide zero
      subst zero
      simp only [List.mem_cons, List.not_mem_nil, or_false] at m
      obtain rfl | rfl := m
      · refine OutsideRow.mono left ?_
        simp only [List.length_take]; omega
      · refine OutsideRow.mono right ?_
        simp only [List.length_drop, List.length_take, storeSize, List.getD_cons_zero]; omega
    next positive =>
      obtain rfl := List.mem_singleton.1 m
      exact OutsideRow.mono (narrow (by omega)) (List.length_take_le _ _)
  · split at m
    next one =>
      obtain rfl := List.mem_singleton.1 m
      refine OutsideRow.mono (scale one) ?_
      rw [← scaleCount_eq]
      exact List.length_take_le _ _
    · cases m

/-- A `VSTORE` whose rows exist writes them in every acting block. -/
theorem execVstore_puts {s : State} {c sel pred : Nat} (may : StoresDirectly s c sel pred) (met : List (Nat × Nat))
    (legal : storeLegal vd size bank offset row scales sbank srow sbyte postinc = true)
    (rows : ∀ a ∈ actors s c sel pred, outRow s c sel row a < 768 ∧ (scales = 1 → auxRow s c sel srow a < 768)) :
    let puts := fun (a : Actor) =>
      storePuts (s.block a.phys) ((s.ctx c).desc sel) vd size bank offset row scales sbank srow sbyte
    ∃ t, exec (.vstore c sel pred vd size bank offset row scales sbank srow sbyte postinc ⟨[], met⟩) s = .next t ∧
      BanksOnly s t ((actors s c sel pred).map (·.phys)) ∧
      (∀ a ∈ actors s c sel pred, ∀ before w after, puts a = before ++ w :: after →
        (∀ z ∈ after, z.bank ≠ w.bank ∨ z.row ≠ w.row) → RowHolds s t a.phys w.bank w.row w.off (w.bytes.map (·.1))) ∧
      ∀ x, (∀ a ∈ actors s c sel pred, ∀ w ∈ puts a, OutsideRow s a.phys w.bank w.row w.off w.bytes.length x) →
        memByte t.mem x = memByte s.mem x := by
  have ⟨⟨_, _, _, _, _, square⟩, _, _⟩ := may
  obtain ⟨-, -, -, -, -, narrow, -⟩ := storeLegal_fields legal
  obtain ⟨t, e, stored⟩ := writingBlocks_puts (touch := ⟨[], met⟩)
    (act := storeOp c sel vd size bank offset row scales sbank srow sbyte postinc ⟨[], met⟩)
    (puts := fun a => storePuts (s.block a.phys) ((s.ctx c).desc sel) vd size bank offset row scales sbank srow sbyte) may legal
    (fun a m => storePuts_fits (square a m) legal (rows a m).1 (rows a m).2) fun a _ u same => by
      have finished := storeOp_finishes c sel vd bank offset row sbank srow sbyte postinc narrow ⟨[], met⟩ a u
      rwa [same.block, same.ctx] at finished
  have run : execVstore c sel pred vd size bank offset row scales sbank srow sbyte postinc ⟨[], met⟩ s = .next t := e _
  exact ⟨t, run, stored⟩

end

theorem wideBytes_low (l : List Lane) : (((laneBytes l).take 256).take 128).map (·.1) = bytesOf (l.take 32) := by
  rw [List.take_take, List.map_take, laneBytes_bytes, ← bytesOf_take]
  rfl

theorem wideBytes_high (l : List Lane) : (((laneBytes l).take 256).drop 128).map (·.1) = (bytesOf (l.drop 32)).take 128 := by
  rw [List.map_drop, List.map_take, laneBytes_bytes, List.drop_take, ← bytesOf_drop]

/-! ## `ACC_STORE` -/

theorem accPuts_fits {b : Block} {d : Desc} {p acc half bank row : Nat} (square : p < 1088) (pair : bank + 1 < 16)
    (out : b.rowOf d.selOut row < 768) : ∀ w ∈ accPuts b d acc half bank row, w.Fits p := by
  intro w m
  simp only [accPuts, List.mem_cons, List.not_mem_nil, or_false] at m
  obtain rfl | rfl := m
  · refine ⟨⟨square, by change bank < 16; omega, out⟩, ?_⟩
    simp only [laneBytes_length, List.length_take]; omega
  · refine ⟨⟨square, pair, out⟩, ?_⟩
    simp only [laneBytes_length, List.length_drop, List.length_take]; omega

theorem accPuts_outside {s : State} {b : Block} {d : Desc} {p acc half bank row x : Nat}
    (low : OutsideRow s p bank (b.rowOf d.selOut row) 0 128 x) (high : OutsideRow s p (bank + 1) (b.rowOf d.selOut row) 0 128 x) :
    ∀ w ∈ accPuts b d acc half bank row, OutsideRow s p w.bank w.row w.off w.bytes.length x := by
  intro w m
  simp only [accPuts, List.mem_cons, List.not_mem_nil, or_false] at m
  obtain rfl | rfl := m
  · refine OutsideRow.mono low ?_
    simp only [laneBytes_length, List.length_take]; omega
  · refine OutsideRow.mono high ?_
    simp only [laneBytes_length, List.length_drop, List.length_take]; omega

theorem BanksOnly.lanes {s t : State} {ps : List Nat} (h : BanksOnly s t ps) (p r : Nat) :
    (t.block p).vreg r = (s.block p).vreg r ∧ (t.block p).accRow r = (s.block p).accRow r := by
  obtain ⟨vregs, acc⟩ := h.registers p
  exact ⟨congrArg (kget _ · r) vregs, congrArg (kget _ · r) acc⟩

end Sys2Proof.Machine

open Sys2Proof Sys2Proof.Machine

/-- Settles O31: the places of different rows do not meet, so each row holds what was written to it last, and nothing else changes. -/
theorem vectorStores : Obligations.VectorStores := by
  refine ⟨fun s t p bank row off bs beyond some => ?_, ?_⟩
  · rw [writeRow_outOfRange s t p bank off beyond some]
    exact ⟨record_recordOnly .., record_flag _ _ _ (by decide), record_count _ _ (by decide) (by decide) (by decide) (by decide)⟩
  intro s c sel pred vd size bank offset row sbank srow sbyte acc half postinc met may
  refine ⟨fun legal rows => ?_, fun legal rows => ?_, fun hacc hhalf hbank even hrow hinc rows => ?_⟩
  · obtain ⟨t, e, frame, holds, kept⟩ := execVstore_puts may met legal fun a m => ⟨rows a m, nofun⟩
    refine ⟨t, e, fun a m => ⟨fun wide => ?_, fun narrow => ?_⟩, fun x outside => kept x fun a m => ?_, frame.lanes, frame.index⟩
    · subst wide
      have low := holds a m [] _ [_] rfl (by simp)
      have high := holds a m [_] _ [] rfl (by simp)
      exact ⟨wideBytes_low _ ▸ low, wideBytes_high _ ▸ high⟩
    · have stored := holds a m [] ⟨bank, outRow s c sel row a, 16 * offset,
        (laneBytes ((s.block a.phys).vreg vd)).take (storeSize size)⟩ [] (by simp [storePuts, narrow.ne', outRow]) (by simp)
      rwa [List.map_take, laneBytes_bytes] at stored
    · obtain ⟨wide, narrow⟩ := outside a m
      exact storePuts_outside wide narrow nofun
  · obtain ⟨-, -, -, -, -, narrow, -⟩ := storeLegal_fields legal
    have positive : 0 < size := Nat.pos_of_ne_zero fun zero => narrow zero rfl
    obtain ⟨t, e, -, holds, kept⟩ := execVstore_puts may met legal fun a m => ⟨(rows a m).1, fun _ => (rows a m).2⟩
    refine ⟨t, e, fun a m => ?_, fun x outside => kept x fun a m => ?_⟩
    · have stored := holds a m [_] _ [] (by dsimp only [storePuts]; rw [if_neg positive.ne', if_pos rfl]) (by simp)
      rwa [List.map_take, Lane.bytes_bytes, scaleCount_eq] at stored
    · obtain ⟨values, scale⟩ := outside a m
      exact storePuts_outside (fun zero => absurd zero positive.ne') (fun _ => values) fun _ => scale
  · have legal : (decide (acc < 16) && decide (half < 2) && decide (bank < 16) && bank % 2 == 0 && decide (row < 64) &&
        decide (postinc < 2)) = true := by simp [hacc, hhalf, hbank, even, hrow, hinc]
    have ⟨⟨_, _, _, _, _, square⟩, _, _⟩ := may
    obtain ⟨t, e, frame, holds, kept⟩ := writingBlocks_puts (touch := ⟨[], met⟩)
      (act := accStoreOp c sel acc half bank row postinc ⟨[], met⟩)
      (puts := fun a => accPuts (s.block a.phys) ((s.ctx c).desc sel) acc half bank row) may legal
      (fun a m => accPuts_fits (square a m) (by omega) (rows a m).1) fun a _ u same => by
        have finished := accStoreOp_finishes c sel acc half bank row postinc ⟨[], met⟩ a u
        rwa [same.block, same.ctx] at finished
    have run : execAccStore c sel pred acc half bank row postinc ⟨[], met⟩ s = .next t := e _
    refine ⟨t, run, fun a m => ?_, fun x outside => kept x fun a m => ?_, frame.lanes, frame.index⟩
    · have low := holds a m [] _ [_] rfl (by simp)
      have high := holds a m [_] _ [] rfl (by simp)
      rw [laneBytes_bytes] at low high
      simp only [List.take_take, List.drop_take, List.drop_drop] at low high
      exact ⟨low, high⟩
    · obtain ⟨low, high⟩ := outside a m
      exact accPuts_outside low high

end

section
/-! PROOF. Row migration, scrubbing, and the operator's marks (O44). -/

namespace Sys2Proof.Machine
open Sys2Proof

/-! ## Remap tables (R94, R97) -/

theorem remapKey_inj {p bank i p' bank' i' : Nat} (hb : bank < 16) (hi : i < 16) (hb' : bank' < 16) (hi' : i' < 16) :
    remapKey p bank i = remapKey p' bank' i' ↔ p = p' ∧ bank = bank' ∧ i = i' := by
  unfold remapKey
  omega

theorem setRemap_remapEntry (s : State) {p bank i p' bank' i' : Nat} (hb : bank < 16) (hi : i < 16) (hb' : bank' < 16) (hi' : i' < 16)
    (r : Remap) : (s.setRemap p bank i r).remapEntry p' bank' i' =
      if p = p' ∧ bank = bank' ∧ i = i' then r else s.remapEntry p' bank' i' := by
  rw [State.remapEntry, State.setRemap, kget_kput]
  simp only [remapKey_inj hb hi hb' hi']
  rfl

/-- The spare that served a row before its new one is adopted is retired. -/
def retireSpare (s : State) (p bank row : Nat) : State := match remapOf s p bank row 2 with
  | some j => s.setRemap p bank j ⟨3, 0⟩
  | none => s

theorem adoptSpare_eq (s : State) (p bank i : Nat) : adoptSpare s p bank i =
    (retireSpare s p bank (s.remapEntry p bank i).target).setRemap p bank i ⟨2, (s.remapEntry p bank i).target⟩ := rfl

theorem adoptSpare_remapOnly (s : State) (p bank i : Nat) : adoptSpare s p bank i =
    { s with zoning := { s.zoning with remap := (adoptSpare s p bank i).zoning.remap } } := by
  rw [adoptSpare_eq, retireSpare]
  split <;> rfl

section
variable (s : State) {p bank row i : Nat}

theorem retireSpare_retired {j : Nat} (h : remapOf s p bank row 2 = some j) (hb : bank < 16) :
    (retireSpare s p bank row).remapEntry p bank j = ⟨3, 0⟩ := by
  obtain ⟨hj, -⟩ := remapOf_eq_some h
  rw [retireSpare, h]
  dsimp only
  rw [setRemap_remapEntry s hb hj hb hj, if_pos ⟨rfl, rfl, rfl⟩]

theorem retireSpare_other (hb : bank < 16) {p' bank' j : Nat} (hb' : bank' < 16) (hj : j < 16)
    (other : p' = p → bank' = bank → remapOf s p bank row 2 ≠ some j) :
    (retireSpare s p bank row).remapEntry p' bank' j = s.remapEntry p' bank' j := by
  rw [retireSpare]
  split
  next k served =>
    obtain ⟨hk, -⟩ := remapOf_eq_some served
    refine (setRemap_remapEntry s hb hk hb' hj _).trans (if_neg ?_)
    rintro ⟨rfl, rfl, rfl⟩
    exact other rfl rfl served
  · rfl

end

theorem retireSpare_remapEntry_congr {s t : State} (z : t.zoning = s.zoning) (p bank row p' bank' j : Nat) :
    (retireSpare t p bank row).remapEntry p' bank' j = (retireSpare s p bank row).remapEntry p' bank' j := by
  have same : remapOf t p bank row 2 = remapOf s p bank row 2 := by simp only [remapOf, State.remapEntry, z]
  unfold retireSpare
  rw [same]
  split <;> simp only [State.remapEntry, State.setRemap, z]

/-- Adopting a spare changes entries of its own bank alone. -/
theorem adoptSpare_otherBlock (s : State) {p bank i p' bank' j : Nat} (hb : bank < 16) (hi : i < 16) (hb' : bank' < 16) (hj : j < 16)
    (other : p' ≠ p) : (adoptSpare s p bank i).remapEntry p' bank' j = s.remapEntry p' bank' j := by
  rw [adoptSpare_eq, setRemap_remapEntry _ hb hi hb' hj, if_neg (by omega),
    retireSpare_other s hb hb' hj fun e => absurd e other]

/-! ## Row migration (R97, R101, R103) -/

section
variable {s : State} {p bank i row : Nat} (entry : s.remapEntry p bank i = ⟨1, row⟩)
include entry

theorem finishMigration_eq : finishMigration s p bank i =
    adoptSpare (writeTagged s (spareAddress p bank i) (readTagged s (readTarget s p bank row) 128)) p bank i := by
  rw [finishMigration, entry]

theorem finishMigration_frame : finishMigration s p bank i = { s with
    mem := (finishMigration s p bank i).mem, poison := (finishMigration s p bank i).poison,
    zoning := (finishMigration s p bank i).zoning } := by
  rw [finishMigration_eq entry, adoptSpare_remapOnly]
  rfl

theorem finishMigration_mem : (finishMigration s p bank i).mem =
    memWrite s.mem (spareAddress p bank i) (memRead s.mem (readTarget s p bank row) 128) := by
  rw [finishMigration_eq entry, adoptSpare_remapOnly, ← readTagged_bytes]
  rfl

theorem finishMigration_holds :
    memRead (finishMigration s p bank i).mem (spareAddress p bank i) 128 = memRead s.mem (readTarget s p bank row) 128 := by
  have written := memRead_memWrite s.mem (spareAddress p bank i) (memRead s.mem (readTarget s p bank row) 128)
  rwa [memRead_length, ← finishMigration_mem entry] at written

theorem finishMigration_memoryKeptBut : MemoryKeptBut s (finishMigration s p bank i) (spareAddress p bank i) 128 := by
  intro x outside
  rw [finishMigration_mem entry]
  exact memByte_memWrite_other _ _ (by rwa [memRead_length])

/-- The entry is in use, and the spare that served the row before is retired; the bank's other entries stay. -/
theorem finishMigration_entries (hb : bank < 16) (hi : i < 16) :
    let t := finishMigration s p bank i
    t.remapEntry p bank i = ⟨2, row⟩ ∧ (∀ j, remapOf s p bank row 2 = some j → t.remapEntry p bank j = ⟨3, 0⟩) ∧
      ∀ j, j < 16 → j ≠ i → remapOf s p bank row 2 ≠ some j → t.remapEntry p bank j = s.remapEntry p bank j := by
  have entries (j : Nat) (hj : j < 16) : (finishMigration s p bank i).remapEntry p bank j =
      if p = p ∧ bank = bank ∧ i = j then ⟨2, row⟩ else (retireSpare s p bank row).remapEntry p bank j := by
    have target : (writeTagged s (spareAddress p bank i) (readTagged s (readTarget s p bank row) 128)).remapEntry p bank i =
        ⟨1, row⟩ := entry
    rw [finishMigration_eq entry, adoptSpare_eq, target, setRemap_remapEntry _ hb hi hb hj]
    congr 1
    exact retireSpare_remapEntry_congr (s := s) (t := writeTagged s _ _) rfl p bank row p bank j
  refine ⟨?_, fun j served => ?_, fun j hj other unserved => ?_⟩
  · rw [entries i hi, if_pos ⟨rfl, rfl, rfl⟩]
  · obtain ⟨hj, used⟩ := remapOf_eq_some served
    have other : i ≠ j := by
      rintro rfl
      rw [entry] at used
      cases used
    rw [entries j hj, if_neg (by simp [other]), retireSpare_retired s served hb]
  · rw [entries j hj, if_neg (by simp [other.symm]), retireSpare_other s hb hb hj fun _ _ => unserved]

/-- A copy that may end does so, and a write that met a program's is counted. -/
theorem execRowMigration_copies (free : portsReserved s p = false) (met : List (Nat × Nat)) :
    exec (.rowMigration p bank i ⟨[], met⟩) s =
      .next (suppressed (finishMigration s p bank i) ⟨[], met⟩ p bank row 0 128) := by
  change execRowMigration p bank i ⟨[], met⟩ s = _
  unfold execRowMigration
  rw [entry, if_pos ⟨rfl, free⟩]
  rfl

end

theorem suppressed_unmet (s : State) (es : List ReadError) (p bank row off n : Nat) :
    suppressed s ⟨es, []⟩ p bank row off n = s :=
  if_pos (Nat.zero_and _)

/-! ## Scrubbing (R92, R96, R99) -/

/-- A corrected read of a row of a bank that suspects none: counted, and the row is the bank's one suspect. -/
theorem correctedRead_first {s : State} {p bank row : Nat} (limit : s.dget 0x7020 1 ≠ 1)
    (none : kget [] s.zoning.suspects (p * 16 + bank) = []) :
    correctedRead s p bank row = { s.record 0x5020 0 [(2, 1)] Option.none with
      zoning := { s.zoning with suspects := kset s.zoning.suspects (p * 16 + bank) [(row, 1)] } } := by
  have recorded := record_recordOnly s 0x5020 0 [(2, 1)] Option.none
  have zoning : (s.record 0x5020 0 [(2, 1)] Option.none).zoning = s.zoning := by rw [recorded.1]
  have kept : (s.record 0x5020 0 [(2, 1)] Option.none).dget 0x7020 1 = s.dget 0x7020 1 :=
    record_indexKept _ _ _ _ (by simp) _ _ (by decide) (by decide)
  have hit : suspectHit [] row = ([(row, 1)], 1) := rfl
  unfold correctedRead
  simp only [zoning, none, kept, hit]
  rw [if_neg (by omega)]

theorem execPatrolScrub_first {s : State} {p bank row : Nat} (on : s.dget 0x7020 2 ≠ 0) (powered : blockPower s p ≠ 0) :
    exec (.patrolScrub ⟨[⟨0, p, bank, row, none⟩], []⟩) s = .next (correctedRead s p bank row) := by
  change execPatrolScrub _ s = _
  unfold execPatrolScrub
  rw [if_neg on]
  simp [powered, senseAll, senseError, suppressed_unmet]

/-! ## The power of blocks (R124) -/

theorem LossFrame.health {s t : State} (h : LossFrame s t) (p : Nat) : healthOf t p = healthOf s p := by rw [h]; rfl

theorem settlePower_blocks (was s : State) : (settlePower was s).blocks =
    s.blocks.filter fun e => !(blockPower was e.1 != 0 && blockPower s e.1 == 0) := by
  unfold settlePower loseBlocks
  dsimp only [eraseBlocks]
  rw [finishCopies_blocks]

/-- A block that has power keeps its registers. -/
theorem settlePower_block {was s : State} {p : Nat} (powered : blockPower s p ≠ 0) : (settlePower was s).block p = s.block p := by
  rw [State.block, State.block, kget, kget, settlePower_blocks,
    kfind_filter s.blocks (fun i => !(blockPower was i != 0 && blockPower s i == 0)), if_pos (by simp [powered])]

/-! ## The operator's marks (R300, R303) -/

/-- A mark sets the block's health; beside it only what the power of blocks decides may change. -/
theorem markBlock_lossFrame (s : State) {p v : Nat} (real : p ≠ 0xFFFF) : LossFrame (setHealth s p v) (markBlock s p v) := by
  rw [markBlock, if_neg real]
  exact settlePower_lossFrame s _

theorem markBlock_health (s : State) {p v : Nat} (real : p ≠ 0xFFFF) (b : Nat) :
    healthOf (markBlock s p v) b = if p = b then v else healthOf s b := by
  rw [(markBlock_lossFrame s real).health, setHealth_healthOf]

/-- An accepted mark is made and answered. -/
theorem marked_accepted {s : State} {r : Requester} {sub p : Nat} (v : Nat) (real : p ≠ 0xFFFF) (h : Accepted s r 0x7030 sub 2 p) :
    let t := guardedWrite s r 0x7030 sub 2 p fun u => (0, markBlock u p v)
    healthOf t p = v ∧ (∀ b, b ≠ p → healthOf t b = healthOf s b) ∧ t.dict = s.dict ∧ t.contexts = s.contexts ∧
      t.out = .answer r 0 0 :: s.out := by
  dsimp only
  rw [guardedWrite_accepted _ h]
  have frame := markBlock_lossFrame s (v := v) real
  have health := markBlock_health s (v := v) real
  exact ⟨(health p).trans (if_pos rfl), fun b other => (health b).trans (if_neg other.symm), frame.dict, frame.contexts,
    congrArg _ frame.out⟩

end Sys2Proof.Machine

end

section
/-! PROOF. Evacuation: requests, the mirror copy, and the switch (O44). -/

namespace Sys2Proof.Machine
open Sys2Proof

/-! ## Who binds a block (R276) -/

theorem boundBy_eq_some {s : State} {p c l : Nat} (h : boundBy s p = some (c, l)) :
    c < 4 ∧ ∃ e ∈ (s.ctx c).blocks, e.2 = p := by
  obtain ⟨d, hd, found⟩ := List.exists_of_findSome?_eq_some h
  obtain ⟨e, first, pair⟩ := Option.map_eq_some_iff.1 found
  cases pair
  exact ⟨List.mem_range.1 hd, e, List.mem_of_find?_eq_some first, by simpa using List.find?_some first⟩

theorem boundBy_isSome {s : State} {p c : Nat} (small : c < 4) {e : Nat × Nat} (bound : e ∈ (s.ctx c).blocks) (here : e.2 = p) :
    (boundBy s p).isSome = true := by
  rw [boundBy, List.findSome?_isSome_iff]
  refine ⟨c, List.mem_range.2 small, ?_⟩
  rw [Option.isSome_map, List.find?_isSome]
  exact ⟨e, bound, by simp [here]⟩

theorem blockPower_bound {s : State} {p : Nat} (h : (boundBy s p).isSome = true) : blockPower s p = 2 := by
  unfold blockPower blockHeld
  rw [h, if_pos (by simp)]

theorem districtSpare_lt {p : Nat} (h : p < 1088) : districtSpare p < 1088 := by
  unfold districtSpare
  omega

/-! ## Requests (R292, R303) -/

theorem RecordOnly.zoning {s t : State} (h : RecordOnly s t) : t.zoning = s.zoning := by rw [h.1]

section
variable {s : State} {p c l : Nat} (bound : boundBy s p = some (c, l)) (fresh : ∀ e ∈ s.zoning.evac, e.block ≠ p)
include bound fresh

theorem queueEvacuation_queued (free : boundBy s (districtSpare p) = none) (fit : usable s c (districtSpare p) = true) :
    queueEvacuation s p = { s with zoning := { s.zoning with evac := s.zoning.evac ++ [⟨p, 0⟩] } } := by
  unfold queueEvacuation
  rw [bound]
  dsimp only
  rw [if_neg (by simpa using fresh), if_neg (by simp [free, fit])]

theorem queueEvacuation_refused (taken : (boundBy s (districtSpare p)).isSome = true ∨ usable s c (districtSpare p) = false) :
    queueEvacuation s p = s.record 0x5060 1 [(3, 1)] (some (evacCase 0 p)) := by
  unfold queueEvacuation
  rw [bound]
  dsimp only
  rw [if_neg (by simpa using fresh), if_pos (by simpa using taken)]

end

theorem execEvacRequest_accepted {s : State} {r : Requester} {p : Nat} (h : Accepted s r 0x7050 1 2 p) :
    exec (.evacRequest r p) s = .next ((queueEvacuation s p).reply r 0 0) :=
  congrArg Host.Outcome.next (guardedWrite_accepted (fun t => (0, queueEvacuation t p)) h)

/-! ## The rows that hold something (R296) -/

/-- The rows of block `p`, by 768 × bank + row, that a byte or a mark at an address lists. -/
def rowsAt (p a : Nat) : List Nat :=
  if p * windowBytes ≤ a ∧ a < p * windowBytes + banksBytes then
    [(a - p * windowBytes) / bankBytes * 768 + (a - p * windowBytes) % bankBytes / 128]
  else []

/-- The rows of block `p` that spare rows serve. -/
def servedRows (s : State) (p : Nat) : List Nat :=
  (s.zoning.remap.filter fun e => e.1 / 256 == p && e.2.state == 2 && decide (e.2.target < 768)).map fun e =>
    e.1 / 16 % 16 * 768 + e.2.target

theorem listedRows_eq (s : State) (p : Nat) : listedRows s p =
    ((s.mem.flatMap fun e => rowsAt p e.1) ++ (s.poison.flatMap (rowsAt p)) ++ servedRows s p).foldl sinsert [] := rfl

theorem mem_foldl_sinsert (l acc : List Nat) (k : Nat) : k ∈ l.foldl sinsert acc ↔ k ∈ acc ∨ k ∈ l := by
  induction l generalizing acc with
  | nil => simp
  | cons x r ih => rw [List.foldl_cons, ih, mem_sinsert, List.mem_cons]; tauto

theorem mem_listedRows {s : State} {p k : Nat} : k ∈ listedRows s p ↔
    (∃ e ∈ s.mem, k ∈ rowsAt p e.1) ∨ (∃ a ∈ s.poison, k ∈ rowsAt p a) ∨ k ∈ servedRows s p := by
  rw [listedRows_eq, mem_foldl_sinsert, List.mem_append, List.mem_append, List.mem_flatMap, List.mem_flatMap]
  simp [or_assoc]

theorem rowsAt_bank {p a k : Nat} (h : k ∈ rowsAt p a) : k / 768 < 16 := by
  unfold rowsAt at h
  split at h
  next inside =>
    obtain rfl := List.mem_singleton.1 h
    unfold banksBytes bankBytes at *
    omega
  · cases h

theorem listedRows_bank {s : State} {p k : Nat} (h : k ∈ listedRows s p) : k / 768 < 16 := by
  obtain ⟨e, -, h⟩ | ⟨a, -, h⟩ | h := mem_listedRows.1 h
  · exact rowsAt_bank h
  · exact rowsAt_bank h
  · obtain ⟨e, m, rfl⟩ := List.mem_map.1 h
    obtain ⟨-, kept⟩ := List.mem_filter.1 m
    have target : e.2.target < 768 := by
      simp only [Bool.and_eq_true, decide_eq_true_eq] at kept
      exact kept.2
    omega

theorem kfind_mem {α : Type} {m : List (Nat × α)} {k : Nat} {v : α} (h : kfind m k = some v) : (k, v) ∈ m := by
  induction m with
  | nil => cases h
  | cons e r ih =>
    obtain ⟨j, w⟩ := e
    rw [kfind_cons] at h
    split at h
    next same => subst same; cases h; exact List.mem_cons_self
    · exact List.mem_cons_of_mem _ (ih h)

/-- A key that no entry lists reads as the blank value. -/
theorem kget_of_notListed {α : Type} (d : α) {m : List (Nat × α)} {k : Nat} (h : ∀ e ∈ m, e.1 ≠ k) : kget d m k = d := by
  unfold kget
  cases e : kfind m k with
  | none => rfl
  | some v => exact absurd rfl (h _ (kfind_mem e))

theorem rowsAt_row {p bank row i : Nat} (hb : bank < 16) (hr : row < 768) (hi : i < 128) :
    768 * bank + row ∈ rowsAt p (rowAddress p bank row + i) := by
  unfold rowsAt rowAddress windowBytes banksBytes bankBytes
  rw [if_pos (by omega), List.mem_singleton, show p * 0x20_0000 + bank * 0x1_8000 + row * 128 + i - p * 0x20_0000 =
    bank * 0x1_8000 + (row * 128 + i) by omega]
  omega

/-- A row that a spare serves is listed. -/
theorem listedRows_served {s : State} {p bank row i : Nat} (hb : bank < 16) (hr : row < 768) (hi : i < 16)
    (entry : s.remapEntry p bank i = ⟨2, row⟩) : 768 * bank + row ∈ listedRows s p := by
  refine mem_listedRows.2 (.inr (.inr (List.mem_map.2 ⟨(remapKey p bank i, ⟨2, row⟩), List.mem_filter.2 ⟨?_, ?_⟩, ?_⟩)))
  · unfold State.remapEntry kget at entry
    cases found : kfind s.zoning.remap (remapKey p bank i) with
    | none => rw [found] at entry; cases entry
    | some r =>
      rw [found] at entry
      cases entry
      exact kfind_mem found
  · have owner : remapKey p bank i / 256 = p := by unfold remapKey; omega
    simp [owner, hr]
  · have unit : remapKey p bank i / 16 % 16 = bank := by unfold remapKey; omega
    rw [unit, mul_comm]

/-- A row that is not listed holds zeros at its own address. -/
theorem listedRows_complete {s : State} {p bank row : Nat} (hb : bank < 16) (hr : row < 768)
    (h : 768 * bank + row ∉ listedRows s p) {i : Nat} (hi : i < 128) : memByte s.mem (readTarget s p bank row + i) = memBlank := by
  obtain own | ⟨j, hj, -, entry⟩ := readTarget_cases s p bank row
  · refine kget_of_notListed _ fun e m same => h (mem_listedRows.2 (.inl ⟨e, m, ?_⟩))
    rw [same, own]
    exact rowsAt_row hb hr hi
  · exact absurd (listedRows_served hb hr hj entry) h

/-! ## A block that loses its contents (R97, R124) -/

theorem finishCopies_mem (s : State) (p : Nat → Bool) : (finishCopies s p).mem = s.mem := by
  unfold finishCopies
  dsimp only
  refine foldl_related (fun u v : State => v.mem = u.mem) (fun _ => rfl) (fun h k => k.trans h) _ (fun t e => ?_) _ s
  rw [adoptSpare_remapOnly]

/-- Copies that end leave the entries of every other block. -/
theorem finishCopies_remapEntry (s : State) {q p bank i : Nat} (other : p ≠ q) (hb : bank < 16) (hi : i < 16) :
    (finishCopies s (· == q)).remapEntry p bank i = s.remapEntry p bank i := by
  unfold finishCopies
  dsimp only
  refine List.foldlRecOn (motive := fun t : State => t.remapEntry p bank i = s.remapEntry p bank i) _ _ rfl fun t same e m => ?_
  obtain ⟨-, kept⟩ := List.mem_filter.1 m
  have owner : e.1 / 256 = q := by
    simp only [Bool.and_eq_true, beq_iff_eq] at kept
    exact kept.1
  refine (adoptSpare_otherBlock _ (Nat.mod_lt _ (by decide)) (Nat.mod_lt _ (by decide)) hb hi (by omega)).trans ?_
  exact same

theorem loseBlocks_memByte (s : State) (q a : Nat) :
    memByte (loseBlocks s (· == q)).mem a = if bankOwner a = some q then memBlank else memByte s.mem a := by
  unfold loseBlocks
  rw [finishCopies_mem]
  unfold memByte kget
  have kept := kfind_filter s.mem (fun x => !(match bankOwner x with | some b => b == q | none => false)) a
  change (kfind (s.mem.filter _) a).getD memBlank = _
  refine (congrArg (·.getD memBlank) kept).trans ?_
  cases owner : bankOwner a with
  | none => simp
  | some b => by_cases same : b = q <;> simp [same]

theorem loseBlocks_remapEntry (s : State) {q p bank i : Nat} (other : p ≠ q) (hb : bank < 16) (hi : i < 16) :
    (loseBlocks s (· == q)).remapEntry p bank i = s.remapEntry p bank i :=
  finishCopies_remapEntry _ other hb hi

theorem readTarget_congr_remap {s t : State} {p bank : Nat} (same : ∀ i, i < 16 → t.remapEntry p bank i = s.remapEntry p bank i)
    (row : Nat) : readTarget t p bank row = readTarget s p bank row := by
  have found : remapOf t p bank row 2 = remapOf s p bank row 2 := by
    unfold remapOf firstBelow
    exact List.find?_congr fun i m => by rw [same i (List.mem_range.1 m)]
  unfold readTarget
  rw [found]

theorem readTarget_congr_zoning {s t : State} (h : t.zoning = s.zoning) (p bank row : Nat) :
    readTarget t p bank row = readTarget s p bank row :=
  readTarget_congr_remap (fun i _ => by simp only [State.remapEntry, h]) row

/-! ## The mirror copy (R296) -/

theorem readTagged_length (s : State) (a n : Nat) : (readTagged s a n).length = n := by simp [readTagged, rangeFrom]

/-- One row of block `p` is copied to the same row of block `q`. -/
def mirrorRow (p q : Nat) (t : State) (k : Nat) : State :=
  writePlaces 0 (readTagged t (readTarget t p (k / 768) (k % 768)) 128) (writeTargets t q (k / 768) (k % 768)) t

theorem mirrorBlock_eq (s : State) (p q : Nat) :
    mirrorBlock s p q = (listedRows s p).foldl (mirrorRow p q) (loseBlocks s (· == q)) := rfl

/-- Only bytes of block `q` and poison marks differ. -/
structure SpareOnly (s t : State) (q : Nat) : Prop where
  rest : t = { s with mem := t.mem, poison := t.poison }
  mem : ∀ a, bankOwner a ≠ some q → memByte t.mem a = memByte s.mem a

theorem SpareOnly.refl (s : State) (q : Nat) : SpareOnly s s q := ⟨rfl, fun _ _ => rfl⟩

theorem SpareOnly.trans {s t u : State} {q : Nat} (h : SpareOnly s t q) (k : SpareOnly t u q) : SpareOnly s u q where
  rest := by rw [k.rest, h.rest]
  mem a other := (k.mem a other).trans (h.mem a other)

theorem SpareOnly.zoning {s t : State} {q : Nat} (h : SpareOnly s t q) : t.zoning = s.zoning := by rw [h.rest]

theorem memRead_readTarget_congr {s t : State} {p bank row : Nat} (h : InBank p bank row)
    (mem : ∀ a, bankOwner a = some p → memByte t.mem a = memByte s.mem a) :
    memRead t.mem (readTarget s p bank row) 128 = memRead s.mem (readTarget s p bank row) 128 :=
  memRead_congr fun _ below => mem _ (bankOwner_writeTargets h (readTarget_mem s p bank row) below)

/-- A row of another block reads as before. -/
theorem SpareOnly.row {s t : State} {p q bank row : Nat} (h : SpareOnly s t q) (other : p ≠ q) (place : InBank p bank row) :
    memRead t.mem (readTarget t p bank row) 128 = memRead s.mem (readTarget s p bank row) 128 := by
  rw [readTarget_congr_zoning h.zoning]
  refine memRead_readTarget_congr place fun a owner => h.mem a ?_
  rw [owner]
  simpa using other

/-- The row of the spare holds what the row of the block held. -/
theorem mirrorRow_copied (p q : Nat) (t : State) (k : Nat) :
    memRead (mirrorRow p q t k).mem (readTarget t q (k / 768) (k % 768)) 128 =
      memRead t.mem (readTarget t p (k / 768) (k % 768)) 128 := by
  have written := writePlaces_holds 0 (readTagged t (readTarget t p (k / 768) (k % 768)) 128)
    (fun y => writeTargets_aligned) (by rw [readTagged_length]) t (readTarget_mem t q (k / 768) (k % 768))
  rwa [readTagged_bytes, readTagged_length] at written

section
variable {p q : Nat} (spare : q < 1088) (t : State) {k : Nat} (bank : k / 768 < 16)
include spare bank

theorem mirrorRow_spareOnly : SpareOnly t (mirrorRow p q t k) q := by
  refine ⟨writePlaces_bytesOnly _ _ _ t, fun a other => writePlaces_outside _ _ (fun y place => ?_) t⟩
  have outside := outsideRow_of_owner (s := t) (off := 0) (n := 128) ⟨spare, bank, Nat.mod_lt k (by decide)⟩ (by decide) other
  simpa only [readTagged_length] using outside y place

/-- Every other row of the spare stays. -/
theorem mirrorRow_other {b r : Nat} (place : InBank q b r) (other : k ≠ 768 * b + r) :
    memRead (mirrorRow p q t k).mem (readTarget t q b r) 128 = memRead t.mem (readTarget t q b r) 128 := by
  refine memRead_congr fun i below => writePlaces_outside _ _ (fun y here => ?_) t
  have outside := outsideRow_of_row (off := 0) (n := 128) ⟨spare, bank, Nat.mod_lt k (by decide)⟩ place (by omega) (by decide)
    (readTarget_mem t q b r) below
  simpa only [readTagged_length] using outside y here

end

/-- After the copy of some rows each of them reads in the spare as it read in the block, and every other row of the spare as before. -/
theorem mirrorRows {p q : Nat} (block : p < 1088) (spare : q < 1088) (other : p ≠ q) (l : List Nat) (banks : ∀ k ∈ l, k / 768 < 16)
    (t : State) : SpareOnly t (l.foldl (mirrorRow p q) t) q ∧ ∀ b r, b < 16 → r < 768 →
      memRead (l.foldl (mirrorRow p q) t).mem (readTarget t q b r) 128 =
        if 768 * b + r ∈ l then memRead t.mem (readTarget t p b r) 128 else memRead t.mem (readTarget t q b r) 128 := by
  induction l generalizing t with
  | nil => exact ⟨.refl t q, fun b r _ _ => by simp⟩
  | cons k rest ih =>
    rw [List.forall_mem_cons] at banks
    obtain ⟨bank, banks⟩ := banks
    have first : SpareOnly t (mirrorRow p q t k) q := mirrorRow_spareOnly spare t bank
    obtain ⟨frame, rows⟩ := ih banks (mirrorRow p q t k)
    refine ⟨first.trans frame, fun b r hb hr => ?_⟩
    have row := rows b r hb hr
    rw [first.row other ⟨block, hb, hr⟩, readTarget_congr_zoning first.zoning] at row
    rw [List.foldl_cons, row]
    by_cases later : 768 * b + r ∈ rest
    · rw [if_pos later, if_pos (List.mem_cons_of_mem k later)]
    · rw [if_neg later]
      by_cases now : 768 * b + r = k
      · subst now
        have copied := mirrorRow_copied p q t (768 * b + r)
        rw [show (768 * b + r) / 768 = b by omega, show (768 * b + r) % 768 = r by omega] at copied
        rw [if_pos List.mem_cons_self, copied]
      · rw [if_neg (by simp [now, later]), mirrorRow_other spare t bank ⟨spare, hb, hr⟩ (Ne.symm now)]

/-- The mirror copy: the spare reads as the block in every row, and no other block's byte changes. -/
theorem mirrorBlock_mirrors (s : State) {p q : Nat} (block : p < 1088) (spare : q < 1088) (other : p ≠ q) :
    let t := mirrorBlock s p q
    LossFrame s t ∧ (∀ b k, b < 16 → k < 768 →
        memRead t.mem (readTarget t q b k) 128 = memRead s.mem (readTarget s p b k) 128) ∧
      ∀ a, bankOwner a ≠ some q → memByte t.mem a = memByte s.mem a := by
  dsimp only
  rw [mirrorBlock_eq]
  have lost := loseBlocks_memByte s q
  have frame := loseBlocks_lossFrame s (· == q)
  have entries (bank : Nat) (hb : bank < 16) (row : Nat) := readTarget_congr_remap
    (fun i hi => loseBlocks_remapEntry s other hb hi) row
  generalize loseBlocks s (· == q) = u at lost frame entries ⊢
  obtain ⟨copy, rows⟩ := mirrorRows block spare other (listedRows s p) (fun k => listedRows_bank) u
  refine ⟨frame.trans (by rw [copy.rest]; rfl), fun b k hb hk => ?_, fun a foreign => ?_⟩
  · rw [readTarget_congr_zoning copy.zoning, rows b k hb hk, entries b hb]
    have kept : memRead u.mem (readTarget s p b k) 128 = memRead s.mem (readTarget s p b k) 128 :=
      memRead_readTarget_congr ⟨block, hb, hk⟩ fun a owner => (lost a).trans (if_neg (by rw [owner]; simpa using other))
    split
    · exact kept
    next unlisted =>
      have empty : memRead u.mem (readTarget u q b k) 128 = (rangeFrom (readTarget u q b k) 128).map fun _ => memBlank := by
        refine List.map_congr_left fun x m => ?_
        obtain ⟨low, high⟩ := mem_rangeFrom.1 m
        obtain ⟨i, rfl⟩ := Nat.exists_eq_add_of_le low
        rw [lost, if_pos (bankOwner_writeTargets ⟨spare, hb, hk⟩ (readTarget_mem u q b k) (by omega))]
      have zeros : memRead s.mem (readTarget s p b k) 128 = (rangeFrom (readTarget s p b k) 128).map fun _ => memBlank := by
        refine List.map_congr_left fun x m => ?_
        obtain ⟨low, high⟩ := mem_rangeFrom.1 m
        obtain ⟨i, rfl⟩ := Nat.exists_eq_add_of_le low
        exact listedRows_complete hb hk unlisted (by omega)
      rw [empty, zeros]
      simp [rangeFrom]
  · rw [copy.mem a foreign, lost, if_neg foreign]

section
variable {s : State} {p c l : Nat} (queued : s.zoning.evac = [⟨p, 0⟩]) (bound : boundBy s p = some (c, l))
  (free : boundBy s (districtSpare p) = none)
include queued bound free

theorem evacQueue_first : (s.zoning.evac.find? fun e =>
    e.phase == 0 && (boundBy s e.block).isSome && (boundBy s (districtSpare e.block)).isNone) = some ⟨p, 0⟩ := by
  simp [queued, bound, free]

theorem execEvacPrepare_mirrors (healthy : healthOf s (districtSpare p) = 0) :
    exec (.evacPrepare ⟨[], []⟩) s = .next (setPhase (mirrorBlock s p (districtSpare p)) p 2) := by
  change execEvacPrepare ⟨[], []⟩ s = _
  unfold execEvacPrepare
  rw [evacQueue_first queued bound free]
  dsimp only
  rw [if_neg (by simpa using healthy)]
  rfl

theorem execEvacPrepare_abandons (worn : healthOf s (districtSpare p) ≠ 0) :
    exec (.evacPrepare ⟨[], []⟩) s = .next (abandonEvac 2 (unqueue s ⟨p, 0⟩) ⟨p, 0⟩) := by
  change execEvacPrepare ⟨[], []⟩ s = _
  unfold execEvacPrepare
  rw [evacQueue_first queued bound free]
  dsimp only
  rw [if_pos worn]

end

/-! ## The switch (R297) -/

/-- The context's blocks once the spare of `p` stands for it. -/
def rebound (p : Nat) (x : Ctx) : Ctx := { x with blocks := x.blocks.map fun b => if b.2 = p then (b.1, districtSpare p) else b }

/-- The spare of a block stands for it in context `c`, and the evacuation has left the queue; the blocks' power has not followed. -/
def switchedBlock (s : State) (c : Nat) (e : Evac) : State :=
  unqueue ((s.setBlock (districtSpare e.block) fun _ => s.block e.block).setCtx c (rebound e.block)) e

theorem switchedBlock_ctx (s : State) (c : Nat) (e : Evac) : (switchedBlock s c e).ctx c = rebound e.block (s.ctx c) :=
  (State.setCtx_ctx (s.setBlock (districtSpare e.block) fun _ => s.block e.block) c c _).trans (if_pos rfl)

theorem switchedBlock_block (s : State) (c : Nat) (e : Evac) :
    (switchedBlock s c e).block (districtSpare e.block) = s.block e.block :=
  State.setBlock_block_same s (districtSpare e.block) fun _ => s.block e.block

theorem switchBlock_healthy {s : State} {e : Evac} (healthy : healthOf s (districtSpare e.block) = 0) (c : Nat) :
    switchBlock s c e = (settlePower s (switchedBlock s c e)).record 0x5060 0 [(2, 1)] none := by
  unfold switchBlock
  dsimp only
  rw [if_neg (by simpa using healthy)]
  rfl

/-- The spare is bound now, so it has power. -/
theorem switchedBlock_power {s : State} {c l : Nat} {e : Evac} (bound : boundBy s e.block = some (c, l)) :
    blockPower (switchedBlock s c e) (districtSpare e.block) = 2 := by
  obtain ⟨small, b, inside, here⟩ := boundBy_eq_some bound
  refine blockPower_bound (boundBy_isSome (e := (b.1, districtSpare e.block)) small ?_ rfl)
  rw [switchedBlock_ctx]
  exact List.mem_map.2 ⟨b, inside, if_pos here⟩

/-- A switch to a healthy spare: the queue, the bindings and the spare's registers after it, and its count. -/
theorem switchBlock_switches {s : State} {c l : Nat} {e : Evac} (bound : boundBy s e.block = some (c, l))
    (healthy : healthOf s (districtSpare e.block) = 0) :
    let t := switchBlock s c e
    t.zoning.evac = (s.zoning.evac.filter fun x => x.block != e.block) ∧ t.ctx c = rebound e.block (s.ctx c) ∧
      t.block (districtSpare e.block) = s.block e.block ∧ bit (t.dget 0x5060 1) 0 = true ∧
      t.dget 0x5060 2 = countUp (entryBytes 0x5060 2) (s.dget 0x5060 2) 1 := by
  dsimp only
  rw [switchBlock_healthy healthy]
  have frame := settlePower_lossFrame s (switchedBlock s c e)
  have recorded := record_recordOnly (settlePower s (switchedBlock s c e)) 0x5060 0 [(2, 1)] none
  have powered := switchedBlock_power bound
  refine ⟨?_, ?_, ?_, record_flag _ _ _ (by decide), ?_⟩
  · rw [recorded.zoning, frame.evac]
    rfl
  · rw [State.ctx, recorded.contexts, frame.contexts]
    exact switchedBlock_ctx s c e
  · rw [State.block, recorded.blocks]
    refine (settlePower_block (by rw [powered]; decide)).trans ?_
    exact switchedBlock_block s c e
  · rw [record_count _ _ (by decide) (by decide) (by decide) (by decide), frame.dget]
    rfl

/-- The context once its window has closed. -/
def closedWindow (x : Ctx) : Ctx := { x with window := false }

/-- The window of a context in which one block is armed. -/
theorem execEvacSwitch_armed {s : State} {c l p : Nat} (opened : (s.ctx c).window = true) (armed : s.zoning.evac = [⟨p, 3⟩])
    (bound : boundBy s p = some (c, l)) :
    exec (.evacSwitch c) s = .next ((switchBlock s c ⟨p, 3⟩).setCtx c closedWindow) := by
  have mine : (s.zoning.evac.filter fun e => e.phase == 3 && (boundBy s e.block).any (·.1 == c)) = [⟨p, 3⟩] := by
    simp [armed, bound]
  change execEvacSwitch c s = _
  unfold execEvacSwitch
  rw [if_pos opened, mine]
  dsimp only
  rw [List.foldl_cons, List.foldl_nil]
  rfl

end Sys2Proof.Machine

end

section
/-! PROOF. Zoning's commands (O44). -/

open Sys2Proof Sys2Proof.Machine

/-- Settles O44: what each command answers follows from the tables and places of the blocks that it names. -/
theorem zoningCommands : Obligations.ZoningCommands := by
  intro s r p bank i row c l square
  have real : p ≠ 0xFFFF := by omega
  have spareSquare := districtSpare_lt square
  refine ⟨fun hb hi entry free => ?_, fun met hb hi entry free meets => ?_, fun on limit powered clean => ?_,
    fun accepted bound fresh => ⟨fun unbound fit => ?_, fun taken => ?_⟩,
    fun queued bound unbound => ⟨fun healthy => ?_, fun worn => ?_⟩, fun opened armed bound healthy => ?_,
    fun accepted => ⟨_, rfl, marked_accepted 3 real accepted⟩, fun accepted => ⟨_, rfl, marked_accepted 0 real accepted⟩⟩
  · obtain ⟨adopted, retired, others⟩ := finishMigration_entries entry hb hi
    refine ⟨_, execRowMigration_copies entry free [], ?_⟩
    rw [suppressed_unmet]
    exact ⟨finishMigration_frame entry, adopted, retired, others, finishMigration_holds entry, finishMigration_memoryKeptBut entry⟩
  · obtain ⟨adopted, -, -⟩ := finishMigration_entries entry hb hi
    refine ⟨_, execRowMigration_copies entry free met, ?_⟩
    rw [suppressed, if_neg meets]
    have recorded := record_recordOnly (finishMigration s p bank i) 0x5021 1 [(4, 1)] none
    have counted : (finishMigration s p bank i).dget 0x5021 4 = s.dget 0x5021 4 := by rw [finishMigration_frame entry]; rfl
    refine ⟨?_, record_flag _ _ _ (by decide), ?_, fun x outside => ?_⟩
    · rw [State.remapEntry, recorded.zoning]
      exact adopted
    · rw [record_count _ _ (by decide) (by decide) (by decide) (by decide), counted]
    · rw [recorded.mem]
      exact finishMigration_memoryKeptBut entry x outside
  · refine ⟨_, execPatrolScrub_first on powered, ?_⟩
    rw [correctedRead_first limit clean]
    refine ⟨(record_recordOnly ..).mem, record_flag s [(2, 1)] none (by decide),
      record_count s none (by decide) (by decide) (by decide) (by decide), ?_⟩
    exact (kget_kset _ _ _ _ _).trans (if_pos rfl)
  · refine ⟨_, execEvacRequest_accepted accepted, ?_⟩
    rw [queueEvacuation_queued bound fresh unbound fit]
    rfl
  · refine ⟨_, execEvacRequest_accepted accepted, ?_⟩
    rw [queueEvacuation_refused bound fresh taken]
    have recorded := record_recordOnly s 0x5060 1 [(3, 1)] (some (evacCase 0 p))
    exact ⟨recorded.zoning, recorded.mem, record_flag s _ _ (by decide),
      record_count s _ (by decide) (by decide) (by decide) (by decide), congrArg _ recorded.out⟩
  · have other : p ≠ districtSpare p := by
      intro same
      rw [← same, bound] at unbound
      cases unbound
    obtain ⟨frame, rows, kept⟩ := mirrorBlock_mirrors s square spareSquare other
    refine ⟨_, execEvacPrepare_mirrors queued bound unbound healthy, ?_, rows, kept, frame.contexts⟩
    rw [setPhase, frame.evac, queued]
    simp
  · have recorded := record_recordOnly (unqueue s ⟨p, 0⟩) 0x5060 2 [(3, 1)] (some (evacCase 2 p))
    refine ⟨_, execEvacPrepare_abandons queued bound unbound worn, ?_, recorded.mem, record_flag _ _ _ (by decide),
      recorded.contexts⟩
    rw [abandonEvac, if_neg (by decide), recorded.zoning, unqueue, queued]
    simp
  · obtain ⟨queue, context, registers, flag, count⟩ := switchBlock_switches (e := ⟨p, 3⟩) bound healthy
    refine ⟨_, execEvacSwitch_armed opened armed bound, ?_, ?_, ?_, registers, flag, count⟩
    · rw [State.setCtx_zoning, queue, armed]
      simp
    · rw [State.setCtx_ctx, if_pos rfl]
      rfl
    · rw [State.setCtx_ctx, if_pos rfl, context]
      rfl

end

section
/-! PROOF. `SET_BASE` (O28). -/

namespace Sys2Proof.Machine
open Sys2Proof

/-! ## A change that the next bundle sees (R141) -/

theorem Block.change_other (b : Block) {i j : Nat} (v : Nat) (h : j ≠ i) : (b.change i v).nextValue j = b.nextValue j := by
  simp only [Block.nextValue, Block.change, kfind_kset_other _ _ h]
  rfl

/-- The modulus of a base register, or of `SR_INDEX` (R192). -/
def baseModulus (target : Nat) : Nat := 2 ^ (if target = 16 then 48 else 10)

theorem baseModulus_cast (target : Nat) : (if target = 16 then 2 ^ 48 else 2 ^ 10 : Int) = (baseModulus target : Int) := by
  unfold baseModulus
  split <;> norm_num

/-- An advanced register stays within its width. -/
theorem advanced_cast (target : Nat) (x : Int) :
    (((x % 2 ^ (if target = 16 then 48 else 10)).toNat % baseModulus target : Nat) : Int) =
      x % (if target = 16 then 2 ^ 48 else 2 ^ 10) := by
  have modulus : (2 : Int) ^ (if target = 16 then 48 else 10) = (baseModulus target : Int) := by simp [baseModulus]
  have pos : (0 : Int) < baseModulus target := by unfold baseModulus; positivity
  rw [modulus, baseModulus_cast, Int.natCast_emod, Int.toNat_of_nonneg (Int.emod_nonneg _ pos.ne'), Int.emod_emod]

/-- A `SET_BASE` that gives every acting block's register a value within its width. -/
theorem execSetBase_sees {s : State} {c sel pred target mode va imm : Nat} (may : MayAct s c sel pred)
    (legal : setBaseLegal target mode va imm = true) (g : Block → Nat) (v : Actor → Int)
    (change : setBaseOp target mode va imm = fun a u => u.setBlock a.phys fun b => b.change target (g b))
    (value : ∀ a ∈ actors s c sel pred, ((g (s.block a.phys) % baseModulus target : Nat) : Int) = v a) :
    ∃ t, exec (.setBase c sel pred target mode va imm) s = .next t ∧ NextBundleSees s t c sel pred target v := by
  obtain ⟨t, next, frame, -, block⟩ := setBlocks_acts may legal fun b => b.change target (g b)
  rw [← change] at next
  refine ⟨t, next, frame, fun a acts => ?_⟩
  rw [block a acts]
  refine ⟨?_, rfl, fun i => ⟨rfl, Block.change_other _ _⟩⟩
  rw [Block.change_nextValue]
  exact value a acts

end Sys2Proof.Machine

open Sys2Proof Sys2Proof.Machine

/-- Settles O28: each mode changes the register of every acting block to a value within its width, and nothing else. -/
theorem setBaseTakesEffectNextBundle : Obligations.SetBaseTakesEffectNextBundle := by
  intro s c sel pred target va imm may htarget hva himm
  refine ⟨fun fits => ?_, ?_, ?_⟩
  · have legal : setBaseLegal target 0 0 imm = true := by
      simpa [-Nat.reducePow, setBaseLegal, regs, htarget, himm] using fits
    refine execSetBase_sees may legal (fun _ => imm) _ rfl fun a _ => ?_
    have inside : imm < baseModulus target := by
      unfold baseModulus
      split <;> omega
    rw [Nat.mod_eq_of_lt inside]
  · have legal : setBaseLegal target 1 0 imm = true := by simp [-Nat.reducePow, setBaseLegal, regs, htarget, himm]
    exact execSetBase_sees may legal
      (fun b => (((b.nextValue target : Int) + sext 36 imm) % 2 ^ (if target = 16 then 48 else 10)).toNat) _ rfl
      fun a _ => advanced_cast target _
  · have legal : setBaseLegal 16 2 va 0 = true := by simp [setBaseLegal, regs, hva]
    refine execSetBase_sees may legal
      (fun b => ((b.vreg va).getD 0 Lane.zero).bits.toNat + ((b.vreg va).getD 1 Lane.zero).bits.toNat % 2 ^ 16 * 2 ^ 32) _ rfl
      fun a _ => ?_
    have low := (laneOf s a va 0).bits.isLt
    have inside : (laneOf s a va 0).bits.toNat + (laneOf s a va 1).bits.toNat % 2 ^ 16 * 2 ^ 32 < baseModulus 16 := by
      rw [baseModulus, if_pos rfl]
      omega
    exact congrArg _ (Nat.mod_eq_of_lt inside)

end

section
/-! PROOF. What the issue of a bundle and a transfer of control change (R142, R143, R157, R166). -/

namespace Sys2Proof.Machine
open Sys2Proof

/-! ## Which cells an operation leaves -/

theorem CellsKept.trans {s t u : State} {l : List (Nat × Nat)} (h : CellsKept s t l) (k : CellsKept t u l) : CellsKept s u l :=
  fun idx sub small out => (k idx sub small out).trans (h idx sub small out)

theorem CellsKept.mono {s t : State} {l m : List (Nat × Nat)} (h : CellsKept s t l) (i : l ⊆ m) : CellsKept s t m :=
  fun idx sub small out => h idx sub small fun e => out (i e)

theorem cellsKept_of_dict {s t : State} (d : t.dict = s.dict) (p : t.power.straps = s.power.straps) (l : List (Nat × Nat)) :
    CellsKept s t l := fun idx sub _ _ => State.dget_congr d p idx sub

theorem dset_cellsKept (s : State) (idx v : Nat) {sub : Nat} (h : sub < 256) : CellsKept s (s.dset idx sub v) [(idx, sub)] :=
  fun j b small out => State.dset_dget_other s idx sub v j b h small (by simp at out; omega)

/-! ## The issue of a bundle (R157, R166) -/

/-- Of a context, only what describes its present wait has changed. -/
def SameButWait (x y : Ctx) : Prop :=
  y = { x with waitBeats := y.waitBeats, waitTold := y.waitTold, mismatched := y.mismatched }

/-- A bundle of context `c` has issued: no wait holds it, it is counted, and the changes of base registers are in force. -/
structure BundleIssued (c : Nat) (s t : State) : Prop where
  frame : t = { s with dict := t.dict, contexts := t.contexts, blocks := t.blocks }
  ctx : ∀ d, SameButWait (s.ctx d) (t.ctx d)
  wait : t.dget (0x4030 + c) 2 = 0
  count : t.dget (0x4030 + c) 6 = countUp (entryBytes (0x4030 + c) 6) (s.dget (0x4030 + c) 6) 1
  cells : CellsKept s t [(0x4030 + c, 2), (0x4030 + c, 6)]

/-- Only the wait class, and what describes the wait, change where a wait ends. -/
theorem issues_ends (c : Nat) (s : State) :
    issues c s = { s with dict := (issues c s).dict, contexts := (issues c s).contexts } ∧
    (∀ d, SameButWait (s.ctx d) ((issues c s).ctx d)) ∧
    (issues c s).dget (0x4030 + c) 2 = 0 ∧ CellsKept s (issues c s) [(0x4030 + c, 2)] := by
  unfold issues
  split
  · next idle => exact ⟨rfl, fun _ => rfl, idle, cellsKept_of_dict rfl rfl _⟩
  · refine ⟨rfl, fun d => ?_, State.dset_dget_same s _ _ _, dset_cellsKept s _ _ (by decide)⟩
    rw [State.setCtx_ctx]
    split
    · next same => subst same; rfl
    · rfl

theorem applyBases_eq (s : State) (c : Nat) : applyBases s c = { s with blocks := (applyBases s c).blocks } := overBlocks_eq s c _

/-- What a bundle's issue does, once. -/
theorem issueBundle_issued (c : Nat) (s : State) : BundleIssued c s (issueBundle c s) := by
  obtain ⟨frame, ctx, wait, cells⟩ := issues_ends c s
  unfold issueBundle
  rw [applyBases_eq]
  generalize issues c s = u at frame ctx wait cells
  have counted := dset_cellsKept u (0x4030 + c) (countUp (entryBytes (0x4030 + c) 6) (u.dget (0x4030 + c) 6) 1) (sub := 6) (by decide)
  refine ⟨by rw [frame]; rfl, ctx, ?_, ?_, (cells.mono (by simp)).trans (counted.mono (by simp))⟩
  · exact (counted (0x4030 + c) 2 (by decide) (by simp)).trans wait
  · rw [← cells (0x4030 + c) 6 (by decide) (by simp)]
    exact State.dcount_dget_same u _ _ _

namespace BundleIssued

variable {c : Nat} {s t : State} (h : BundleIssued c s t)
include h

theorem pc (d : Nat) : t.pc d = s.pc d := h.cells (0x4030 + d) 1 (by decide) (by simp)

theorem loops (d : Nat) : (t.ctx d).loops = (s.ctx d).loops := by rw [h.ctx d]

end BundleIssued

/-! ## Where control goes (R142, R143) -/

/-- Control goes to the bundle at `target` with the loops `loops`. -/
def transfer (s : State) (c : Nat) (loops : List Loop) (target : Nat) : State :=
  setPc (s.setCtx c fun x => { x with loops := loops }) c target

theorem runOn_eq (s : State) (c a : Nat) :
    runOn s c a = transfer s c (afterBundle (s.ctx c).loops a).2 (afterBundle (s.ctx c).loops a).1 := rfl

theorem goTo_eq (s : State) (c target : Nat) : goTo s c target = transfer s c (loopsAt (s.ctx c).loops (s.pc c) target) target := rfl

theorem transfer_eq (s : State) (c : Nat) (loops : List Loop) (target : Nat) : transfer s c loops target =
    { s with dict := (transfer s c loops target).dict, contexts := (transfer s c loops target).contexts } := rfl

theorem transfer_ctx (s : State) (c : Nat) (loops : List Loop) (target : Nat) :
    (transfer s c loops target).ctx c = { s.ctx c with loops := loops } :=
  (State.setCtx_ctx s c c fun x => { x with loops := loops }).trans (if_pos rfl)

theorem transfer_pc (s : State) (c : Nat) (loops : List Loop) (target : Nat) :
    (transfer s c loops target).pc c = target % 2 ^ 16 := State.dset_dget_same _ _ _ _

theorem transfer_cellsKept (s : State) (c : Nat) (loops : List Loop) (target : Nat) :
    CellsKept s (transfer s c loops target) [(0x4030 + c, 1)] := dset_cellsKept _ _ _ (by decide)

/-- An issued bundle and a transfer are what the statements say of a control operation. -/
theorem BundleIssued.transfer {c : Nat} {s t : State} (h : BundleIssued c s t) (loops : List Loop) (target : Nat) :
    Issued s (transfer t c loops target) c target loops := by
  have moved := transfer_cellsKept t c loops target
  refine ⟨?_, transfer_pc t c loops target, ?_, ?_, ?_, (h.cells.mono (by simp)).trans (moved.mono (by simp))⟩
  · rw [transfer_eq, h.frame]
  · rw [transfer_ctx]
  · exact (moved _ 2 (by decide) (by simp)).trans h.wait
  · exact (moved _ 6 (by decide) (by simp)).trans h.count

/-- Control runs on after the bundle at `a` has issued. -/
theorem runOn_issued (s : State) (c a : Nat) :
    Issued s (runOn (issueBundle c s) c a) c (afterBundle (s.ctx c).loops a).1 (afterBundle (s.ctx c).loops a).2 := by
  have issued := issueBundle_issued c s
  rw [runOn_eq, issued.loops]
  exact issued.transfer _ _

/-- Control leaves for `target` after the present bundle has issued. -/
theorem goTo_issued (s : State) (c target : Nat) :
    Issued s (goTo (issueBundle c s) c target) c target (loopsAround (afterBundle (s.ctx c).loops (s.pc c)).2 target) := by
  have issued := issueBundle_issued c s
  rw [goTo_eq, issued.loops, issued.pc]
  exact issued.transfer _ _

/-- A control operation of a running context acts and runs on. -/
theorem plainControl_next {s : State} {c : Nat} (run : s.running c = true) (act : State → State) :
    plainControl c act s = .next (runOn (act (issueBundle c s)) c (s.pc c)) := by simp [plainControl, run]

end Sys2Proof.Machine

end

section
/-! PROOF. Control operations (O13). -/

namespace Sys2Proof.Machine
open Sys2Proof

/-! ## Loops (R143) -/

theorem afterBundle_cons (l : Loop) (outer : List Loop) (a : Nat) : afterBundle (l :: outer) a =
    if l.last = a then
      if l.index + 1 < l.count then (l.first, { l with index := l.index + 1 } :: outer) else afterBundle outer a
    else (a + 1, l :: outer) := rfl

/-! ## A bundle that waits for a granule (R425) -/

theorem waitIn_dget_class (c k : Nat) (s : State) : (waitIn c k s).dget (0x4030 + c) 2 = k := by
  unfold waitIn
  dsimp only
  split
  · exact State.dset_dget_same _ _ _ _
  · exact State.dset_dget_same _ _ _ _

theorem waitIn_cellsKept (c : Nat) {k : Nat} (small : k < 0xF0) (s : State) :
    CellsKept s (waitIn c k s) [(0x4030 + c, 0x10 + k), (0x4030 + c, 2)] := by
  have counted := dset_cellsKept s (0x4030 + c)
    (countUp (entryBytes (0x4030 + c) (0x10 + k)) (s.dget (0x4030 + c) (0x10 + k)) 1) (sub := 0x10 + k) (by omega)
  have held := (counted.mono (m := [(0x4030 + c, 0x10 + k), (0x4030 + c, 2)]) (by simp)).trans
    ((dset_cellsKept _ (0x4030 + c) k (sub := 2) (by decide)).mono (by simp))
  unfold waitIn
  dsimp only
  split
  · exact held
  · exact held

/-- A wait for granules asks for them and records the wait, in no context and no block. -/
theorem granuleHeld_frame (s : State) (c : Nat) (gs : List Nat) : IndexKept s (granuleHeld s c gs) [0x6040 + c, 0x50A0, 0x50D0] ∧
    (granuleHeld s c gs).mem = s.mem ∧ (granuleHeld s c gs).blocks = s.blocks := by
  have recorded := record_recordOnly (demandGranules s c gs) 0x50A0 2 [(4, 1)]
  refine ⟨?_, (recorded _).mem, (recorded _).blocks⟩
  have demanded : IndexKept s (demandGranules s c gs) [0x6040 + c] := setCairn_indexKept s c _
  refine (demanded.mono (by simp)).trans ?_
  exact (record_indexKept _ 0x50A0 2 _ (by simp)).mono (by simp)

/-- A bundle that begins to wait for granules stands in class 8 at its address. -/
theorem granuleWait_waits {c : Nat} (far : c < 4) (gs : List Nat) {s : State} (free : s.dget (0x4030 + c) 2 = 0) :
    (granuleWait c gs s).dget (0x4030 + c) 2 = 8 ∧ (granuleWait c gs s).pc c = s.pc c ∧ (granuleWait c gs s).mem = s.mem ∧
      (granuleWait c gs s).blocks = s.blocks := by
  obtain ⟨kept, mem, blocks⟩ := granuleHeld_frame s c gs
  have e : granuleWait c gs s = waitIn c 8 (granuleHeld s c gs) := by
    unfold granuleWait
    rw [if_neg (by omega)]
  rw [e]
  refine ⟨waitIn_dget_class c 8 _, ?_, (waitIn_mem ..).trans mem, (waitIn_blocks ..).trans blocks⟩
  refine (waitIn_cellsKept c (by decide) _ _ 1 (by decide) (by simp)).trans ?_
  exact kept _ 1 (by decide) (by simp; omega)

/-! ## Bundles with fill (R162, R164) -/

/-- What a bundle that opens a run does, by the class of its run and by the granules that its fill waits for. -/
theorem fillable_fills {command : Instr} {s : State} {c cls slots cycles : Nat} {touch : Touch}
    (meaning : exec command s = fillable c cls slots cycles touch s) (run : s.running c = true) (hcls : cls < 4) (hslots : slots < 256)
    (both : cls = 0 ↔ slots = 0) : FillsAndRunsOn command s c cls cycles touch := by
  have legal : (decide (cls < 4) && decide (slots < 256) && (decide (cls = 0) == decide (slots = 0))) = true := by
    simp [hcls, hslots, both]
  rw [fillable, run, legal] at meaning
  simp only [Bool.not_true, Bool.false_eq_true, if_false] at meaning
  refine ⟨fun none => ?_, fun fill free => ?_, fun fill held far idle => ?_⟩
  · rw [if_pos none] at meaning
    exact ⟨_, meaning, runOn_issued s c _⟩
  · rw [if_neg fill, free, List.isEmpty_nil, if_pos rfl] at meaning
    obtain ⟨frame, pc, loops, wait, count, -⟩ :=
      runOn_issued (fillRun c cls touch 256 cycles (senseAll 0 (issues c s) touch.errors)).2 c (s.pc c)
    exact ⟨_, meaning, pc, loops, wait, count, frame⟩
  · rw [if_neg fill, if_neg (by simpa using held)] at meaning
    refine ⟨_, meaning, ?_⟩
    rw [waitLowest, if_neg (by simp [idle])]
    exact granuleWait_waits far _ idle

/-! ## Transfers -/

section
variable {s : State} {c : Nat} (run : s.running c = true)
include run

theorem execLoopOp_enters {n last : Nat} (pos : 0 < n) (small : n < 2 ^ 24) (inside : last < 1024 * pagesOf s c)
    (ahead : s.pc c < last) (room : (s.ctx c).loops.length < 4) : ∃ t, exec (.loopOp c n last) s = .next t ∧
      Issued s t c (s.pc c + 1) (⟨s.pc c + 1, last, n, 0⟩ :: (s.ctx c).loops) := by
  have issued := issueBundle_issued c s
  have moved := issued.transfer (⟨s.pc c + 1, last, n, 0⟩ :: ((issueBundle c s).ctx c).loops) (s.pc c + 1)
  rw [issued.loops] at moved
  refine ⟨_, ?_, moved⟩
  show execLoopOp c n last s = _
  rw [← issued.loops c]
  simp [-Nat.reducePow, execLoopOp, run, addressOk, small, inside, ahead, room, pos.ne']
  rfl

theorem execLoopOp_skips {last : Nat} (inside : last < 1024 * pagesOf s c) (ahead : s.pc c < last)
    (room : (s.ctx c).loops.length < 4) : exec (.loopOp c 0 last) s = .next (runOn (issueBundle c s) c last) := by
  show execLoopOp c 0 last s = _
  simp [execLoopOp, run, addressOk, inside, ahead, room]

theorem execJump_goes {target : Nat} (inside : target < 1024 * pagesOf s c) :
    exec (.jump c target) s = .next (goTo (issueBundle c s) c target) := by
  show execJump c target s = _
  simp [execJump, run, addressOk, inside]

theorem execBranch_next {target negate cond : Nat} (inside : target < 1024 * pagesOf s c) (hnegate : negate < 2) (hcond : cond < 11) :
    exec (.branch c negate cond target) s = .next (if condition s c cond == (negate == 0) then goTo (issueBundle c s) c target
      else runOn (issueBundle c s) c (s.pc c)) := by
  show execBranch c negate cond target s = _
  have legal : (decide (negate < 2) && decide (cond < 11) && addressOk s c target) = true := by
    simp [addressOk, hnegate, hcond, inside]
  rw [execBranch, run, legal]
  exact (apply_ite Host.Outcome.next _ _ _).symm

end

end Sys2Proof.Machine

open Sys2Proof Sys2Proof.Machine

/-- Settles O13: every control operation issues its bundle and then runs on, enters a loop or goes to its target. -/
theorem controlTransfers : Obligations.ControlTransfers := by
  refine ⟨fun a first n i outer => ⟨rfl, fun again => ?_, fun last => ?_, fun last other => ?_⟩, ?_⟩
  · rw [afterBundle_cons, if_pos rfl, if_pos again]
  · rw [afterBundle_cons, if_pos rfl, if_neg (Nat.not_lt.2 last)]
  · rw [afterBundle_cons, if_neg other]
  intro s c cls slots n last target negate cond touch run
  refine ⟨fun hcls hslots both => ⟨?_, fun small => ?_⟩, ?_, ?_, fun inside ahead room => ?_, fun inside => ?_,
    fun inside hnegate hcond taken => ?_, fun inside hnegate hcond left => ?_⟩
  · exact fillable_fills rfl run hcls hslots both
  · have meaning : exec (.delay c n cls slots touch) s = fillable c cls slots (n + 1) touch s := if_neg (Nat.not_le.2 small)
    exact fillable_fills meaning run hcls hslots both
  · exact ⟨_, plainControl_next run id, runOn_issued s c _⟩
  · exact execLoopOp_enters run
  · exact ⟨_, execLoopOp_skips run inside ahead room, runOn_issued s c last⟩
  · exact ⟨_, execJump_goes run inside, goTo_issued s c target⟩
  · refine ⟨_, execBranch_next run inside hnegate hcond, ?_⟩
    rw [taken, beq_self_eq_true, if_pos rfl]
    exact goTo_issued s c target
  · refine ⟨_, execBranch_next run inside hnegate hcond, ?_⟩
    have opposite : ((negate == 1) == (negate == 0)) = false := by
      obtain rfl | rfl : negate = 0 ∨ negate = 1 := by omega
      · rfl
      · rfl
    rw [left, opposite, if_neg Bool.false_ne_true]
    exact runOn_issued s c _

end

section
/-! PROOF. Fill records and the requests of SERVICE (O16). -/

namespace Sys2Proof.Machine
open Sys2Proof

/-! ## What an issued bundle leaves -/

theorem runOn_ctx (s : State) (c a : Nat) :
    (runOn s c a).ctx c = { s.ctx c with loops := (afterBundle (s.ctx c).loops a).2 } := transfer_ctx ..

theorem runOn_mem (s : State) (c a : Nat) : (runOn s c a).mem = s.mem := rfl
theorem runOn_cairnOf (s : State) (c a d : Nat) : (runOn s c a).cairnOf d = s.cairnOf d := rfl

theorem setCtx_cellsKept (s : State) (c : Nat) (f : Ctx → Ctx) (l : List (Nat × Nat)) : CellsKept s (s.setCtx c f) l :=
  cellsKept_of_dict rfl rfl l

theorem runOn_cellsKept (s : State) (c a : Nat) : CellsKept s (runOn s c a) [(0x4030 + c, 1)] :=
  transfer_cellsKept s c _ _

namespace BundleIssued

variable {c : Nat} {s t : State} (h : BundleIssued c s t)
include h

theorem mem : t.mem = s.mem := by rw [h.frame]
theorem cairnOf (d : Nat) : t.cairnOf d = s.cairnOf d := by rw [h.frame]; rfl
theorem blocks (d : Nat) : (t.ctx d).blocks = (s.ctx d).blocks := by rw [h.ctx d]
theorem buffers (d : Nat) : (t.ctx d).buffers = (s.ctx d).buffers := by rw [h.ctx d]
theorem backlog (d : Nat) : (t.ctx d).backlog = (s.ctx d).backlog := by rw [h.ctx d]
theorem arming (d : Nat) : (t.ctx d).arming = (s.ctx d).arming := by rw [h.ctx d]

theorem lastNamed : t.dget (0x4030 + c) 4 = s.dget (0x4030 + c) 4 := h.cells _ 4 (by decide) (by simp)

/-- The four contexts' stream entries lie below every other entry that a bundle's operations read. -/
theorem dget_above (far : c < 4) {idx sub : Nat} (above : 0x4034 ≤ idx) (small : sub < 256) : t.dget idx sub = s.dget idx sub :=
  h.cells idx sub small (by simp; omega)

theorem homed (far : c < 4) (p : Nat) : Machine.homed t p = Machine.homed s p := by
  have configured : t.configured = s.configured := by
    funext d
    rw [State.configured, h.dget_above far (by omega) (by decide)]
    rfl
  have home (d : Nat) : t.dget (0x6070 + d) 1 = s.dget (0x6070 + d) 1 := h.dget_above far (by omega) (by decide)
  simp only [Machine.homed, State.tenants, configured, home]

theorem partitionMiB (far : c < 4) (total p : Nat) : Machine.partitionMiB t total p = Machine.partitionMiB s total p := by
  have districts : districtsOf t = districtsOf s := by
    funext q
    rw [districtsOf, districtMap, h.dget_above far (by omega) (by decide)]
    rfl
  have partitions : t.partitions = s.partitions := h.dget_above far (by decide) (by decide)
  have all : districtsAll t = districtsAll s := by rw [districtsAll, districts, partitions, districtsAll]
  rw [Machine.partitionMiB, districts, all]
  rfl

theorem captureBytes (d : Nat) : Machine.captureBytes t d = Machine.captureBytes s d := by
  have policy : policyOf t d = policyOf s d := by
    funext b
    rw [policyOf, h.cairnOf, policyOf]
  have captured : capturedBuffers t d = capturedBuffers s d := by rw [capturedBuffers, h.buffers, policy, capturedBuffers]
  rw [Machine.captureBytes, h.blocks, captured]
  rfl

/-- What refuses a checkpoint does not depend on the bundle's issue (R421). -/
theorem refusalOf (far : c < 4) (d : Nat) : Machine.refusalOf t d = Machine.refusalOf s d := by
  have generation : t.ck d 0xE = s.ck d 0xE := h.dget_above far (by omega) (by decide)
  have share : slotShare t d = slotShare s d := by
    simp only [slotShare, tenantMiB, h.partitionMiB far, h.homed far, h.dget_above far (idx := 0x6000) (sub := 1) (by decide) (by decide)]
  simp only [Machine.refusalOf, h.cairnOf, generation, share, h.captureBytes]

end BundleIssued

/-! ## The backlog (R163) -/

theorem execBacklogPush_appends {s : State} {c cls length address : Nat} (run : s.running c = true) (one : 1 ≤ cls) (hcls : cls < 4)
    (some : 1 ≤ length) (hlength : length ≤ 4096) (inside : address < 1024 * pagesOf s c) (room : (s.ctx c).backlog.length < 256) :
    exec (.backlogPush c cls length address) s = .next (runOn ((issueBundle c s).setCtx c fun x =>
      { x with backlog := x.backlog ++ [⟨address, length, cls⟩] }) c (s.pc c)) := by
  have legal : (decide (1 ≤ cls) && decide (cls < 4) && decide (length ≤ 4096) && addressOk s c address &&
      (length == 0 || decide ((s.ctx c).backlog.length < 256))) = true := by
    simp [one, hcls, hlength, addressOk, inside, room]
  show execBacklogPush c cls length address s = _
  rw [execBacklogPush, legal, run, if_neg (by decide), plainControl_next run, if_neg (by omega)]

/-! ## Requests to the engines (R148) -/

section
variable {s : State} {c delta arg : Nat} (run : s.running c = true) (hdelta : delta < 2 ^ 24)
include run hdelta

theorem execCheckpointAt_requests (harg : arg < 2) :
    exec (.checkpointAt c delta arg) s = .next (runOn (requestCheckpoint (issueBundle c s) c delta arg) c (s.pc c)) := by
  show execCheckpointAt c delta arg s = _
  rw [execCheckpointAt, if_neg (by simp [-Nat.reducePow, hdelta, harg]), plainControl_next run]

theorem execEvacWindow_opens (harg : arg < 2 ^ 16) (long : 29 ≤ arg) :
    exec (.evacWindow c delta arg) s = .next (runOn (openWindow (issueBundle c s) c arg) c (s.pc c)) := by
  show execEvacWindow c delta arg s = _
  rw [execEvacWindow, if_neg (by simp [-Nat.reducePow, hdelta, harg, long]), plainControl_next run]

theorem execDeadlineArm_requests (harg : arg < 2 ^ 16) :
    exec (.deadlineArm c delta arg) s = .next (runOn (requestDeadline (issueBundle c s) c delta arg) c (s.pc c)) := by
  show execDeadlineArm c delta arg s = _
  rw [execDeadlineArm, if_neg (by simp [-Nat.reducePow, hdelta, harg]), plainControl_next run]

end

/-- A request that nothing refuses arms the cut (R418). -/
theorem requestCheckpoint_arms {s : State} {c : Nat} (free : refusalOf s c = 0) (delta mode : Nat) :
    requestCheckpoint s c delta mode = s.setCairn c fun y =>
      { y with armed := some ((s.dget (0x4030 + c) 4 + delta) % 2 ^ 64, mode) } := if_neg (not_not.2 free)

/-- An opened window is counted, and moves no byte (R293). -/
theorem openWindow_opens (s : State) (c : Nat) {arg : Nat} (long : arg ≠ 0) :
    (openWindow s c arg).ctx c = { s.ctx c with window := true } ∧
      (openWindow s c arg).dget 0x7050 4 = countUp (entryBytes 0x7050 4) (s.dget 0x7050 4) 1 ∧ (openWindow s c arg).mem = s.mem := by
  unfold openWindow
  rw [if_neg long]
  refine ⟨?_, State.dcount_dget_same s _ _ _, rfl⟩
  exact (State.setCtx_ctx (s.dcount 0x7050 4 1) c c fun x => { x with window := true }).trans (if_pos rfl)

theorem armDeadline_arms (s : State) (c arg : Nat) : (armDeadline s c arg).dget (0x6080 + c) 1 = bits arg 15 1 ∧
    (armDeadline s c arg).dget (0x6080 + c) 2 = bits arg 0 15 ∧ (armDeadline s c arg).mem = s.mem := by
  refine ⟨?_, State.dset_dget_same _ _ _ _, (dsets_recordOnly s _).mem⟩
  have margin := State.dset_dget_other (s.dset (0x6080 + c) 1 (bits arg 15 1)) (0x6080 + c) 2 (bits arg 0 15) (0x6080 + c) 1
  exact (margin (by decide) (by decide) (.inr (by decide))).trans (State.dset_dget_same s _ _ _)

/-- A change of the deadline monitor whose beat has come is made, and one whose beat has not waits for it (R466). -/
theorem requestDeadline_foreign {s : State} {c : Nat} (other : s.dget 0x6050 6 ≠ c) (delta arg : Nat) :
    requestDeadline s c delta arg =
      if s.hasSchedule && decide ((s.dget (0x4030 + c) 4 + delta) % 2 ^ 64 ≤ s.beat) then armDeadline s c arg
      else s.setCtx c fun x => { x with arming := x.arming ++ [((s.dget (0x4030 + c) 4 + delta) % 2 ^ 64, arg)] } :=
  if_neg fun both => other both.1

end Sys2Proof.Machine

open Sys2Proof Sys2Proof.Machine

/-- Settles O16: the bundle issues, the engine takes the request as it stood before the bundle, and control runs on. -/
theorem serviceRequests : Obligations.ServiceRequests := by
  intro s c cls length address delta arg run far hdelta
  have issued := issueBundle_issued c s
  have schedule : (issueBundle c s).hasSchedule = s.hasSchedule := by
    rw [State.hasSchedule, issued.dget_above far (by decide) (by decide)]
    rfl
  have beat : (issueBundle c s).beat = s.beat := issued.dget_above far (by decide) (by decide)
  have fallback : (issueBundle c s).dget 0x6050 6 = s.dget 0x6050 6 := issued.dget_above far (by decide) (by decide)
  refine ⟨fun one hcls some hlength inside room => ?_, fun harg free => ?_, fun long harg => ?_,
    fun harg other scheduled due => ?_, fun harg other ahead => ?_⟩
  · refine ⟨_, execBacklogPush_appends run one hcls some hlength inside room, ?_, ?_, ?_⟩
    · rw [runOn_ctx, State.setCtx_ctx, if_pos rfl, ← issued.backlog]
    · rw [runOn_mem, State.setCtx_mem, issued.mem]
    · refine (issued.cells.mono (by simp)).trans ?_
      exact (setCtx_cellsKept _ c _ _).trans ((runOn_cellsKept _ c _).mono (by simp))
  · refine ⟨_, execCheckpointAt_requests run hdelta harg, ?_, ?_⟩
    · rw [requestCheckpoint_arms ((issued.refusalOf far c).trans free), issued.lastNamed, runOn_cairnOf, State.setCairn_cairnOf,
        if_pos rfl]
    · rw [requestCheckpoint_arms ((issued.refusalOf far c).trans free), runOn_mem, State.setCairn_mem, issued.mem]
  · obtain ⟨window, count, mem⟩ := openWindow_opens (issueBundle c s) c (arg := arg) (by omega)
    refine ⟨_, execEvacWindow_opens run hdelta harg long, ?_, ?_, ?_⟩
    · rw [runOn_ctx, window]
    · rw [runOn_cellsKept _ c _ 0x7050 4 (by decide) (by simp), count, issued.dget_above far (by decide) (by decide)]
    · rw [runOn_mem, mem, issued.mem]
  · have armed := requestDeadline_foreign (fallback.trans_ne other) delta arg
    rw [schedule, scheduled, beat, issued.lastNamed, if_pos (by simpa using due)] at armed
    obtain ⟨arm, margin, mem⟩ := armDeadline_arms (issueBundle c s) c arg
    refine ⟨_, execDeadlineArm_requests run hdelta harg, ?_, ?_, ?_⟩
    · rw [armed, runOn_cellsKept _ c _ _ 1 (by decide) (by simp), arm]
    · rw [armed, runOn_cellsKept _ c _ _ 2 (by decide) (by simp), margin]
    · rw [armed, runOn_mem, mem, issued.mem]
  · have waits := requestDeadline_foreign (fallback.trans_ne other) delta arg
    rw [schedule, beat, issued.lastNamed, decide_eq_false (Nat.not_le.2 ahead), Bool.and_false, if_neg Bool.false_ne_true] at waits
    refine ⟨_, execDeadlineArm_requests run hdelta harg, ?_, ?_⟩
    · rw [waits, runOn_ctx, State.setCtx_ctx, if_pos rfl, ← issued.arming]
    · rw [waits, runOn_mem, State.setCtx_mem, issued.mem]

end

section
/-! PROOF. The end of a stream, and waits beyond their limit (O17). -/

namespace Sys2Proof.Machine
open Sys2Proof

/-! ## The end of a stream (R147, R419, R451) -/

theorem State.resident_lt {s : State} {p t : Nat} (h : s.resident p = some t) : t < 8 := by
  unfold State.resident at h
  dsimp only at h
  split at h
  · next small => cases h; exact small
  · cases h

/-- The tenant whose program a context runs is one of the eight. -/
theorem tenantOf_lt (s : State) (c : Nat) : tenantOf s c < 8 := by
  unfold tenantOf
  cases resident : s.resident c with
  | none => decide
  | some t => exact State.resident_lt resident

/-- A stop leaves no cut waiting (R419). -/
theorem abandonCut_armed (s : State) (c : Nat) : ((abandonCut s c).cairnOf c).armed = none := by
  unfold abandonCut
  split
  · rw [State.cairnOf, (record_recordOnly _ 0x50A0 1 _ _).noticeFrame.cairn]
    exact congrArg Cairn.armed ((State.setCairn_cairnOf s c c fun y => { y with armed := none }).trans (if_pos rfl))
  · next idle => simpa using idle

/-- A pending `HOLD` that is done is the request's alone. -/
theorem endPendingHold_frame (s : State) (t : Nat) : IndexKept s (endPendingHold s t) [0x4000] ∧
    (endPendingHold s t).contexts = s.contexts ∧ (endPendingHold s t).cairn = s.cairn := by
  unfold endPendingHold
  dsimp only
  have unstopped : IndexKept s { s with tenancy := { s.tenancy with
      stops := s.tenancy.stops.filter fun x => x.preempt || x.tenant != t } } [0x4000] := indexKept_of_dict rfl rfl _
  split
  · split
    · exact ⟨unstopped.trans (endRequest_indexKept _ 1), rfl, rfl⟩
    · exact ⟨unstopped, rfl, rfl⟩
  · exact ⟨unstopped, rfl, rfl⟩

/-- The stream has stopped and its end is noted, before its tenant is LOADED (R147, R489). -/
def endedStream (s : State) (c : Nat) : State :=
  ((sequencerNotice (stopStream (issueBundle c s) c) c 1 (s.pc c + c * 2 ^ 16)).setCtx c fun x => { x with backlog := [] }).dset
    (0x6070 + tenantOf s c) 0xF s.beat

theorem endStream_eq (s : State) (c : Nat) :
    endStream s c = endPendingHold (setTenantState (endedStream s c) (tenantOf s c) 1) (tenantOf s c) := rfl

theorem endedStream_ctx (s : State) (c : Nat) : ((endedStream s c).ctx c).backlog = [] := by
  rw [endedStream, State.ctx, State.dset_contexts]
  exact congrArg Ctx.backlog ((State.setCtx_ctx _ c c fun x => { x with backlog := [] }).trans (if_pos rfl))

theorem endedStream_armed (s : State) (c : Nat) : ((endedStream s c).cairnOf c).armed = none := by
  have noticed := (sequencerNotice_quiet (stopStream (issueBundle c s) c) c 1 (s.pc c + c * 2 ^ 16)).1.cairn
  rw [endedStream, State.cairnOf, State.dset_cairn, State.setCtx_cairn, noticed]
  exact abandonCut_armed _ c

/-! ## A long wait (R159) -/

/-- The present wait of a context is marked as told. -/
def markTold (s : State) (c : Nat) : State := s.setCtx c fun y => { y with waitTold := true }

theorem markTold_eq (s : State) (c : Nat) : markTold s c = { s with contexts := (markTold s c).contexts } := rfl

theorem markTold_ctx (s : State) (c : Nat) : ((markTold s c).ctx c).waitTold = true := by
  rw [markTold, State.setCtx_ctx, if_pos rfl]

theorem markTold_dget (s : State) (c idx sub : Nat) : (markTold s c).dget idx sub = s.dget idx sub := rfl

/-- A wait beyond its limit is marked, recorded and noticed with context, class and bundle (R159). -/
theorem execWaitTimeout_tells {s : State} {c : Nat} (run : s.running c = true) (named : 2 ≤ s.dget (0x4030 + c) 2)
    (limited : s.dget (0x4030 + c) 9 ≠ 0) (long : s.dget (0x4030 + c) 9 < (s.ctx c).waitBeats) (untold : (s.ctx c).waitTold = false) :
    ∃ v, exec (.waitTimeout c) s = .next (sequencerNotice ((markTold s c).record 0x5030 0 [(2, 1)] (some v)) c 2 v) := by
  refine ⟨c * 2 ^ 24 + s.dget (0x4030 + c) 2 * 2 ^ 16 + s.pc c, ?_⟩
  show execWaitTimeout c s = _
  unfold execWaitTimeout
  dsimp only
  rw [if_pos (by simp [run, named, limited, long, untold])]
  rfl

end Sys2Proof.Machine

open Sys2Proof Sys2Proof.Machine

/-- Settles O17: after a stream's end its tenant's state alone still changes, and the end of a pending `HOLD`; a long wait is recorded and
noticed, which moves no stream. -/
theorem streamEndsAndLongWaits : Obligations.StreamEndsAndLongWaits := by
  intro s c run far
  refine ⟨?_, fun named limited long untold => ?_⟩
  · have small := tenantOf_lt s c
    have next : exec (.endStream c) s = .next (endStream s c) := congrArg Host.Outcome.next (if_pos run)
    rw [endStream_eq] at next
    have loaded := setTenantState_noticeFrame (endedStream s c) (tenantOf s c) 1
    obtain ⟨index, contexts, cairn⟩ := endPendingHold_frame (setTenantState (endedStream s c) (tenantOf s c) 1) (tenantOf s c)
    refine ⟨_, next, ?_, ?_, ?_, ?_⟩
    · rw [State.tenantState, index _ 5 (by decide) (by simp; omega)]
      exact setTenantState_tenantState _ _ 1
    · rw [State.ctx, contexts, loaded.contexts]
      exact endedStream_ctx s c
    · rw [State.cairnOf, cairn, loaded.cairn]
      exact endedStream_armed s c
    · rw [index _ 0xF (by decide) (by simp; omega),
        setTenantState_dget _ _ 1 _ 0xF (by decide) (by omega) (by omega) (.inr (by decide))]
      exact State.dset_dget_same _ _ _ _
  · obtain ⟨v, next⟩ := execWaitTimeout_tells run named limited long untold
    have recorded := record_recordOnly (markTold s c) 0x5030 0 [(2, 1)] (some v)
    have index := record_indexKept (markTold s c) 0x5030 0 (counts := [(2, 1)]) (some v) (by simp)
    have flag := record_flag (markTold s c) (idx := 0x5030) (flag := 0) [(2, 1)] (some v) (by decide)
    have count := record_count (markTold s c) (idx := 0x5030) (flag := 0) (sub := 2) (n := 1) (some v)
      (by decide) (by decide) (by decide) (by decide)
    obtain ⟨noticed, quiet⟩ := sequencerNotice_quiet ((markTold s c).record 0x5030 0 [(2, 1)] (some v)) c 2 v
    refine ⟨_, next, ?_, ?_, ?_, ?_, ?_⟩
    · rw [State.ctx, noticed.contexts, recorded.contexts]
      exact markTold_ctx s c
    · rw [quiet _ 1 (by decide) (by decide)]
      exact flag
    · rw [quiet _ 2 (by decide) (by decide), count, markTold_dget]
    · rw [State.pc, quiet _ 1 (by decide) (by simp; omega), index _ 1 (by decide) (by simp; omega), markTold_dget, State.pc]
    · rw [noticed.power, recorded.power, markTold_eq]

end

section
/-! PROOF. `OVERLAY_LOAD` of a context whose stream entries are a partition's entries (O15). -/

namespace Sys2Proof.Machine
open Sys2Proof

/-! ## The page that an overlay load writes (R129, R130) -/

theorem execOverlayLoad_loads {s : State} {c page store : Nat} (run : s.running c = true) (hpage : page < (s.ctx c).overlays)
    (hstore : store < pagesOf s c) :
    exec (.overlayLoad c page store) s = .next (runOn (loadOverlay (issueBundle c s) c page store) c (s.pc c)) := by
  show execOverlayLoad c page store s = _
  rw [execOverlayLoad, if_neg (by simp [hpage, hstore]), plainControl_next run]

theorem loadOverlay_mem (s : State) (c page store : Nat) : (loadOverlay s c page store).mem =
    memWrite s.mem (bundleAddress s c (1024 * store)) (memRead s.mem (overlayStart s c + 131072 * page) 131072) := by
  have plain (bs : List Byte) : (untagged bs).map (·.1) = bs := by simp [untagged, Function.comp_def]
  rw [loadOverlay, State.setCtx_mem, writeBytes, writeTagged, plain]

theorem storeBase_le_bundleAddress (s : State) (c a : Nat) : storeBase ≤ bundleAddress s c a := Nat.le_add_right ..

/-- A context's pages follow those of context 0 (R447). -/
theorem pageStart_succ (s : State) (n : Nat) :
    pageStart s (n + 1) = pagesOf s 0 + ((List.range n).map fun p => pagesOf s (p + 1)).sum := by
  rw [pageStart, List.range_succ_eq_map, List.map_cons, List.sum_cons, List.map_map]
  rfl

/-! ## A context beyond the four -/

/-- The number whose stream entries, 0x4030 + c, are the entries 0x6060 of partition 0: its wait class stands where context 0's store
pages are read. The statement bounds no context; a command's operand names one of four. -/
def strayContext : Nat := 0x2030

/-- The end of its wait takes context 0's store pages away, so its own store lies lower by them. -/
theorem issueBundle_pageStart (s : State) :
    pageStart (issueBundle strayContext s) strayContext + pagesOf s 0 = pageStart s strayContext := by
  have issued := issueBundle_issued strayContext s
  have lost : pagesOf (issueBundle strayContext s) 0 = 0 := issued.wait
  have others (p : Nat) : pagesOf (issueBundle strayContext s) (p + 1) = pagesOf s (p + 1) :=
    issued.cells _ 2 (by decide) (by simp [strayContext])
  generalize issueBundle strayContext s = u at lost others
  rw [strayContext, pageStart_succ, pageStart_succ, lost]
  simp only [others]
  omega

/-- Its overlay load leaves the first byte of the page that the store held before the bundle issued. -/
theorem overlayLoad_misses {s : State} (pages : pagesOf s 0 ≠ 0) (page store : Nat) :
    memByte (loadOverlay (issueBundle strayContext s) strayContext page store).mem (bundleAddress s strayContext (1024 * store)) =
      memByte s.mem (bundleAddress s strayContext (1024 * store)) := by
  have lower := issueBundle_pageStart s
  rw [loadOverlay_mem, memByte_memWrite_other, (issueBundle_issued strayContext s).mem]
  refine .inr ?_
  rw [memRead_length, bundleAddress, bundleAddress]
  omega

/-- The stray context has overlay pages up to `page`, and of all memory the byte at `source` alone is not 0. -/
def withOverlay (s : State) (page source : Nat) : State :=
  { s with contexts := [(strayContext, { Ctx.empty with overlays := page + 1 })], mem := [(source, 1)] }

section
variable (s : State) (page source : Nat)

theorem withOverlay_bundleAddress (c a : Nat) : bundleAddress (withOverlay s page source) c a = bundleAddress s c a := rfl
theorem withOverlay_overlayStart (c : Nat) : overlayStart (withOverlay s page source) c = overlayStart s c := rfl

theorem withOverlay_memByte (x : Nat) : memByte (withOverlay s page source).mem x = if source = x then 1 else 0 := by
  unfold memByte withOverlay kget
  rw [kfind_cons]
  split <;> rfl

end

/-- An overlay page of so high a number lies above the store. -/
theorem source_ne_store {start store : Nat} (above : storeBase ≤ store) : start + 131072 * store ≠ store := by
  unfold storeBase at above
  omega

/-- Where partition 0 has store pages, the stray context can load an overlay page whose first byte its store page does not take. -/
theorem overlayLoad_loses {s : State} (run : s.running strayContext = true) (own : 0 < pagesOf s strayContext) (first : pagesOf s 0 ≠ 0) :
    ∃ u page, u.running strayContext = true ∧ page < (u.ctx strayContext).overlays ∧ 0 < pagesOf u strayContext ∧
      ∀ t, exec (.overlayLoad strayContext page 0) u = .next t →
        memByte t.mem (bundleAddress u strayContext (1024 * 0)) ≠ memByte u.mem (overlayStart u strayContext + 131072 * page) := by
  have apart := source_ne_store (start := overlayStart s strayContext) (storeBase_le_bundleAddress s strayContext (1024 * 0))
  generalize hpage : bundleAddress s strayContext (1024 * 0) = page at apart
  generalize hsource : overlayStart s strayContext + 131072 * page = source at apart
  have page_lt : page < ((withOverlay s page source).ctx strayContext).overlays := Nat.lt_succ_self page
  have loads := execOverlayLoad_loads (s := withOverlay s page source) run page_lt own
  refine ⟨withOverlay s page source, page, run, page_lt, own, fun t next => ?_⟩
  rw [loads] at next
  cases next
  rw [runOn_mem, overlayLoad_misses (s := withOverlay s page source) first, withOverlay_bundleAddress,
    withOverlay_overlayStart, hpage, hsource, withOverlay_memByte, withOverlay_memByte, if_neg apart, if_pos rfl]
  decide

/-- Tenant 0 runs in the stray context, which waits: partition 0 has one store page, and so has the context. -/
def strayState : State :=
  State.dsets { State.reset with power := { State.reset.power with state := .up } }
    [(0x8090, 5, 0), (0x6070, 5, 2), (0x8090, 2, 1), (0x6060, 2, 1)]

theorem strayState_runs : strayState.running strayContext = true ∧ pagesOf strayState strayContext = 1 ∧ pagesOf strayState 0 = 1 := by
  decide

end Sys2Proof.Machine

open Sys2Proof Sys2Proof.Machine

/-- Refutes O15 for context 0x2030, which no operand names but the statement does not exclude: its wait class is the entry of partition 0's
store pages, so the end of its wait moves its store, and the page that the statement names is not written. -/
theorem not_overlayAndStashPages : ¬ Obligations.OverlayAndStashPages := by
  rintro ⟨overlays, -⟩
  obtain ⟨runs, own, first⟩ := strayState_runs
  obtain ⟨u, page, run, inside, store, lost⟩ := overlayLoad_loses runs (by rw [own]; decide) (by rw [first]; decide)
  obtain ⟨t, next, copied, -⟩ := overlays u strayContext page 0 run inside store
  have byte := copied 0 (by omega)
  rw [Nat.add_zero, Nat.add_zero] at byte
  exact lost t next byte

end

section
/-! PROOF. INT32 operations, shifts and the select (O24). -/

namespace Sys2Proof.Machine
open Sys2Proof

/-! ## Operations that set no flag (R188) -/

/-- An operation that reports no event of its own reports none for a register. -/
theorem fpEvents_none {op : List Nat → Nat × Events} (quiet : ∀ l, (op l).2 = .none) (s : State) (srcs : List Nat) (a : Actor) :
    fpEvents op s srcs a = .none := by
  have lanes : fpEvents op s srcs a = Events.all (List.replicate 64 .none) := by
    simp [fpEvents, quiet]
  rw [lanes]
  rfl

/-- A lane-wise operation without events that may issue gives every acting block its lanes, and sets no flag. -/
theorem quiet_vectorResult {s : State} {c sel pred vd : Nat} {legal : Bool} {srcs : List Nat} {op : List Nat → Nat × Events}
    (may : MayAct s c sel pred) (ok : legal = true) (quiet : ∀ l, (op l).2 = .none) {f : Actor → Nat → Lane}
    (lane : ∀ a l, fpLane op s srcs a l = f a l) :
    ∃ t, inBlocks c sel pred legal (lanewiseOp c vd srcs op) s = .next t ∧ VectorResult s t c sel pred vd f fun _ => .none := by
  have result := lanewise_vectorResult may ok vd srcs op
  rwa [funext₂ lane, funext (fpEvents_none quiet s srcs)] at result

/-! ## The words that they make -/

theorem ofNat_mod_eq {n : Nat} {z : BitVec 32} (h : n % 2 ^ 32 = z.toNat) : BitVec.ofNat 32 (n % 2 ^ 32) = z := by
  rw [h, BitVec.ofNat_toNat, BitVec.setWidth_eq]

theorem shiftBits_left (x : BitVec 32) (n : Nat) : BitVec.ofNat 32 (shiftBits 0 x.toNat n % 2 ^ 32) = x <<< n := by
  apply BitVec.eq_of_toNat_eq
  simp [shiftBits, Nat.shiftLeft_eq]

theorem shiftBits_right (x : BitVec 32) (n : Nat) : BitVec.ofNat 32 (shiftBits 1 x.toNat n % 2 ^ 32) = x >>> n := by
  apply BitVec.eq_of_toNat_eq
  have small : x.toNat / 2 ^ n < 2 ^ 32 := (Nat.div_le_self _ _).trans_lt x.isLt
  rw [BitVec.toNat_ofNat, BitVec.toNat_ushiftRight, Nat.shiftRight_eq_div_pow, Nat.mod_mod, shiftBits, if_neg (by decide),
    if_pos rfl, Nat.mod_eq_of_lt small]

theorem sext_toNat (x : BitVec 32) : sext 32 x.toNat = x.toInt := by
  have small : ((x.toNat : Nat) : Int) % 2 ^ 32 = x.toNat := Int.emod_eq_of_lt (by omega) (by omega)
  rw [sext, bit, BitVec.toInt_eq_msb_cond, BitVec.msb_eq_getLsbD_last, BitVec.getLsbD, small, Nat.mod_eq_of_lt x.isLt]
  rfl

theorem shiftBits_arithmetic (x : BitVec 32) (n : Nat) : BitVec.ofNat 32 (shiftBits 2 x.toNat n % 2 ^ 32) = x.sshiftRight n := by
  apply BitVec.eq_of_toNat_eq
  rw [shiftBits, if_neg (by decide), if_neg (by decide), sext_toNat, encInt, BitVec.sshiftRight, Int.shiftRight_eq_div_pow,
    BitVec.toNat_ofInt, BitVec.toNat_ofNat]
  norm_cast
  omega

/-- Each kind of shift, on words (R188). -/
theorem shiftBits_eq {kind : Nat} (h : kind < 3) (x : BitVec 32) (n : Nat) : BitVec.ofNat 32 (shiftBits kind x.toNat n % 2 ^ 32) =
    if kind = 0 then x <<< n else if kind = 1 then x >>> n else x.sshiftRight n := by
  obtain rfl | rfl | rfl : kind = 0 ∨ kind = 1 ∨ kind = 2 := by omega
  · exact shiftBits_left x n
  · exact shiftBits_right x n
  · exact shiftBits_arithmetic x n

/-! ## The lanes -/

section
variable (s : State) (va vb vc : Nat) (a : Actor) (l : Nat)

/-- A binary operation on words: a poisoned source lane poisons the result (R572). -/
theorem intLane {f : Nat → Nat → Nat} {g : BitVec 32 → BitVec 32 → BitVec 32}
    (word : ∀ x y : BitVec 32, BitVec.ofNat 32 (f x.toNat y.toNat % 2 ^ 32) = g x y) :
    fpLane (intOp f) s [va, vb] a l = ⟨g (laneOf s a va l).bits (laneOf s a vb l).bits,
      (laneOf s a va l).poison || (laneOf s a vb l).poison⟩ := by
  have poison : ([va, vb].any fun r => (laneOf s a r l).poison) = ((laneOf s a va l).poison || (laneOf s a vb l).poison) := by simp
  rw [fpLane, poison, ← word]
  rfl

/-- A shift by an amount of the slot has one source. -/
theorem shiftLane {kind : Nat} (h : kind < 3) (amount : Nat) :
    fpLane (intOp fun x _ => shiftBits kind x amount) s [va] a l =
      let x := (laneOf s a va l).bits
      ⟨if kind = 0 then x <<< amount else if kind = 1 then x >>> amount else x.sshiftRight amount, (laneOf s a va l).poison⟩ := by
  have poison : ([va].any fun r => (laneOf s a r l).poison) = (laneOf s a va l).poison := by simp
  rw [fpLane, poison]
  dsimp only
  rw [← shiftBits_eq h]
  rfl

theorem selectLane : fpLane selOp s [va, vb, vc] a l =
    ⟨if (laneOf s a vc l).bits.toNat % 2 ^ 31 ≠ 0 then (laneOf s a va l).bits else (laneOf s a vb l).bits,
      (laneOf s a va l).poison || (laneOf s a vb l).poison || (laneOf s a vc l).poison⟩ := by
  simp [-Nat.reducePow, fpLane, selOp, nonzeroLane, apply_ite, Bool.or_assoc]

end

end Sys2Proof.Machine

open Sys2Proof Sys2Proof.Machine

/-- Settles O24: each operation is lane-wise in its acting blocks, and reports no event. -/
theorem integerVectorOps : Obligations.IntegerVectorOps := by
  intro s c sel pred vd va vb vc kind amount may hd ha hb hc
  have binaryLegal : regs [vd, va, vb] = true := by simp [regs, hd, ha, hb]
  have ternaryLegal : regs [vd, va, vb, vc] = true := by simp [regs, hd, ha, hb, hc]
  have quiet (f : Nat → Nat → Nat) (l : List Nat) : (intOp f l).2 = .none := rfl
  have binary {f : Nat → Nat → Nat} {g : BitVec 32 → BitVec 32 → BitVec 32}
      (word : ∀ x y : BitVec 32, BitVec.ofNat 32 (f x.toNat y.toNat % 2 ^ 32) = g x y) :=
    quiet_vectorResult (vd := vd) may binaryLegal (quiet f) fun a l => intLane s va vb a l word
  refine ⟨?_, ?_, ?_, ?_, fun hkind hamount => ?_, fun hkind => ?_, ?_⟩
  · exact binary fun x y => ofNat_mod_eq (BitVec.toNat_add x y).symm
  · exact binary fun x y => ofNat_mod_eq (Nat.mod_eq_of_lt (x &&& y).isLt)
  · exact binary fun x y => ofNat_mod_eq (Nat.mod_eq_of_lt (x ||| y).isLt)
  · exact binary fun x y => ofNat_mod_eq (Nat.mod_eq_of_lt (x ^^^ y).isLt)
  · have legal : (regs [vd, va, 0, amount] && decide (kind < 3) && decide (1 < 2) && (if 1 = 1 then 0 == 0 else amount == 0)) =
        true := by simp [regs, hd, ha, hkind, hamount]
    exact quiet_vectorResult may legal (quiet _) fun a l => shiftLane s va a l hkind amount
  · have legal : (regs [vd, va, vb, 0] && decide (kind < 3) && decide (0 < 2) && (if 0 = 1 then vb == 0 else 0 == 0)) = true := by
      simp [regs, hd, ha, hb, hkind]
    exact quiet_vectorResult may legal (quiet _) fun a l =>
      intLane s va vb a l (f := fun x y => shiftBits kind x (y % 32)) fun x y => shiftBits_eq hkind x (y.toNat % 32)
  · exact quiet_vectorResult may ternaryLegal (fun _ => rfl) fun a l => selectLane s va vb vc a l

end

section
/-! PROOF. Operations that set registers of their own blocks alone, reads of rows that exist, and tables updated key by key. -/

namespace Sys2Proof.Machine
open Sys2Proof

/-! ## Operations that set registers of their own block alone -/

/-- Only the registers of blocks have changed. -/
def RegistersOnly (s t : State) : Prop := t = { s with blocks := t.blocks }

theorem RegistersOnly.ctx {s u : State} (frame : RegistersOnly s u) (c : Nat) : u.ctx c = s.ctx c := by
  unfold RegistersOnly at frame
  rw [frame]
  rfl

/-- The row that a source selector makes of a slot's row field, in an acting block (R290). -/
def inRow (s : State) (c sel row : Nat) (a : Actor) : Nat := (s.block a.phys).rowOf ((s.ctx c).desc sel).selA row

theorem inRow_congr {s u : State} {a : Actor} (c sel : Nat) (ctx : u.ctx c = s.ctx c) (same : u.block a.phys = s.block a.phys)
    (row : Nat) : inRow u c sel row a = inRow s c sel row a := by
  rw [inRow, ctx, same, inRow]

section
variable {s : State} {act : Actor → State → State} {f : Actor → Block → Block}

/-- No block acts twice, so each register change is made on the block as it was at the start. -/
theorem foldl_setsBlocks {as : List Actor} (distinct : (as.map (·.phys)).Nodup)
    (sets : ∀ a ∈ as, ∀ u, RegistersOnly s u → u.block a.phys = s.block a.phys → act a u = u.setBlock a.phys (f a))
    {u : State} (frame : RegistersOnly s u) (untouched : ∀ a ∈ as, u.block a.phys = s.block a.phys) :
    let t := as.foldl (fun t a => act a t) u
    RegistersOnly s t ∧ (∀ p, p ∉ as.map (·.phys) → t.block p = u.block p) ∧
      ∀ a ∈ as, t.block a.phys = f a (s.block a.phys) := by
  induction as generalizing u with
  | nil => exact ⟨frame, fun _ _ => rfl, fun a acts => absurd acts List.not_mem_nil⟩
  | cons e r ih =>
    rw [List.map_cons, List.nodup_cons] at distinct
    obtain ⟨first, distinct⟩ := distinct
    have same := untouched e List.mem_cons_self
    have set := sets e List.mem_cons_self u frame same
    have other {p : Nat} (h : p ≠ e.phys) : (act e u).block p = u.block p := by
      rw [set, State.setBlock_block, if_neg h.symm]
    have apart {a : Actor} (acts : a ∈ r) : a.phys ≠ e.phys := fun h => first (h ▸ List.mem_map_of_mem acts)
    have moved : RegistersOnly s (act e u) := by
      unfold RegistersOnly at frame ⊢
      rw [set, frame]
      rfl
    obtain ⟨after, outside, acted⟩ := ih distinct (fun a acts => sets a (List.mem_cons_of_mem e acts)) moved
      fun a acts => (other (apart acts)).trans (untouched a (List.mem_cons_of_mem e acts))
    refine ⟨after, fun p out => ?_, fun a acts => ?_⟩
    · rw [List.map_cons, List.mem_cons, not_or] at out
      obtain ⟨here, later⟩ := out
      exact (outside p later).trans (other here)
    · obtain rfl | acts := List.mem_cons.1 acts
      · refine (outside _ first).trans ?_
        rw [set, State.setBlock_block_same, same]
      · exact acted a acts

/-- An operation that may issue and sets registers does so once in every acting block. -/
theorem actors_setBlocks {c sel pred : Nat} (may : MayAct s c sel pred)
    (sets : ∀ a ∈ actors s c sel pred, ∀ u, RegistersOnly s u → u.block a.phys = s.block a.phys →
      act a u = u.setBlock a.phys (f a)) :
    let t := (actors s c sel pred).foldl (fun t a => act a t) s
    t = { s with blocks := t.blocks } ∧ (∀ p, p ∉ (actors s c sel pred).map (·.phys) → t.block p = s.block p) ∧
      ∀ a ∈ actors s c sel pred, t.block a.phys = f a (s.block a.phys) := by
  obtain ⟨-, -, -, -, distinct, -⟩ := may
  exact foldl_setsBlocks distinct sets rfl fun _ _ => rfl

end

/-! ## Reads of rows that exist (R95, R121) -/

theorem readRow_inside (s : State) (p bank : Nat) {row : Nat} (inside : row < 768) :
    readRow s p bank row = (readTagged s (readTarget s p bank row) 128, s) := if_neg (by omega)

theorem readTagged_registersOnly {s u : State} (frame : RegistersOnly s u) (p bank row n : Nat) :
    readTagged u (readTarget u p bank row) n = readTagged s (readTarget s p bank row) n := by
  unfold RegistersOnly at frame
  rw [frame]
  rfl

/-- Reads that leave the state alone, each collected after the ones before. -/
theorem foldl_collect {α β : Type} {read : β → State → α × State} {value : β → α} {s : State} {l : List β}
    (reads : ∀ e ∈ l, read e s = (value e, s)) (before : List α) :
    l.foldl (fun (t : List α × State) e => (t.1 ++ [(read e t.2).1], (read e t.2).2)) (before, s) =
      (before ++ l.map value, s) := by
  induction l generalizing before with
  | nil => simp
  | cons e r ih =>
    rw [List.foldl_cons, reads e List.mem_cons_self, ih fun x m => reads x (List.mem_cons_of_mem e m), List.map_cons,
      List.append_assoc, List.singleton_append]

theorem readBanks_inside (s : State) (p : Nat) {row : Nat} (inside : row < 768) : readBanks s p row =
    ((List.range 16).map fun bank => readTagged s (readTarget s p bank row) 128, s) :=
  foldl_collect (read := fun bank t => readRow t p bank row) (fun bank _ => readRow_inside s p bank inside) []

theorem readBankRows_inside (s : State) (p : Nat) {rows : List Nat} (inside : ∀ r ∈ rows, r < 768) : readBankRows s p rows =
    (rows.map fun row => (List.range 16).map fun bank => readTagged s (readTarget s p bank row) 128, s) :=
  foldl_collect (read := fun row t => readBanks t p row) (fun row m => readBanks_inside s p (inside row m)) []

/-! ## Parts of what is read -/

theorem readTagged_slice (s : State) (a : Nat) {n k m : Nat} (fits : k + m ≤ n) :
    ((readTagged s a n).drop k).take m = readTagged s (a + k) m := by
  apply List.ext_getElem
  · simp only [List.length_take, List.length_drop, readTagged_length]
    omega
  · intro i _ _
    simp [readTagged, rangeFrom, add_assoc]

theorem lanesOf_getD {n l : Nat} (h : l < n) (bs : List TByte) : (lanesOf n bs).getD l Lane.zero =
    ⟨BitVec.ofNat 32 (ofLe (((bs.drop (4 * l)).take 4).map (·.1))), anyTagged ((bs.drop (4 * l)).take 4)⟩ := by
  simp [lanesOf, h]

theorem ofLe_readTagged (s : State) (a n : Nat) : ofLe ((readTagged s a n).map (·.1)) = readLe s a n := by
  rw [readTagged_bytes]
  rfl

/-! ## Several updates of a table -/

/-- The table after several updates, in order. -/
def ksets {α : Type} (m l : List (Nat × α)) : List (Nat × α) := l.foldl (fun m e => kset m e.1 e.2) m

theorem ksets_cons {α : Type} (m : List (Nat × α)) (e : Nat × α) (l : List (Nat × α)) :
    ksets m (e :: l) = ksets (kset m e.1 e.2) l := rfl

/-- A key that no update names keeps its entry. -/
theorem kfind_ksets_other {α : Type} {l : List (Nat × α)} {k : Nat} (other : ∀ e ∈ l, e.1 ≠ k) (m : List (Nat × α)) :
    kfind (ksets m l) k = kfind m k := by
  induction l generalizing m with
  | nil => rfl
  | cons e r ih =>
    rw [List.forall_mem_cons] at other
    obtain ⟨here, later⟩ := other
    rw [ksets_cons, ih later, kfind_kset, if_neg here]

/-- A key whose updates all give it one value holds that value. -/
theorem kfind_ksets_mem {α : Type} {l : List (Nat × α)} {k : Nat} {v : α} (found : (k, v) ∈ l)
    (only : ∀ w, (k, w) ∈ l → w = v) (m : List (Nat × α)) : kfind (ksets m l) k = some v := by
  induction l generalizing m with
  | nil => exact absurd found List.not_mem_nil
  | cons e r ih =>
    by_cases later : (k, v) ∈ r
    · exact ih later (fun w h => only w (List.mem_cons_of_mem e h)) _
    · obtain rfl | found := List.mem_cons.1 found
      · have other : ∀ e ∈ r, e.1 ≠ k := by
          rintro ⟨j, w⟩ inside rfl
          obtain rfl := only w (List.mem_cons_of_mem _ inside)
          exact later inside
        rw [ksets_cons, kfind_ksets_other other, kfind_kset, if_pos rfl]
      · exact absurd found later

/-! ## A mover operation outside standby (R195, R425) -/

theorem whenCopied_free {s : State} {c : Nat} {gs : List Nat} (free : gs.filter (pendingGranules s c).contains = [])
    (run : State → Host.Outcome State Fault Refusal) : whenCopied c gs s run = run s := by
  obtain ⟨-, e⟩ | ⟨waits, -⟩ := whenCopied_cases c gs s run
  · exact e
  · exact absurd free waits

/-- No granule is waited for while no fast copy runs. -/
theorem copied_of_idle {s : State} {c : Nat} (idle : (s.cairnOf c).copying = none) (gs : List Nat) :
    gs.filter (pendingGranules s c).contains = [] := by
  rw [pendingGranules_none idle]
  exact List.filter_eq_nil_iff.2 (by simp)

/-- A mover operation in blocks that waits for no granule acts. -/
theorem moverBlocks_next {s : State} {c slot sel pred : Nat} {legal : Bool} (may : MayAct s c sel pred) (ok : legal = true)
    (hslot : slot < 4) {gs : State → List Actor → List Nat}
    (free : (gs s (actors s c sel pred)).filter (pendingGranules s c).contains = []) (act : List Actor → State → State) :
    moverBlocks c slot 0 sel pred legal [] gs act s = .next (act (actors s c sel pred) s) := by
  obtain ⟨run, valid, small, low, -, -⟩ := may
  have header : (legal && headerOk s c sel pred && standbyListed s c slot 0) = true := by
    simp [ok, headerOk, valid, small, low, standbyListed, hslot]
  have acts : standbyActs s c slot 0 = true := rfl
  rw [moverBlocks, run, header, acts, if_neg Bool.noConfusion, if_neg Bool.noConfusion, if_neg Bool.noConfusion,
    whenCopied_free free]
  rfl

end Sys2Proof.Machine

end

section
/-! PROOF. `VLOAD` (O30). -/

namespace Sys2Proof.Machine
open Sys2Proof

/-- The bytes that a `VLOAD` widens. -/
def loadBytes (s : State) (p width bank half row : Nat) : List TByte :=
  let x := readTagged s (readTarget s p bank row) 128
  if width = 0 then x ++ readTagged s (readTarget s p (bank + 1) row) 128
  else if width = 1 then x else (x.drop (64 * half)).take 64

/-- What a `VLOAD` makes of its block. -/
def loadBlock (s : State) (c sel vd width bank half row postinc : Nat) (a : Actor) (b : Block) : Block :=
  (b.setVreg vd (widenLanes width (loadBytes s a.phys width bank half (inRow s c sel row a)))).bump ((s.ctx c).desc sel).selA postinc

theorem loadOp_sets {c sel row : Nat} {a : Actor} {s : State} (inside : inRow s c sel row a < 768)
    (vd width bank half postinc : Nat) : loadOp vd width bank half row postinc sel c a s =
      s.setBlock a.phys (loadBlock s c sel vd width bank half row postinc a) := by
  unfold inRow at inside
  unfold loadOp loadBlock loadBytes inRow
  simp only [readRow_inside _ _ _ inside]
  by_cases wide : width = 0
  · simp only [if_pos wide]
  · simp only [if_neg wide]

theorem loadBlock_vreg (s : State) (c sel vd width bank half row postinc : Nat) (a : Actor) (b : Block) (v : Nat) :
    (loadBlock s c sel vd width bank half row postinc a b).vreg v =
      if vd = v then widenLanes width (loadBytes s a.phys width bank half (inRow s c sel row a)) else b.vreg v := by
  rw [loadBlock, Block.bump_eq]
  exact Block.setVreg_vreg _ vd v _

theorem loadBlock_registers (s : State) (c sel vd width bank half row postinc : Nat) (a : Actor) (b : Block) :
    (loadBlock s c sel vd width bank half row postinc a b).acc = b.acc ∧
      (loadBlock s c sel vd width bank half row postinc a b).flags = b.flags := by
  rw [loadBlock, Block.bump_eq]
  exact ⟨rfl, rfl⟩

theorem loadBytes_registersOnly {s u : State} (frame : RegistersOnly s u) (p width bank half row : Nat) :
    loadBytes u p width bank half row = loadBytes s p width bank half row := by
  unfold loadBytes
  rw [readTagged_registersOnly frame, readTagged_registersOnly frame]

section
variable (s : State) (p bank half row : Nat) {l : Nat} (h : l < 64)
include h

/-- Lane `l` of 256 bytes from two banks: the first bank's words fill lanes 0 to 31. -/
theorem loadLane_words : (widenLanes 0 (loadBytes s p 0 bank half row)).getD l Lane.zero =
    (fun (x : List TByte) => (⟨BitVec.ofNat 32 (ofLe (x.map (·.1))), anyTagged x⟩ : Lane)) (readTagged s
      (if l < 32 then readTarget s p bank row + 4 * l else readTarget s p (bank + 1) row + 4 * (l - 32)) 4) := by
  have part : ((loadBytes s p 0 bank half row).drop (4 * l)).take 4 = readTagged s
      (if l < 32 then readTarget s p bank row + 4 * l else readTarget s p (bank + 1) row + 4 * (l - 32)) 4 := by
    simp only [loadBytes, if_pos]
    split
    next low =>
      rw [List.drop_append_of_le_length (by rw [readTagged_length]; omega),
        List.take_append_of_le_length (by rw [List.length_drop, readTagged_length]; omega), readTagged_slice _ _ (by omega)]
    next high =>
      rw [List.drop_append, List.drop_of_length_le (by rw [readTagged_length]; omega), List.nil_append, readTagged_length,
        show 4 * l - 128 = 4 * (l - 32) by omega, readTagged_slice _ _ (by omega)]
  rw [widenLanes, if_pos rfl, lanesOf_getD h, part]

/-- Lane `l` of elements of `k` bytes that are widened. -/
theorem widenLanes_bits {width k : Nat} (narrow : width ≠ 0) (size : elementBits width / 8 = k) (bs : List TByte) :
    ((widenLanes width bs).getD l Lane.zero).bits =
      BitVec.ofNat 32 (upConvert width (ofLe (((bs.drop (k * l)).take k).map (·.1)))).1 := by
  subst size
  rw [widenLanes, if_neg narrow]
  simp [h]

theorem loadLane_halves : ((widenLanes 1 (loadBytes s p 1 bank half row)).getD l Lane.zero).bits =
    BitVec.ofNat 32 (upConvert 1 (readLe s (readTarget s p bank row + 2 * l) 2)).1 := by
  have bytes : loadBytes s p 1 bank half row = readTagged s (readTarget s p bank row) 128 := rfl
  rw [widenLanes_bits h (k := 2) (by decide) rfl, bytes, readTagged_slice _ _ (by omega), ofLe_readTagged]

theorem loadLane_bytes {width : Nat} (byte : width = 2 ∨ width = 3) (hhalf : half < 2) :
    ((widenLanes width (loadBytes s p width bank half row)).getD l Lane.zero).bits =
      BitVec.ofNat 32 (upConvert width (readLe s (readTarget s p bank row + 64 * half + l) 1)).1 := by
  have bytes : loadBytes s p width bank half row = readTagged s (readTarget s p bank row + 64 * half) 64 := by
    rw [← readTagged_slice s _ (n := 128) (by omega), loadBytes, if_neg (by omega), if_neg (by omega)]
  have size : elementBits width / 8 = 1 := by obtain rfl | rfl := byte <;> rfl
  rw [widenLanes_bits h (by omega) size, bytes, readTagged_slice _ _ (by omega), ofLe_readTagged, one_mul]

end

end Sys2Proof.Machine

open Sys2Proof Sys2Proof.Machine

/-- Settles O30: each acting block's register takes the lanes of its own rows, and no row lies out of range. -/
theorem vectorLoads : Obligations.VectorLoads := by
  intro s c sel pred vd width bank half row postinc may legal inside
  obtain ⟨rest, others, acted⟩ := actors_setBlocks may (act := loadOp vd width bank half row postinc sel c)
    (f := loadBlock s c sel vd width bank half row postinc) fun a acts u frame same => by
      have rows := inRow_congr c sel (frame.ctx c) same row
      rw [loadOp_sets (by rw [rows]; exact inside a acts)]
      unfold loadBlock
      rw [rows, frame.ctx, loadBytes_registersOnly frame]
  refine ⟨_, sensingBlocks_next may legal _, rest, others, fun a acts => ?_⟩
  obtain ⟨acc, flags⟩ := loadBlock_registers s c sel vd width bank half row postinc a (s.block a.phys)
  have hhalf : half < 2 := by
    simp only [loadLegal, Bool.and_eq_true, decide_eq_true_eq] at legal
    omega
  unfold laneOf
  rw [acted a acts]
  refine ⟨fun v other => ?_, acc, flags, fun l low => ?_⟩
  · rw [loadBlock_vreg, if_neg other.symm]
  · rw [loadBlock_vreg, if_pos rfl]
    refine ⟨?_, ?_, fun byte => loadLane_bytes s _ bank half _ low byte hhalf⟩
    · rintro rfl
      exact loadLane_words s _ bank half _ low
    · rintro rfl
      exact loadLane_halves s _ bank half _ low

end

section
/-! PROOF. Fills of Mica (O33). -/

namespace Sys2Proof.Machine
open Sys2Proof

theorem zipIdx_map_range {α : Type} (n : Nat) (f : Nat → α) : ((List.range n).map f).zipIdx = (List.range n).map fun i => (f i, i) := by
  apply List.ext_getElem
  · simp
  · intro i _ _
    simp

/-- The sections of a fill with what each receives: row i of bank k goes to section `16 × i + k` after the first. -/
def fillSections (s : State) (p first reads : Nat) (row : Nat → Nat) : List (Nat × List Byte × Bool) :=
  (List.range reads).flatMap fun i => (List.range 16).map fun k =>
    (first + 16 * i + k, memRead s.mem (readTarget s p k (row i)) 128, anyTagged (readTagged s (readTarget s p k (row i)) 128))

theorem mem_fillSections {s : State} {p first reads : Nat} {row : Nat → Nat} {e : Nat × List Byte × Bool} :
    e ∈ fillSections s p first reads row ↔ ∃ i < reads, ∃ k < 16, e = (first + 16 * i + k,
      memRead s.mem (readTarget s p k (row i)) 128, anyTagged (readTagged s (readTarget s p k (row i)) 128)) := by
  simp [fillSections, eq_comm]

section
variable (s : State) (p first reads : Nat) (row : Nat → Nat) (m : List (Nat × List Byte × Bool))

theorem fillSections_holds {i k : Nat} (hi : i < reads) (hk : k < 16) :
    kfind (ksets m (fillSections s p first reads row)) (first + 16 * i + k) =
      some (memRead s.mem (readTarget s p k (row i)) 128, anyTagged (readTagged s (readTarget s p k (row i)) 128)) := by
  refine kfind_ksets_mem (mem_fillSections.2 ⟨i, hi, k, hk, rfl⟩) (fun w inside => ?_) m
  obtain ⟨i', hi', k', hk', e⟩ := mem_fillSections.1 inside
  rw [Prod.mk.injEq] at e
  obtain ⟨key, rfl⟩ := e
  obtain rfl : i = i' := by omega
  obtain rfl : k = k' := by omega
  rfl

theorem fillSections_other {j : Nat} (out : j < first ∨ first + 16 * reads ≤ j) :
    kfind (ksets m (fillSections s p first reads row)) j = kfind m j := by
  refine kfind_ksets_other (fun e inside => ?_) m
  obtain ⟨i, hi, k, hk, rfl⟩ := mem_fillSections.1 inside
  dsimp only
  omega

end

theorem fillSections_registersOnly {s u : State} (frame : RegistersOnly s u) (p first reads : Nat) (row : Nat → Nat) :
    fillSections u p first reads row = fillSections s p first reads row := by
  unfold RegistersOnly at frame
  unfold fillSections
  rw [frame]
  rfl

/-- What a fill makes of its block: the sections from `dest` × 16 of the quarter on are set, and the base register is raised. -/
def fillBlock (s : State) (c sel quarter reads dest row postinc : Nat) (a : Actor) (y : Block) : Block :=
  ({ y with mica := ksets y.mica (fillSections s a.phys (quarterA (s.ctx c) quarter * 64 + 16 * dest) reads fun i =>
    inRow s c sel (row + i) a) }).bump ((s.ctx c).desc sel).selA (if postinc = 1 then reads else 0)

theorem micaFillOp_sets {c sel reads row : Nat} {a : Actor} {s : State} (inside : ∀ i, i < reads → inRow s c sel (row + i) a < 768)
    (quarter dest postinc : Nat) : micaFillOp c sel quarter reads dest row postinc a s =
      s.setBlock a.phys (fillBlock s c sel quarter reads dest row postinc a) := by
  have rows : ∀ r ∈ (rangeFrom row reads).map ((s.block a.phys).rowOf ((s.ctx c).desc sel).selA), r < 768 := by
    simpa [rangeFrom, inRow] using inside
  unfold micaFillOp fillBlock inRow
  dsimp only
  rw [readBankRows_inside s a.phys rows, rangeFrom, List.map_map, List.map_map, zipIdx_map_range]
  simp [ksets, fillSections, zipIdx_map_range, List.foldl_flatMap, List.foldl_map, readTagged_bytes, mul_add, add_assoc]

section
variable (s : State) (c sel quarter reads dest row postinc : Nat) (a : Actor) (y : Block)

theorem fillBlock_registers : (fillBlock s c sel quarter reads dest row postinc a y).vregs = y.vregs ∧
    (fillBlock s c sel quarter reads dest row postinc a y).acc = y.acc := by
  rw [fillBlock, Block.bump_eq]
  exact ⟨rfl, rfl⟩

theorem fillBlock_section (j : Nat) : (fillBlock s c sel quarter reads dest row postinc a y).section j =
    kget (List.replicate 128 0, false) (ksets y.mica (fillSections s a.phys (quarterA (s.ctx c) quarter * 64 + 16 * dest) reads
      fun i => inRow s c sel (row + i) a)) j := by
  rw [fillBlock, Block.bump_eq]
  rfl

theorem fillBlock_filled {i k : Nat} (hi : i < reads) (hk : k < 16) :
    (fillBlock s c sel quarter reads dest row postinc a y).section (quarterA (s.ctx c) quarter * 64 + 16 * (dest + i) + k) =
      (memRead s.mem (readTarget s a.phys k (inRow s c sel (row + i) a)) 128,
        anyTagged (readTagged s (readTarget s a.phys k (inRow s c sel (row + i) a)) 128)) := by
  rw [fillBlock_section, mul_add, ← add_assoc, kget, fillSections_holds s _ _ _ _ _ hi hk]
  rfl

theorem fillBlock_other {j : Nat}
    (out : j < quarterA (s.ctx c) quarter * 64 + 16 * dest ∨ quarterA (s.ctx c) quarter * 64 + 16 * (dest + reads) ≤ j) :
    (fillBlock s c sel quarter reads dest row postinc a y).section j = y.section j := by
  rw [fillBlock_section, kget, fillSections_other s _ _ _ _ _ (by omega)]
  rfl

end

end Sys2Proof.Machine

open Sys2Proof Sys2Proof.Machine

/-- Settles O33: both commands make the same fill in every acting block, and no section is filled twice. -/
theorem micaFills : Obligations.MicaFills := by
  intro s c sel pred slot quarter mode fmt reads dest row postinc may legal inside
  obtain ⟨rest, others, acted⟩ := actors_setBlocks may (act := micaFillOp c sel quarter reads dest row postinc)
    (f := fillBlock s c sel quarter reads dest row postinc) fun a acts u frame same => by
      have rows := inRow_congr c sel (frame.ctx c) same
      rw [micaFillOp_sets fun i hi => by rw [rows]; exact inside a acts i hi]
      unfold fillBlock
      simp only [rows, frame.ctx, fillSections_registersOnly frame]
  have fill := sensingBlocks_next may legal (micaFillOp c sel quarter reads dest row postinc)
  have load := moverBlocks_next may legal (Nat.mod_lt slot (by decide : 0 < 4)) (gs := fun _ _ => []) rfl
    fun as t => as.foldl (fun u a => micaFillOp c sel quarter reads dest row postinc a u) t
  intro command either
  refine ⟨_, ?_, rest, others, fun a acts => ?_⟩
  · simp only [List.mem_cons, List.not_mem_nil, or_false] at either
    obtain rfl | rfl := either
    · exact fill
    · exact load
  · obtain ⟨vregs, acc⟩ := fillBlock_registers s c sel quarter reads dest row postinc a (s.block a.phys)
    rw [acted a acts]
    exact ⟨fun i k hi hk => fillBlock_filled s c sel quarter reads dest row postinc a _ hi hk,
      fun j out => fillBlock_other s c sel quarter reads dest row postinc a _ out, vregs, acc⟩

end

section
/-! PROOF. Copies of bytes that do not meet one another, and the writes that carry them (R196, R199). -/

namespace Sys2Proof.Machine
open Sys2Proof

/-! ## Copies -/

/-- `n` bytes from `src` that are to stand at `dst`. -/
structure Copy where
  src : Nat
  dst : Nat
  n   : Nat

/-- The `n` bytes from `a` and the `m` bytes from `b` have none in common. -/
def Beside (a n b m : Nat) : Prop := a + n ≤ b ∨ b + m ≤ a

/-- No two of the copies write to the same byte. -/
def TargetsApart (jobs : Set Copy) : Prop := jobs.Pairwise fun j k => Beside j.dst j.n k.dst k.n

/-- Of the copies `jobs`, those in `done` have been made since state `s`, and nothing but bytes at the targets has changed. -/
structure Copied (s : State) (jobs done : Set Copy) (u : State) : Prop where
  frame : BytesOnly s u
  rest : ∀ z, (∀ j ∈ jobs, z < j.dst ∨ j.dst + j.n ≤ z) → memByte u.mem z = memByte s.mem z
  holds : ∀ j ∈ done, memRead u.mem j.dst j.n = memRead s.mem j.src j.n

theorem Copied.start (s : State) (jobs : Set Copy) : Copied s jobs ∅ s := ⟨rfl, fun _ _ => rfl, fun _ => False.elim⟩

section
variable {s u : State} {jobs done : Set Copy} (h : Copied s jobs done u)
include h

theorem Copied.mono {fewer : Set Copy} (sub : fewer ⊆ done) : Copied s jobs fewer u := ⟨h.frame, h.rest, fun j m => h.holds j (sub m)⟩

theorem Copied.zoning : u.zoning = s.zoning := by rw [h.frame]
theorem Copied.ctx (c : Nat) : u.ctx c = s.ctx c := by rw [h.frame]; rfl
theorem Copied.block (p : Nat) : u.block p = s.block p := by rw [h.frame]; rfl

/-- Bytes beside every target read as before. -/
theorem Copied.memRead_beside {a n : Nat} (apart : ∀ j ∈ jobs, Beside j.dst j.n a n) : memRead u.mem a n = memRead s.mem a n :=
  memRead_congr fun i below => h.rest _ fun j m => by
    have := apart j m
    unfold Beside at this
    omega

/-- One copy is made by writing the bytes that its source held at the start. -/
theorem Copied.write (targets : TargetsApart jobs) (sub : done ⊆ jobs) {j : Copy} (job : j ∈ jobs) {bs : List TByte}
    (bytes : bs.map (·.1) = memRead s.mem j.src j.n) : Copied s jobs (insert j done) (writeTagged u j.dst bs) where
  frame := h.frame.trans rfl
  rest z outside := by
    refine (memByte_memWrite_other u.mem _ ?_).trans (h.rest z outside)
    rw [bytes, memRead_length]
    exact outside j job
  holds k m := by
    have memory : (writeTagged u j.dst bs).mem = memWrite u.mem j.dst (memRead s.mem j.src j.n) := by rw [← bytes]; rfl
    rw [memory]
    by_cases same : k = j
    · subst same
      have written := memRead_memWrite u.mem k.dst (memRead s.mem k.src k.n)
      rwa [memRead_length] at written
    · have made : k ∈ done := m.resolve_left same
      rw [← h.holds k made]
      refine memRead_congr fun i below => memByte_memWrite_other _ _ ?_
      have apart := targets (sub made) job same
      rw [memRead_length]
      unfold Beside at apart
      omega

end

/-- Steps that each make some copies make them all. -/
theorem Copied.foldl {β : Type} {s u : State} {jobs done : Set Copy} {step : State → β → State} {does : β → Set Copy} {es : List β}
    (each : ∀ e ∈ es, ∀ v made, made ⊆ jobs → Copied s jobs made v → Copied s jobs (made ∪ does e) (step v e))
    (own : ∀ e ∈ es, does e ⊆ jobs) (sub : done ⊆ jobs) (h : Copied s jobs done u) :
    Copied s jobs (done ∪ {j | ∃ e ∈ es, j ∈ does e}) (es.foldl step u) := by
  induction es generalizing u done with
  | nil => exact h.mono (by simp)
  | cons e r ih =>
    rw [List.forall_mem_cons] at each own
    obtain ⟨first, each⟩ := each
    obtain ⟨here, own⟩ := own
    refine (ih each own (Set.union_subset sub here) (first u done sub h)).mono ?_
    rintro j (made | ⟨x, inside, does⟩)
    · exact .inl (.inl made)
    · obtain rfl | later := List.mem_cons.1 inside
      · exact .inl (.inr does)
      · exact .inr ⟨x, later, does⟩

/-! ## Copies into rows of banks (R95, R97) -/

/-- The copies that bring `n` bytes to offset `off` of a row: one for each place where the row stands. -/
def rowCopies (s : State) (src p bank row off n : Nat) : Set Copy := {j | ∃ y ∈ writeTargets s p bank row, j = ⟨src, y + off, n⟩}

/-- A row write that meets no other one writes at every place of the row. -/
theorem writeRow_unmet {s : State} (free : s.zoning.evac = []) (es : List ReadError) (p bank : Nat) {row : Nat} (off : Nat)
    {bs : List TByte} (inside : row < 768) (some : bs ≠ []) :
    writeRow s ⟨es, []⟩ p bank row off bs = writePlaces off bs (writeTargets s p bank row) s := by
  have unmet : metMask ⟨es, []⟩ (rowAddress p bank row) = 0 := rfl
  unfold writeRow
  rw [if_neg (by simpa using some), if_neg (by omega)]
  dsimp only
  rw [unmet, Nat.zero_and, storeRow_direct free]
  rfl

section
variable {s u : State} {jobs done : Set Copy} (h : Copied s jobs done u) (targets : TargetsApart jobs) (sub : done ⊆ jobs)
include h targets sub

theorem Copied.writeRow (free : s.zoning.evac = []) (es : List ReadError) {src p bank row off n : Nat} {bs : List TByte}
    (inside : row < 768) (pos : 0 < n) (own : rowCopies s src p bank row off n ⊆ jobs)
    (bytes : bs.map (·.1) = memRead s.mem src n) :
    Copied s jobs (done ∪ rowCopies s src p bank row off n) (writeRow u ⟨es, []⟩ p bank row off bs) := by
  have length : bs.length = n := by rw [← List.length_map (f := (·.1)), bytes, memRead_length]
  rw [writeRow_unmet (by rw [h.zoning, free]) es p bank off inside (by rintro rfl; simp at length; omega),
    writeTargets_congr h.zoning]
  refine (h.foldl (does := fun y => {⟨src, y + off, n⟩}) (fun y place v made within before => ?_) (fun y place => ?_) sub).mono ?_
  · rw [Set.union_singleton]
    exact before.write targets within (j := ⟨src, y + off, n⟩) (own ⟨y, place, rfl⟩) bytes
  · exact Set.singleton_subset_iff.2 (own ⟨y, place, rfl⟩)
  · rintro j (made | ⟨y, place, rfl⟩)
    · exact .inl made
    · exact .inr ⟨y, place, rfl⟩

end

theorem Copied.rowHolds {s u : State} {jobs done : Set Copy} (h : Copied s jobs done u) {src p bank row off n : Nat}
    (made : rowCopies s src p bank row off n ⊆ done) : RowHolds s u p bank row off (memRead s.mem src n) := by
  intro y place
  rw [memRead_length]
  exact h.holds ⟨src, y + off, n⟩ (made ⟨y, place, rfl⟩)

/-- What is read of a part of a row. -/
theorem memRead_slice (m : List Host.Cell) (a : Nat) {n k l : Nat} (fits : k + l ≤ n) :
    ((memRead m a n).drop k).take l = memRead m (a + k) l := by
  apply List.ext_getElem
  · simp only [List.length_take, List.length_drop, memRead_length]
    omega
  · intro i _ _
    simp [memRead, rangeFrom, add_assoc]

/-- Places of different rows lie apart, so parts of them do. -/
theorem beside_of_rows {s : State} {p bank row p' bank' row' y z off n off' n' : Nat} (h : InBank p bank row)
    (h' : InBank p' bank' row') (here : y ∈ writeTargets s p bank row) (there : z ∈ writeTargets s p' bank' row')
    (fits : off + n ≤ 128) (fits' : off' + n' ≤ 128) (other : (p, bank, row) ≠ (p', bank', row')) :
    Beside (y + off) n (z + off') n' := by
  have apart : y ≠ z := by
    rintro rfl
    obtain ⟨rfl, rfl, rfl⟩ := writeTargets_inj h h' here there
    exact other rfl
  have := writeTargets_aligned here
  have := writeTargets_aligned there
  unfold Beside
  omega

end Sys2Proof.Machine

end

section
/-! PROOF. Transfers in their cycles: `COPY_BANK` and `COPY_AVENUE` (O34). -/

namespace Sys2Proof.Machine
open Sys2Proof

/-! ## The copies that transfers make -/

/-- A write of a transfer. -/
abbrev Put := Nat × Nat × Nat × Nat × Nat × Nat

namespace Put

variable (p : Put)

abbrev cycle : Nat := p.1
abbrev phys : Nat := p.2.1
abbrev bank : Nat := p.2.2.1
abbrev row : Nat := p.2.2.2.1
abbrev off : Nat := p.2.2.2.2.1
abbrev size : Nat := p.2.2.2.2.2

end Put

/-- The copies that a write of a transfer makes, each from the same part of the row that the transfer read. -/
def putCopies (s : State) (x : Transfer) (p : Put) : Set Copy :=
  rowCopies s (readTarget s x.phys x.bank x.row + p.off) p.phys p.bank p.row p.off p.size

/-- The copies of the writes that come before cycle `k`, and those of all writes. -/
def copiesBefore (s : State) (ts : List Transfer) (k : Nat) : Set Copy :=
  {j | ∃ x ∈ ts, ∃ p : Put, p ∈ x.puts ∧ p.cycle < k ∧ j ∈ putCopies s x p}
def transferCopies (s : State) (ts : List Transfer) : Set Copy := {j | ∃ x ∈ ts, ∃ p : Put, p ∈ x.puts ∧ j ∈ putCopies s x p}

/-- The writes of a transfer follow its read, and each fills one aligned unit of its row. -/
def Transfer.Sound (unit : Nat) (x : Transfer) : Prop :=
  ∀ p : Put, p ∈ x.puts → x.readAt ≤ p.cycle ∧ p.size = unit ∧ unit ∣ p.off ∧ p.off + unit ≤ 128

theorem copiesBefore_sub (s : State) (ts : List Transfer) (k : Nat) : copiesBefore s ts k ⊆ transferCopies s ts := by
  rintro j ⟨x, hx, p, hp, -, made⟩
  exact ⟨x, hx, p, hp, made⟩

section
variable {ts : List Transfer} (apart : Apart ts)
include apart

theorem apart_source {x : Transfer} (hx : x ∈ ts) : InBank x.phys x.bank x.row := by
  obtain ⟨rows, -, -⟩ := apart
  obtain ⟨row, bank, phys, -⟩ := rows x hx
  exact ⟨phys, bank, row⟩

theorem apart_target {x : Transfer} (hx : x ∈ ts) {p : Put} (hp : p ∈ x.puts) : InBank p.phys p.bank p.row := by
  obtain ⟨rows, -, -⟩ := apart
  obtain ⟨-, -, -, puts⟩ := rows x hx
  obtain ⟨row, bank, phys⟩ := puts p hp
  exact ⟨phys, bank, row⟩

/-- A part of a row is written by one write of one transfer. -/
theorem apart_unique {x x' : Transfer} (hx : x ∈ ts) (hx' : x' ∈ ts) {p p' : Put} (hp : p ∈ x.puts) (hp' : p' ∈ x'.puts)
    (row : (p.phys, p.bank, p.row) = (p'.phys, p'.bank, p'.row)) (off : p.off = p'.off) : x = x' ∧ p = p' := by
  obtain ⟨-, -, once⟩ := apart
  obtain rfl : p = p' := List.inj_on_of_nodup_map once (List.mem_flatMap.2 ⟨x, hx, hp⟩) (List.mem_flatMap.2 ⟨x', hx', hp'⟩) (by
    simp only [Prod.mk.injEq] at row ⊢
    exact ⟨row.1, row.2.1, row.2.2, off⟩)
  refine ⟨?_, rfl⟩
  by_contra differ
  obtain ⟨-, disjoint⟩ := List.nodup_flatMap.1 once.of_map
  have : Std.Symm (Function.onFun List.Disjoint Transfer.puts) := ⟨fun _ _ h => List.Disjoint.symm h⟩
  exact disjoint.forall hx hx' differ hp hp'

end

section
variable (s : State) {ts : List Transfer} {unit : Nat} (pos : 0 < unit) (sound : ∀ x ∈ ts, x.Sound unit) (apart : Apart ts)
include sound apart

/-- No two copies of the transfers meet: their rows, their units within a row, or the places of their row differ. -/
theorem transferCopies_apart : TargetsApart (transferCopies s ts) := by
  rintro j ⟨x, hx, p, hp, y, place, rfl⟩ k ⟨x', hx', p', hp', y', place', rfl⟩ differ
  obtain ⟨-, size, aligned, fits⟩ := sound x hx p hp
  obtain ⟨-, size', aligned', fits'⟩ := sound x' hx' p' hp'
  dsimp only
  rw [size, size'] at *
  by_cases row : (p.phys, p.bank, p.row) = (p'.phys, p'.bank, p'.row)
  · simp only [Prod.mk.injEq] at row
    obtain ⟨phys, bank, same⟩ := row
    rw [← phys, ← bank, ← same] at place'
    have rows := writeTargets_aligned place
    have rows' := writeTargets_aligned place'
    by_cases places : y = y'
    · subst places
      have off : p.off ≠ p'.off := by
        intro off
        obtain ⟨rfl, rfl⟩ := apart_unique apart hx hx' hp hp' (by simp [phys, bank, same]) off
        exact differ rfl
      obtain ⟨m, hm⟩ := aligned
      obtain ⟨m', hm'⟩ := aligned'
      unfold Beside
      rw [hm, hm'] at off ⊢
      obtain less | less : m + 1 ≤ m' ∨ m' + 1 ≤ m := by
        have : m ≠ m' := fun e => off (by rw [e])
        omega
      · have := Nat.mul_le_mul_left unit less
        rw [mul_add] at this
        omega
      · have := Nat.mul_le_mul_left unit less
        rw [mul_add] at this
        omega
    · unfold Beside
      omega
  · exact beside_of_rows (apart_target apart hx hp) (apart_target apart hx' hp') place place' fits fits' row

/-- No row that is read is written. -/
theorem transferCopies_besideSource {x : Transfer} (hx : x ∈ ts) :
    ∀ j ∈ transferCopies s ts, Beside j.dst j.n (readTarget s x.phys x.bank x.row) 128 := by
  rintro j ⟨x', hx', p, hp, y, place, rfl⟩
  obtain ⟨-, size, -, fits⟩ := sound x' hx' p hp
  have other : (p.phys, p.bank, p.row) ≠ (x.phys, x.bank, x.row) := apart.2.1 x hx x' hx' p hp
  refine beside_of_rows (off' := 0) (apart_target apart hx' hp) (apart_source apart hx) place (readTarget_mem ..) ?_ (by omega) other
  dsimp only
  rw [size]
  exact fits

end

/-! ## Cycle by cycle -/

/-- After the reads before cycle `r` and the writes before cycle `w`: what was read is held, and those writes have been made. -/
structure Running (s : State) (ts : List Transfer) (r w : Nat) (st : List (Transfer × List TByte) × State) : Prop where
  held : ∀ e ∈ st.1, e.1 ∈ ts ∧ e.2.map (·.1) = memRead s.mem (readTarget s e.1.phys e.1.bank e.1.row) 128
  all : ∀ x ∈ ts, x.readAt < r → ∃ bs, (x, bs) ∈ st.1
  copied : Copied s (transferCopies s ts) (copiesBefore s ts w) st.2

theorem readTarget_zoning {s t : State} (h : t.zoning = s.zoning) (p bank row : Nat) :
    readTarget t p bank row = readTarget s p bank row := by
  simp only [readTarget, remapOf, State.remapEntry, h]

/-- A transfer's read, with the transfer. -/
def readHeld (x : Transfer) (t : State) : (Transfer × List TByte) × State :=
  ((x, (readRow t x.phys x.bank x.row).1), (readRow t x.phys x.bank x.row).2)

section
variable {s : State} {ts : List Transfer} {unit : Nat} (sound : ∀ x ∈ ts, x.Sound unit) (apart : Apart ts)
include sound apart

theorem transferReads_running {k : Nat} {st : List (Transfer × List TByte) × State} (h : Running s ts k k st) :
    Running s ts (k + 1) k (transferReads k ts st) := by
  obtain ⟨held, all, copied⟩ := h
  have reads : transferReads k ts st = (st.1 ++ (ts.filter (·.readAt == k)).map fun x =>
      (x, readTagged st.2 (readTarget st.2 x.phys x.bank x.row) 128), st.2) :=
    foldl_collect (read := readHeld) (fun x m => by
      rw [readHeld, readRow_inside _ _ _ (apart_source apart (List.mem_of_mem_filter m)).row]) st.1
  rw [reads]
  refine ⟨fun e m => ?_, fun x hx before => ?_, copied⟩
  · obtain old | new := List.mem_append.1 m
    · exact held e old
    · obtain ⟨x, inside, rfl⟩ := List.mem_map.1 new
      have hx := List.mem_of_mem_filter inside
      refine ⟨hx, ?_⟩
      dsimp only
      rw [readTagged_bytes, readTarget_zoning copied.zoning]
      exact copied.memRead_beside (transferCopies_besideSource s sound apart hx)
  · by_cases now : x.readAt = k
    · exact ⟨_, List.mem_append_right _ (List.mem_map.2 ⟨x, List.mem_filter.2 ⟨hx, by simpa using now⟩, rfl⟩)⟩
    · obtain ⟨bs, m⟩ := all x hx (by omega)
      exact ⟨bs, List.mem_append_left _ m⟩

include unit in
theorem transferWrites_running (pos : 0 < unit) (free : s.zoning.evac = []) (es : List ReadError) {k : Nat}
    {st : List (Transfer × List TByte) × State} (h : Running s ts (k + 1) k st) :
    Running s ts (k + 1) (k + 1) (transferWrites ⟨es, []⟩ k st) := by
  obtain ⟨held, all, copied⟩ := h
  have targets := transferCopies_apart s sound apart
  have own {x : Transfer} (hx : x ∈ ts) {p : Put} (hp : p ∈ x.puts) : putCopies s x p ⊆ transferCopies s ts :=
    fun j m => ⟨x, hx, p, hp, m⟩
  refine ⟨held, all, ?_⟩
  refine (copied.foldl (does := fun e => {j | ∃ p : Put, p ∈ e.1.puts.filter (·.1 == k) ∧ j ∈ putCopies s e.1 p})
    (fun e m u made sub before => ?_) (fun e m j inside => ?_) (copiesBefore_sub s ts k)).mono ?_
  · obtain ⟨hx, bytes⟩ := held e m
    refine before.foldl (does := fun p => putCopies s e.1 p) (fun p m v made sub before => ?_)
      (fun p m => own hx (List.mem_of_mem_filter m)) sub
    have hp := List.mem_of_mem_filter m
    obtain ⟨-, size, -, fits⟩ := sound e.1 hx p hp
    refine before.writeRow targets sub free es (apart_target apart hx hp).row (by rw [size]; exact pos) (own hx hp) ?_
    rw [List.map_take, List.map_drop, bytes]
    exact memRead_slice _ _ (show p.off + p.size ≤ 128 by rw [size]; exact fits)
  · obtain ⟨hx, -⟩ := held e m
    obtain ⟨p, hp, inside⟩ := inside
    exact own hx (List.mem_of_mem_filter hp) inside
  · rintro j ⟨x, hx, p, hp, before, inside⟩
    obtain earlier | now : p.cycle < k ∨ p.cycle = k := by omega
    · exact .inl ⟨x, hx, p, hp, earlier, inside⟩
    · obtain ⟨follows, -⟩ := sound x hx p hp
      obtain ⟨bs, m⟩ := all x hx (by omega)
      exact .inr ⟨(x, bs), m, p, List.mem_filter.2 ⟨hp, by simpa using now⟩, inside⟩

theorem cycles_running (pos : 0 < unit) (free : s.zoning.evac = []) (es : List ReadError) (n : Nat) : Running s ts n n
    ((List.range n).foldl (fun st k => transferWrites ⟨es, []⟩ k (transferReads k ts st)) ([], s)) := by
  induction n with
  | zero => exact ⟨nofun, fun _ _ h => absurd h (Nat.not_lt_zero _), (Copied.start s _).mono fun j ⟨_, _, _, _, h, _⟩ =>
      absurd h (Nat.not_lt_zero _)⟩
  | succ n ih =>
    rw [List.range_succ, List.foldl_append]
    exact transferWrites_running sound apart pos free es (transferReads_running sound apart ih)

end

/-! ## The last cycle -/

theorem le_foldl {β : Type} {f : Nat → β → Nat} (rises : ∀ m e, m ≤ f m e) (l : List β) (m : Nat) : m ≤ l.foldl f m := by
  induction l generalizing m with
  | nil => exact le_refl m
  | cons e r ih => exact (rises m e).trans (ih _)

theorem le_foldl_of_mem {β : Type} {f : Nat → β → Nat} (rises : ∀ m e, m ≤ f m e) {l : List β} {e : β} (h : e ∈ l) {b : Nat}
    (reaches : ∀ m, b ≤ f m e) (m : Nat) : b ≤ l.foldl f m := by
  obtain ⟨before, after, rfl⟩ := List.append_of_mem h
  rw [List.foldl_append]
  exact (reaches _).trans (le_foldl rises after _)

/-- The cycle in which the last transfer ends. -/
def lastCycle (ts : List Transfer) : Nat := ts.foldl (fun m t => t.puts.foldl (fun n p => max n p.1) (max m t.readAt)) 0

theorem cycle_le_lastCycle {ts : List Transfer} {x : Transfer} (hx : x ∈ ts) {p : Put} (hp : p ∈ x.puts) :
    p.cycle ≤ lastCycle ts := by
  refine le_foldl_of_mem (fun m x => ?_) hx (fun m => ?_) 0
  · exact (le_max_left m x.readAt).trans (le_foldl (fun n (p : Put) => le_max_left n p.cycle) _ _)
  · exact le_foldl_of_mem (fun n (p : Put) => le_max_left n p.cycle) hp (fun n => le_max_right n p.cycle) _

/-! ## What transfers do -/

/-- Transfers that lie apart bring every row and beat to its places, and change no other byte. -/
theorem runTransfers_transferred {s : State} {ts : List Transfer} {unit : Nat} (sound : ∀ x ∈ ts, x.Sound unit) (apart : Apart ts)
    (pos : 0 < unit) (free : s.zoning.evac = []) (es : List ReadError) :
    Transferred s (runTransfers ⟨es, []⟩ ts s) ts ∧ BytesOnly s (runTransfers ⟨es, []⟩ ts s) := by
  obtain ⟨-, -, copied⟩ := cycles_running sound apart pos free es (lastCycle ts + 1)
  refine ⟨⟨fun x hx p hp => copied.rowHolds fun j m => ?_, fun z outside => copied.rest z ?_⟩, copied.frame⟩
  · exact ⟨x, hx, p, hp, Nat.lt_succ_of_le (cycle_le_lastCycle hx hp), m⟩
  · rintro j ⟨x, hx, p, hp, y, place, rfl⟩
    exact outside x hx p hp y place

/-- A mover's increments change registers alone. -/
theorem bumpAll_registersOnly (as : List Actor) (incs : List (Nat × Nat)) (s : State) : RegistersOnly s (bumpAll as incs s) :=
  foldl_setBlock_blocks _ as s

theorem transferred_of_mem {s u t : State} {ts : List Transfer} (h : Transferred s u ts) (m : t.mem = u.mem) :
    Transferred s t ts := by
  unfold Transferred RowHolds at *
  rw [m]
  exact h

/-- A mover operation whose transfers lie apart makes them, and then raises base registers. -/
theorem moverTransfers {s : State} {c slot sel pred : Nat} {legal : Bool} (may : StoresDirectly s c sel pred) (ok : legal = true)
    (hslot : slot < 4) (transfers : State → List Actor → List Transfer) (incs : List (Nat × Nat)) {unit : Nat} (pos : 0 < unit)
    (sound : ∀ x ∈ transfers s (actors s c sel pred), x.Sound unit) (apart : Apart (transfers s (actors s c sel pred))) :
    ∃ t, (∀ gs, moverBlocks c slot 0 sel pred legal [] gs
        (fun as u => bumpAll as incs (runTransfers ⟨[], []⟩ (transfers u as) u)) s = .next t) ∧
      Transferred s t (transfers s (actors s c sel pred)) ∧ t = { s with mem := t.mem, poison := t.poison, blocks := t.blocks } := by
  obtain ⟨acts, idle, free⟩ := may
  obtain ⟨moved, bytes⟩ := runTransfers_transferred sound apart pos free []
  have raised := bumpAll_registersOnly (actors s c sel pred) incs (runTransfers ⟨[], []⟩ (transfers s (actors s c sel pred)) s)
  refine ⟨_, fun gs => moverBlocks_next acts ok hslot (copied_of_idle idle _) _, transferred_of_mem moved ?_, ?_⟩
  · rw [raised]
  · rw [raised, bytes]

/-! ## `COPY_BANK` and `COPY_AVENUE` -/

theorem bankTransfers_sound (s : State) (d : Desc) (sbank srow dbank drow rows : Nat) (as : List Actor) :
    ∀ x ∈ bankTransfers s d sbank srow dbank drow rows as, x.Sound 128 := by
  intro x hx p hp
  obtain ⟨a, -, hx⟩ := List.mem_flatMap.1 hx
  obtain ⟨i, -, rfl⟩ := List.mem_map.1 hx
  obtain rfl := List.mem_singleton.1 hp
  exact ⟨Nat.add_le_add_left (by decide) i, rfl, dvd_zero 128, le_refl 128⟩

/-- The two beats of a row fill its halves, one after the other (R200). -/
theorem beats_sound {readAt lat j : Nat} (early : readAt ≤ lat + 2 * j + 3) (p bank row q bank' row' : Nat) (sent : Nat → Bool) :
    Transfer.Sound 64 ⟨readAt, p, bank, row, ([0, 1].filter sent).map fun h =>
      (lat + (2 * j + h) + 3, q, bank', row', 64 * h, 64)⟩ := by
  intro w hw
  obtain ⟨h, beat, rfl⟩ := List.mem_map.1 hw
  have half : h < 2 := by
    have := List.mem_of_mem_filter beat
    simp at this
    omega
  refine ⟨?_, rfl, Dvd.intro h rfl, ?_⟩
  · show readAt ≤ lat + (2 * j + h) + 3
    omega
  · show 64 * h + 64 ≤ 128
    omega

/-- A beat arrives after its row was read, whether pushed or pulled. -/
theorem avenueTransfers_sound (s : State) (x : Ctx) (d : Desc) {dir : Nat} (delta lbank lrow rbank rrow beats : Nat) {lat : Nat}
    (far : (if dir = 0 then 8 else 16) ≤ lat) (as : List Actor) :
    ∀ y ∈ avenueTransfers s x d dir delta lbank lrow rbank rrow beats lat as, y.Sound 64 := by
  intro y hy
  obtain ⟨a, -, hy⟩ := List.mem_flatMap.1 hy
  split at hy
  · cases hy
  · obtain ⟨j, -, rfl⟩ := List.mem_map.1 hy
    by_cases push : dir = 0
    · simp only [if_pos push] at far ⊢
      refine beats_sound ?_ _ _ _ _ _ _ _
      omega
    · simp only [if_neg push] at far ⊢
      refine beats_sound ?_ _ _ _ _ _ _ _
      omega

end Sys2Proof.Machine

open Sys2Proof Sys2Proof.Machine

/-- Settles O34: the transfers of either operation are sound, so what each reads reaches its places. -/
theorem bankAndAvenueCopies : Obligations.BankAndAvenueCopies := by
  intro s c slot sel pred sbank srow dbank drow rows postinc dir delta lbank lrow rbank rrow beats lat may hslot
  refine ⟨fun hsbank hsrow hdbank hdrow hrows hpostinc apart => ?_,
    fun hdir hdelta hdelta' hlbank hlrow hrbank hrrow hbeats hlat far hpostinc apart => ?_⟩
  · have legal : (decide (sbank < 16) && decide (srow < 64) && decide (dbank < 16) && decide (drow < 64) && decide (rows < 256) &&
        decide (postinc < 4)) = true := by simp [hsbank, hsrow, hdbank, hdrow, hrows, hpostinc]
    obtain ⟨t, e, moved⟩ := moverTransfers may legal hslot
      (fun u as => bankTransfers u ((s.ctx c).desc sel) sbank srow dbank drow rows as)
      [(((s.ctx c).desc sel).selA, if bit postinc 1 then rows else 0), (((s.ctx c).desc sel).selOut, if bit postinc 0 then rows else 0)]
      (by decide) (bankTransfers_sound _ _ _ _ _ _ _ _) apart
    have run : execCopyBank c slot 0 sel pred sbank srow dbank drow rows postinc ⟨[], []⟩ s = .next t := by
      dsimp only [execCopyBank]
      exact e _
    exact ⟨t, run, moved⟩
  · have legal : (decide (dir < 2) && decide (0 < delta) && decide (delta < 2 ^ 11) && decide (lbank < 16) && decide (lrow < 64) &&
        decide (rbank < 16) && decide (rrow < 64) && decide (beats < 256) && decide (lat < 128) &&
        decide ((if dir = 0 then 8 else 16) ≤ lat) && decide (postinc < 2)) = true := by
      simp [-Nat.reducePow, hdir, hdelta, hdelta', hlbank, hlrow, hrbank, hrrow, hbeats, hlat, far, hpostinc]
    obtain ⟨t, e, moved⟩ := moverTransfers may legal hslot
      (fun u as => avenueTransfers u (s.ctx c) ((s.ctx c).desc sel) dir delta lbank lrow rbank rrow beats lat as)
      [(if dir = 0 then ((s.ctx c).desc sel).selA else ((s.ctx c).desc sel).selOut, if postinc = 1 then ceilDiv beats 2 else 0)]
      (by decide) (avenueTransfers_sound s _ _ _ _ _ _ _ _ far _) apart
    have run : execCopyAvenue c slot 0 sel pred dir delta lbank lrow rbank rrow beats lat postinc ⟨[], []⟩ s = .next t := by
      dsimp only [execCopyAvenue]
      exact e _
    exact ⟨t, run, moved⟩

end

section
/-! PROOF. `COPY_SQUARE`, `COPY_BEDROCK` and `COPY_SB` (O35). -/

namespace Sys2Proof.Machine
open Sys2Proof

/-! ## Ranks (R197) -/

/-- A selected block is the one at its rank among the selected blocks. -/
theorem mem_selectedActors {x : Ctx} {sel : Nat} {a : Actor} (h : a ∈ selectedActors x sel) :
    (x.desc sel).selected[a.rank]? = some a.logical ∧ x.phys a.logical = some a.phys := by
  obtain ⟨⟨l, r⟩, inside, bound⟩ := List.mem_filterMap.1 h
  rw [Option.map_eq_some_iff] at bound
  obtain ⟨p, phys, rfl⟩ := bound
  rw [List.mem_zipIdx_iff_getElem?] at inside
  exact ⟨inside, phys⟩

theorem rank_inj {x : Ctx} {sel : Nat} {a b : Actor} (ha : a ∈ selectedActors x sel) (hb : b ∈ selectedActors x sel)
    (e : a.rank = b.rank) : a = b := by
  obtain ⟨logical, phys⟩ := mem_selectedActors ha
  obtain ⟨logical', phys'⟩ := mem_selectedActors hb
  rw [e, logical', Option.some.injEq] at logical
  rw [← logical, phys', Option.some.injEq] at phys
  cases a
  cases b
  simp_all

theorem rank_lt {x : Ctx} {sel : Nat} {a : Actor} (h : a ∈ selectedActors x sel) : a.rank < 1024 := by
  obtain ⟨logical, -⟩ := mem_selectedActors h
  obtain ⟨below, -⟩ := List.getElem?_eq_some_iff.1 logical
  have few : (x.desc sel).selected.length ≤ 1024 := (List.length_filter_le _ _).trans (by simp)
  omega

theorem actors_selected {s : State} {c sel pred : Nat} {a : Actor} (h : a ∈ actors s c sel pred) :
    a ∈ selectedActors (s.ctx c) sel := by
  rw [actors, List.mem_filter] at h
  exact h.1

/-! ## Buffers outside the stash overflow (R255) -/

theorem readBuffer_plain {b : Buffer} (plain : b.cls ≠ 5) (s : State) (c off n : Nat) :
    readBuffer s c b off n = (readTagged s (b.address + off) n, s) := by
  simp [readBuffer, bufferAddress, countStash, plain]

theorem writeBuffer_plain {b : Buffer} (plain : b.cls ≠ 5) (s : State) (c off : Nat) (bs : List TByte) :
    writeBuffer s c b off bs = writeTagged s (b.address + off) bs := by
  simp [writeBuffer, bufferAddress, plain]

/-! ## Rows and buffers -/

/-- Where row `i` of a block's part of a buffer stands (R197). -/
def bufferPlace (b : Buffer) (offset rows : Nat) (a : Actor) (i : Nat) : Nat := b.address + 4096 * offset + 128 * (a.rank * rows + i)

/-- The rows of a buffer that a copy names lie in the Square's slabs or in Bedrock. -/
structure InBuffers (b : Buffer) (offset rows : Nat) : Prop where
  low : squareBase ≤ b.address
  high : b.address + 4096 * offset + 128 * (1024 * rows) ≤ bedrockEnd

section
variable {b : Buffer} {offset rows i : Nat} {a : Actor}

theorem bufferPlace_bounds (h : InBuffers b offset rows) (rank : a.rank < 1024) (hi : i < rows) :
    squareBase ≤ bufferPlace b offset rows a i ∧ bufferPlace b offset rows a i + 128 ≤ bedrockEnd := by
  obtain ⟨low, high⟩ := h
  have part : (a.rank + 1) * rows ≤ 1024 * rows := Nat.mul_le_mul_right rows rank
  rw [add_mul, one_mul] at part
  unfold bufferPlace
  omega

/-- No place of a bank row meets the buffers. -/
theorem row_beside_buffer {s : State} {p bank row y : Nat} (inside : InBank p bank row) (place : y ∈ writeTargets s p bank row)
    (h : InBuffers b offset rows) (rank : a.rank < 1024) (hi : i < rows) : Beside y 128 (bufferPlace b offset rows a i) 128 := by
  obtain ⟨low, high⟩ := bufferPlace_bounds h rank hi
  obtain ⟨hp, hb, hr⟩ := inside
  unfold squareBase at low
  unfold bedrockEnd at high
  unfold Beside
  obtain rfl | ⟨k, -, rfl, -⟩ := mem_writeTargets place
  · unfold rowAddress windowBytes bankBytes
    omega
  · have := le_spareAddress p bank k
    omega

/-- Different rows of a buffer do not meet. -/
theorem bufferPlace_beside {b : Buffer} {offset rows i i' : Nat} {a a' : Actor}
    (differ : a.rank * rows + i ≠ a'.rank * rows + i') :
    Beside (bufferPlace b offset rows a i) 128 (bufferPlace b offset rows a' i') 128 := by
  unfold Beside bufferPlace
  omega

theorem rank_row_inj {r r' : Nat} {i' : Nat} (hi : i < rows) (hi' : i' < rows) (e : r * rows + i = r' * rows + i') :
    r = r' ∧ i = i' := by
  have quotient (q : Nat) {j : Nat} (hj : j < rows) : (q * rows + j) / rows = q := by
    rw [Nat.mul_comm, Nat.mul_add_div (by omega), Nat.div_eq_of_lt hj, add_zero]
  obtain rfl : r = r' := by rw [← quotient r hi, e, quotient r' hi']
  exact ⟨rfl, by omega⟩

end

/-! ## A copy of rows between banks and a buffer -/

/-- The copies of all rows of all blocks. -/
def gridCopies (rows : Nat) (as : List Actor) (does : Nat → Actor → Set Copy) : Set Copy :=
  {j | ∃ i < rows, ∃ a ∈ as, j ∈ does i a}

theorem moveRows_copied {s : State} {as : List Actor} {does : Nat → Actor → Set Copy} {rows : Nat} {step : Nat → Actor → State → State}
    (each : ∀ i < rows, ∀ a ∈ as, ∀ v made, made ⊆ gridCopies rows as does → Copied s (gridCopies rows as does) made v →
      Copied s (gridCopies rows as does) (made ∪ does i a) (step i a v)) :
    Copied s (gridCopies rows as does) (gridCopies rows as does)
      ((List.range rows).foldl (fun u i => as.foldl (fun v a => step i a v) u) s) := by
  refine ((Copied.start s _).foldl (does := fun i => {j | ∃ a ∈ as, j ∈ does i a}) (fun i inside u made sub before => ?_)
    (fun i inside j m => ?_) (Set.empty_subset _)).mono ?_
  · have hi := List.mem_range.1 inside
    exact before.foldl (fun a acts => each i hi a acts) (fun a acts j m => ⟨i, hi, a, acts, m⟩) sub
  · obtain ⟨a, acts, m⟩ := m
    exact ⟨i, List.mem_range.1 inside, a, acts, m⟩
  · rintro j ⟨i, hi, a, acts, m⟩
    exact .inr ⟨i, List.mem_range.2 hi, a, acts, m⟩

/-- The state in which every row of a copy has been moved. -/
def movedRows (s : State) (c sel pred dir bank row : Nat) (b : Buffer) (offset rows : Nat) : State :=
  (List.range rows).foldl (fun u i => (actors s c sel pred).foldl (fun v a =>
    moveRow c ((s.ctx c).desc sel) dir bank row b offset rows i ⟨[], []⟩ a v) u) s

section
variable {s : State} {c sel pred bank row offset rows : Nat} {b : Buffer} (may : StoresDirectly s c sel pred) (hbank : bank < 16)
  (plain : b.cls ≠ 5) (buffers : InBuffers b offset rows)

/-- The copy of a row to the buffer, and those of a row of the buffer to the places of its bank row. -/
def toBuffer (s : State) (c sel bank row : Nat) (b : Buffer) (offset rows i : Nat) (a : Actor) : Set Copy :=
  {⟨readTarget s a.phys bank (inRow s c sel (row + i) a), bufferPlace b offset rows a i, 128⟩}
def fromBuffer (s : State) (c sel bank row : Nat) (b : Buffer) (offset rows i : Nat) (a : Actor) : Set Copy :=
  rowCopies s (bufferPlace b offset rows a i) a.phys bank (outRow s c sel (row + i) a) 0 128

theorem toBuffer_apart : TargetsApart (gridCopies rows (actors s c sel pred) (toBuffer s c sel bank row b offset rows)) := by
  rintro _ ⟨i, hi, a, acts, rfl⟩ _ ⟨i', hi', a', acts', rfl⟩ differ
  refine bufferPlace_beside fun e => differ ?_
  obtain ⟨rank, rfl⟩ := rank_row_inj hi hi' e
  rw [rank_inj (actors_selected acts) (actors_selected acts') rank]

include may hbank plain buffers

theorem moveRow_toBuffer (inside : ∀ a ∈ actors s c sel pred, ∀ i, i < rows → inRow s c sel (row + i) a < 768) :
    let jobs := gridCopies rows (actors s c sel pred) (toBuffer s c sel bank row b offset rows)
    Copied s jobs jobs (movedRows s c sel pred 0 bank row b offset rows) := by
  obtain ⟨⟨-, -, -, -, -, square⟩, -, -⟩ := may
  refine moveRows_copied (step := fun i a v => moveRow c ((s.ctx c).desc sel) 0 bank row b offset rows i ⟨[], []⟩ a v)
    fun i hi a acts v made sub before => ?_
  have moved : moveRow c ((s.ctx c).desc sel) 0 bank row b offset rows i ⟨[], []⟩ a v = writeTagged v (bufferPlace b offset rows a i)
      (readTagged v (readTarget s a.phys bank (inRow s c sel (row + i) a)) 128) := by
    have exist := inside a acts i hi
    unfold inRow at exist ⊢
    rw [moveRow, before.block, readRow_inside _ _ _ exist, writeBuffer_plain plain, readTarget_zoning before.zoning, bufferPlace,
      if_pos rfl, ← add_assoc]
  rw [moved, toBuffer, Set.union_singleton]
  refine before.write toBuffer_apart sub (j := ⟨_, _, 128⟩) ⟨i, hi, a, acts, rfl⟩ ?_
  rw [readTagged_bytes]
  refine before.memRead_beside ?_
  rintro _ ⟨i', hi', a', acts', rfl⟩
  exact (row_beside_buffer ⟨square a acts, hbank, inside a acts i hi⟩ (readTarget_mem ..) buffers (rank_lt (actors_selected acts'))
    hi').symm

theorem moveRow_fromBuffer (inside : ∀ a ∈ actors s c sel pred, ∀ i, i < rows → outRow s c sel (row + i) a < 768)
    (once : ∀ a ∈ actors s c sel pred, ((List.range rows).map fun i => outRow s c sel (row + i) a).Nodup) :
    let jobs := gridCopies rows (actors s c sel pred) (fromBuffer s c sel bank row b offset rows)
    Copied s jobs jobs (movedRows s c sel pred 1 bank row b offset rows) := by
  obtain ⟨⟨-, -, -, -, distinct, square⟩, -, free⟩ := may
  have targets : TargetsApart (gridCopies rows (actors s c sel pred) (fromBuffer s c sel bank row b offset rows)) := by
    rintro _ ⟨i, hi, a, acts, y, place, rfl⟩ _ ⟨i', hi', a', acts', y', place', rfl⟩ differ
    have rows_apart : y ≠ y' := by
      rintro rfl
      obtain ⟨phys, -, row⟩ := writeTargets_inj ⟨square a acts, hbank, inside a acts i hi⟩
        ⟨square a' acts', hbank, inside a' acts' i' hi'⟩ place place'
      obtain rfl := List.inj_on_of_nodup_map distinct acts acts' phys
      obtain rfl := List.inj_on_of_nodup_map (once a acts) (List.mem_range.2 hi) (List.mem_range.2 hi') row
      exact differ rfl
    have := writeTargets_aligned place
    have := writeTargets_aligned place'
    unfold Beside
    dsimp only
    omega
  refine moveRows_copied (step := fun i a v => moveRow c ((s.ctx c).desc sel) 1 bank row b offset rows i ⟨[], []⟩ a v)
    fun i hi a acts v made sub before => ?_
  have moved : moveRow c ((s.ctx c).desc sel) 1 bank row b offset rows i ⟨[], []⟩ a v =
      writeRow v ⟨[], []⟩ a.phys bank (outRow s c sel (row + i) a) 0 (readTagged v (bufferPlace b offset rows a i) 128) := by
    rw [moveRow, before.block, readBuffer_plain plain, bufferPlace, if_neg (by decide), ← add_assoc]
    rfl
  rw [moved]
  refine before.writeRow targets sub free [] (inside a acts i hi) (by decide) (fun j m => ⟨i, hi, a, acts, m⟩) ?_
  rw [readTagged_bytes]
  refine before.memRead_beside ?_
  rintro _ ⟨i', hi', a', acts', y, place, rfl⟩
  exact row_beside_buffer ⟨square a' acts', hbank, inside a' acts' i' hi'⟩ place buffers (rank_lt (actors_selected acts)) hi

end

/-- A copy of rows that may issue moves them all, and then raises a base register. -/
theorem moveRows_next {s : State} {c slot sel pred dir bank row buffer offset rows postinc : Nat}
    (may : StoresDirectly s c sel pred) (hslot : slot < 4) (hdir : dir < 2) (hbank : bank < 16) (hrow : row < 64)
    (hbuffer : buffer < 4096) (hoffset : offset < 2 ^ 14) (hrows : rows < 256) (hpostinc : postinc < 2) :
    ∃ t, moveRows c slot 0 sel pred dir bank row buffer offset rows postinc ⟨[], []⟩ s = .next t ∧
      RegistersOnly (movedRows s c sel pred dir bank row ((s.ctx c).buffer buffer) offset rows) t := by
  obtain ⟨acts, idle, -⟩ := may
  have legal : (decide (dir < 2) && decide (bank < 16) && decide (row < 64) && decide (buffer < 4096) && decide (offset < 2 ^ 14) &&
      decide (rows < 256) && decide (postinc < 2)) = true := by
    simp [-Nat.reducePow, hdir, hbank, hrow, hbuffer, hoffset, hrows, hpostinc]
  unfold moveRows
  dsimp only
  rw [moverBlocks_next acts legal hslot (copied_of_idle idle _)]
  exact ⟨_, rfl, bumpAll_registersOnly _ _ _⟩

/-! ## Units between buffers -/

/-- What is read alike is alike, byte by byte. -/
theorem memByte_of_memRead {m m' : List Host.Cell} {a b n i : Nat} (h : memRead m a n = memRead m' b n) (hi : i < n) :
    memByte m (a + i) = memByte m' (b + i) := by
  have same := congrArg (·[i]?) h
  simpa [memRead, rangeFrom, hi] using same

/-- The copy of unit `k` of a range. -/
def unitCopy (src dst k : Nat) : Copy := ⟨src + 4096 * k, dst + 4096 * k, 4096⟩

/-- The copies of all units. -/
def unitCopies (src dst length : Nat) : Set Copy := {j | ∃ k < length, j = unitCopy src dst k}

section
variable {s : State} {src dst length : Nat} {step : State → Nat → State}

/-- Units of 4 KiB copied one after another to a range beside their source. -/
theorem copyUnits (apart : Beside dst (4096 * length) src (4096 * length))
    (steps : ∀ v, ∀ k < length, step v k = writeTagged v (dst + 4096 * k) (readTagged v (src + 4096 * k) 4096)) :
    let t := (List.range length).foldl step s
    BytesOnly s t ∧ (∀ i, i < 4096 * length → memByte t.mem (dst + i) = memByte s.mem (src + i)) ∧
      MemoryKeptBut s t dst (4096 * length) := by
  have jobs_apart : TargetsApart (unitCopies src dst length) := by
    rintro _ ⟨k, hk, rfl⟩ _ ⟨k', hk', rfl⟩ differ
    have other : k ≠ k' := fun e => differ (by rw [e])
    unfold Beside unitCopy
    dsimp only
    omega
  have own (k : Nat) (inside : k ∈ List.range length) : {unitCopy src dst k} ⊆ unitCopies src dst length :=
    Set.singleton_subset_iff.2 ⟨k, List.mem_range.1 inside, rfl⟩
  have each (k : Nat) (inside : k ∈ List.range length) (v : State) (made : Set Copy) (sub : made ⊆ unitCopies src dst length)
      (before : Copied s (unitCopies src dst length) made v) :
      Copied s (unitCopies src dst length) (made ∪ {unitCopy src dst k}) (step v k) := by
    have hk := List.mem_range.1 inside
    rw [steps v k hk, Set.union_singleton]
    refine before.write jobs_apart sub (j := unitCopy src dst k) ⟨k, hk, rfl⟩ ?_
    rw [readTagged_bytes]
    refine before.memRead_beside ?_
    rintro _ ⟨k', hk', rfl⟩
    unfold Beside at apart ⊢
    unfold unitCopy
    dsimp only
    omega
  have copied := (Copied.start s _).foldl each own (Set.empty_subset _)
  refine ⟨copied.frame, fun i hi => ?_, fun x outside => copied.rest x ?_⟩
  · have unit := copied.holds (unitCopy src dst (i / 4096))
      (.inr ⟨i / 4096, List.mem_range.2 (by omega), rfl⟩)
    have byte := memByte_of_memRead unit (Nat.mod_lt i (by decide : 0 < 4096))
    rwa [unitCopy, add_assoc, add_assoc, Nat.div_add_mod] at byte
  · rintro _ ⟨k, hk, rfl⟩
    unfold unitCopy
    dsimp only
    omega

end

/-- A copy between buffers that may issue and waits for no granule copies its units. -/
theorem execCopySb_next {s : State} {c slot dir sq sqOffset br brOffset length : Nat} (run : s.running c = true)
    (idle : (s.cairnOf c).copying = none) (hslot : slot < 4) (hdir : dir < 2) (hsq : sq < 4096) (hsqOffset : sqOffset < 256)
    (hbr : br < 4096) (hbrOffset : brOffset < 512) (hlength : length < 256) :
    let a := (s.ctx c).buffer sq
    let b := (s.ctx c).buffer br
    execCopySb c slot 0 dir sq sqOffset br brOffset length ⟨[], []⟩ s = .next ((List.range length).foldl (fun u j =>
      if dir = 0 then writeBuffer u c b (65536 * brOffset + 4096 * j) (readBuffer u c a (65536 * sqOffset + 4096 * j) 4096).1
      else writeBuffer (readBuffer u c b (65536 * brOffset + 4096 * j) 4096).2 c a (65536 * sqOffset + 4096 * j)
        (readBuffer u c b (65536 * brOffset + 4096 * j) 4096).1) s) := by
  have legal : (decide (dir < 2) && decide (sq < 4096) && decide (sqOffset < 256) && decide (br < 4096) && decide (brOffset < 512) &&
      decide (length < 256) && standbyListed s c slot 0) = true := by
    simp [hdir, hsq, hsqOffset, hbr, hbrOffset, hlength, standbyListed, hslot]
  have acts : standbyActs s c slot 0 = true := rfl
  rw [execCopySb, run, legal, acts, if_neg Bool.noConfusion, if_neg Bool.noConfusion, if_neg Bool.noConfusion, whenCopied_free (copied_of_idle idle _)]
  rfl

end Sys2Proof.Machine

open Sys2Proof Sys2Proof.Machine

/-- Settles O35: banks and buffers do not meet, and neither do the rows of a buffer, so each row and each unit stands where it was brought. -/
theorem bufferCopies : Obligations.BufferCopies := by
  intro s c slot sel pred dir bank row buffer offset rows postinc sq sqOffset br brOffset length may hslot hdir
  refine ⟨fun hbank hrow hbuffer hoffset hrows hpostinc plain low high inside once => ?_,
    fun hsq hsqOffset hbr hbrOffset hlength plain plain' apart => ?_⟩
  · intro at' command either
    obtain ⟨t, next, raised⟩ := moveRows_next may hslot hdir hbank hrow hbuffer hoffset hrows hpostinc
    have mem : t.mem = (movedRows s c sel pred dir bank row ((s.ctx c).buffer buffer) offset rows).mem := by rw [raised]
    have run : exec command s = moveRows c slot 0 sel pred dir bank row buffer offset rows postinc ⟨[], []⟩ s := by
      simp only [List.mem_cons, List.not_mem_nil, or_false] at either
      obtain rfl | rfl := either <;> rfl
    refine ⟨t, run.trans next, ?_⟩
    rw [mem]
    obtain rfl | rfl : dir = 0 ∨ dir = 1 := by omega
    · have copied := moveRow_toBuffer may hbank plain ⟨low, high⟩ inside
      refine ⟨by rw [raised, copied.frame], fun _ => ⟨fun a acts i hi => ?_, fun x outside => copied.rest x ?_⟩, nofun⟩
      · exact copied.holds ⟨_, _, 128⟩ ⟨i, hi, a, acts, rfl⟩
      · rintro _ ⟨i, hi, a, acts, rfl⟩
        exact outside a acts i hi
    · have copied := moveRow_fromBuffer may hbank plain ⟨low, high⟩ inside once
      refine ⟨by rw [raised, copied.frame], nofun, fun _ => ⟨fun a acts i hi => ?_, fun x outside => copied.rest x ?_⟩⟩
      · exact RowHolds.congr rfl mem (copied.rowHolds fun j m => ⟨i, hi, a, acts, m⟩)
      · rintro _ ⟨i, hi, a, acts, y, place, rfl⟩
        exact outside a acts i hi y place
  · obtain ⟨⟨run, -⟩, idle, -⟩ := may
    have next := execCopySb_next run idle hslot hdir hsq hsqOffset hbr hbrOffset hlength
    refine ⟨_, next, ?_⟩
    obtain rfl | rfl : dir = 0 ∨ dir = 1 := by omega
    · obtain ⟨frame, units, kept⟩ := copyUnits (s := s) (step := fun u j => writeBuffer u c ((s.ctx c).buffer br)
        (65536 * brOffset + 4096 * j) (readBuffer u c ((s.ctx c).buffer sq) (65536 * sqOffset + 4096 * j) 4096).1) apart.symm
        fun v k hk => by rw [readBuffer_plain plain, writeBuffer_plain plain', ← add_assoc, ← add_assoc]
      exact ⟨frame, fun _ => ⟨units, kept⟩, nofun⟩
    · obtain ⟨frame, units, kept⟩ := copyUnits (s := s) (step := fun u j =>
        writeBuffer (readBuffer u c ((s.ctx c).buffer br) (65536 * brOffset + 4096 * j) 4096).2 c ((s.ctx c).buffer sq)
          (65536 * sqOffset + 4096 * j) (readBuffer u c ((s.ctx c).buffer br) (65536 * brOffset + 4096 * j) 4096).1) apart
        fun v k hk => by rw [readBuffer_plain plain', writeBuffer_plain plain, ← add_assoc, ← add_assoc]
      exact ⟨frame, nofun, fun _ => ⟨units, kept⟩⟩

end

section
/-! PROOF. Contributions to a Plaza and drains of its registers (O36). -/

namespace Sys2Proof.Machine
open Sys2Proof

/-! ## `PLAZA_SEND` (R204, R228) -/

/-- What a block contributes: 16 lanes of a half of its row. -/
def contribution (s : State) (c sel bank row half : Nat) (a : Actor) : Contribution :=
  let l := lanesOf 16 (((readTagged s (readTarget s a.phys bank (inRow s c sel row a)) 128).drop (64 * half)).take 64)
  ⟨l.map (·.bits), l.any (·.poison)⟩

/-- What the blocks of a list contribute, each under the key of its slot. -/
def contributions (s : State) (c sel plaza slotBase bank row half sum : Nat) (as : List Actor) : List (Nat × Contribution) :=
  as.map fun a => (plazaKey plaza sum (slotBase + a.rank), contribution s c sel bank row half a)

/-- Contributions of blocks whose rows exist set one key of the Plazas' table each. -/
theorem foldl_contribute {s : State} {c sel bank row : Nat} {as : List Actor} (inside : ∀ a ∈ as, inRow s c sel row a < 768)
    (plaza slotBase half sum : Nat) (m : List (Nat × Contribution)) :
    as.foldl (fun t a => contribute c sel plaza slotBase bank row half sum a t) { s with plaza := m } =
      { s with plaza := ksets m (contributions s c sel plaza slotBase bank row half sum as) } := by
  induction as generalizing m with
  | nil => rfl
  | cons a r ih =>
    rw [List.forall_mem_cons] at inside
    obtain ⟨here, inside⟩ := inside
    have first : contribute c sel plaza slotBase bank row half sum a { s with plaza := m } =
        { s with plaza := kset m (plazaKey plaza sum (slotBase + a.rank)) (contribution s c sel bank row half a) } := by
      have row_inside : (({ s with plaza := m } : State).block a.phys).rowOf ((({ s with plaza := m } : State).ctx c).desc sel).selA
          row < 768 := here
      unfold contribute
      rw [readRow_inside _ _ _ row_inside]
      rfl
    rw [List.foldl_cons, first, ih inside]
    rfl

theorem plazaKey_inj (plaza sum : Nat) {i j : Nat} (e : plazaKey plaza sum i = plazaKey plaza sum j) : i = j := by
  unfold plazaKey at e
  omega

/-- No two blocks have one rank, so each one's contribution stands under its key. -/
theorem contributions_stand (s : State) {c sel pred : Nat} (plaza slotBase bank row half sum : Nat) (m : List (Nat × Contribution))
    {a : Actor} (acts : a ∈ actors s c sel pred) :
    kfind (ksets m (contributions s c sel plaza slotBase bank row half sum (actors s c sel pred)))
      (plazaKey plaza sum (slotBase + a.rank)) = some (contribution s c sel bank row half a) := by
  have mem : (plazaKey plaza sum (slotBase + a.rank), contribution s c sel bank row half a) ∈
      contributions s c sel plaza slotBase bank row half sum (actors s c sel pred) :=
    List.mem_map_of_mem (f := fun a : Actor => (plazaKey plaza sum (slotBase + a.rank), contribution s c sel bank row half a)) acts
  refine kfind_ksets_mem mem (fun w inside => ?_) m
  rw [contributions] at inside
  obtain ⟨b, acts', e⟩ := List.mem_map.1 inside
  rw [Prod.mk.injEq] at e
  obtain ⟨key, rfl⟩ := e
  rw [rank_inj (actors_selected acts') (actors_selected acts) (Nat.add_left_cancel (plazaKey_inj plaza sum key))]

theorem contributions_other {s : State} {c sel plaza slotBase sum k : Nat} {as : List Actor}
    (other : ∀ a ∈ as, k ≠ plazaKey plaza sum (slotBase + a.rank)) (bank row half : Nat) (m : List (Nat × Contribution)) :
    kfind (ksets m (contributions s c sel plaza slotBase bank row half sum as)) k = kfind m k := by
  refine kfind_ksets_other (fun e inside => ?_) m
  obtain ⟨a, acts, rfl⟩ := List.mem_map.1 inside
  exact (other a acts).symm

/-- A send that finds room in the Plaza's slack makes the contributions of its acting blocks. -/
theorem execPlazaSend_next {s : State} {c sel pred plaza pl slotBase bank row half sum : Nat} (may : MayAct s c sel pred)
    (bound : kfind (s.ctx c).plazas plaza = some pl) (hplaza : plaza < 16) (hbase : slotBase < 64)
    (slots : slotBase + (selectedActors (s.ctx c) sel).length ≤ 64) (hbank : bank < 16) (hrow : row < 64) (hhalf : half < 2)
    (hsum : sum < 64) (room : slackUsed s pl + (selectedActors (s.ctx c) sel).length ≤ 64) :
    execPlazaSend c plaza sel pred slotBase bank row half sum ⟨[], []⟩ s = .next ((actors s c sel pred).foldl
      (fun t a => contribute c sel pl slotBase bank row half sum a t) s) := by
  obtain ⟨run, valid, small, low, -, -⟩ := may
  have legal : (headerOk s c sel pred && decide (plaza < 16) && decide (slotBase < 64) &&
      decide (slotBase + (selectedActors (s.ctx c) sel).length ≤ 64) && decide (bank < 16) && decide (row < 64) && decide (half < 2) &&
      decide (sum < 64)) = true := by
    simp [headerOk, valid, small, low, hplaza, hbase, slots, hbank, hrow, hhalf, hsum]
  unfold execPlazaSend
  dsimp only
  rw [run, legal, bound, if_neg Bool.noConfusion, if_neg Bool.noConfusion]
  exact if_neg (by omega)

/-! ## `PLAZA_DRAIN` (R228, R230) -/

/-- A descriptor that selects one block has at most one acting block. -/
theorem actors_alone {s : State} {c sel : Nat} (one : ((s.ctx c).desc sel).selected.length = 1) (pred : Nat) :
    actors s c sel pred = [] ∨ ∃ a, actors s c sel pred = [a] := by
  have few : (actors s c sel pred).length ≤ 1 := by
    refine (List.length_filter_le _ _).trans ((List.length_filterMap_le _ _).trans ?_)
    rw [List.length_zipIdx, one]
  generalize actors s c sel pred = as at few ⊢
  match as, few with
  | [], _ => exact .inl rfl
  | [a], _ => exact .inr ⟨a, rfl⟩

section
variable (s : State) (plaza sum : Nat)

/-- The sums of a register, lane by lane, and the lanes that a drain stores. -/
def drainSums : List LaneResult := (List.range 16).map (plazaSum (plazaSlots s plaza sum))
def drainLanes : List Lane :=
  (drainSums s plaza sum).map fun y => ⟨BitVec.ofNat 32 y.value, (plazaSlots s plaza sum).any (·.poison)⟩

theorem leBytes_mod (n v : Nat) : leBytes n (v % 2 ^ (8 * n)) = leBytes n v := by
  induction n generalizing v with
  | zero => rfl
  | succ n ih =>
    have low : BitVec.ofNat 8 (v % 2 ^ (8 * (n + 1))) = BitVec.ofNat 8 v := by
      apply BitVec.eq_of_toNat_eq
      rw [BitVec.toNat_ofNat, BitVec.toNat_ofNat]
      exact Nat.mod_mod_of_dvd v (pow_dvd_pow 2 (by omega))
    have high : v % 2 ^ (8 * (n + 1)) / 256 = v / 256 % 2 ^ (8 * n) := by
      rw [show 8 * (n + 1) = 8 + 8 * n by ring, pow_add]
      exact Nat.mod_mul_right_div_self v (2 ^ 8) (2 ^ (8 * n))
    rw [leBytes, leBytes, low, high, ih]

/-- The bytes stored are those of the sums in ascending slot order. -/
theorem drainLanes_bytes : (laneBytes (drainLanes s plaza sum)).map (·.1) =
    (List.range 16).flatMap fun l => leBytes 4 (plazaSum (plazaSlots s plaza sum) l).value := by
  have word (v : Nat) : leBytes 4 (BitVec.ofNat 32 v).toNat = leBytes 4 v := leBytes_mod 4 v
  rw [laneBytes_bytes, bytesOf, drainLanes, drainSums, List.flatMap_map, List.flatMap_map]
  simp only [word]

theorem drainLanes_length : (laneBytes (drainLanes s plaza sum)).length = 64 := by
  rw [laneBytes_length, drainLanes, drainSums, List.length_map, List.length_map, List.length_range]

/-- A drain of an empty register is counted (R230). -/
def drainCounted : State := if (plazaSlots s plaza sum).isEmpty then s.dcount 0x5040 5 1 else s

/-- The arithmetic flags of the sums are set in block `p` (R231). -/
def drainFlagged (p : Nat) : State := (drainCounted s plaza sum).arith p (Events.all ((drainSums s plaza sum).map (·.events)))

/-- What a drain into block `p` records before it stores: with the above, poison that it meets. -/
def drainRecords (c p : Nat) : State :=
  if (plazaSlots s plaza sum).any (·.poison) then
    ((drainFlagged s plaza sum p).record 0x5040 2 [(6, 1)] none).record 0x50E0 2 [(2, 1)] (some (poisonCase 2 c 1 plaza))
  else drainFlagged s plaza sum p

/-- The entries that a drain may change. -/
def drainAreas : List Nat := [0x5010, 0x5021, 0x5040, 0x50D0, 0x50E0]

theorem drainCounted_recordOnly : RecordOnly s (drainCounted s plaza sum) := by
  unfold drainCounted
  split
  · exact dcount_recordOnly ..
  · exact .refl s

theorem drainCounted_indexKept : IndexKept s (drainCounted s plaza sum) [0x5040] := by
  unfold drainCounted
  split
  · exact dcount_indexKept _ _ _ (by decide)
  · exact .refl s _

theorem drainFlagged_blocksOnly (p : Nat) : BlocksOnly s (drainFlagged s plaza sum p) drainAreas [p] := by
  have counted : BlocksOnly s (drainCounted s plaza sum) [0x5040] [] :=
    .of_recordOnly (drainCounted_recordOnly s plaza sum) (drainCounted_indexKept s plaza sum)
  have flagged : BlocksOnly _ (drainFlagged s plaza sum p) [0x5010, 0x50D0] [p] := arith_blocksOnly ..
  exact (counted.mono (by simp [drainAreas]) (by simp)).trans (flagged.mono (by simp [drainAreas]) (by simp))

theorem drainRecords_blocksOnly (c p : Nat) : BlocksOnly s (drainRecords s plaza sum c p) drainAreas [p] := by
  have flagged := drainFlagged_blocksOnly s plaza sum p
  unfold drainRecords
  split
  · have met (u : State) : BlocksOnly u (u.record 0x5040 2 [(6, 1)] none) [0x5040, 0x50D0] [] :=
      .of_recordOnly (record_recordOnly ..) (record_indexKept _ _ _ _ (by simp))
    have consumed (u : State) : BlocksOnly u (u.record 0x50E0 2 [(2, 1)] (some (poisonCase 2 c 1 plaza))) [0x50E0, 0x50D0] [] :=
      .of_recordOnly (record_recordOnly ..) (record_indexKept _ _ _ _ (by simp))
    exact (flagged.trans ((met _).mono (by simp [drainAreas]) (by simp))).trans
      ((consumed _).mono (by simp [drainAreas]) (by simp))
  · exact flagged

theorem drainRecords_empty (empty : plazaSlots s plaza sum = []) (c p : Nat) :
    (drainRecords s plaza sum c p).dget 0x5040 5 = countUp (entryBytes 0x5040 5) (s.dget 0x5040 5) 1 := by
  have counted : drainCounted s plaza sum = s.dcount 0x5040 5 1 := by rw [drainCounted, empty]; rfl
  have flagged : BlocksOnly _ (drainFlagged s plaza sum p) [0x5010, 0x50D0] [p] := arith_blocksOnly ..
  rw [drainRecords, empty, List.any_nil, if_neg Bool.noConfusion, flagged.index 0x5040 5 (by decide) (by decide), counted,
    State.dcount_dget_same]

end

section
variable {s : State} {c sel plaza bank row half sum : Nat} {a : Actor}

theorem drainInto_eq (s : State) (c sel plaza bank row half sum : Nat) (touch : Touch) (a : Actor) :
    ∃ n, drainInto c sel plaza bank row half sum touch a s =
      (writeRow (drainRecords s plaza sum c a.phys) touch a.phys bank (outRow s c sel row a) (64 * half)
        (laneBytes (drainLanes s plaza sum))).nonfinite a.phys n := by
  unfold drainInto
  exact ⟨_, rfl⟩

/-- What a drain leaves in the bank of its block, and elsewhere. -/
structure Drained (s t : State) (c sel plaza bank row half sum : Nat) (a : Actor) : Prop where
  stored : RowStored s t a.phys bank (outRow s c sel row a) (64 * half)
    ((List.range 16).flatMap fun l => leBytes 4 (plazaSum (plazaSlots s plaza sum) l).value)
  plazas : t.plaza = s.plaza
  index : IndexKept s t drainAreas
  empty : plazaSlots s plaza sum = [] → t.dget 0x5040 5 = countUp (entryBytes 0x5040 5) (s.dget 0x5040 5) 1

theorem drainInto_drained (free : s.zoning.evac = []) (place : InBank a.phys bank (outRow s c sel row a)) (hhalf : half < 2)
    (touch : Touch) : Drained s (drainInto c sel plaza bank row half sum touch a s) c sel plaza bank row half sum a := by
  obtain ⟨n, e⟩ := drainInto_eq s c sel plaza bank row half sum touch a
  have recorded := drainRecords_blocksOnly s plaza sum c a.phys
  have counted := drainRecords_empty s plaza sum (c := c) (p := a.phys)
  generalize drainRecords s plaza sum c a.phys = v at e recorded counted
  have fits : 64 * half + (laneBytes (drainLanes s plaza sum)).length ≤ 128 := by rw [drainLanes_length]; omega
  have zoning : v.zoning = s.zoning := by rw [recorded.rest]
  have mem : v.mem = s.mem := by rw [recorded.rest]
  have written := writeRow_banksOnly (by rw [zoning, free]) touch place fits
  have stands := writeRow_stored (by rw [zoning, free]) touch (p := a.phys) (bank := bank) place.row fits
  generalize writeRow v touch a.phys bank (outRow s c sel row a) (64 * half) (laneBytes (drainLanes s plaza sum)) = w
    at e written stands
  have ends := nonfinite_blocksOnly w a.phys n
  rw [e]
  generalize w.nonfinite a.phys n = t at ends
  have after : t.mem = w.mem := by rw [ends.rest]
  obtain ⟨holds, rest⟩ := stands
  rw [drainLanes_bytes] at holds rest
  refine ⟨⟨RowHolds.congr zoning.symm after holds, fun x outside => ?_⟩, ?_, ?_, fun empty => ?_⟩
  · rw [after, rest x (OutsideRow.congr zoning outside), mem]
  · rw [ends.rest, written.rest, recorded.rest]
  · exact (recorded.index.trans (written.index.mono (by simp [storeAreas, drainAreas]))).trans (ends.index.mono (by simp [drainAreas]))
  · rw [ends.index 0x5040 5 (by decide) (by decide), written.index 0x5040 5 (by decide) (by decide), counted empty]

end

/-- A drain of a bound Plaza that waits for no granule drains into each acting block, and then clears the register. -/
theorem execPlazaDrain_next {s : State} {c sel pred plaza pl bank row half sum : Nat} (may : StoresDirectly s c sel pred)
    (bound : kfind (s.ctx c).plazas plaza = some pl) (one : ((s.ctx c).desc sel).selected.length = 1) (hplaza : plaza < 16)
    (hbank : bank < 16) (hrow : row < 64) (hhalf : half < 2) (hsum : sum < 64) :
    execPlazaDrain c plaza sel pred bank row half sum ⟨[], []⟩ s = .next (clearPlaza pl sum ((actors s c sel pred).foldl
      (fun u a => drainInto c sel pl bank row half sum ⟨[], []⟩ a u) s)) := by
  obtain ⟨⟨run, valid, small, low, -, -⟩, idle, -⟩ := may
  have legal : (headerOk s c sel pred && decide (plaza < 16) && (((s.ctx c).desc sel).selected.length == 1) &&
      decide (bank < 16) && decide (row < 64) && decide (half < 2) && decide (sum < 64)) = true := by
    simp [headerOk, valid, small, low, hplaza, one, hbank, hrow, hhalf, hsum]
  unfold execPlazaDrain
  rw [run, legal, bound, if_neg Bool.noConfusion, if_neg Bool.noConfusion]
  exact whenCopied_free (copied_of_idle idle _) _

end Sys2Proof.Machine

open Sys2Proof Sys2Proof.Machine

/-- Settles O36: the keys of a send are distinct, since ranks are, and a drain has at most one block to store in. -/
theorem plazaSumsStand : Obligations.PlazaSumsStand := by
  intro s c plaza pl sel pred slotBase bank row half sum hplaza hbank hrow hhalf hsum bound
  refine ⟨fun may hbase slots room inside => ?_, fun may one inside => ?_⟩
  · have sent := foldl_contribute (bank := bank) inside pl slotBase half sum s.plaza
    have next := (execPlazaSend_next may bound hplaza hbase slots hbank hrow hhalf hsum room).trans (congrArg _ sent)
    have stand (a : Actor) (acts : a ∈ actors s c sel pred) := contributions_stand s pl slotBase bank row half sum s.plaza acts
    have others (k : Nat) (other : ∀ a ∈ actors s c sel pred, k ≠ plazaKey pl sum (slotBase + a.rank)) :=
      contributions_other (s := s) (c := c) (sel := sel) other bank row half s.plaza
    generalize ksets s.plaza _ = table at next stand others
    refine ⟨_, next, rfl, fun a acts => ?_, others⟩
    rw [readRow_inside _ _ _ (inside a acts)]
    exact stand a acts
  · have next := execPlazaDrain_next may bound one hplaza hbank hrow hhalf hsum
    obtain ⟨⟨-, -, -, -, -, square⟩, -, free⟩ := may
    refine ⟨_, next, ?_⟩
    obtain none | ⟨a, alone⟩ := actors_alone one pred
    · rw [none]
      exact ⟨nofun, fun _ _ => rfl, rfl, indexKept_of_dict rfl rfl _, fun _ acting => absurd rfl acting⟩
    · rw [alone] at square inside ⊢
      simp only [List.forall_mem_singleton, List.foldl_cons, List.foldl_nil] at square inside ⊢
      obtain ⟨⟨holds, rest⟩, plazas, index, empty⟩ :=
        drainInto_drained free ⟨square, hbank, inside⟩ (plaza := pl) (sum := sum) hhalf ⟨[], []⟩
      generalize drainInto c sel pl bank row half sum ⟨[], []⟩ a s = u at holds rest plazas index empty
      refine ⟨RowHolds.congr rfl rfl holds, fun x outside => rest x ?_, ?_, index, fun none _ => empty none⟩
      · rwa [← drainLanes_bytes, List.length_map, drainLanes_length]
      · rw [clearPlaza, plazas]

end

section
/-! PROOF. Sends and receives of network flows (O38). -/

namespace Sys2Proof.Machine
open Sys2Proof

/-! ## What an operation of a flow leaves -/

/-- An operation changes flow `f`, what leaves the module, and the poison records with the log. -/
structure FlowOnly (s t : State) (f : Nat) : Prop where
  others : ∀ g, g ≠ f → t.flow g = s.flow g
  mem : t.mem = s.mem
  blocks : t.blocks = s.blocks
  contexts : t.contexts = s.contexts
  index : IndexKept s t [0x50E0, 0x50D0]

theorem FlowOnly.trans {s t u : State} {f : Nat} (h : FlowOnly s t f) (k : FlowOnly t u f) : FlowOnly s u f where
  others g n := (k.others g n).trans (h.others g n)
  mem := k.mem.trans h.mem
  blocks := k.blocks.trans h.blocks
  contexts := k.contexts.trans h.contexts
  index := h.index.trans k.index

theorem setFlow_flow_same (s : State) (f : Nat) (x : Flow) : (s.setFlow f x).flow f = x := by
  rw [State.setFlow_flow, if_pos rfl]

theorem setFlow_flow_other (s : State) {f g : Nat} (other : g ≠ f) (x : Flow) : (s.setFlow f x).flow g = s.flow g := by
  rw [State.setFlow_flow, if_neg other.symm]

theorem setFlow_flowOnly (s : State) (f : Nat) (x : Flow) : FlowOnly s (s.setFlow f x) f :=
  ⟨fun _ other => setFlow_flow_other s other x, rfl, rfl, rfl, setFlow_indexKept s f x _⟩

theorem RecordOnly.flow {s t : State} (h : RecordOnly s t) (f : Nat) : t.flow f = s.flow f := by
  rw [State.flow, h.net, State.flow]

/-! ## Units in the retransmit store (R354, R366) -/

/-- What the store of a flow holds: each unit's index, bytes and whether it is the last of its message. -/
def Flow.held (x : Flow) : List (Nat × List Byte × Bool) := x.store.map fun y => (y.seq, y.bytes, y.last)

section
variable {x : Flow} {old : List StoreUnit} {y : StoreUnit} (stored : x.store = old ++ [y]) (fresh : ∀ z ∈ old, z.seq ≠ y.seq)
include stored fresh

theorem unit?_joined : x.unit? y.seq = some y := by
  have none : old.find? (·.seq == y.seq) = none := by simpa using fresh
  rw [Flow.unit?, stored, List.find?_append, none]
  simp

theorem putUnit_joined {z : StoreUnit} (same : z.seq = y.seq) : x.putUnit z = { x with store := old ++ [z] } := by
  have kept : (old.map fun o => if o.seq = z.seq then z else o) = old :=
    (List.map_congr_left fun o inside => if_neg (same ▸ fresh o inside)).trans (List.map_id' old)
  rw [Flow.putUnit, stored, List.map_append, kept, List.map_singleton, if_pos same.symm]

end

/-- An operation sends or records, and changes no flow. -/
structure SendOnly (s t : State) : Prop where
  net : t.net = s.net
  mem : t.mem = s.mem
  blocks : t.blocks = s.blocks
  contexts : t.contexts = s.contexts
  index : IndexKept s t [0x50E0, 0x50D0]

theorem SendOnly.flow {s t : State} (h : SendOnly s t) (f : Nat) : t.flow f = s.flow f := by
  rw [State.flow, h.net, State.flow]

/-- A stored unit of a flow to a peer takes a path and leaves as a DATA frame, or waits for a path (R354, R373, R575). -/
theorem transmit_sendOnly {s : State} {f u : Nat} {y : StoreUnit} (kind : (s.flow f).kind = 1) (found : (s.flow f).unit? u = some y) :
    ∃ path port, SendOnly (s.setFlow f ((s.flow f).putUnit { y with path := path, port := port })) (transmit s f u) := by
  unfold transmit
  dsimp only
  rw [found]
  dsimp only
  rw [if_neg (show ¬(s.flow f).kind = 7 by omega), if_neg (show ¬(s.flow f).kind = 8 by omega)]
  generalize pathFor s f u y.attempt = p
  split
  · exact ⟨y.path, 9, rfl, rfl, rfl, rfl, .refl _ _⟩
  · refine ⟨p.1, p.2, ?_⟩
    generalize s.setFlow f _ = t
    split
    · exact ⟨rfl, rfl, rfl, rfl, emit_indexKept t _ _⟩
    · have recorded := record_recordOnly (t.emit (dataOut t f { y with path := p.1, port := p.2 })) 0x50E0 3 []
      exact ⟨(recorded _).net, (recorded _).mem, (recorded _).blocks, (recorded _).contexts,
        (emit_indexKept t _ _).trans (record_indexKept _ _ _ _ (by simp))⟩

/-- Units have joined the store of flow `f`, whose next unit is then `next`. -/
structure UnitsJoined (s t : State) (f next : Nat) (l : List (Nat × List Byte × Bool)) : Prop where
  only : FlowOnly s t f
  kind : (t.flow f).kind = (s.flow f).kind
  issued : (t.flow f).issued = next
  held : (t.flow f).held = (s.flow f).held ++ l

theorem UnitsJoined.trans {s t u : State} {f next next' : Nat} {l l' : List (Nat × List Byte × Bool)} (h : UnitsJoined s t f next l)
    (k : UnitsJoined t u f next' l') : UnitsJoined s u f next' (l ++ l') where
  only := h.only.trans k.only
  kind := k.kind.trans h.kind
  issued := k.issued
  held := by rw [k.held, h.held, List.append_assoc]

theorem SendOnly.joined {s t : State} (h : SendOnly s t) (f : Nat) : UnitsJoined s t f (s.flow f).issued [] where
  only := ⟨fun g _ => h.flow g, h.mem, h.blocks, h.contexts, h.index⟩
  kind := by rw [h.flow]
  issued := by rw [h.flow]
  held := by rw [h.flow, List.append_nil]

/-- A flow that is set to hold more units. -/
theorem setFlow_joined (s : State) {f next : Nat} {x : Flow} {l : List (Nat × List Byte × Bool)} (kind : x.kind = (s.flow f).kind)
    (issued : x.issued = next) (held : x.held = (s.flow f).held ++ l) : UnitsJoined s (s.setFlow f x) f next l := by
  have set := setFlow_flow_same s f x
  exact ⟨setFlow_flowOnly s f x, by rw [set, kind], by rw [set, issued], by rw [set, held]⟩

/-- The unit that joined last takes a path, or waits for one. -/
theorem transmit_joined {s : State} {f : Nat} {old : List StoreUnit} {y : StoreUnit} (kind : (s.flow f).kind = 1)
    (stored : (s.flow f).store = old ++ [y]) (fresh : ∀ z ∈ old, z.seq ≠ y.seq) :
    UnitsJoined s (transmit s f y.seq) f (s.flow f).issued [] := by
  obtain ⟨path, port, sent⟩ := transmit_sendOnly kind (unit?_joined stored fresh)
  rw [putUnit_joined (z := { y with path := path, port := port }) stored fresh rfl] at sent
  have put : UnitsJoined s (s.setFlow f { s.flow f with store := old ++ [{ y with path := path, port := port }] }) f (s.flow f).issued [] :=
    setFlow_joined s rfl rfl (by simp [Flow.held, stored])
  have after := sent.joined f
  rw [put.issued] at after
  exact put.trans after

/-- The entry of a unit that joins the store of a flow, before it takes a path. -/
def joining (x : Flow) (bs : List TByte) (last : Bool) : StoreUnit :=
  let map := ((List.range 64).filter fun i => anyTagged ((bs.drop (64 * i)).take 64)).foldl (fun m i => m + 2 ^ i) 0
  ⟨x.issued, bs.map (·.1), map, last, 0, 9, 255, false⟩

/-- One unit joins the store and is sent for the first time. -/
def joinUnit (f : Nat) (bs : List TByte) (last : Bool) (t : State) : State :=
  let x := t.flow f
  transmit (t.setFlow f { x with issued := unitNext x.issued 1, store := x.store ++ [joining x bs last] }) f x.issued

theorem sendUnits_eq (s : State) (f : Nat) (last : Bool) (us : List (List TByte)) :
    sendUnits s f last us = us.zipIdx.foldl (fun t e => joinUnit f e.1 (last && e.2 + 1 == us.length) t) s := rfl

/-- Before it takes its path, the new unit joins the store. -/
theorem joinUnit_joined {s : State} {f : Nat} (kind : (s.flow f).kind = 1)
    (fresh : ∀ e ∈ (s.flow f).held, e.1 ≠ (s.flow f).issued) (bs : List TByte) (last : Bool) :
    UnitsJoined s (joinUnit f bs last s) f (unitNext (s.flow f).issued 1) [((s.flow f).issued, bs.map (·.1), last)] := by
  have fresh' : ∀ z ∈ (s.flow f).store, z.seq ≠ (joining (s.flow f) bs last).seq :=
    fun z inside => fresh _ (List.mem_map_of_mem (f := fun y : StoreUnit => (y.seq, y.bytes, y.last)) inside)
  unfold joinUnit
  dsimp only
  generalize stored : ({ s.flow f with
    issued := unitNext (s.flow f).issued 1, store := (s.flow f).store ++ [joining (s.flow f) bs last] } : Flow) = x
  have put : UnitsJoined s (s.setFlow f x) f (unitNext (s.flow f).issued 1) [((s.flow f).issued, bs.map (·.1), last)] :=
    setFlow_joined s (by rw [← stored]) (by rw [← stored]) (by simp [← stored, Flow.held, joining])
  have holds : ((s.setFlow f x).flow f).store = (s.flow f).store ++ [joining (s.flow f) bs last] := by
    rw [setFlow_flow_same, ← stored]
  have sent := transmit_joined (put.kind.trans kind) holds fresh'
  rw [put.issued] at sent
  exact put.trans sent

/-! ## `NET_SEND` (R202, R366) -/

/-- What the units of a message bring to the store, from the unit of index `i` of a flow that has issued `i0` before them. -/
def brought (i0 n : Nat) (last : Bool) (us : List (List TByte × Nat)) : List (Nat × List Byte × Bool) :=
  us.map fun e => (unitNext i0 e.2, e.1.map (·.1), last && e.2 + 1 == n)

theorem unitNext_unitNext (i j : Nat) : unitNext (unitNext i j) 1 = unitNext i (j + 1) := by
  unfold unitNext
  omega

/-- Units sent one after the other join the store in their order, where no stored unit has the index of one of them. -/
theorem joinUnits_joined {i0 n f : Nat} {last : Bool} (us : List (List TByte)) {k : Nat} {s : State} (kind : (s.flow f).kind = 1)
    (issued : (s.flow f).issued = unitNext i0 k) (few : k + us.length ≤ 2 ^ 32)
    (fresh : ∀ e ∈ (s.flow f).held, ∀ j, k ≤ j → j < k + us.length → e.1 ≠ unitNext i0 j) :
    UnitsJoined s ((us.zipIdx k).foldl (fun t e => joinUnit f e.1 (last && e.2 + 1 == n) t) s) f (unitNext i0 (k + us.length))
      (brought i0 n last (us.zipIdx k)) := by
  induction us generalizing k s with
  | nil => exact ⟨⟨fun _ _ => rfl, rfl, rfl, rfl, .refl s _⟩, rfl, issued, (List.append_nil _).symm⟩
  | cons bs us ih =>
    rw [List.length_cons] at few fresh
    have first := joinUnit_joined kind (fun e stored => issued ▸ fresh e stored k le_rfl (by omega)) bs (last && k + 1 == n)
    rw [issued, unitNext_unitNext] at first
    have rest := ih (k := k + 1) (first.kind.trans kind) first.issued (by omega) fun e stored j low high => by
      rw [first.held, List.mem_append, List.mem_singleton] at stored
      obtain stored | rfl := stored
      · exact fresh e stored j (by omega) (by omega)
      · unfold unitNext
        omega
    rw [List.length_cons, ← Nat.add_assoc, Nat.add_right_comm]
    exact first.trans rest

/-- No stored unit that lies before the next one has the index of one of the next 1,024. -/
theorem unitAfter_fresh {i0 q j : Nat} (before : unitAfter i0 q = true) (near : j < 1024) : q ≠ unitNext i0 j := by
  unfold unitAfter unitAhead at before
  rw [Bool.and_eq_true, decide_eq_true_eq, decide_eq_true_eq] at before
  unfold unitNext
  omega

theorem netLegal_length {s : State} {c f buffer offset length last : Nat} (legal : netLegal s c f buffer offset length last = true) :
    length < 1024 := by
  simp only [netLegal, Bool.and_eq_true, decide_eq_true_eq] at legal
  omega

/-- A buffer does not depend on flows. -/
theorem readBuffer_setFlow (s : State) (f : Nat) (x : Flow) (c : Nat) (b : Buffer) (off n : Nat) :
    (readBuffer (s.setFlow f x) c b off n).1 = (readBuffer s c b off n).1 := by
  have place : bufferAddress (s.setFlow f x) c b off = bufferAddress s c b off := rfl
  unfold readBuffer
  rw [place]
  cases bufferAddress s c b off
  · rfl
  · rfl

/-- A send to a peer sends the bytes of its buffer where it finds credit, and waits where it does not (R202). -/
theorem execNetSend_eq {s : State} {c f buffer offset length last : Nat} (run : s.running c = true)
    (legal : netLegal s c f buffer offset length last = true) (pos : 0 < length) (ctx : (s.flow f).ctx = c)
    (kind : (s.flow f).kind = 1) : execNetSend c f buffer offset length last ⟨[], []⟩ s =
      if holdsCredit s f length then
        .next (sendUnits (s.setFlow f { s.flow f with wanted := 0 }) f (last == 1) ((List.range length).map fun j =>
          (readBuffer s c ((s.ctx c).buffer buffer) (4096 * (offset + j)) 4096).1))
      else .next (netWait c 7 f [1, 7] (s.setFlow f { s.flow f with wanted := length })) := by
  have fits : (kindMismatch (s.flow f) c [1, 7] || !(s.flow f).sends) = false := by simp [kindMismatch, Flow.sends, ctx, kind]
  unfold execNetSend
  dsimp only
  rw [run, legal, fits, if_neg Bool.noConfusion, if_neg Bool.noConfusion, if_neg (by omega), if_neg Bool.noConfusion]
  cases holdsCredit s f length
  · rfl
  · simp only [senseAll_nil, readBuffer_setFlow]
    rfl

/-- The `length` units that a send brings from `g` join the store in their order. -/
theorem sendUnits_joined {s : State} {f length : Nat} {last : Bool} (g : Nat → List TByte) (kind : (s.flow f).kind = 1)
    (few : length < 1024) (small : (s.flow f).issued < 2 ^ 32) (before : ∀ e ∈ (s.flow f).held, unitAfter (s.flow f).issued e.1 = true) :
    UnitsJoined s (sendUnits s f last ((List.range length).map g)) f (unitNext (s.flow f).issued length)
      ((List.range length).map fun j => (unitNext (s.flow f).issued j, (g j).map (·.1), last && j + 1 == length)) := by
  have count : ((List.range length).map g).length = length := by simp
  have start : (s.flow f).issued = unitNext (s.flow f).issued 0 := (Nat.mod_eq_of_lt small).symm
  have sent := joinUnits_joined (n := length) (last := last) ((List.range length).map g) kind start (by omega)
    fun e stored j _ near => unitAfter_fresh (before e stored) (by omega)
  have units : brought (s.flow f).issued length last ((List.range length).map g).zipIdx =
      (List.range length).map fun j => (unitNext (s.flow f).issued j, (g j).map (·.1), last && j + 1 == length) :=
    List.ext_getElem (by simp [brought]) fun i _ _ => by simp [brought]
  rw [units, count, Nat.zero_add] at sent
  rw [sendUnits_eq, count]
  exact sent

/-! ## Waits (R157, R202) -/

/-- A slot whose flow it can use waits in its class, where no lower one holds the bundle. -/
theorem netWait_waits {s : State} {c k f : Nat} {kinds : List Nat} (fits : kindMismatch (s.flow f) c kinds = false)
    (free : s.dget (0x4030 + c) 2 = 0 ∨ k ≤ s.dget (0x4030 + c) 2) : netWait c k f kinds s = waitIn c k s := by
  unfold netWait
  dsimp only
  rw [fits, Bool.and_false, if_neg Bool.noConfusion, waitLowest, if_neg (by omega)]

theorem waitIn_dget_count (c : Nat) {k : Nat} (small : k < 0xF0) (s : State) : (waitIn c k s).dget (0x4030 + c) (0x10 + k) =
    countUp (entryBytes (0x4030 + c) (0x10 + k)) (s.dget (0x4030 + c) (0x10 + k)) 1 := by
  have held (v : Nat) : ((s.dset (0x4030 + c) (0x10 + k) v).dset (0x4030 + c) 2 k).dget (0x4030 + c) (0x10 + k) = v := by
    rw [State.dset_dget_other _ _ _ _ _ _ (by decide) (by omega) (.inr (by omega)), State.dset_dget_same]
  unfold waitIn
  dsimp only
  split
  · exact held _
  · exact held _

/-! ## `NET_RECV` (R202, R367, R368, R396) -/

theorem takeVeto_eq (s : State) (c f u : Nat) : takeVeto s c f u = { s with contexts := (takeVeto s c f u).contexts } := by
  unfold takeVeto
  dsimp only
  split
  · split
    · rfl
    · rfl
  · rfl

/-- What a receive names is not what its flow next reads (R368). -/
def misplaced (x : Flow) (buffer offset length : Nat) : Bool :=
  x.buffer != buffer || offset != x.issued % x.window || decide (x.window < offset + length)

/-- A receive whose units have landed moves its flow past them. -/
def received (s : State) (c f length : Nat) : State :=
  (takeVeto s c f (unitNext (s.flow f).issued (length - 1))).setFlow f
    { s.flow f with covered := (s.flow f).issued, issued := unitNext (s.flow f).issued length }

/-- Only the veto of a context and the flow change. -/
theorem received_eq (s : State) (c f length : Nat) :
    received s c f length = { s with contexts := (received s c f length).contexts, net := (received s c f length).net } := by
  unfold received
  rw [takeVeto_eq]
  rfl

theorem received_flow (s : State) (c f length : Nat) : (received s c f length).flow f =
    { s.flow f with covered := (s.flow f).issued, issued := unitNext (s.flow f).issued length } := setFlow_flow_same ..

theorem received_other (s : State) (c length : Nat) {f g : Nat} (other : g ≠ f) : (received s c f length).flow g = s.flow g := by
  rw [received, setFlow_flow_other _ other, takeVeto_eq]
  rfl

theorem execNetRecv_landed {s : State} {c f buffer offset length last : Nat} (run : s.running c = true)
    (legal : netLegal s c f buffer offset length last = true) (pos : 0 < length) (ctx : (s.flow f).ctx = c) (kind : (s.flow f).kind = 2)
    (isOpen : (s.flow f).state = 2) (landed : ∀ i, i < length → (s.flow f).hasLanded (unitNext (s.flow f).issued i) = true) :
    execNetRecv c f buffer offset length last s = .next
      (if misplaced (s.flow f) buffer offset length then
        (received s c f length).record 0x5080 4 [(7, 1)] (some (slotCase (received s c f length) 4 f c))
      else received s c f length) := by
  have all : ((List.range length).all fun i => (s.flow f).hasLanded (unitNext (s.flow f).issued i)) = true := by
    simpa using landed
  have fits : (kindMismatch (s.flow f) c [2, 8] || !(s.flow f).receives || (s.flow f).state != flowOpen) = false := by
    simp [kindMismatch, Flow.receives, flowOpen, ctx, kind, isOpen]
  unfold execNetRecv
  dsimp only
  rw [run, legal, fits, all, if_neg Bool.noConfusion, if_neg Bool.noConfusion, if_neg (by omega), if_neg Bool.noConfusion]
  rfl

/-! ## `RECEIVE_UNITS_FREED` (R367) -/

theorem grant_credit (x : Flow) (limit : Nat) :
    (x.grant limit).credit = if unitAfter limit x.credit = true then limit % 2 ^ 32 else x.credit := by
  unfold Flow.grant
  split
  · rfl
  · rfl

theorem grant_freed (x : Flow) (limit : Nat) : (x.grant limit).freed = x.freed := by
  unfold Flow.grant
  split
  · rfl
  · rfl

theorem execReceiveUnitsFreed_due {s : State} {f : Nat} (kind : (s.flow f).kind = 2) (isOpen : (s.flow f).state = 2)
    (due : unitAfter (s.flow f).covered (s.flow f).freed = true) : execReceiveUnitsFreed f s =
      .next (s.setFlow f ({ s.flow f with freed := (s.flow f).covered }.grant ((s.flow f).covered + (s.flow f).window))) :=
  if_pos ⟨isOpen, .inl kind, due⟩

end Sys2Proof.Machine

open Sys2Proof Sys2Proof.Machine

/-- Settles O38: a unit that joins the store has the index of none before it, so only it takes a path, and the others keep what they hold. -/
theorem networkSlots : Obligations.NetworkSlots := by
  intro s c f buffer offset length last run legal pos ctx
  refine ⟨fun kind credit small before => ?_, fun kind short free => ?_, fun kind isOpen landed => ?_, fun kind isOpen due => ?_⟩
  · have next := execNetSend_eq run legal pos ctx kind
    rw [credit, if_pos rfl] at next
    have cleared : UnitsJoined s (s.setFlow f { s.flow f with wanted := 0 }) f (s.flow f).issued [] :=
      setFlow_joined s rfl rfl (List.append_nil _).symm
    generalize s.setFlow f { s.flow f with wanted := 0 } = v at next cleared
    have sent := cleared.trans (sendUnits_joined (last := last == 1)
      (fun j => (readBuffer s c ((s.ctx c).buffer buffer) (4096 * (offset + j)) 4096).1) (cleared.kind.trans kind)
      (netLegal_length legal) (by rw [cleared.issued]; exact small) fun e stored => by
        rw [cleared.held, List.append_nil] at stored
        obtain ⟨y, inside, rfl⟩ := List.mem_map.1 stored
        rw [cleared.issued]
        exact before y inside)
    rw [cleared.issued] at sent
    obtain ⟨⟨others, mem, blocks, contexts, index⟩, -, issued, held⟩ := sent
    exact ⟨_, next, issued, held, others, mem, blocks, contexts, index⟩
  · have next := execNetSend_eq run legal pos ctx kind
    have set := setFlow_flow_same s f { s.flow f with wanted := length }
    have entries (idx sub : Nat) := State.setFlow_dget (s := s) f idx sub { s.flow f with wanted := length }
    have fits : kindMismatch { s.flow f with wanted := length } c [1, 7] = false := by simp [kindMismatch, ctx, kind]
    have only := setFlow_flowOnly s f { s.flow f with wanted := length }
    generalize s.setFlow f { s.flow f with wanted := length } = v at next set entries only
    rw [short, if_neg Bool.noConfusion, netWait_waits (by rw [set]; exact fits) (by rw [entries]; exact free)] at next
    have flow (g : Nat) : (waitIn c 7 v).flow g = v.flow g := by rw [waitIn_keeps]; rfl
    refine ⟨_, next, waitIn_dget_class c 7 v, ?_, ?_, (flow f).trans set, fun g other => (flow g).trans (only.others g other),
      (waitIn_mem c 7 v).trans only.mem, (waitIn_blocks c 7 v).trans only.blocks⟩
    · exact (waitIn_cellsKept c (by decide) v _ 1 (by decide) (by simp)).trans (entries _ 1)
    · rw [← entries]
      exact waitIn_dget_count c (by decide) v
  · have next := execNetRecv_landed run legal pos ctx kind isOpen landed
    have same := received_eq s c f length
    have flow := received_flow s c f length
    have others (g : Nat) (other : g ≠ f) := received_other s c length other
    generalize received s c f length = v at next same flow others
    have mem : v.mem = s.mem := by rw [same]
    have blocks : v.blocks = s.blocks := by rw [same]
    have dict : v.dict = s.dict := by rw [same]
    cases place : misplaced (s.flow f) buffer offset length
    case false =>
      rw [place, if_neg Bool.noConfusion] at next
      refine ⟨_, next, flow, others, mem, blocks, fun _ _ _ => dict, fun differ => ?_⟩
      simp [misplaced, differ] at place
    case true =>
      rw [place, if_pos rfl] at next
      have recorded := record_recordOnly v 0x5080 4 [(7, 1)] (some (slotCase v 4 f c))
      refine ⟨_, next, (recorded.flow f).trans flow, fun g other => (recorded.flow g).trans (others g other), recorded.mem.trans mem,
        recorded.blocks.trans blocks, fun named first inside => ?_, fun _ => ⟨?_, ?_⟩⟩
      · rw [misplaced, named, ← first] at place
        simp at place
        omega
      · exact record_flag v _ _ (by decide)
      · have straps : v.power.straps = s.power.straps := by rw [same]
        rw [record_count v _ (by decide) (by decide) (by decide) (by decide), State.dget_congr dict straps]
  · have next := execReceiveUnitsFreed_due kind isOpen due
    refine ⟨_, next, rfl, ?_, ?_, fun g other => setFlow_flow_other s other _⟩
    · rw [setFlow_flow_same, grant_freed]
    · rw [setFlow_flow_same, grant_credit]

end

section
/-! PROOF. Sends to queues, receives from them and their closing (O37). -/

namespace Sys2Proof.Machine
open Sys2Proof

/-! ## The first case of a sticky record (R583) -/

/-- The first-case entry takes the case only while it reads its empty value. -/
theorem record_firstCase (s : State) {idx flag sub k : Nat} (n v : Nat) (h : idx ≠ 0x50D0) (first : firstSub idx = some sub)
    (notFlags : sub ≠ 1) (small : k < 256) (notCount : k ≠ sub) :
    (s.record idx flag [(k, n)] (some v)).dget idx sub = if s.dget idx sub = dictDefault 0 idx sub then v else s.dget idx sub := by
  have counted : (s.dcount idx k n).dget idx sub = s.dget idx sub :=
    State.dcount_dget_other s _ _ _ _ _ small (firstSub_lt first) (.inr notCount)
  unfold State.record State.recordWith
  simp only [List.foldl_cons, List.foldl_nil]
  rw [log_indexKept _ _ _ _ _ _ idx sub (firstSub_lt first) (by simp [h]),
    State.dset_dget_other _ _ _ _ _ _ (by decide) (firstSub_lt first) (.inr notFlags.symm), State.recordFirst, first]
  dsimp only
  rw [counted]
  split
  · exact State.dset_dget_same ..
  · exact counted

theorem countUp_countUp (bytes v m n : Nat) : countUp bytes (countUp bytes v m) n = countUp bytes v (m + n) := by
  unfold countUp
  omega

/-! ## Discarded entries (R221, R234) -/

/-- `QUEUE_CLOSED_FIRST` is empty while it reads all ones. -/
theorem queueFirst_empty : dictDefault 0 0x5040 4 = ones 64 := by
  have line : ((dictLine 0x5040 4).map (·.default)).getD 0 = ones 64 := by decide +kernel
  simp [dictDefault, strapDefault, memberDefault, line]

/-- No case is recorded as the empty value: its low 16 bits are the queue's number. -/
theorem queueCase_ne_empty (s : State) (c kind p : Nat) {q : Nat} (h : q < 16) : queueCase s c kind p q ≠ ones 64 := by
  unfold queueCase ones
  omega

/-- The records since state `s` hold one case for each block of `shut`, in order: a send of context `c` to its closed queue `q`. -/
structure Discarded (s t : State) (c q : Nat) (shut : List Nat) : Prop where
  quiet : shut = [] → ∀ idx sub, t.dget idx sub = s.dget idx sub
  count : shut ≠ [] → t.dget 0x5040 2 = countUp (entryBytes 0x5040 2) (s.dget 0x5040 2) shut.length
  first : ∀ p, shut.head? = some p → bit (t.dget 0x5040 1) 0 = true ∧
    t.dget 0x5040 4 = if s.dget 0x5040 4 = ones 64 then queueCase s c 0 p q else s.dget 0x5040 4

namespace Discarded

variable {s t : State} {c q : Nat} {shut : List Nat}

theorem refl (s : State) (c q : Nat) : Discarded s s c q [] := ⟨fun _ _ _ => rfl, (absurd rfl ·), nofun⟩

theorem setBlock (h : Discarded s t c q shut) (p : Nat) (f : Block → Block) : Discarded s (t.setBlock p f) c q shut :=
  ⟨h.quiet, h.count, h.first⟩

/-- A further case is counted, and recorded as the first where there was none before. -/
theorem record (h : Discarded s t c q shut) (low : q < 16) (p : Nat) :
    Discarded s (t.record 0x5040 0 [(2, 1)] (some (queueCase t c 0 p q))) c q (shut ++ [p]) where
  quiet none := by simp at none
  count _ := by
    rw [record_count t _ (by decide) (by decide) (by decide) (by decide), List.length_append, List.length_singleton]
    obtain rfl | some := eq_or_ne shut []
    · rw [h.quiet rfl, List.length_nil, Nat.zero_add]
    · rw [h.count some, countUp_countUp]
  first p' head := by
    refine ⟨record_flag t _ _ (by decide), ?_⟩
    rw [record_firstCase t _ _ (by decide) rfl (by decide) (by decide) (by decide), queueFirst_empty]
    cases shut with
    | nil =>
      obtain rfl : p = p' := by simpa using head
      have case : queueCase t c 0 p q = queueCase s c 0 p q := by rw [queueCase, State.pc, h.quiet rfl, queueCase, State.pc]
      rw [case, h.quiet rfl]
    | cons e r =>
      obtain ⟨-, first⟩ := h.first p' head
      have held : t.dget 0x5040 4 ≠ ones 64 := by
        rw [first]
        split
        · exact queueCase_ne_empty s c 0 p' low
        · assumption
      rw [if_neg held, first]

end Discarded

/-! ## One block's queues (R118) -/

theorem Block.setQueue_queue (b : Block) (q r : Nat) (x : Queue) : (b.setQueue q x).queue r = if q = r then x else b.queue r :=
  kget_kset _ _ q r x

theorem Block.setQueue_queue_same (b : Block) (q : Nat) (x : Queue) : (b.setQueue q x).queue q = x := by
  rw [Block.setQueue_queue, if_pos rfl]

theorem Block.setQueue_queue_other (b : Block) {q r : Nat} (other : r ≠ q) (x : Queue) : (b.setQueue q x).queue r = b.queue r := by
  rw [Block.setQueue_queue, if_neg other.symm]

/-- A block to whose queue `q` an entry was sent: it joins the queue, unless that is closed (R221). -/
def Block.offered (b : Block) (q : Nat) (e : QEntry) : Block :=
  if (b.queue q).closed then b else b.setQueue q { b.queue q with entries := (b.queue q).entries ++ [e] }

theorem Block.offered_shut {b : Block} {q : Nat} (shut : (b.queue q).closed = true) (e : QEntry) : b.offered q e = b := if_pos shut

theorem Block.offered_open {b : Block} {q : Nat} (isOpen : (b.queue q).closed = false) (e : QEntry) :
    b.offered q e = b.setQueue q { b.queue q with entries := (b.queue q).entries ++ [e] } := if_neg (by simp [isOpen])

theorem Block.offered_vreg (b : Block) (q : Nat) (e : QEntry) (r : Nat) : (b.offered q e).vreg r = b.vreg r := by
  unfold Block.offered
  split <;> rfl

/-- A block whose queue `q` has given its head entry to 16 lanes of a register (R206, R220). -/
def Block.received (b : Block) (q vreg part : Nat) : Block :=
  let x := b.queue q
  let e := x.entries.headD ⟨[], 0⟩
  (b.setQueue q { x with head := (x.head + 1) % 64, entries := x.entries.tail }).setVreg vreg
    ((b.vreg vreg).take (16 * part) ++ lanesOf 16 (e.payload.map fun y => (y, bit e.tag 3)) ++ (b.vreg vreg).drop (16 * part + 16))

/-! ## `Q_SEND` (R205, R206, R219, R221) -/

section
variable (s : State) (c q delta vreg part fmt last : Nat)

/-- The blocks to which the blocks of a list send (R205). -/
def sendTargets (as : List Actor) : List Nat := as.filterMap fun a => queueTarget (s.ctx c) a.logical delta

/-- Those of them that discard what they are sent (R221). -/
def shutTargets (as : List Actor) : List Nat := (sendTargets s c delta as).filter fun p => ((s.block p).queue q).closed

/-- The entry that a block sends. -/
def sentEntry (a : Actor) : QEntry :=
  ⟨bytesOf (partLanes ((s.block a.phys).vreg vreg) part),
    queueTag fmt last ((partLanes ((s.block a.phys).vreg vreg) part).any (·.poison))⟩

/-- The blocks of a list have sent, since state `s`, and no other. -/
structure Sent (as : List Actor) (t : State) : Prop where
  frame : BlocksOnly s t [0x5040, 0x50D0] (sendTargets s c delta as)
  discarded : Discarded s t c q (shutTargets s c q delta as)
  block : ∀ a ∈ as, ∀ p, queueTarget (s.ctx c) a.logical delta = some p →
    t.block p = (s.block p).offered q (sentEntry s vreg part fmt last a)

end

section
variable {s : State} {c q delta vreg part fmt last : Nat}

theorem sendOne_none {a : Actor} (none : queueTarget (s.ctx c) a.logical delta = none) :
    sendOne c q delta vreg part fmt last a s = s := by
  unfold sendOne
  rw [none]

theorem sendOne_shut {a : Actor} {p : Nat} (sends : queueTarget (s.ctx c) a.logical delta = some p)
    (shut : ((s.block p).queue q).closed = true) : sendOne c q delta vreg part fmt last a s =
      s.record 0x5040 0 [(2, 1)] (some (queueCase s c 0 p q)) := by
  unfold sendOne
  rw [sends]
  exact if_pos shut

theorem sendOne_open {a : Actor} {p : Nat} (sends : queueTarget (s.ctx c) a.logical delta = some p)
    (isOpen : ((s.block p).queue q).closed = false) : sendOne c q delta vreg part fmt last a s =
      s.setBlock p fun b => b.offered q (sentEntry s vreg part fmt last a) := by
  unfold sendOne
  rw [sends, State.setBlock, Block.offered_open isOpen, sentEntry, ← laneBytes_bytes]
  exact if_neg (by simp [isOpen])

theorem sendTargets_append (as : List Actor) (a : Actor) :
    sendTargets s c delta (as ++ [a]) = sendTargets s c delta as ++ (queueTarget (s.ctx c) a.logical delta).toList := by
  rw [sendTargets, List.filterMap_append, sendTargets]
  cases h : queueTarget (s.ctx c) a.logical delta <;> simp [h]

theorem mem_sendTargets {as : List Actor} {a : Actor} {p : Nat} (acts : a ∈ as) (sends : queueTarget (s.ctx c) a.logical delta = some p) :
    p ∈ sendTargets s c delta as := List.mem_filterMap.2 ⟨a, acts, sends⟩

section
variable {as : List Actor} {t : State} (h : Sent s c q delta vreg part fmt last as t)
include h

/-- A send changes no vector register, so what a later block sends is what it held at the start. -/
theorem Sent.vreg_kept (p r : Nat) : (t.block p).vreg r = (s.block p).vreg r := by
  by_cases target : p ∈ sendTargets s c delta as
  · obtain ⟨a, acts, sends⟩ := List.mem_filterMap.1 target
    rw [h.block a acts p sends, Block.offered_vreg]
  · rw [h.frame.block p target]

/-- A further block without a target sends nothing. -/
theorem Sent.none {a : Actor} (none : queueTarget (s.ctx c) a.logical delta = none) :
    Sent s c q delta vreg part fmt last (as ++ [a]) t where
  frame := h.frame.mono (by simp) (by simp [sendTargets_append])
  discarded := by simpa [shutTargets, sendTargets_append, none] using h.discarded
  block b acts p sends := by
    obtain acts | rfl : b ∈ as ∨ b = a := by simpa using acts
    · exact h.block b acts p sends
    · rw [none] at sends
      cases sends

/-- A further block sends to a block that none before it has sent to. -/
theorem Sent.sends {a : Actor} {p : Nat} {u : State} (sends : queueTarget (s.ctx c) a.logical delta = some p)
    (fresh : p ∉ sendTargets s c delta as) (frame : BlocksOnly t u [0x5040, 0x50D0] [p])
    (discarded : Discarded s u c q (shutTargets s c q delta (as ++ [a])))
    (offered : u.block p = (s.block p).offered q (sentEntry s vreg part fmt last a)) :
    Sent s c q delta vreg part fmt last (as ++ [a]) u where
  frame := (h.frame.mono (by simp) (by simp [sendTargets_append])).trans (frame.mono (by simp) (by simp [sendTargets_append, sends]))
  discarded := discarded
  block b acts p' sends' := by
    obtain acts | rfl : b ∈ as ∨ b = a := by simpa using acts
    · have other : p' ≠ p := fun e => fresh (e ▸ mem_sendTargets acts sends')
      rw [frame.block p' (by simpa using other), h.block b acts p' sends']
    · obtain rfl : p = p' := Option.some.inj (sends.symm.trans sends')
      exact offered

theorem Sent.sendOne (low : q < 16) {a : Actor} (once : (sendTargets s c delta (as ++ [a])).Nodup) :
    Sent s c q delta vreg part fmt last (as ++ [a]) (sendOne c q delta vreg part fmt last a t) := by
  have ctx := h.frame.ctx c
  cases sends : queueTarget (s.ctx c) a.logical delta with
  | none =>
    rw [sendOne_none (by rw [ctx, sends])]
    exact h.none sends
  | some p =>
    have fresh : p ∉ sendTargets s c delta as := by
      rw [sendTargets_append, sends, Option.toList_some, ← List.concat_eq_append, List.nodup_concat] at once
      obtain ⟨fresh, -⟩ := once
      exact fresh
    have same := h.frame.block p fresh
    cases closed : ((s.block p).queue q).closed with
    | true =>
      rw [sendOne_shut (by rw [ctx, sends]) (by rw [same, closed])]
      have recorded : BlocksOnly t (t.record 0x5040 0 [(2, 1)] (some (queueCase t c 0 p q))) [0x5040, 0x50D0] [] :=
        .of_recordOnly (record_recordOnly ..) (record_indexKept _ _ _ _ (by simp))
      refine h.sends sends fresh (recorded.mono (by simp) (by simp)) ?_ ?_
      · simpa [shutTargets, sendTargets_append, sends, closed] using h.discarded.record low p
      · rw [recorded.block p List.not_mem_nil, same, Block.offered_shut closed]
    | false =>
      rw [sendOne_open (by rw [ctx, sends]) (by rw [same, closed])]
      refine h.sends sends fresh (.setBlock t p _ _) ?_ ?_
      · simpa [shutTargets, sendTargets_append, sends, closed] using h.discarded.setBlock p _
      · rw [State.setBlock_block_same, same, sentEntry, h.vreg_kept, sentEntry]

end

/-- Blocks with distinct targets send in turn. -/
theorem foldl_sendOne (low : q < 16) {as : List Actor} (once : (sendTargets s c delta as).Nodup) :
    Sent s c q delta vreg part fmt last as (as.foldl (fun t a => sendOne c q delta vreg part fmt last a t) s) := by
  induction as using List.reverseRecOn with
  | nil => exact ⟨.refl s _ _, .refl s c q, nofun⟩
  | append_singleton as a ih =>
    rw [List.foldl_append, List.foldl_cons, List.foldl_nil]
    refine (ih ?_).sendOne low once
    rw [sendTargets_append] at once
    exact once.of_append_left

/-- A send waits for no closed queue and no queue with a free entry. -/
theorem sendsFit_of_room {as : List Actor}
    (room : ∀ p ∈ sendTargets s c delta as, ((s.block p).queue q).closed = true ∨ ((s.block p).queue q).entries.length < 64) :
    sendsFit s c q delta as = true := by
  refine List.all_eq_true.2 fun a acts => ?_
  split
  · rfl
  next p sends => simpa using room p (mem_sendTargets acts sends)

theorem execQSend_next {sel pred : Nat} (may : MayAct s c sel pred) (hq : q < 16) (hvreg : vreg < 32) (hpart : part < 4)
    (hdelta : delta < 2 ^ 11) (hfmt : fmt < 12) (hlast : last < 2) (room : ∀ p ∈ sendTargets s c delta (actors s c sel pred),
      ((s.block p).queue q).closed = true ∨ ((s.block p).queue q).entries.length < 64) :
    execQSend c sel pred q delta vreg part fmt last s = .next ((actors s c sel pred).foldl
      (fun t a => sendOne c q delta vreg part fmt last a t) s) := by
  obtain ⟨run, valid, small, low, -, -⟩ := may
  have legal : (headerOk s c sel pred && regs [vreg] && decide (q < 16) && decide (delta < 2 ^ 11) && decide (part < 4) &&
      decide (fmt < 12) && decide (last < 2)) = true := by
    simp [-Nat.reducePow, headerOk, regs, valid, small, low, hq, hvreg, hpart, hdelta, hfmt, hlast]
  unfold execQSend
  rw [run, legal, sendsFit_of_room room]
  rfl

/-! ## `Q_RECV` (R206, R219, R220) -/

theorem recvOne_held {a : Actor} (held : ((s.block a.phys).queue q).entries ≠ []) :
    recvOne q vreg part a s = s.setBlock a.phys fun b => b.received q vreg part := by
  obtain ⟨e, r, entries⟩ := List.exists_cons_of_ne_nil held
  simp only [recvOne, State.setBlock, Block.received, entries, List.headD_cons, List.tail_cons]

theorem execQRecv_next {sel pred : Nat} (may : MayAct s c sel pred) (hq : q < 16) (hvreg : vreg < 32) (hpart : part < 4)
    (held : ∀ a ∈ actors s c sel pred, ((s.block a.phys).queue q).entries ≠ []) :
    execQRecv c sel pred q vreg part ⟨[], []⟩ s = .next ((actors s c sel pred).foldl (fun t a => recvOne q vreg part a t) s) := by
  obtain ⟨run, valid, small, low, -, -⟩ := may
  have legal : (headerOk s c sel pred && regs [vreg] && decide (q < 16) && decide (part < 4)) = true := by
    simp [headerOk, regs, valid, small, low, hq, hvreg, hpart]
  have ready : ((actors s c sel pred).all fun a => !((s.block a.phys).queue q).entries.isEmpty) = true := by
    simpa using held
  unfold execQRecv
  dsimp only
  rw [run, legal, ready]
  rfl

end

end Sys2Proof.Machine

open Sys2Proof Sys2Proof.Machine

/-- Settles O37: targets are distinct, so each block's send meets its target as it was at the start, and so do receives and closings. -/
theorem queuesDeliverInOrder : Obligations.QueuesDeliverInOrder := by
  intro s c sel pred q delta vreg part fmt last may hq hvreg hpart
  refine ⟨fun hdelta hfmt hlast room once => ?_, fun held => ?_, ?_⟩
  · have next := execQSend_next may hq hvreg hpart hdelta hfmt hlast room
    obtain ⟨frame, ⟨quiet, count, first⟩, offered⟩ := foldl_sendOne (vreg := vreg) (part := part) (fmt := fmt) (last := last) hq once
    refine ⟨_, next, frame.rest, frame.index, ?_, first, fun a acts p sends => ⟨fun closed => ?_, fun isOpen => ?_⟩, frame.block⟩
    · split
      next none => exact quiet none 0x5040 2
      next some => exact count some
    · rw [offered a acts p sends, Block.offered_shut closed]
    · rw [offered a acts p sends, Block.offered_open isOpen]
      exact ⟨Block.setQueue_queue_same .., fun r other => Block.setQueue_queue_other _ other _⟩
  · have next := execQRecv_next may hq hvreg hpart held
    obtain ⟨rest, others, block⟩ := actors_setBlocks (act := recvOne q vreg part) (f := fun _ b => b.received q vreg part) may
      fun a acts u _ same => recvOne_held (by rw [same]; exact held a acts)
    refine ⟨_, next, rest, others, fun a acts e r entries => ?_⟩
    rw [block a acts]
    refine ⟨?_, ?_, fun v other => ?_⟩
    · exact (Block.setQueue_queue_same ..).trans (by rw [entries, List.tail_cons])
    · rw [Block.received, Block.setVreg_vreg, if_pos rfl, entries, List.headD_cons]
    · exact (Block.setVreg_vreg ..).trans (if_neg other.symm)
  · have legal : decide (q < 16) = true := decide_eq_true hq
    obtain ⟨t, next, rest, ⟨-, -, -, others⟩, block⟩ := setBlocks_acts may legal fun b => b.setQueue q { b.queue q with closed := true }
    refine ⟨t, next, rest, others, fun a acts => ?_⟩
    rw [block a acts]
    exact ⟨Block.setQueue_queue_same .., fun r other => Block.setQueue_queue_other _ other _⟩

end

section
/-! PROOF. The admission of records, holds of an admission, and host pushes (O39). -/

namespace Sys2Proof.Machine
open Sys2Proof

/-! ## Queues and landing rings of a context (R237, R248) -/

section
variable (x : Ctx)

theorem Ctx.admitQueue_setAdmitQueue_same (q : Nat) (l : List Nat) : (x.setAdmitQueue q l).admitQueue q = l := by
  by_cases h : q = 0 <;> simp [Ctx.admitQueue, Ctx.setAdmitQueue, h]

theorem Ctx.admitQueue_setAdmitQueue_other {q : Nat} (h : q < 2) (l : List Nat) :
    (x.setAdmitQueue q l).admitQueue (1 - q) = x.admitQueue (1 - q) := by
  obtain rfl | rfl : q = 0 ∨ q = 1 := by omega
  · rfl
  · rfl

theorem Ctx.setAdmitQueue_arrivals (q : Nat) (l : List Nat) : (x.setAdmitQueue q l).arrivals = x.arrivals := by
  unfold Ctx.setAdmitQueue
  split <;> rfl

theorem Ctx.setAdmitQueue_slots (q : Nat) (l : List Nat) : (x.setAdmitQueue q l).slots = x.slots := by
  unfold Ctx.setAdmitQueue
  split <;> rfl

theorem Ctx.landing_setLanding_same (q : Nat) (l : Landing) : (x.setLanding q l).landing q = l := by
  by_cases h : q = 0 <;> simp [Ctx.landing, Ctx.setLanding, h]

theorem Ctx.setLanding_arrivals (q : Nat) (l : Landing) : (x.setLanding q l).arrivals = x.arrivals := by
  unfold Ctx.setLanding
  split <;> rfl

theorem Ctx.refill_unbuffered {x : Ctx} (unbuffered : x.arrivals = []) (q : Nat) : x.refill q = x := by
  rw [Ctx.refill, unbuffered]
  rfl

end

/-! ## A context after an update -/

theorem State.setCtx_ctx_same (s : State) (c : Nat) (f : Ctx → Ctx) : (s.setCtx c f).ctx c = f (s.ctx c) :=
  (State.setCtx_ctx s c c f).trans (if_pos rfl)

theorem RecordOnly.ctx {s t : State} (h : RecordOnly s t) (c : Nat) : t.ctx c = s.ctx c :=
  congrArg (fun l => kget Ctx.empty l c) h.contexts

/-! ## What an admission changes beside its queue and slot -/

/-- Of a context, only the hold of its admission, the stash's pages and the landing rings have changed. -/
def AdmissionAside (x y : Ctx) : Prop :=
  y = { x with holding := y.holding, stash := y.stash, fwdLand := y.fwdLand, gradLand := y.gradLand }

namespace AdmissionAside

theorem refl (x : Ctx) : AdmissionAside x x := rfl

theorem trans {x y z : Ctx} (h : AdmissionAside x y) (k : AdmissionAside y z) : AdmissionAside x z := by
  unfold AdmissionAside at *
  rw [k, h]

theorem setLanding (x : Ctx) (q : Nat) (l : Landing) : AdmissionAside x (x.setLanding q l) := by
  unfold Ctx.setLanding
  split <;> rfl

variable {x y : Ctx} (h : AdmissionAside x y)
include h

theorem slots : y.slots = x.slots := by rw [h]
theorem working : y.working = x.working := by rw [h]
theorem arrivals : y.arrivals = x.arrivals := by rw [h]
theorem switched : y.switched = x.switched := by rw [h]
theorem trying : y.trying = x.trying := by rw [h]
theorem admitQueue (q : Nat) : y.admitQueue q = x.admitQueue q := by rw [h]; rfl
theorem mirrorBuffer : Machine.mirrorBuffer y = Machine.mirrorBuffer x := by rw [h]; rfl

end AdmissionAside

/-- Only flows have changed, and what stands aside in context `c`. -/
structure AsideOnly (c : Nat) (s t : State) : Prop where
  frame : t = { s with net := t.net, contexts := t.contexts }
  ctx : AdmissionAside (s.ctx c) (t.ctx c)

namespace AsideOnly

variable {c : Nat} {s t u : State}

theorem refl (s : State) : AsideOnly c s s := ⟨rfl, .refl _⟩

theorem trans (h : AsideOnly c s t) (k : AsideOnly c t u) : AsideOnly c s u :=
  ⟨by rw [k.frame, h.frame], h.ctx.trans k.ctx⟩

theorem setFlow (s : State) (f : Nat) (x : Flow) : AsideOnly c s (s.setFlow f x) := ⟨rfl, .refl _⟩

theorem setCtx (f : Ctx → Ctx) (h : AdmissionAside (s.ctx c) (f (s.ctx c))) : AsideOnly c s (s.setCtx c f) :=
  ⟨rfl, by rw [State.setCtx_ctx_same]; exact h⟩

end AsideOnly

/-- Credit granted is a flow's, and its turn is kept with the landing ring (R249). -/
theorem grantRecords_aside (s : State) (c q : Nat) : AsideOnly c s (grantRecords s c q) := by
  unfold grantRecords
  split
  next =>
    refine foldl_related (AsideOnly c) .refl .trans _ (fun u _ => ?_) _ s
    split
    next => exact .refl u
    next f _ => exact (AsideOnly.setFlow u f _).trans (.setCtx _ (.setLanding _ _ _))
  next => exact .refl s

theorem claimEntry_aside (s : State) (c q : Nat) : AsideOnly c s (claimEntry s c q) := .setCtx _ (.setLanding _ q _)

theorem grantEntry_net (s : State) (c q : Nat) : grantEntry s c q = { s with net := (grantEntry s c q).net } :=
  foldl_related (fun s t => t = { s with net := t.net }) (fun _ => rfl) (fun h k => by rw [k, h]) _ (fun _ _ => rfl) _ s

theorem mapPages_aside (s : State) (c d : Nat) : AsideOnly c s (mapPages s c d) := by
  unfold mapPages
  split
  next => exact foldl_related (AsideOnly c) .refl .trans _ (fun t i => AsideOnly.setCtx (fun x => { x with
      stash := kset x.stash (d * 65536 + i) ⟨freePage x, 0⟩ }) rfl) _ s
  next => exact .refl s

/-! ## The head record leaves its queue (R244, R248) -/

/-- With no record buffered, the queue of an admission has lost its head, and nothing takes its place. -/
theorem takeRecord_takes {s : State} {c : Nat} (unbuffered : (s.ctx c).arrivals = []) (q r : Nat) :
    takeRecord s c q r = { s with net := (takeRecord s c q r).net, contexts := (takeRecord s c q r).contexts } ∧
    AdmissionAside ((s.ctx c).setAdmitQueue q ((s.ctx c).admitQueue q).tail) ((takeRecord s c q r).ctx c) := by
  unfold takeRecord
  dsimp only
  generalize taken : s.setCtx c _ = t
  have ctx : AdmissionAside ((s.ctx c).setAdmitQueue q ((s.ctx c).admitQueue q).tail) (t.ctx c) := by
    rw [← taken, State.setCtx_ctx_same, Ctx.refill_unbuffered]
    · exact .setLanding _ _ _
    · rw [Ctx.setLanding_arrivals, Ctx.setAdmitQueue_arrivals, unbuffered]
  have granted := (grantRecords_aside t c q).trans (grantRecords_aside _ c (1 - q))
  exact ⟨by rw [granted.frame, ← taken]; rfl, ctx.trans granted.ctx⟩

/-! ## The slot and its mirror (R243, R246) -/

theorem setSlot_ctx (s : State) (c d : Nat) (m : MicroSlot) :
    (setSlot s c d m).ctx c = { s.ctx c with slots := kset (s.ctx c).slots d m } := by
  have set := State.setCtx_ctx_same s c fun x => { x with slots := kset x.slots d m }
  unfold setSlot
  dsimp only
  split
  · exact set
  · exact set

theorem setSlot_frame (s : State) (c d : Nat) (m : MicroSlot) : setSlot s c d m =
    { s with contexts := (setSlot s c d m).contexts, mem := (setSlot s c d m).mem, poison := (setSlot s c d m).poison } := by
  unfold setSlot
  dsimp only
  split <;> rfl

theorem setSlot_mem_unmirrored {s : State} {c : Nat} (bare : mirrorBuffer (s.ctx c) = none) (d : Nat) (m : MicroSlot) :
    (setSlot s c d m).mem = s.mem := by
  rw [setSlot, bare]
  rfl

theorem setSlot_mem_mirrored {s : State} {c : Nat} {b : Buffer} (mirror : mirrorBuffer (s.ctx c) = some b) (d : Nat) (m : MicroSlot) :
    (setSlot s c d m).mem = memWrite s.mem (b.address + 128 * d) (leBytes 64 (m.fwd.getD 0) ++ leBytes 64 m.grad) := by
  have plain (bs : List Byte) : (untagged bs).map (·.1) = bs := by simp [untagged, Function.comp_def]
  rw [setSlot, mirror]
  show memWrite s.mem _ _ = _
  rw [plain]

/-! ## An admission (R244, R245, R247) -/

/-- The head of queue `q`, record `r`, is admitted into slot `d` of context `c`, which now holds `m`. -/
structure Admitted (s t : State) (c q d r : Nat) (m : MicroSlot) (sels : List Nat) : Prop where
  slots : (t.ctx c).slots = kset (s.ctx c).slots d m
  queue : (t.ctx c).admitQueue q = ((s.ctx c).admitQueue q).tail
  other : (t.ctx c).admitQueue (1 - q) = (s.ctx c).admitQueue (1 - q)
  working : ∀ i ∈ sels, kfind (t.ctx c).working i = some d
  count : t.dget (0x4060 + c) (8 + q) = countUp (entryBytes (0x4060 + c) (8 + q)) (s.dget (0x4060 + c) (8 + q)) 1
  poisoned : recPoison r = true → bit (t.dget 0x5050 1) 3 = true
  blocks : t.blocks = s.blocks
  unmirrored : mirrorBuffer (s.ctx c) = none → t.mem = s.mem
  mirrored : ∀ b, mirrorBuffer (s.ctx c) = some b →
    t.mem = memWrite s.mem (b.address + 128 * d) (leBytes 64 (m.fwd.getD 0) ++ leBytes 64 m.grad)

/-- Every descriptor that the bundle names works on slot `d`. -/
theorem kfind_working {i d : Nat} {sels : List Nat} (named : i ∈ sels) (w : List (Nat × Nat)) :
    kfind (sels.foldl (fun w i => kset w i d) w) i = some d := by
  have set : (i, d) ∈ sels.map fun i => (i, d) := List.mem_map.2 ⟨i, named, rfl⟩
  have found : kfind (ksets w (sels.map fun i => (i, d))) i = some d := by
    refine kfind_ksets_mem set (fun v inside => ?_) w
    obtain ⟨j, -, e⟩ := List.mem_map.1 inside
    exact (Prod.mk.inj e).2.symm
  rwa [ksets, List.foldl_map] at found

/-- The head of queue `q` has left context `c`, and the named descriptors work on slot `d`. -/
structure RecordTaken (s t : State) (c q d : Nat) (sels : List Nat) : Prop where
  frame : t = { s with net := t.net, contexts := t.contexts }
  slots : (t.ctx c).slots = (s.ctx c).slots
  queue : (t.ctx c).admitQueue q = ((s.ctx c).admitQueue q).tail
  other : (t.ctx c).admitQueue (1 - q) = (s.ctx c).admitQueue (1 - q)
  working : ∀ i ∈ sels, kfind (t.ctx c).working i = some d

theorem setWorking_takeRecord {s : State} {c q : Nat} (hq : q < 2) (unbuffered : (s.ctx c).arrivals = []) (d r : Nat)
    (sels : List Nat) : RecordTaken s (setWorking (takeRecord s c q r) c d sels) c q d sels := by
  obtain ⟨frame, aside⟩ := takeRecord_takes unbuffered q r
  generalize takeRecord s c q r = u at frame aside
  have ctx : (setWorking u c d sels).ctx c =
      { u.ctx c with working := sels.foldl (fun w i => kset w i d) (u.ctx c).working } := State.setCtx_ctx_same ..
  have queues (p : Nat) : ((setWorking u c d sels).ctx c).admitQueue p = (u.ctx c).admitQueue p := by rw [ctx]; rfl
  refine ⟨by rw [frame]; rfl, ?_, ?_, ?_, fun i named => ?_⟩
  · rw [ctx]
    exact aside.slots.trans (Ctx.setAdmitQueue_slots ..)
  · rw [queues, aside.admitQueue, Ctx.admitQueue_setAdmitQueue_same]
  · rw [queues, aside.admitQueue, Ctx.admitQueue_setAdmitQueue_other _ hq]
  · rw [ctx]
    exact kfind_working named _

/-- An admission is counted once, and a poisoned record flagged (R266); neither changes a context or memory. -/
theorem admitted_records {s : State} {c q d r : Nat} (far : c < 4) (hq : q < 2) (sels : List Nat) :
    let t := setWorking (takeRecord s c q r) c d sels
    RecordOnly t (admitted s c q d r sels) ∧
    (admitted s c q d r sels).dget (0x4060 + c) (8 + q) =
      countUp (entryBytes (0x4060 + c) (8 + q)) (t.dget (0x4060 + c) (8 + q)) 1 ∧
    (recPoison r = true → bit ((admitted s c q d r sels).dget 0x5050 1) 3 = true) := by
  unfold admitted
  dsimp only
  generalize setWorking (takeRecord s c q r) c d sels = t
  have counted := State.dcount_dget_same t (0x4060 + c) (8 + q) 1
  split
  next =>
    refine ⟨(dcount_recordOnly ..).trans (record_recordOnly ..), ?_, fun _ => record_flag _ _ _ (by decide)⟩
    exact (record_indexKept _ 0x5050 3 _ (by simp) _ _ (by omega) (by simp; omega)).trans counted
  next clean => exact ⟨dcount_recordOnly .., counted, fun poison => absurd poison clean⟩

/-- Filling a slot and taking the head record admits it, with no record buffered. -/
theorem admitted_setSlot {s : State} {c q : Nat} (far : c < 4) (hq : q < 2) (unbuffered : (s.ctx c).arrivals = []) (d r : Nat)
    (m : MicroSlot) (sels : List Nat) : Admitted s (admitted (setSlot s c d m) c q d r sels) c q d r m sels := by
  have filled := setSlot_ctx s c d m
  have frame := setSlot_frame s c d m
  have unmirrored := fun bare => setSlot_mem_unmirrored (s := s) (c := c) bare d m
  have mirrored := fun b mirror => setSlot_mem_mirrored (s := s) (c := c) (b := b) mirror d m
  generalize setSlot s c d m = u at filled frame unmirrored mirrored ⊢
  have queues (p : Nat) : (u.ctx c).admitQueue p = (s.ctx c).admitQueue p := by rw [filled]; rfl
  have taken := setWorking_takeRecord (s := u) (c := c) hq (by rw [filled]; exact unbuffered) d r sels
  obtain ⟨only, count, poisoned⟩ := admitted_records (s := u) (d := d) (r := r) far hq sels
  generalize setWorking (takeRecord u c q r) c d sels = t at taken only count
  generalize admitted u c q d r sels = v at only count poisoned
  have mem : v.mem = u.mem := by rw [only.mem, taken.frame]
  have cells (idx sub : Nat) : t.dget idx sub = s.dget idx sub :=
    State.dget_congr (by rw [taken.frame, frame]) (by rw [taken.frame, frame]) idx sub
  exact {
    slots := by rw [only.ctx, taken.slots, filled]
    queue := by rw [only.ctx, taken.queue, queues]
    other := by rw [only.ctx, taken.other, queues]
    working := fun i named => by rw [only.ctx]; exact taken.working i named
    count := by rw [count, cells]
    poisoned := poisoned
    blocks := by rw [only.blocks, taken.frame, frame]
    unmirrored := fun bare => mem.trans (unmirrored bare)
    mirrored := fun b mirror => mem.trans (mirrored b mirror) }

/-- Pages that are mapped after it leave an admission as it stands. -/
theorem Admitted.aside {s t u : State} {c q d r : Nat} {m : MicroSlot} {sels : List Nat} (h : Admitted s t c q d r m sels)
    (k : AsideOnly c t u) : Admitted s u c q d r m sels := by
  have cells (idx sub : Nat) : u.dget idx sub = t.dget idx sub :=
    State.dget_congr (by rw [k.frame]) (by rw [k.frame]) idx sub
  have mem : u.mem = t.mem := by rw [k.frame]
  exact {
    slots := k.ctx.slots.trans h.slots
    queue := (k.ctx.admitQueue q).trans h.queue
    other := (k.ctx.admitQueue _).trans h.other
    working := fun i named => by rw [k.ctx.working]; exact h.working i named
    count := (cells ..).trans h.count
    poisoned := fun poison => by rw [cells]; exact h.poisoned poison
    blocks := by rw [k.frame]; exact h.blocks
    unmirrored := fun bare => mem.trans (h.unmirrored bare)
    mirrored := fun b mirror => mem.trans (h.mirrored b mirror) }

/-! ## Stash pressure holds (R259, R264) -/

/-- The end of a hold changes the hold and its dictionary entry alone. -/
theorem endHold_ends (s : State) (c : Nat) :
    endHold s c = { s with dict := (endHold s c).dict, contexts := (endHold s c).contexts } ∧
    AdmissionAside (s.ctx c) ((endHold s c).ctx c) ∧ CellsKept s (endHold s c) [(0x4060 + c, 5)] := by
  unfold endHold
  split
  next => exact ⟨rfl, rfl, cellsKept_of_dict rfl rfl _⟩
  next =>
    split
    next => exact ⟨rfl, rfl, cellsKept_of_dict rfl rfl _⟩
    next => exact ⟨rfl, by rw [State.setCtx_ctx_same]; rfl, dset_cellsKept s _ _ (by decide)⟩

/-- An admission after the end of a hold is one of the state before it. -/
theorem Admitted.endHold {s t : State} {c d r : Nat} {m : MicroSlot} {sels : List Nat}
    (h : Admitted (endHold s c) t c 0 d r m sels) : Admitted s t c 0 d r m sels := by
  obtain ⟨frame, ctx, cells⟩ := endHold_ends s c
  generalize Machine.endHold s c = u at h frame ctx cells
  have mem : u.mem = s.mem := by rw [frame]
  exact {
    slots := by rw [h.slots, ctx.slots]
    queue := by rw [h.queue, ctx.admitQueue]
    other := by rw [h.other, ctx.admitQueue]
    working := h.working
    count := by rw [h.count, cells (0x4060 + c) (8 + 0) (by decide) (by simp)]
    poisoned := h.poisoned
    blocks := by rw [h.blocks, frame]
    unmirrored := fun bare => by rw [h.unmirrored (ctx.mirrorBuffer.trans bare), mem]
    mirrored := fun b mirror => by rw [h.mirrored b (ctx.mirrorBuffer.trans mirror), mem] }

/-- No switched slot and no waiting fallback: there is none to end (R468, R469). -/
theorem endFallback_none {s : State} {c : Nat} (switched : (s.ctx c).switched = []) (trying : (s.ctx c).trying = []) (d : Nat) :
    endFallback s c d = s := by
  simp [endFallback, switched, trying]

/-- The state in which an admission of context `c` into slot `d` is held: a hold that begins is recorded (R259). -/
def beginHold (c d : Nat) (s : State) : State :=
  if s.dget (0x4060 + c) 5 = 0 then
    (((s.dset (0x4060 + c) 5 1).setCtx c fun x => { x with holding := some d }).dcount (0x4060 + c) 6 1).record 0x5050 0 []
      (some (stageFirst 0x3FFFF c 8 (s.pc c)))
  else s

theorem holdAdmission_eq (c d : Nat) (s : State) :
    holdAdmission c d s = waitLowest c 4 (waitIn c 4) ((beginHold c d s).dcount (0x4060 + c) 7 1) := rfl

/-- An admission of context `c` into slot `d` is held in `t`: what a hold that begins has changed of `s`. -/
structure HoldBegun (s t : State) (c d : Nat) : Prop where
  frame : t = { s with dict := t.dict, garnet := t.garnet, freeCount := t.freeCount, contexts := t.contexts }
  ctx : AdmissionAside (s.ctx c) (t.ctx c)
  pressed : t.dget (0x4060 + c) 5 ≠ 0
  count : t.dget (0x4060 + c) 7 = s.dget (0x4060 + c) 7
  areas : IndexKept s t [0x4060 + c, 0x5050, 0x50D0]
  first : s.dget (0x4060 + c) 5 = 0 → bit (t.dget 0x5050 1) 0 = true ∧ (t.ctx c).holding = some d

theorem beginHold_begins {c : Nat} (far : c < 4) (d : Nat) (s : State) : HoldBegun s (beginHold c d s) c d := by
  unfold beginHold
  split
  next idle =>
    generalize e : ((s.dset (0x4060 + c) 5 1).setCtx c fun x => { x with holding := some d }).dcount (0x4060 + c) 6 1 = t
    have only := record_recordOnly t 0x5050 0 [] (some (stageFirst 0x3FFFF c 8 (s.pc c)))
    have kept := record_indexKept t 0x5050 0 (counts := []) (some (stageFirst 0x3FFFF c 8 (s.pc c))) (by simp)
    have flagged := record_flag t (idx := 0x5050) (flag := 0) [] (some (stageFirst 0x3FFFF c 8 (s.pc c))) (by decide)
    generalize t.record 0x5050 0 [] (some (stageFirst 0x3FFFF c 8 (s.pc c))) = u at only kept flagged ⊢
    have ctx : u.ctx c = { s.ctx c with holding := some d } := by
      rw [only.ctx, ← e, (dcount_recordOnly ..).ctx, State.setCtx_ctx_same]
      rfl
    have cell {sub : Nat} (small : sub < 256) (other : sub ≠ 6) :
        u.dget (0x4060 + c) sub = (s.dset (0x4060 + c) 5 1).dget (0x4060 + c) sub := by
      rw [kept _ _ small (by simp; omega), ← e]
      exact State.dcount_dget_other _ _ _ _ _ _ (by decide) small (.inr other.symm)
    refine ⟨by rw [only.1, ← e]; rfl, by rw [ctx]; rfl, ?_, ?_, ?_, fun _ => ⟨flagged, by rw [ctx]⟩⟩
    · rw [cell (by decide) (by decide), State.dset_dget_same]
      decide
    · rw [cell (by decide) (by decide)]
      exact State.dset_dget_other _ _ _ _ _ _ (by decide) (by decide) (.inr (by decide))
    · refine IndexKept.trans ?_ (kept.mono (by simp))
      rw [← e]
      exact ((dset_indexKept s _ _ (by decide)).mono (by simp)).trans
        ((setCtx_indexKept _ _ _ _).trans ((dcount_indexKept _ _ _ (by decide)).mono (by simp)))
  next held => exact ⟨rfl, rfl, held, rfl, .refl _ _, fun idle => absurd idle held⟩

/-- Of a bundle that waits, only what describes the wait changes. -/
theorem waitIn_ctx (c k : Nat) (s : State) : SameButWait (s.ctx c) ((waitIn c k s).ctx c) := by
  unfold waitIn
  dsimp only
  split
  next => rfl
  next => rw [State.setCtx_ctx_same]; rfl

/-- The admission of context `c` into slot `d` is held in `t`, and its bundle waits in class 4. -/
structure AdmissionHeld (s t : State) (c d : Nat) : Prop where
  wait : t.dget (0x4030 + c) 2 = 4
  pc : t.pc c = s.pc c
  pressed : t.dget (0x4060 + c) 5 ≠ 0
  count : t.dget (0x4060 + c) 7 = countUp (entryBytes (0x4060 + c) 7) (s.dget (0x4060 + c) 7) 1
  first : s.dget (0x4060 + c) 5 = 0 → bit (t.dget 0x5050 1) 0 = true ∧ (t.ctx c).holding = some d
  queues : ∀ q, (t.ctx c).admitQueue q = (s.ctx c).admitQueue q
  slots : (t.ctx c).slots = (s.ctx c).slots
  mem : t.mem = s.mem
  blocks : t.blocks = s.blocks

/-- A held admission waits in class 4 and is counted, and every hold that begins is recorded (R259). -/
theorem holdAdmission_holds {s : State} {c : Nat} (far : c < 4) (d : Nat)
    (free : s.dget (0x4030 + c) 2 = 0 ∨ 4 ≤ s.dget (0x4030 + c) 2) : AdmissionHeld s (holdAdmission c d s) c d := by
  have begun := beginHold_begins far d s
  rw [holdAdmission_eq]
  generalize beginHold c d s = u at begun ⊢
  have beside (idx sub : Nat) (small : sub < 256) (other : idx ≠ 0x4060 + c ∨ 7 ≠ sub) :
      (u.dcount (0x4060 + c) 7 1).dget idx sub = u.dget idx sub :=
    State.dcount_dget_other _ _ _ _ _ _ (by decide) small (by omega)
  have stream (sub : Nat) (small : sub < 256) : (u.dcount (0x4060 + c) 7 1).dget (0x4030 + c) sub = s.dget (0x4030 + c) sub :=
    (beside _ sub small (.inl (by omega))).trans (begun.areas _ sub small (by simp; omega))
  have waits : waitLowest c 4 (waitIn c 4) (u.dcount (0x4060 + c) 7 1) = waitIn c 4 (u.dcount (0x4060 + c) 7 1) := by
    rw [waitLowest, if_neg]
    rw [stream 2 (by decide)]
    omega
  have cells := waitIn_cellsKept c (k := 4) (by decide) (u.dcount (0x4060 + c) 7 1)
  have ctx : SameButWait (u.ctx c) _ := waitIn_ctx c 4 (u.dcount (0x4060 + c) 7 1)
  rw [waits]
  exact {
    wait := waitIn_dget_class ..
    pc := (cells _ 1 (by decide) (by simp)).trans (stream 1 (by decide))
    pressed := by rw [cells _ 5 (by decide) (by simp), beside _ 5 (by decide) (.inr (by decide))]; exact begun.pressed
    count := by rw [cells _ 7 (by decide) (by simp), State.dcount_dget_same, begun.count]
    first := fun idle => by
      rw [cells _ 1 (by decide) (by simp), beside _ 1 (by decide) (.inr (by decide)), ctx]
      exact begun.first idle
    queues := fun q => by rw [ctx]; exact begun.ctx.admitQueue q
    slots := by rw [ctx]; exact begun.ctx.slots
    mem := by rw [waitIn_mem, (dcount_recordOnly ..).mem, begun.frame]
    blocks := by rw [waitIn_blocks, (dcount_recordOnly ..).blocks, begun.frame] }

/-! ## What the commands do -/

theorem powered_of_running {s : State} {c : Nat} (run : s.running c = true) : s.power.state = .up :=
  eq_of_beq (Bool.and_eq_true_iff.1 run).1

theorem admitLegal_of {s : State} {c d : Nat} {sels : List Nat} (small : d < 128) (slot : d < slotsOf s c)
    (named : ∀ i ∈ sels, headerOk s c i 0 = true) : admitLegal s c d sels = true := by
  simp [admitLegal, small, slot, List.all_eq_true.2 named]

section
variable {s : State} {c d r : Nat} {sels rest : List Nat} (run : s.running c = true) (legal : admitLegal s c d sels = true)
include run legal

/-- A forward record at the head of its queue is admitted where no hold, copy or fallback stands before it. -/
theorem execAdmitFwd_admits (far : c < 4) (idle : (s.cairnOf c).copying = none) (head : (s.ctx c).fwdQueue = r :: rest)
    (free : stashHold s c d = false) (switched : (s.ctx c).switched = []) (trying : (s.ctx c).trying = [])
    (unbuffered : (s.ctx c).arrivals = []) :
    ∃ t, exec (.admitFwd c d sels) s = .next t ∧ Admitted s t c 0 d r ⟨some r, 0⟩ sels := by
  obtain ⟨frame, ctx, -⟩ := endHold_ends s c
  have idle' : ((endHold s c).cairnOf c).copying = none := by
    rw [frame]
    exact idle
  have next : exec (.admitFwd c d sels) s =
      .next (mapPages (admitted (setSlot (endHold s c) c d ⟨some r, 0⟩) c 0 d r sels) c d) := by
    show execAdmitFwd c d sels s = _
    have first : ((s.ctx c).admitQueue 0).head? = some r := congrArg List.head? head
    simp only [execAdmitFwd, run, legal, first, free, Bool.not_true, Bool.false_eq_true, if_false,
      whenCopied_free (copied_of_idle idle' _), endFallback_none (ctx.switched.trans switched) (ctx.trying.trans trying)]
  have admits := admitted_setSlot far (by decide : 0 < 2) (ctx.arrivals.trans unbuffered) d r ⟨some r, 0⟩ sels
  exact ⟨_, next, (admits.aside (mapPages_aside _ c d)).endHold⟩

/-- A forward record at the head of its queue whose admission would overfill the stash is held. -/
theorem execAdmitFwd_holds (head : (s.ctx c).fwdQueue = r :: rest) (held : stashHold s c d = true) :
    exec (.admitFwd c d sels) s = .next (holdAdmission c d s) := by
  show execAdmitFwd c d sels s = _
  have first : ((s.ctx c).admitQueue 0).head? = some r := congrArg List.head? head
  simp only [execAdmitFwd, run, legal, first, held, Bool.not_true, Bool.false_eq_true, if_false, if_true]

variable {own g : Nat} (head : (s.ctx c).gradQueue = r :: rest) (filled : kfind (s.ctx c).slots d = some ⟨some own, g⟩)
include head filled

/-- A gradient record at the head of its queue that follows its slot's forward record is admitted beside it. -/
theorem execAdmitGrad_admits (far : c < 4) (idle : (s.cairnOf c).copying = none) (microbatch : recMicrobatch own = recMicrobatch r)
    (step : recStep own = recStep r) (unbuffered : (s.ctx c).arrivals = []) :
    ∃ t, exec (.admitGrad c d sels) s = .next t ∧ Admitted s t c 1 d r ⟨some own, r⟩ sels := by
  refine ⟨_, ?_, admitted_setSlot far (by decide) unbuffered d r _ sels⟩
  show execAdmitGrad c d sels s = _
  have first : ((s.ctx c).admitQueue 1).head? = some r := congrArg List.head? head
  simp [execAdmitGrad, run, legal, first, kget, filled, microbatch, step, whenCopied_free (copied_of_idle idle _)]

/-- A gradient record that does not follow its slot's forward record is a fatal fault of cause 7, with the two microbatches logged. -/
theorem execAdmitGrad_faults (breaks : recMicrobatch own ≠ recMicrobatch r ∨ recStep own ≠ recStep r) :
    ∃ t, exec (.admitGrad c d sels) s = .next t ∧ t.power.state = .faulted ∧ t.dget 0x5000 1 = 7 ∧ t.contexts = [] := by
  have logged := log_recordOnly s 0x5000 7 3 (recMicrobatch own) (recMicrobatch r)
  have next : exec (.admitGrad c d sels) s = .next (enterFaulted (s.log 0x5000 7 3 (recMicrobatch own) (recMicrobatch r)) 7
      (d + c * 2 ^ 14 + recMicrobatch own % 2 ^ 16 * 2 ^ 16 + recMicrobatch r * 2 ^ 32)) := by
    show execAdmitGrad c d sels s = _
    have first : ((s.ctx c).admitQueue 1).head? = some r := congrArg List.head? head
    have broken : ((some own).isSome && recMicrobatch own == recMicrobatch r && recStep own == recStep r) = false := by
      simpa [or_iff_not_imp_left] using breaks
    simp only [execAdmitGrad, run, legal, first, kget, filled, Option.getD_some, broken, Bool.not_true, Bool.false_eq_true, if_false]
  generalize s.log 0x5000 7 3 (recMicrobatch own) (recMicrobatch r) = u at logged next
  have up : u.power.state ≠ .faulted := by
    rw [logged.power, powered_of_running run]
    decide
  have reset := enterFaulted_slabsReset up 7 (d + c * 2 ^ 14 + recMicrobatch own % 2 ^ 16 * 2 ^ 16 + recMicrobatch r * 2 ^ 32)
  exact ⟨_, next, reset.state, (reset.cells 1 (by simp)).trans (writeFault_dget _ _ _).1, reset.contexts⟩

end

/-! ## Host pushes and landing entries (R241, R242, R248) -/

theorem execAdmitPush_pushes {s : State} {c q : Nat} (far : c < 4) (up : s.squareUp = true) (hq : q < 2) :
    exec (if q = 0 then .admitPushFwd c else .admitPushGrad c) s = .next (pushRecord s c q) := by
  have both : (s.squareUp && decide (c < 4)) = true := by simp [up, far]
  obtain rfl | rfl : q = 0 ∨ q = 1 := by omega
  · exact congrArg Host.Outcome.next (if_pos both)
  · exact congrArg Host.Outcome.next (if_pos both)

/-- A valid record that finds an entry free joins its queue with its arrival beat. -/
theorem pushRecord_joins {s : State} {c q : Nat} (room : queueFree s c q ≠ 0)
    (valid : recordFault (s.ctx c) q (kget 0 s.staging (2 * c + q)) = 0) :
    pushRecord s c q = { s with contexts := (pushRecord s c q).contexts } ∧
    AdmissionAside ((s.ctx c).setAdmitQueue q ((s.ctx c).admitQueue q ++
      [putBits (kget 0 s.staging (2 * c + q)) 192 64 s.beat])) ((pushRecord s c q).ctx c) := by
  unfold pushRecord
  simp only [if_neg room, valid, ne_eq, not_true_eq_false, if_false]
  generalize kget 0 s.staging (2 * c + q) = r
  have queued : (enqueueRecord s c q r).ctx c =
      (s.ctx c).setAdmitQueue q ((s.ctx c).admitQueue q ++ [putBits r 192 64 s.beat]) := by
    rw [enqueueRecord, State.setCtx_ctx_same]
  rw [← queued]
  split
  next => exact ⟨rfl, (claimEntry_aside _ c q).ctx⟩
  next => exact ⟨rfl, .refl _⟩

theorem pushRecord_invalid {s : State} {c q : Nat} (room : queueFree s c q ≠ 0)
    (invalid : recordFault (s.ctx c) q (kget 0 s.staging (2 * c + q)) ≠ 0) :
    pushRecord s c q = recordInvalid s 0x3FFFF c (recordFault (s.ctx c) q (kget 0 s.staging (2 * c + q))) := by
  rw [pushRecord, if_neg room]
  exact if_pos invalid

theorem pushRecord_full {s : State} {c q : Nat} (full : queueFree s c q = 0) :
    pushRecord s c q = s.record 0x5050 4 [(5, 1)] (some (stageFirst 0x3FFFF c 7 0xFFFF)) := if_pos full

/-- A due entry becomes free, and its size is granted to flows alone. -/
theorem execLandingEntryFree_frees {s : State} {c q : Nat} (due : ((s.ctx c).landing q).due ≠ 0) :
    ∃ t, exec (.landingEntryFree c q) s = .next t ∧ t = { s with net := t.net, contexts := t.contexts } ∧
      (t.ctx c).landing q = { (s.ctx c).landing q with
        due := ((s.ctx c).landing q).due - 1, freed := ((s.ctx c).landing q).freed + 1 } := by
  generalize e : (s.setCtx c fun x => x.setLanding q { (s.ctx c).landing q with
    due := ((s.ctx c).landing q).due - 1, freed := ((s.ctx c).landing q).freed + 1 }) = u
  have next : exec (.landingEntryFree c q) s = .next (grantEntry u c q) := by
    rw [← e]
    exact if_neg due
  have granted := grantEntry_net u c q
  refine ⟨_, next, by rw [granted, ← e]; rfl, ?_⟩
  have ctx : (grantEntry u c q).ctx c = u.ctx c := by
    rw [granted]
    rfl
  rw [ctx, ← e, State.setCtx_ctx_same, Ctx.landing_setLanding_same]

end Sys2Proof.Machine

open Sys2Proof Sys2Proof.Machine

/-- Settles O39: an admission's effect is its slot, its queue and its records; grants, pages and a hold's end stand beside them. -/
theorem recordsAreAdmitted : Obligations.RecordsAreAdmitted := by
  intro s c d r g own sels rest far
  refine ⟨fun run small slot named idle => ?_, fun up q hq => ?_, fun q _ due => ?_⟩
  · have legal := admitLegal_of small slot named
    refine ⟨fun head free switched trying unbuffered => ?_, fun head held wait => ?_,
      fun head filled microbatch step unbuffered => ?_, fun head filled breaks => ?_⟩
    · obtain ⟨t, next, h⟩ := execAdmitFwd_admits run legal far idle head free switched trying unbuffered
      refine ⟨t, next, by rw [h.slots, kfind_kset_same], fun e other => by rw [h.slots, kfind_kset_other _ _ other],
        h.queue.trans (congrArg List.tail head), h.other, h.working, h.count, h.blocks, h.poisoned, h.unmirrored, fun b mirror => ?_⟩
      have length : (leBytes 64 r ++ leBytes 64 0).length = 128 := by simp [leBytes_length]
      rw [MemoryKeptBut, h.mirrored b mirror]
      refine ⟨?_, fun x outside => memByte_memWrite_other _ _ (length.symm ▸ outside)⟩
      exact length ▸ memRead_memWrite s.mem _ (leBytes 64 r ++ leBytes 64 0)
    · have h := holdAdmission_holds far d wait
      exact ⟨_, execAdmitFwd_holds run legal head held, h.wait, h.pressed, h.pc, h.count, h.mem, h.first, (h.queues 0).trans head,
        h.slots, h.blocks⟩
    · obtain ⟨t, next, h⟩ := execAdmitGrad_admits run legal head filled far idle microbatch step unbuffered
      exact ⟨t, next, by rw [h.slots, kfind_kset_same], h.queue.trans (congrArg List.tail head), h.other, h.working, h.count, h.blocks⟩
    · exact execAdmitGrad_faults run legal head filled breaks
  · have pushes := execAdmitPush_pushes far up hq
    refine ⟨fun room valid => ?_, fun room invalid => ?_, fun full => ?_⟩
    · obtain ⟨frame, aside⟩ := pushRecord_joins room valid
      exact ⟨_, pushes, frame, (aside.admitQueue q).trans (Ctx.admitQueue_setAdmitQueue_same ..),
        (aside.admitQueue _).trans (Ctx.admitQueue_setAdmitQueue_other _ hq _)⟩
    · rw [pushes, pushRecord_invalid room invalid]
      exact ⟨_, rfl, record_recordOnly .., record_flag _ _ _ (by decide),
        record_count _ _ (by decide) (by decide) (by decide) (by decide)⟩
    · rw [pushes, pushRecord_full full]
      exact ⟨_, rfl, record_recordOnly .., record_flag _ _ _ (by decide),
        record_count _ _ (by decide) (by decide) (by decide) (by decide)⟩
  · obtain ⟨t, next, frame, freed⟩ := execLandingEntryFree_frees due
    exact ⟨t, next, freed, by rw [frame], by rw [frame]⟩

end

section
/-! PROOF. The items of the survey and its end (O8). -/

namespace Sys2Proof.Machine
open Sys2Proof

/-! ## What bring-up of the ports may change (R348, R373) -/

/-- Only the network, the beat unit, the dictionary and the controller, and what leaves the module, have changed. -/
def BringUpOnly (s t : State) : Prop :=
  t = { s with net := t.net, quartz := t.quartz, dict := t.dict, garnet := t.garnet, freeCount := t.freeCount, out := t.out }

namespace BringUpOnly

variable {s t u : State}

theorem refl (s : State) : BringUpOnly s s := rfl

theorem trans (h : BringUpOnly s t) (k : BringUpOnly t u) : BringUpOnly s u := by
  unfold BringUpOnly at *
  rw [k, h]

theorem power (h : BringUpOnly s t) : t.power = s.power := by rw [h]
theorem mem (h : BringUpOnly s t) : t.mem = s.mem := by rw [h]

theorem of_recordOnly (h : RecordOnly s t) : BringUpOnly s t := by
  unfold BringUpOnly
  rw [h.1]

theorem foldl {β : Type} (f : State → β → State) (h : ∀ t e, BringUpOnly t (f t e)) (l : List β) (s : State) :
    BringUpOnly s (l.foldl f s) := foldl_related BringUpOnly .refl .trans f h l s

end BringUpOnly

theorem transmit_bringUpOnly (s : State) (f u : Nat) : BringUpOnly s (transmit s f u) := by
  have sent (t : State) (o : Out) (idx flag : Nat) (counts : List (Nat × Nat)) (first : Option Nat) (moved : BringUpOnly s t) :
      BringUpOnly s ((t.emit o).record idx flag counts first) :=
    moved.trans ((show BringUpOnly t (t.emit o) from rfl).trans (.of_recordOnly (record_recordOnly ..)))
  unfold transmit
  dsimp only
  split
  · exact .refl s
  · split
    · exact rfl
    · split
      · split
        · exact rfl
        · exact sent _ _ _ _ _ _ rfl
      · split
        · exact rfl
        · split
          · exact rfl
          · exact sent _ _ _ _ _ _ rfl

theorem retransmit_bringUpOnly (s : State) (f u : Nat) : BringUpOnly s (retransmit s f u) := by
  unfold retransmit
  dsimp only
  split
  · exact .refl s
  · split
    · exact rfl
    · refine .trans ?_ (transmit_bringUpOnly _ f u)
      exact rfl

theorem moveFrames_bringUpOnly (s : State) (p : Nat) : BringUpOnly s (moveFrames s p) := by
  refine .foldl _ (fun t e => ?_) _ s
  split
  · exact .foldl _ (fun u (y : StoreUnit) => retransmit_bringUpOnly u e.1 y.seq) _ t
  · exact .refl t

theorem portDown_bringUpOnly (s : State) (p v : Nat) : BringUpOnly s (portDown s p v) := by
  unfold portDown
  dsimp only
  generalize cells : s.dsets _ = t
  have written : BringUpOnly s t := cells ▸ .of_recordOnly (dsets_recordOnly s _)
  refine .trans (written.trans ?_) (moveFrames_bringUpOnly _ p)
  exact rfl

theorem overBudget_bringUpOnly (s : State) (p : Nat) : BringUpOnly s (overBudget s p) := by
  refine .trans (.trans ?_ (portDown_bringUpOnly _ p portOverBudget)) (.of_recordOnly (record_recordOnly ..))
  exact rfl

/-- Whatever the cage of a port allows, its bring-up starts with the port down (R348). -/
theorem startPort_bringUpOnly (s : State) (p : Nat) : BringUpOnly s (startPort s p) := by
  refine BringUpOnly.trans (t := declareCage s p) rfl ?_
  unfold startPort
  dsimp only
  split
  · refine .trans ?_ (portDown_bringUpOnly _ p portDisabled)
    exact rfl
  · split
    · exact portDown_bringUpOnly _ p portNoModule
    · split
      · exact portDown_bringUpOnly _ p portOverBudget
      · split
        · exact overBudget_bringUpOnly _ p
        · refine .trans ?_ (portDown_bringUpOnly _ p portNoLink)
          exact rfl

theorem startPorts_bringUpOnly (s : State) : BringUpOnly s (startPorts s) := .foldl _ startPort_bringUpOnly _ s

/-- Microcode is loaded once the boot image is accepted or no longer awaited, and bring-up of the ports starts (R554, R560). -/
theorem execMicrocodeLoaded_due {s : State} (survey : s.power.state = .survey) (due : s.power.microDone = false)
    (judged : 2 ≤ s.power.bootStatus) :
    exec .microcodeLoaded s = .next (startPorts (s.setPower fun p => { p with
      microDone := true
      microDigest := if p.bootStatus = 2 then p.microDigest else (committedSlot s.garnet).digest })) := by
  change execMicrocodeLoaded s = _
  simp [execMicrocodeLoaded, inSurvey, survey, due, judged]

/-! ## What the block check empties and fails (R555) -/

/-- Where every block loses its contents, every byte of a bank reads as never written. -/
theorem loseBlocks_all_memByte (s : State) {a : Nat} (bank : a < blockEnd) :
    memByte (loseBlocks s fun _ => true).mem a = memBlank := by
  have owner : bankOwner a = some (a / windowBytes) := if_pos bank
  unfold loseBlocks
  rw [finishCopies_mem]
  have kept := kfind_filter s.mem (fun x => !(match bankOwner x with | some _ => true | none => false)) a
  refine (congrArg (·.getD memBlank) kept).trans ?_
  simp [owner]

/-- Bytes and registers of blocks may be lost and cases recorded; the power and the health of every block stand. -/
structure OnlyLoses (s t : State) : Prop where
  power : t.power = s.power
  health : t.zoning.health = s.zoning.health
  blocks : s.blocks = [] → t.blocks = []
  bytes : ∀ a, memByte s.mem a = memBlank → memByte t.mem a = memBlank

namespace OnlyLoses

variable {s t u : State}

theorem refl (s : State) : OnlyLoses s s := ⟨rfl, rfl, id, fun _ => id⟩

theorem trans (h : OnlyLoses s t) (k : OnlyLoses t u) : OnlyLoses s u where
  power := k.power.trans h.power
  health := k.health.trans h.health
  blocks := k.blocks ∘ h.blocks
  bytes a := k.bytes a ∘ h.bytes a

theorem healthOf (h : OnlyLoses s t) (p : Nat) : Machine.healthOf t p = Machine.healthOf s p := by
  unfold Machine.healthOf
  rw [h.health]

theorem of_recordOnly (h : RecordOnly s t) : OnlyLoses s t where
  power := h.power
  health := by rw [h.zoning]
  blocks := by rw [h.blocks]; exact id
  bytes _ := by rw [h.mem]; exact id

/-- Evacuations that end leave the queue, and are recorded. -/
theorem endEvacs (s : State) (ended left : List Evac) :
    OnlyLoses s (ended.foldl (abandonEvac 2) { s with zoning := { s.zoning with evac := left } }) :=
  have unqueued : OnlyLoses s { s with zoning := { s.zoning with evac := left } } := ⟨rfl, rfl, id, fun _ => id⟩
  unqueued.trans (.of_recordOnly (abandonEvacs_recordOnly 2 _ ended))

theorem loseBlock (s : State) (q : Nat) : OnlyLoses s (loseBlocks s (· == q)) where
  power := (loseBlocks_lossFrame s _).power
  health := by rw [loseBlocks_lossFrame s (· == q)]
  blocks empty := by
    unfold loseBlocks
    rw [finishCopies_blocks]
    simp [eraseBlocks, empty]
  bytes a blank := by rw [loseBlocks_memByte, blank, ite_self]

end OnlyLoses

/-- A spare that is lost ends its evacuations and may lose what it mirrored (R298). -/
theorem spareLost_onlyLoses (s : State) (q : Nat) : OnlyLoses s (spareLost s q) := by
  unfold spareLost
  dsimp only
  split
  · exact .refl s
  · split
    · exact .endEvacs s _ _
    · exact (OnlyLoses.endEvacs s _ _).trans (.loseBlock _ q)

/-- A treated block that fails becomes `FAILED`, whatever else its loss ends. -/
theorem checkFails_onlyLoses {s : State} {p : Nat} (treated : healthOf s p ≤ 1) : OnlyLoses (setHealth s p 2) (checkFails s p) := by
  rw [checkFails, if_pos treated]
  exact (spareLost_onlyLoses _ p).trans (.of_recordOnly (log_recordOnly ..))

theorem checkFails_untreated {s : State} {p : Nat} (spared : ¬healthOf s p ≤ 1) : checkFails s p = s := if_neg spared

theorem checkFails_healthOf (s : State) (p q : Nat) :
    healthOf (checkFails s p) q = if p = q ∧ healthOf s q ≤ 1 then 2 else healthOf s q := by
  by_cases treated : healthOf s p ≤ 1
  · rw [(checkFails_onlyLoses treated).healthOf, setHealth_healthOf]
    by_cases same : p = q
    · subst same
      simp [treated]
    · simp [same]
  · rw [checkFails_untreated treated, if_neg]
    rintro ⟨rfl, low⟩
    exact treated low

/-- Of the blocks that the check finds bad, those treated become `FAILED`; every other block's health stands. -/
theorem foldl_checkFails_healthOf (bad : List Nat) (s : State) (q : Nat) :
    healthOf (bad.foldl checkFails s) q = if q ∈ bad ∧ healthOf s q ≤ 1 then 2 else healthOf s q := by
  induction bad generalizing s with
  | nil => simp
  | cons p rest ih =>
    rw [List.foldl_cons, ih, checkFails_healthOf]
    by_cases first : p = q ∧ healthOf s q ≤ 1
    · rw [if_pos first, if_neg (by omega), if_pos ⟨by simp [first.1], first.2⟩]
    · rw [if_neg first]
      refine if_congr ?_ rfl rfl
      rw [List.mem_cons]
      exact ⟨fun ⟨later, low⟩ => ⟨.inr later, low⟩,
        fun ⟨found, low⟩ => ⟨found.resolve_left fun same => first ⟨same.symm, low⟩, low⟩⟩

/-- Nothing stands in the blocks: no registers, and no byte of a bank. -/
def BlocksEmpty (s : State) : Prop := s.blocks = [] ∧ ∀ a, a < blockEnd → memByte s.mem a = memBlank

theorem OnlyLoses.blocksEmpty {s t : State} (h : OnlyLoses s t) (empty : BlocksEmpty s) : BlocksEmpty t :=
  ⟨h.blocks empty.1, fun a bank => h.bytes a (empty.2 a bank)⟩

/-- Failures of blocks leave the power, and blocks that are empty. -/
theorem foldl_checkFails_empty (bad : List Nat) {s : State} (empty : BlocksEmpty s) :
    (bad.foldl checkFails s).power = s.power ∧ BlocksEmpty (bad.foldl checkFails s) := by
  refine List.foldlRecOn (motive := fun t : State => t.power = s.power ∧ BlocksEmpty t) _ _ ⟨rfl, empty⟩
    fun t ⟨power, cleared⟩ p _ => ?_
  by_cases treated : healthOf t p ≤ 1
  · have loses := checkFails_onlyLoses treated
    exact ⟨loses.power.trans power, loses.blocksEmpty cleared⟩
  · rw [checkFails_untreated treated]
    exact ⟨power, cleared⟩

/-- The blocks after a check that meets no read error. -/
def checkedBlocks (s : State) (bad : List Nat) : State := bad.foldl checkFails (loseBlocks s fun _ => true)

theorem execBlockCheck_due {s : State} (survey : s.power.state = .survey) (micro : s.power.microDone = true)
    (health : s.power.healthDone = true) (due : s.power.blocksDone = false) (bad : List Nat) :
    exec (.blockCheck bad ⟨[], []⟩) s = .next ((checkedBlocks s bad).setPower fun p => { p with blocksDone := true }) := by
  change execBlockCheck bad ⟨[], []⟩ s = _
  simp [execBlockCheck, inSurvey, survey, micro, health, due, checkedBlocks, senseAll_nil]

theorem checkedBlocks_healthOf (s : State) (bad : List Nat) (q : Nat) :
    healthOf (checkedBlocks s bad) q = if q ∈ bad ∧ healthOf s q ≤ 1 then 2 else healthOf s q := by
  rw [checkedBlocks, foldl_checkFails_healthOf, (loseBlocks_lossFrame s _).health]

theorem checkedBlocks_empty (s : State) (bad : List Nat) :
    (checkedBlocks s bad).power = s.power ∧ BlocksEmpty (checkedBlocks s bad) := by
  have lost : BlocksEmpty (loseBlocks s fun _ => true) := ⟨loseBlocks_all_blocks s, fun _ => loseBlocks_all_memByte s⟩
  obtain ⟨power, empty⟩ := foldl_checkFails_empty bad lost
  exact ⟨power.trans (loseBlocks_lossFrame s _).power, empty⟩

/-! ## The end of the survey (R299, R556) -/

theorem mailRing_zoning (s : State) (ch dir : Nat) : (mailRing s ch dir).zoning = s.zoning := by
  unfold mailRing mailNotify
  dsimp only
  split
  · split <;> rfl
  · split <;> rfl

theorem mailUpdate_zoning (s : State) (ch dir : Nat) (m : MailDir) : (mailUpdate s ch dir m).zoning = s.zoning := by
  unfold mailUpdate
  dsimp only
  split
  · exact mailRing_zoning _ ch dir
  · rfl

theorem writeBytes_zoning (s : State) (a : Nat) (bs : List Byte) : (writeBytes s a bs).zoning = s.zoning := rfl

theorem postRecord_zoning (s : State) (ident ch dir : Nat) (n : Notice) : (postRecord s ident ch dir n).zoning = s.zoning := by
  unfold postRecord
  exact (mailUpdate_zoning _ ch dir _).trans (writeBytes_zoning s _ _)

theorem postNotice_zoning (s : State) (ident ch kind tag : Nat) : (postNotice s ident ch kind tag).zoning = s.zoning := by
  unfold postNotice
  dsimp only
  split
  · rfl
  · split
    · exact (record_recordOnly s _ _ _ _).zoning
    · split
      · exact postRecord_zoning s _ _ _ _
      · split
        · rfl
        · exact (record_recordOnly s _ _ _ _).zoning

theorem garnetNotice_zoning (s : State) (kind tag : Nat) : (garnetNotice s kind tag).zoning = s.zoning :=
  foldl_related (fun a b => b.zoning = a.zoning) (fun _ => rfl) (fun h k => k.trans h) _
    (fun t p => postNotice_zoning t 5 (4 * p) kind tag) _ s

/-- Where the reserve sizes have taken effect, a change of `MODULE_STATE` leaves Zoning as it is. -/
theorem noteState_latched_zoning (was : ModState) (s : State) :
    (noteState was (latchReserves s)).zoning = (latchReserves s).zoning := by
  unfold noteState
  split
  · rfl
  · dsimp only
    rw [garnetNotice_zoning]
    refine (log_recordOnly _ _ _ _ _ _).zoning.trans ?_
    split <;> rfl

theorem execSurveyDone_due {s : State} {limit : Bool} (survey : s.power.state = .survey)
    (due : limit = true ∨ surveyComplete s = true) :
    exec (.surveyDone limit) s =
      .next (noteState .survey (latchReserves (s.setPower fun p => { p with state := .up }))) := by
  change execSurveyDone limit s = _
  simp [execSurveyDone, inSurvey, survey, due]

/-! ## Boot from PCIe (R559 to R561) -/

/-- A rejected image sets `BOOT_STATUS` and is logged. -/
theorem bootRejected_recordOnly (s : State) (v : Nat) :
    RecordOnly { s with power := { s.power with bootStatus := v } } (bootRejected s v) := log_recordOnly ..

/-- A submitted image of a legal size is judged: an accepted one gives the microcode's digest, every other one is rejected (R560). -/
theorem execBootSubmit_judged {s : State} (survey : s.power.state = .survey) (link : s.power.pcieUp = true)
    (source : s.dget 0x2020 0 = 1) (waiting : s.power.bootStatus = 0) (nonempty : s.power.bootLength ≠ 0)
    (fits : s.power.bootLength ≤ 67108864) :
    let bs := memRead s.mem squareBase s.power.bootLength
    exec .bootSubmit s = .next (if bootOutcome s bs = 2
      then s.setPower fun p => { p with bootStatus := 2, microDigest := Config.sha384 bs }
      else bootRejected s (bootOutcome s bs)) := by
  have legal : ¬(s.power.bootLength = 0 ∨ 67108864 < s.power.bootLength) := by omega
  change execBootSubmit s = _
  unfold execBootSubmit submitImage
  dsimp only
  rw [if_neg (by simp [inSurvey, survey, link, source, waiting]), if_neg legal]

theorem execBootImageTimeout_waiting {s : State} (survey : s.power.state = .survey) (waiting : s.power.bootStatus = 0) :
    exec .bootImageTimeout s = .next (bootRejected s 7) := by
  change execBootImageTimeout s = _
  simp [execBootImageTimeout, inSurvey, survey, waiting]

theorem execPcieLinkUp_powered {s : State} (up : s.squareUp = true) :
    exec .pcieLinkUp s = .next { s with power := { s.power with pcieUp := true } } := by
  change execPcieLinkUp s = _
  rw [execPcieLinkUp, if_pos up]
  rfl

end Sys2Proof.Machine

open Sys2Proof Sys2Proof.Machine

/-- Settles O8: each item of the survey leaves its mark in the power state; beside it bring-up touches no memory, the check empties the
blocks, the end latches the reserve sizes, and a boot image is accepted or its rejection logged. -/
theorem surveySteps : Obligations.SurveySteps := by
  intro s bad limit
  refine ⟨fun survey due judged => ?_, fun survey micro health due => ?_, fun survey due => ?_,
    fun survey link source waiting nonempty fits => ?_, fun survey waiting => ?_, execPcieLinkUp_powered⟩
  · have started := startPorts_bringUpOnly (s.setPower fun p => { p with
      microDone := true
      microDigest := if p.bootStatus = 2 then p.microDigest else (committedSlot s.garnet).digest })
    exact ⟨_, execMicrocodeLoaded_due survey due (by omega), started.power, started.mem⟩
  · obtain ⟨power, noRegisters, blank⟩ := checkedBlocks_empty s bad
    refine ⟨_, execBlockCheck_due survey micro health due bad, ?_, fun p found treated => ?_, fun p spared => ?_, noRegisters, blank⟩
    · exact congrArg (fun p : Power => { p with blocksDone := true }) power
    · exact (checkedBlocks_healthOf s bad p).trans (if_pos ⟨found, treated⟩)
    · exact (checkedBlocks_healthOf s bad p).trans (if_neg fun failed => spared failed.1)
  · exact ⟨_, execSurveyDone_due survey due, (noteState_quiet _ _).1.power, noteState_latched_zoning _ _⟩
  · refine ⟨_, execBootSubmit_judged survey link source waiting nonempty fits, ?_⟩
    by_cases accepted : bootOutcome s (memRead s.mem squareBase s.power.bootLength) = 2
    · rw [if_pos accepted]
      exact ⟨accepted.symm, rfl, fun _ => rfl, fun other => absurd rfl other⟩
    · rw [if_neg accepted]
      have rejected := bootRejected_recordOnly s (bootOutcome s (memRead s.mem squareBase s.power.bootLength))
      have status := congrArg Power.bootStatus rejected.power
      have digest := congrArg Power.microDigest rejected.power
      exact ⟨status, rejected.mem, fun two => absurd (status.symm.trans two) accepted, fun _ => digest⟩
  · have rejected := bootRejected_recordOnly s 7
    exact ⟨_, execBootImageTimeout_waiting survey waiting, rejected.power, rejected⟩

end

section
/-! PROOF. The beat unit's entries, and what its shared operations write (R308, R314, R316, R331). -/

namespace Sys2Proof.Machine
open Sys2Proof

/-! ## Several cells written at once -/

theorem dsets_cellsKept (s : State) {l : List (Nat × Nat × Nat)} (small : ∀ e ∈ l, e.2.1 < 256) :
    CellsKept s (s.dsets l) (l.map fun e => (e.1, e.2.1)) := by
  induction l generalizing s with
  | nil => exact fun _ _ _ _ => rfl
  | cons e r ih =>
    have first := dset_cellsKept s e.1 e.2.2 (small e List.mem_cons_self)
    have rest := ih (s.dset e.1 e.2.1 e.2.2) fun x hx => small x (List.mem_cons_of_mem _ hx)
    exact (first.mono (by simp)).trans (rest.mono (by simp))

/-- Each of several writes to different cells is read back. -/
theorem dsets_dget (s : State) {l : List (Nat × Nat × Nat)} (small : ∀ e ∈ l, e.2.1 < 256)
    (apart : (l.map fun e => (e.1, e.2.1)).Nodup) : ∀ e ∈ l, (s.dsets l).dget e.1 e.2.1 = e.2.2 := by
  induction l generalizing s with
  | nil => exact nofun
  | cons e r ih =>
    obtain ⟨notLater, apart⟩ := List.nodup_cons.1 apart
    have later : ∀ x ∈ r, x.2.1 < 256 := fun x hx => small x (List.mem_cons_of_mem _ hx)
    intro x hx
    obtain rfl | hx := List.mem_cons.1 hx
    · exact (dsets_cellsKept _ later x.1 x.2.1 (small x List.mem_cons_self) notLater).trans (State.dset_dget_same ..)
    · exact ih _ later apart x hx

/-- A flag that is set stays set when another case of the same area is recorded (R583). -/
theorem record_flag_stays (s : State) {idx flag sub k : Nat} (n : Nat) (h : idx ≠ 0x50D0) (small : sub < 256) (notFlags : sub ≠ 1)
    (set : bit (s.dget idx 1) k = true) : bit ((s.record idx flag [(sub, n)] none).dget idx 1) k = true := by
  unfold State.record State.recordWith
  simp only [List.foldl_cons, List.foldl_nil]
  rw [log_indexKept _ _ _ _ _ _ idx 1 (by decide) (by simp [h]), State.dset_dget_same,
    State.dcount_dget_other _ _ _ _ _ _ small (by decide) (.inr notFlags)]
  unfold bit setBit at *
  rw [Nat.testBit_or, set, Bool.true_or]

/-- A written entry reads its value; beside the dictionary only the flash may have changed (R521). -/
theorem storeEntry_eq (s : State) (idx sub v : Nat) :
    storeEntry s idx sub v = { s.dset idx sub v with garnet := (storeEntry s idx sub v).garnet } := by
  unfold storeEntry
  dsimp only
  split <;> rfl

/-! ## Who is master, and who follows (R312) -/

theorem isFollower_iff (s : State) : isFollower s = true ↔ isMaster s = false ∧ beatSource s ≠ 3 := by simp [isFollower]

/-! ## Entry into `UNALIGNED` (R314, R341) -/

theorem enterUnaligned_recordOnly (s : State) : RecordOnly s (enterUnaligned s) := by
  unfold enterUnaligned
  split
  · exact .refl s
  · exact (dset_recordOnly ..).trans (record_recordOnly ..)

theorem enterUnaligned_status (s : State) : beatStatus (enterUnaligned s) = 4 := by
  unfold enterUnaligned
  split
  · assumption
  · exact (record_indexKept _ _ _ _ (by simp) 0x4070 4 (by decide) (by decide)).trans (State.dset_dget_same ..)

theorem enterUnaligned_indexKept (s : State) : IndexKept s (enterUnaligned s) [0x4070, 0x5070, 0x50D0] := by
  unfold enterUnaligned
  split
  · exact .refl s _
  · exact ((dset_indexKept _ _ _ (by decide)).mono (by simp)).trans ((record_indexKept _ _ _ _ (by simp)).mono (by simp))

theorem enterUnaligned_flag_stays {s : State} {k : Nat} (set : bit (s.dget 0x5070 1) k = true) :
    bit ((enterUnaligned s).dget 0x5070 1) k = true := by
  unfold enterUnaligned
  split
  · exact set
  · refine record_flag_stays _ _ (by decide) (by decide) (by decide) ?_
    rw [dset_indexKept s 0x4070 4 (by decide) 0x5070 1 (by decide) (by decide)]
    exact set

/-- An entry from another status is counted and flagged. -/
theorem enterUnaligned_counted {s : State} (other : beatStatus s ≠ 4) : bit ((enterUnaligned s).dget 0x5070 1) 7 = true ∧
    (enterUnaligned s).dget 0x5070 5 = countUp (entryBytes 0x5070 5) (s.dget 0x5070 5) 1 := by
  unfold enterUnaligned
  rw [if_neg other]
  refine ⟨record_flag _ _ _ (by decide), ?_⟩
  rw [record_count _ _ (by decide) (by decide) (by decide) (by decide),
    dset_indexKept s 0x4070 4 (by decide) 0x5070 5 (by decide) (by decide)]

/-! ## A schedule adopted, and discarded (R308, R316) -/

theorem adoptSchedule_mem (s : State) (anchor time period base seq master now : Nat) :
    (adoptSchedule s anchor time period base seq master now).mem = s.mem := (dsets_recordOnly s _).mem

/-- An adopted schedule is in force, with nothing pending. -/
theorem adoptSchedule_dget (s : State) (anchor time period base seq master now : Nat) :
    let t := adoptSchedule s anchor time period base seq master now
    periodNow t = period ∧ t.dget 0x4070 0xB = seq ∧ pendingBeat t = none := by
  have dict : ∃ b, (adoptSchedule s anchor time period base seq master now).dict = (s.dsets [(0x4070, 5, b), (0x4070, 6, period),
    (0x4070, 0xB, seq), (0x4070, 0xC, ones 64), (0x4070, 0xD, 0)]).dict := ⟨_, rfl⟩
  have power : (adoptSchedule s anchor time period base seq master now).power = s.power := (dsets_recordOnly s _).power
  generalize adoptSchedule s anchor time period base seq master now = t at dict power ⊢
  obtain ⟨b, dict⟩ := dict
  have written := dsets_dget s (l := [(0x4070, 5, b), (0x4070, 6, period), (0x4070, 0xB, seq), (0x4070, 0xC, ones 64),
    (0x4070, 0xD, 0)]) (by simp) (by simp)
  have cell := State.dget_congr dict (by rw [power, (dsets_recordOnly s _).power])
  exact ⟨(cell ..).trans (written (0x4070, 6, period) (by simp)), (cell ..).trans (written (0x4070, 0xB, seq) (by simp)),
    if_pos ((cell ..).trans (written (0x4070, 0xC, ones 64) (by simp)))⟩

/-- Until the anchor's edge no beat runs, and the anchor's edge is the next one. -/
theorem adoptSchedule_ahead (s : State) (anchor period base seq master : Nat) {time now : Nat} (ahead : now < time) :
    let t := adoptSchedule s anchor time period base seq master now
    t.beat = anchor % 2 ^ 64 ∧ t.quartz.begun = false ∧ t.quartz.nextEdge = 1000 * time := by
  have waits : decide (time ≤ now) = false := by simpa using ahead
  have written := dsets_dget s (l := [(0x4070, 5, anchor % 2 ^ 64), (0x4070, 6, period), (0x4070, 0xB, seq), (0x4070, 0xC, ones 64),
    (0x4070, 0xD, 0)]) (by simp) (by simp) (0x4070, 5, anchor % 2 ^ 64) (by simp)
  dsimp only [adoptSchedule]
  simp only [waits, Bool.false_eq_true, if_false, Nat.add_zero, Nat.zero_mul]
  exact ⟨written, trivial, trivial⟩

theorem dclear_cellsKept (s : State) (idx : Nat) {sub : Nat} (h : sub < 256) : CellsKept s (s.dclear idx sub) [(idx, sub)] :=
  fun j b small out => State.dclear_dget_other s idx sub j b h small (by simp at out; omega)

/-- The schedule's cells of the beat area, which a discarded schedule leaves at their defaults (R308). -/
theorem discardSchedule_cellsKept (s : State) : CellsKept s (discardSchedule s)
    [(0x4070, 5), (0x4070, 6), (0x4070, 0xB), (0x4070, 0xC), (0x4070, 0xD)] := by
  have cleared (t : State) {sub : Nat} (h : sub ∈ [5, 6, 0xB, 0xC, 0xD]) : CellsKept t (t.dclear 0x4070 sub)
      [(0x4070, 5), (0x4070, 6), (0x4070, 0xB), (0x4070, 0xC), (0x4070, 0xD)] :=
    (dclear_cellsKept t 0x4070 (by simp at h; omega)).mono (by simpa using h)
  have all := ((((cleared s (sub := 5) (by simp)).trans (cleared _ (sub := 6) (by simp))).trans
    (cleared _ (sub := 0xB) (by simp))).trans (cleared _ (sub := 0xC) (by simp))).trans (cleared _ (sub := 0xD) (by simp))
  exact all.trans (cellsKept_of_dict rfl rfl _)

theorem discardSchedule_frame (s : State) : (discardSchedule s).out = s.out ∧ (discardSchedule s).mem = s.mem := ⟨rfl, rfl⟩

theorem beat_default (straps : Nat) : dictDefault straps 0x4070 5 = 0 := by
  have line : ((dictLine 0x4070 5).map (·.default)).getD 0 = 0 := by decide +kernel
  simp [dictDefault, strapDefault, memberDefault, line]

theorem period_default (straps : Nat) : dictDefault straps 0x4070 6 = 0 := by
  have line : ((dictLine 0x4070 6).map (·.default)).getD 0 = 0 := by decide +kernel
  simp [dictDefault, strapDefault, memberDefault, line]

theorem discardSchedule_none (s : State) : (discardSchedule s).hasSchedule = false ∧ (discardSchedule s).beat = 0 := by
  have cells (sub : Nat) : (discardSchedule s).dget 0x4070 sub =
      (((((s.dclear 0x4070 5).dclear 0x4070 6).dclear 0x4070 0xB).dclear 0x4070 0xC).dclear 0x4070 0xD).dget 0x4070 sub :=
    State.dget_congr rfl rfl _ _
  constructor
  · simp [State.hasSchedule, cells, State.dclear_dget, period_default]
  · simp [State.beat, cells, State.dclear_dget, beat_default]

/-! ## Measurements of the offset (R314, R331) -/

/-- A measurement within ±10 ns is one more in a row, and never ends `LOCKED`. -/
theorem measureOffset_near (s : State) {ps : Int} (near : ps.natAbs ≤ 10000) :
    let t := s.dset 0x4070 0xE (encInt 32 ps)
    measureOffset s ps = { t with quartz := { s.quartz with
      aligned := s.quartz.aligned + 1, slew := if t.hasSchedule then ps else 0 } } := by
  simp [measureOffset, near]

/-- What a measurement within ±10 ns writes, and what it leaves. -/
theorem measureOffset_near_writes (s : State) {ps : Int} (near : ps.natAbs ≤ 10000) :
    let t := measureOffset s ps
    t = { s with dict := t.dict, quartz := t.quartz } ∧ CellsKept s t [(0x4070, 0xE)] ∧ t.dget 0x4070 0xE = encInt 32 ps ∧
      t.quartz.aligned = s.quartz.aligned + 1 ∧ t.quartz.ppsLast = s.quartz.ppsLast := by
  dsimp only
  rw [measureOffset_near s near]
  exact ⟨rfl, dset_cellsKept s 0x4070 _ (by decide), State.dset_dget_same .., rfl, rfl⟩

/-! ## The loss of the time source (R314) -/

/-- A locked follower that loses its time source holds over. -/
theorem sourceLost_follower {s : State} (follower : isFollower s = true) (locked : beatStatus s = 2) :
    sourceLost s = State.dset { s with quartz := { s.quartz with aligned := 0, ptp := none, ppsRun := 0 } } 0x4070 4 3 := by
  obtain ⟨notMaster, notFree⟩ := (isFollower_iff s).1 follower
  simp [sourceLost, notMaster, notFree, locked]

end Sys2Proof.Machine

end

section
/-! PROOF. The beat's edge (R308, R316, R328). -/

namespace Sys2Proof.Machine
open Sys2Proof

/-! ## What the contexts do at an edge -/

/-- The beat unit and its entries are as they were. -/
def BeatUnitKept (s t : State) : Prop := t.quartz = s.quartz ∧ ∀ sub, sub < 256 → t.dget 0x4070 sub = s.dget 0x4070 sub

namespace BeatUnitKept

variable {s t u : State}

theorem refl (s : State) : BeatUnitKept s s := ⟨rfl, fun _ _ => rfl⟩

theorem trans (h : BeatUnitKept s t) (k : BeatUnitKept t u) : BeatUnitKept s u :=
  ⟨k.1.trans h.1, fun sub small => (k.2 sub small).trans (h.2 sub small)⟩

theorem beat (h : BeatUnitKept s t) : t.beat = s.beat := h.2 5 (by decide)
theorem periodNow (h : BeatUnitKept s t) : Machine.periodNow t = Machine.periodNow s := h.2 6 (by decide)
theorem pendingBeat (h : BeatUnitKept s t) : Machine.pendingBeat t = Machine.pendingBeat s := by
  simp only [Machine.pendingBeat, h.2 0xC (by decide)]

theorem of_dict (q : t.quartz = s.quartz) (d : t.dict = s.dict) (p : t.power.straps = s.power.straps) : BeatUnitKept s t :=
  ⟨q, fun sub _ => State.dget_congr d p 0x4070 sub⟩

theorem foldl {β : Type} (f : State → β → State) (h : ∀ t e, BeatUnitKept t (f t e)) (l : List β) (s : State) :
    BeatUnitKept s (l.foldl f s) := foldl_related BeatUnitKept .refl .trans f h l s

end BeatUnitKept

/-- Deadlines stand in the entries from 0x6080 on. -/
theorem armDeadline_beatUnitKept (s : State) (c arg : Nat) : BeatUnitKept s (armDeadline s c arg) :=
  ⟨(dsets_recordOnly s _).noticeFrame.quartz, fun sub small =>
    dsets_cellsKept s (by simp) 0x4070 sub small (by simp; omega)⟩

theorem armDue_beatUnitKept (s : State) (c : Nat) : BeatUnitKept s (armDue s c) := by
  unfold armDue
  dsimp only
  split
  · exact .refl s
  · exact (BeatUnitKept.foldl _ (fun t (e : Nat × Nat) => armDeadline_beatUnitKept t c e.2)
      ((s.ctx c).arming.filter fun e => decide (e.1 ≤ s.beat)) s).trans (.of_dict rfl rfl rfl)

theorem contextEdge_beatUnitKept (s : State) (c : Nat) : BeatUnitKept s (contextEdge s c) := by
  unfold contextEdge
  split
  · dsimp only
    refine .trans ?_ (armDue_beatUnitKept _ c)
    rw [mirrorMask_eq]
    split <;> exact .of_dict rfl rfl rfl
  · exact .refl s

theorem enterBeat_beatUnitKept (s : State) : BeatUnitKept s (enterBeat s) := .foldl _ contextEdge_beatUnitKept _ s

/-! ## The beat entered -/

/-- The beat that the next edge begins: the anchor at its own edge, later the one after the current beat (R308, R316). -/
def edgeBeat (s : State) : Nat := if s.quartz.begun then (s.beat + 1) % 2 ^ 64 else s.beat

/-- The period in force from beat `b` on, if the next edge begins it (R328). -/
def periodAt (s : State) (b : Nat) : Nat := ((pendingChanges s).lookup b).getD (periodNow s)

/-- Beat `b` has begun at the edge that was due. -/
structure BeatBegun (s t : State) (b : Nat) : Prop where
  beat : t.beat = b
  begun : t.quartz.begun = true
  edge : t.quartz.edge = s.quartz.due
  period : periodNow t = periodAt s b
  pending : pendingBeat t = if pendingBeat s = some b then none else pendingBeat s

/-- What an edge writes of the beat, the period and the pending change. -/
theorem edgeWrites_dget (s : State) (b p count : Nat) :
    let t := s.dsets ([(0x4070, 5, b), (0x4070, 6, p), (0x4070, 0xF, count)] ++
      (if (pendingBeat s == some b) = true then [(0x4070, 0xC, ones 64), (0x4070, 0xD, 0)] else []))
    t.beat = b ∧ periodNow t = p ∧ pendingBeat t = if pendingBeat s = some b then none else pendingBeat s := by
  by_cases due : pendingBeat s = some b
  · have written := dsets_dget s (l := [(0x4070, 5, b), (0x4070, 6, p), (0x4070, 0xF, count), (0x4070, 0xC, ones 64),
      (0x4070, 0xD, 0)]) (by simp) (by simp)
    simp only [due, beq_self_eq_true, if_true]
    exact ⟨written (0x4070, 5, b) (by simp), written (0x4070, 6, p) (by simp), if_pos (written (0x4070, 0xC, ones 64) (by simp))⟩
  · have small : ∀ e ∈ [(0x4070, 5, b), (0x4070, 6, p), (0x4070, 0xF, count)], e.2.1 < 256 := by simp
    have written := dsets_dget s small (by simp)
    have cell := dsets_cellsKept s small 0x4070 0xC (by decide) (by simp)
    rw [if_neg (by simpa using due), if_neg due, List.append_nil]
    exact ⟨written (0x4070, 5, b) (by simp), written (0x4070, 6, p) (by simp), by simp only [pendingBeat, cell]⟩

/-- The next edge of a held schedule begins its beat. -/
theorem execBeatEdge_begins {s : State} (held : s.hasSchedule = true) (cycles : Nat) :
    ∃ t, exec (.beatEdge cycles) s = .next t ∧ BeatBegun s t (edgeBeat s) := by
  change ∃ t, execBeatEdge cycles s = .next t ∧ _
  unfold execBeatEdge
  rw [if_neg (by simp [held])]
  dsimp only
  rw [← edgeBeat, ← periodAt]
  obtain ⟨beat, period, pending⟩ := edgeWrites_dget s (edgeBeat s) (periodAt s (edgeBeat s)) (cycles % 2 ^ 32)
  refine ⟨_, rfl, ?_⟩
  generalize s.dsets _ = u at beat period pending ⊢
  exact {
    beat := (enterBeat_beatUnitKept _).beat.trans beat
    begun := (congrArg Quartz.begun (enterBeat_beatUnitKept _).1).trans rfl
    edge := (congrArg Quartz.edge (enterBeat_beatUnitKept _).1).trans rfl
    period := (enterBeat_beatUnitKept _).periodNow.trans period
    pending := (enterBeat_beatUnitKept _).pendingBeat.trans pending }

/-- An announced change of beat `b` comes into force where no earlier one is of that beat. -/
theorem periodAt_pending {s : State} {b : Nat} (due : pendingBeat s = some b) (before : ∀ e ∈ s.quartz.earlier, e.1 < b) :
    periodAt s b = pendingPeriod s := by
  have none : s.quartz.earlier.lookup b = none := List.lookup_eq_none_iff.2 fun e he => by simpa using (before e he).ne'
  simp [periodAt, pendingChanges, due, List.lookup_append, none]

/-- Without a change of beat `b` the period stays. -/
theorem periodAt_stays {s : State} {b : Nat} (other : pendingBeat s ≠ some b) (alone : s.quartz.earlier = []) :
    periodAt s b = periodNow s := by
  unfold periodAt pendingChanges
  cases pending : pendingBeat s with
  | none => simp [alone]
  | some m =>
    have differs : (b == m) = false := beq_eq_false_iff_ne.2 fun same => other (pending.trans (congrArg some same.symm))
    simp [alone, differs]

end Sys2Proof.Machine

end

section
/-! PROOF. Where the beat comes from: sources, acquisition, lock and loss (R312, R314, R316 to R319, R332). -/

namespace Sys2Proof.Machine
open Sys2Proof

/-! ## `BEAT_SOURCE` (R308, R314) -/

theorem storeEntry_dget_same (s : State) (idx sub v : Nat) : (storeEntry s idx sub v).dget idx sub = v := by
  rw [storeEntry_eq]
  exact State.dset_dget_same ..

theorem writeBeatSource_frame (s : State) (v : Nat) :
    (writeBeatSource s v).out = s.out ∧ (writeBeatSource s v).mem = s.mem := by
  have stored : (storeEntry s 0x2030 1 v).out = s.out ∧ (storeEntry s 0x2030 1 v).mem = s.mem := by
    rw [storeEntry_eq]
    exact ⟨rfl, rfl⟩
  unfold writeBeatSource
  dsimp only
  generalize storeEntry s 0x2030 1 v = t at stored ⊢
  split
  · rw [State.dset_out, State.dset_mem, (discardSchedule_frame t).1, (discardSchedule_frame t).2]
    exact stored
  · exact stored

/-- The written source is in force. -/
theorem writeBeatSource_source (s : State) (v : Nat) : beatSource (writeBeatSource s v) = v := by
  have stored := storeEntry_dget_same s 0x2030 1 v
  unfold writeBeatSource
  dsimp only
  split
  · exact ((dset_indexKept _ 0x4070 0 (by decide) 0x2030 1 (by decide) (by decide)).trans
      (discardSchedule_cellsKept _ 0x2030 1 (by decide) (by decide))).trans stored
  · exact stored

/-- In READY the schedule and the beat number are discarded, and the source is acquired anew. -/
theorem writeBeatSource_ready {s : State} (ready : s.modState = .ready) (v : Nat) :
    let t := writeBeatSource s v
    t.hasSchedule = false ∧ beatStatus t = 0 ∧ t.beat = 0 := by
  obtain ⟨unscheduled, beat⟩ := discardSchedule_none (storeEntry s 0x2030 1 v)
  dsimp only
  rw [writeBeatSource, if_pos ready]
  have kept := dset_cellsKept (discardSchedule (storeEntry s 0x2030 1 v)) 0x4070 0 (sub := 4) (by decide)
  refine ⟨?_, State.dset_dget_same .., (kept 0x4070 5 (by decide) (by decide)).trans beat⟩
  rw [State.hasSchedule, kept 0x4070 6 (by decide) (by decide)]
  exact unscheduled

/-- In any other state only the entry changes. -/
theorem writeBeatSource_other {s : State} (other : s.modState ≠ .ready) (v : Nat) :
    (writeBeatSource s v).quartz = s.quartz ∧ beatStatus (writeBeatSource s v) = beatStatus s := by
  rw [writeBeatSource, if_neg other, storeEntry_eq]
  exact ⟨rfl, dset_indexKept s 0x2030 v (sub := 1) (by decide) 0x4070 4 (by decide) (by decide)⟩

theorem execBeatSourceWrite_accepted {s : State} {r : Requester} {v : Nat} (accepted : Accepted s r 0x2030 1 1 v) :
    exec (.beatSourceWrite r v) s = .next ((writeBeatSource s v).emit (.answer r 0 0)) :=
  congrArg Host.Outcome.next (guardedWrite_accepted (fun t => (0, writeBeatSource t v)) accepted)

/-! ## Acquisition (R314, R316, R318) -/

/-- A schedule that the module starts is an adopted one whose anchor lies ahead at a whole second, and it is announced. -/
theorem startSchedule_adopts (s : State) (now : Nat) : ∃ a time, now < time ∧ time = (now / 1000000000 + 2) * 1000000000 ∧
    let t := adoptSchedule s (s.dget 0x4070 3) time (s.dget 0x4070 1) (s.dget 0x4070 1) ((s.dget 0x4070 0xB + 1) % 2 ^ 32)
      (ownAddress s) now
    startSchedule s now = { t with quartz := { t.quartz with announce := some a } } := ⟨_, _, by omega, rfl, rfl⟩

/-- The started schedule begins with its anchor, and no beat runs before that. -/
theorem startSchedule_starts (s : State) (now : Nat) :
    let t := startSchedule s now
    t.mem = s.mem ∧ periodNow t = s.dget 0x4070 1 ∧ t.beat = s.dget 0x4070 3 % 2 ^ 64 ∧
      t.quartz.begun = false ∧ t.quartz.nextEdge = 1000 * ((now / 1000000000 + 2) * 1000000000) := by
  obtain ⟨a, time, ahead, whole, starts⟩ := startSchedule_adopts s now
  dsimp only at starts ⊢
  rw [starts, ← whole]
  have mem := adoptSchedule_mem s (s.dget 0x4070 3) time (s.dget 0x4070 1) (s.dget 0x4070 1)
    ((s.dget 0x4070 0xB + 1) % 2 ^ 32) (ownAddress s) now
  obtain ⟨period, -, -⟩ := adoptSchedule_dget s (s.dget 0x4070 3) time (s.dget 0x4070 1) (s.dget 0x4070 1)
    ((s.dget 0x4070 0xB + 1) % 2 ^ 32) (ownAddress s) now
  obtain ⟨beat, begun, edge⟩ := adoptSchedule_ahead s (s.dget 0x4070 3) (s.dget 0x4070 1) (s.dget 0x4070 1)
    ((s.dget 0x4070 0xB + 1) % 2 ^ 32) (ownAddress s) ahead
  generalize adoptSchedule s _ _ _ _ _ _ _ = u at mem period beat begun edge ⊢
  exact ⟨mem, period, beat, begun, edge⟩

/-- The state with the schedule in force: its status, and whether its reference was qualified (R312, R314). -/
def inForce (t : State) (external : Bool) (status : Nat) : State :=
  State.dset { t with quartz := { t.quartz with external := external } } 0x4070 4 status

theorem inForce_keeps (t : State) (external : Bool) (status : Nat) :
    let u := inForce t external status
    u.mem = t.mem ∧ periodNow u = periodNow t ∧ u.beat = t.beat ∧ u.quartz.begun = t.quartz.begun ∧
      u.quartz.nextEdge = t.quartz.nextEdge := by
  have kept := dset_cellsKept t 0x4070 status (sub := 4) (by decide)
  exact ⟨rfl, kept 0x4070 6 (by decide) (by decide), kept 0x4070 5 (by decide) (by decide), rfl, rfl⟩

theorem inForce_status (t : State) (external : Bool) (status : Nat) : beatStatus (inForce t external status) = status :=
  State.dset_dget_same ..

section

variable {s : State} (micro : s.power.microDone = true) (up : s.squareUp = true) (status : beatStatus s ≤ 1)
include micro up status

theorem acquisition_open : (!s.power.microDone || !s.squareUp || !(beatStatus s == 0 || beatStatus s == 1)) = false := by
  have unlocked : ¬beatStatus s = 0 → beatStatus s = 1 := by omega
  simpa [micro, up] using unlocked

/-- A follower whose source is present acquires it. -/
theorem execAcquisitionStart_follows (follows : beatSource s ≤ 1) (now : Nat) (settled near : Bool) :
    exec (.acquisitionStart now true settled near) s = .next (s.dset 0x4070 4 1) := by
  change execAcquisitionStart now true settled near s = _
  unfold execAcquisitionStart
  rw [acquisition_open micro up status, if_neg (by decide), if_pos follows, if_pos rfl]

/-- A master or free-run module waits for its oscillator. -/
theorem execAcquisitionStart_unsettled (own : 2 ≤ beatSource s) (now : Nat) (present near : Bool) :
    exec (.acquisitionStart now present false near) s = .next (s.dset 0x4070 4 1) := by
  change execAcquisitionStart now present false near s = _
  unfold execAcquisitionStart
  rw [acquisition_open micro up status, if_neg (by decide), if_neg (by omega), if_pos (by decide)]

/-- A master with its input present begins to wait for its reference to qualify. -/
theorem execAcquisitionStart_waits {near : Bool} (master : beatSource s = 2) (bad : referenceQualified s near = false)
    (first : s.quartz.waitFrom = none) (now : Nat) : exec (.acquisitionStart now true true near) s =
      .next (State.dset { s with quartz := { s.quartz with waitFrom := some now } } 0x4070 4 1) := by
  change execAcquisitionStart now true true near s = _
  unfold execAcquisitionStart
  rw [acquisition_open micro up status]
  simp [master, bad, first]

/-- A master or free-run module whose wait is over starts its schedule. -/
theorem execAcquisitionStart_starts {now : Nat} {present near : Bool} (own : 2 ≤ beatSource s)
    (ended : beatSource s = 3 ∨ present = false ∨ referenceQualified s near = true ∨
      s.quartz.waitFrom.getD now + 5000000000 ≤ now) :
    exec (.acquisitionStart now present true near) s = .next (inForce (startSchedule s now)
      (beatSource s == 2 && present && referenceQualified s near) (if beatSource s = 3 then 5 else 2)) := by
  change execAcquisitionStart now present true near s = _
  have waitsOn : ¬(beatSource s = 2 ∧ present = true ∧ (beatSource s == 2 && present && referenceQualified s near) = false ∧
      now < s.quartz.waitFrom.getD now + 5000000000) := by
    rintro ⟨master, there, bad, early⟩
    simp only [master, there, beq_self_eq_true, Bool.true_and] at bad
    obtain free | absent | good | timeout := ended
    · omega
    · exact absurd (there.symm.trans absent) (by decide)
    · exact absurd (good.symm.trans bad) (by decide)
    · omega
  unfold execAcquisitionStart
  rw [acquisition_open micro up status, if_neg (by decide), if_neg (by omega), if_neg (by decide)]
  exact if_neg waitsOn

end

/-! ## Lock, loss and holdover (R314) -/

/-- A follower with 16 good measurements in a row, or a master, locks to the schedule that it holds. -/
theorem execBeatLock_locks {s : State} (held : s.hasSchedule = true)
    (ready : (16 ≤ s.quartz.aligned ∧ isFollower s = true) ∨ isMaster s = true)
    (status : beatStatus s = 1 ∨ beatStatus s = 3 ∨ beatStatus s = 4) : exec .beatLock s = .next (s.dset 0x4070 4 2) := by
  change execBeatLock s = _
  refine if_pos ?_
  simp only [held, Bool.true_and, Bool.and_eq_true, Bool.or_eq_true, decide_eq_true_eq, beq_iff_eq]
  tauto

/-- A Sync of the chosen master, through a port whose delay is known, measures the follower's offset. -/
theorem execPtpMessage_measures {s : State} {m : PtpMessage} {d : List Nat} (supported : ptpSupported s m = true)
    (up : s.squareUp = true) (sync : m.kind = 0) (chosen : s.quartz.ptp = some ⟨d, m.port⟩) (usable : m.usable = true)
    (follower : isFollower s = true) (delay : delayKnown s m.port = true) (acquired : 1 ≤ beatStatus s) :
    exec (.ptpMessage m) s = .next (measureOffset s m.offset) := by
  change execPtpMessage m s = _
  simp [execPtpMessage, supported, up, sync, chosen, usable, follower, delay, acquired]

/-- A Delay_Req is answered. -/
theorem execPtpMessage_answers {s : State} {m : PtpMessage} (supported : ptpSupported s m = true) (up : s.squareUp = true)
    (request : m.kind = 1) : exec (.ptpMessage m) s = .next (s.emit (.ptp m.port 9)) := by
  change execPtpMessage m s = _
  simp [execPtpMessage, supported, up, request]

theorem execHoldoverExpiry_expires {s : State} (holds : beatStatus s = 3) :
    exec .holdoverExpiry s = .next (enterUnaligned s) := congrArg Host.Outcome.next (if_pos holds)

theorem execMasterLost_flags {s : State} (follower : isFollower s = true) (up : s.squareUp = true) :
    exec .masterLost s = .next (s.flag 0x5070 2) := congrArg Host.Outcome.next (if_pos (by simp [follower, up]))

/-! ## Promotion (R332, R339) -/

/-- A module that holds a schedule is promoted: it is the master that its announces name. -/
theorem execPromoteMaster_promotes {s : State} {r : Requester} (accepted : Accepted s r 0x4070 0x10 1 1) (low : 2 ≤ beatStatus s)
    (high : beatStatus s ≤ 4) : exec (.promoteMaster r 1) s = .next (State.emit { s.dset 0x4070 0x10 1 with
      quartz := { s.quartz with
        master := ownAddress s, announce := s.quartz.announce.map fun a => { a with master := ownAddress s } } } (.answer r 0 0)) := by
  have effect := guardedWrite_accepted (fun t => promoteMaster t 1) accepted
  simp only [promoteMaster, if_neg (Nat.one_ne_zero), if_pos (And.intro low high)] at effect
  exact congrArg Host.Outcome.next effect

/-! ## Edges of the external reference (R314, R318) -/

/-- The state once a 1PPS edge at `now` is the `run`-th in a row. -/
def ppsSeen (s : State) (now run : Nat) : State := { s with quartz := { s.quartz with ppsLast := now, ppsRun := run } }

section

variable {s : State} (up : s.squareUp = true) (follower : isFollower s = true) (external : beatSource s = 1)
  (acquired : 1 ≤ beatStatus s)
include up follower external acquired

/-- An external follower measures its offset at an edge, or at one more than 1 µs off takes its source as lost. -/
theorem execPpsEdge_follower (now : Nat) (offset : Int) : ∃ run, exec (.ppsEdge now offset) s =
    .next (if s.hasSchedule = true ∧ 1000000 < (offset - s.dget 0x2030 6).natAbs then sourceLost (ppsSeen s now run)
      else measureOffset (ppsSeen s now run) (offset - s.dget 0x2030 6)) := by
  refine ⟨if ((now : Int) - s.quartz.ppsLast - 1000000000).natAbs ≤ 100 then s.quartz.ppsRun + 1 else 1, ?_⟩
  change execPpsEdge now offset s = _
  have serves : (!isFollower s || beatSource s != 1 || beatStatus s == 0) = false := by
    simp only [follower, external, Bool.not_true, bne_self_eq_false, Bool.or_self, Bool.false_or, beq_eq_false_iff_ne]
    omega
  unfold execPpsEdge
  rw [if_neg (by simp [up]), serves, if_neg (by decide)]
  simp only [Bool.and_eq_true, decide_eq_true_eq]
  split <;> rfl

theorem execPpsEdge_measures {now : Nat} {offset : Int} (near : (offset - s.dget 0x2030 6).natAbs ≤ 10000) :
    ∃ run, exec (.ppsEdge now offset) s = .next (measureOffset (ppsSeen s now run) (offset - s.dget 0x2030 6)) := by
  obtain ⟨run, next⟩ := execPpsEdge_follower up follower external acquired now offset
  rw [if_neg (by omega)] at next
  exact ⟨run, next⟩

theorem execPpsEdge_loses {now : Nat} {offset : Int} (held : s.hasSchedule = true)
    (far : 1000000 < (offset - s.dget 0x2030 6).natAbs) :
    ∃ run, exec (.ppsEdge now offset) s = .next (sourceLost (ppsSeen s now run)) := by
  obtain ⟨run, next⟩ := execPpsEdge_follower up follower external acquired now offset
  rw [if_pos ⟨held, far⟩] at next
  exact ⟨run, next⟩

end

end Sys2Proof.Machine

open Sys2Proof Sys2Proof.Machine

/-- Settles O45: an edge begins the next beat and takes the change that is due there, a started schedule lies ahead, and each status
follows from the source, the measurements and their loss. -/
theorem beatNumberAndStatus : Obligations.BeatNumberAndStatus := by
  intro s r now cycles v offset m present settled near
  refine ⟨fun held running => ?_, fun held waits => ?_, fun accepted => ?_, fun micro up status => ⟨?_, ?_, ?_, ?_⟩,
    fun held ready status => execBeatLock_locks held ready status, fun supported up => ⟨?_, ?_⟩, fun follower locked => ?_,
    fun holds => ?_, fun follower up => ?_, fun accepted low high => ?_, fun up follower external acquired => ⟨?_, ?_⟩⟩
  · obtain ⟨t, next, edge⟩ := execBeatEdge_begins held cycles
    rw [edgeBeat, if_pos running] at edge
    refine ⟨t, next, edge.beat, edge.begun, edge.edge, edge.period, fun due => ⟨?_, fun before => ?_⟩, fun other => ⟨?_, fun alone => ?_⟩⟩
    · exact edge.pending.trans (if_pos due)
    · exact edge.period.trans (periodAt_pending due before)
    · exact edge.pending.trans (if_neg other)
    · exact edge.period.trans (periodAt_stays other alone)
  · obtain ⟨t, next, edge⟩ := execBeatEdge_begins held cycles
    rw [edgeBeat, if_neg (by simp [waits])] at edge
    exact ⟨t, next, edge.beat, edge.begun⟩
  · obtain ⟨out, mem⟩ := writeBeatSource_frame s v
    exact ⟨_, execBeatSourceWrite_accepted accepted, writeBeatSource_source s v, congrArg _ out, mem,
      fun ready => writeBeatSource_ready ready v, fun other => writeBeatSource_other other v⟩
  · exact fun follows => execAcquisitionStart_follows micro up status follows now settled near
  · exact fun own => execAcquisitionStart_unsettled micro up status own now present near
  · exact fun master bad first => ⟨_, execAcquisitionStart_waits micro up status master bad first now, State.dset_dget_same .., rfl,
      dset_cellsKept s 0x4070 1 (by decide)⟩
  · intro own ended
    obtain ⟨mem, period, beat, begun, edge⟩ := startSchedule_starts s now
    obtain ⟨memKept, periodKept, beatKept, begunKept, edgeKept⟩ := inForce_keeps (startSchedule s now)
      (beatSource s == 2 && present && referenceQualified s near) (if beatSource s = 3 then 5 else 2)
    exact ⟨_, execAcquisitionStart_starts micro up status own ended, rfl, inForce_status .., periodKept.trans period,
      beatKept.trans beat, begunKept.trans begun, edgeKept.trans edge, memKept.trans mem⟩
  · exact execPtpMessage_answers supported up
  · rintro sync ⟨d, chosen⟩ usable follower delay acquired small
    obtain ⟨frame, kept, value, aligned, -⟩ := measureOffset_near_writes s small
    exact ⟨_, execPtpMessage_measures supported up sync chosen usable follower delay acquired, frame, kept, value, aligned⟩
  · refine ⟨_, congrArg Host.Outcome.next (sourceLost_follower follower locked), rfl, State.dset_dget_same .., ?_⟩
    exact dset_cellsKept s 0x4070 3 (by decide)
  · obtain ⟨flag, count⟩ := enterUnaligned_counted (s := s) (by omega)
    exact ⟨_, execHoldoverExpiry_expires holds, enterUnaligned_status s, enterUnaligned_recordOnly s, flag, count⟩
  · exact ⟨_, execMasterLost_flags follower up, record_recordOnly .., record_flag _ _ _ (by decide)⟩
  · have named := State.dset_dget_same s 0x4070 0x10 1
    refine ⟨_, execPromoteMaster_promotes accepted low high, rfl, ?_, dset_cellsKept s 0x4070 1 (by decide)⟩
    exact Bool.or_eq_true_iff.2 (.inr (beq_iff_eq.2 named))
  · intro near
    obtain ⟨run, next⟩ := execPpsEdge_measures up follower external acquired near (now := now)
    obtain ⟨frame, kept, value, aligned, last⟩ := measureOffset_near_writes (ppsSeen s now run) near
    exact ⟨_, next, frame, value, last, aligned, kept⟩
  · intro held locked far
    obtain ⟨run, next⟩ := execPpsEdge_loses up follower external acquired held far (now := now)
    rw [sourceLost_follower (s := ppsSeen s now run) follower locked] at next
    exact ⟨_, next, rfl, State.dset_dget_same .., rfl, dset_cellsKept s 0x4070 3 (by decide)⟩

end

section
/-! PROOF. Stretch requests and new schedules (R322, R324 to R327). -/

namespace Sys2Proof.Machine
open Sys2Proof

/-! ## The forwarded request (R325) -/

/-- No live request asks for more than is forwarded. -/
theorem le_forwarded {s : State} {c : ChildRequest} {now : Nat} (live : c ∈ liveRequests s now) : c.period ≤ forwarded s now :=
  le_foldl_of_mem (fun m (e : ChildRequest) => le_max_left m e.period) live (fun m => le_max_right m c.period) _

/-- What is forwarded depends on the programs, the children and their requests, and the thermal request alone. -/
theorem forwarded_congr {s t : State} (contexts : t.contexts = s.contexts) (parked : t.parked = s.parked)
    (requests : t.quartz.children = s.quartz.children) (children : beatChildren t = beatChildren s)
    (thermal : t.dget 0x4070 7 = s.dget 0x4070 7) (now : Nat) : forwarded t now = forwarded s now := by
  simp only [forwarded, liveRequests, ownRequest, floorPeriod, contexts, parked, requests, children, thermal]

theorem beatChildren_congr {s t : State} {l : List (Nat × Nat)} (kept : CellsKept s t l) (outside : ∀ sub, (0x2031, sub) ∉ l) :
    beatChildren t = beatChildren s := by
  refine congrArg (List.filter (· != 0)) (List.map_congr_left fun i hi => kept 0x2031 (i + 1) ?_ (outside _))
  have := List.mem_range.1 hi
  omega

/-! ## Requests of children (R324, R325) -/

/-- The request `c` of a child kept beside the others of the last 300 ms, at `now`. -/
def requestKept (s : State) (sender : Nat) (c : ChildRequest) (now : Nat) : State :=
  { s with quartz := { s.quartz with
    children := (sender, c) :: s.quartz.children.filter fun c => decide (now ≤ c.2.time + 300000000)
    clock := now } }

/-- A request that has just come is live. -/
theorem requestKept_live {s : State} {sender : Nat} (child : sender ∈ beatChildren s) (c : ChildRequest) {now : Nat}
    (new : c.time = now) : c ∈ liveRequests (requestKept s sender c now) now := by
  refine List.mem_map.2 ⟨(sender, c), List.mem_filter.2 ⟨List.mem_cons_self, ?_⟩, rfl⟩
  have listed : (beatChildren (requestKept s sender c now)).contains sender = true := List.contains_iff_mem.2 child
  rw [listed, Bool.true_and, decide_eq_true_eq, new]
  omega

section

variable {s : State} {p body : Nat} (up : s.squareUp = true) (notFree : beatSource s ≠ 3) (port : portCarriesBeat s p = true)
include up notFree port

theorem execStretchRequestFrame_valid (valid : requestValid body = true) (child : bits body 384 128 ∈ beatChildren s)
    (src now : Nat) : exec (.stretchRequestFrame ⟨p, src, body⟩ now) s =
      .next (requestKept s (bits body 384 128) ⟨bits body 160 32, bits body 256 128, now⟩ now) := by
  change execStretchRequestFrame ⟨p, src, body⟩ now s = _
  unfold execStretchRequestFrame
  dsimp only
  rw [if_neg (by simp [up, notFree, port]), if_neg (by simp [valid]), if_neg (by simpa using child)]
  rfl

theorem execStretchRequestFrame_invalid (invalid : requestValid body = false) (src now : Nat) :
    exec (.stretchRequestFrame ⟨p, src, body⟩ now) s = .next (beatFrameInvalid s) := by
  change execStretchRequestFrame ⟨p, src, body⟩ now s = _
  simp [execStretchRequestFrame, up, notFree, port, invalid]

end

/-- An invalid frame is recorded and counted, and nothing else changes (R324). -/
theorem beatFrameInvalid_records (s : State) : RecordOnly s (beatFrameInvalid s) ∧
    bit ((beatFrameInvalid s).dget 0x5070 1) 6 = true ∧
    (beatFrameInvalid s).dget 0x5070 6 = countUp (entryBytes 0x5070 6) (s.dget 0x5070 6) 1 :=
  ⟨record_recordOnly .., record_flag _ _ _ (by decide), record_count _ _ (by decide) (by decide) (by decide) (by decide)⟩

/-- A follower with a beat parent sends it the forwarded request. -/
theorem execStretchRequestSend_sends {s : State} (up : s.squareUp = true) (follower : isFollower s = true)
    (parent : beatParent s ≠ 0) (now : Nat) :
    let q := (s.quartz.requestSeq + 1) % 2 ^ 32
    exec (.stretchRequestSend now) s = .next { s with
      quartz := { s.quartz with requestSeq := q, clock := now }
      out := .beatFrame (beatParent s) 1 (requestBody (ownAddress s) (limitingAddress s now) s.beat (forwarded s now) q) :: s.out } := by
  change execStretchRequestSend now s = _
  unfold execStretchRequestSend
  dsimp only
  rw [if_neg (by simp [up, follower, parent])]
  rfl

/-! ## A pending schedule (R326, R328) -/

/-- What a new schedule writes: its first beat, its period and its number. -/
theorem pendSchedule_dget (s : State) (m period seq base : Nat) :
    let t := pendSchedule s m period seq base
    t.dget 0x4070 0xC = m ∧ t.dget 0x4070 0xD = period ∧ t.dget 0x4070 0xB = seq := by
  have written := dsets_dget s (l := [(0x4070, 0xC, m), (0x4070, 0xD, period), (0x4070, 0xB, seq)]) (by simp) (by simp)
  exact ⟨written (0x4070, 0xC, m) (by simp), written (0x4070, 0xD, period) (by simp), written (0x4070, 0xB, seq) (by simp)⟩

theorem pendSchedule_cellsKept (s : State) (m period seq base : Nat) :
    CellsKept s (pendSchedule s m period seq base) [(0x4070, 0xB), (0x4070, 0xC), (0x4070, 0xD)] := by
  have written : CellsKept s (s.dsets [(0x4070, 0xC, m), (0x4070, 0xD, period), (0x4070, 0xB, seq)]) _ := dsets_cellsKept s (by simp)
  exact (written.mono (by simp)).trans (cellsKept_of_dict rfl rfl _)

/-! ## The schedules of a master (R326) -/

/-- The period that a master gives its cluster. -/
def targetPeriod (s : State) (now : Nat) : Nat := max (s.dget 0x4070 1) (forwarded s now)

/-- The first beat of a schedule issued at `now`: the lead lies before it, and it replaces none that is pending before it. -/
def issuedBeat (s : State) (now : Nat) : Nat :=
  max (firstBeatFrom s ((1000 * now + 1000000 * s.dget 0x4070 2 : Nat) : Int)) ((pendingBeat s).getD 0)

/-- The announce of a schedule issued at `now`. -/
def issuedAnnounce (s : State) (now : Nat) : Announce :=
  ⟨ownAddress s, issuedBeat s now, ((heldEdge s (issuedBeat s now)) / 1000).toNat, now, targetPeriod s now, s.dget 0x4070 1,
    (s.dget 0x4070 0xB + 1) % 2 ^ 32⟩

/-- The state once a master has issued its schedule at `now`. -/
def scheduleIssued (s : State) (now : Nat) : State :=
  let u := pendSchedule (tellTime s now) (issuedBeat s now) (targetPeriod s now) ((s.dget 0x4070 0xB + 1) % 2 ^ 32) (s.dget 0x4070 1)
  { u with quartz := { u.quartz with announce := some (issuedAnnounce s now), master := ownAddress s } }

theorem scheduleIssued_writes (s : State) (now : Nat) :
    let t := scheduleIssued s now
    t.dget 0x4070 0xC = issuedBeat s now ∧ t.dget 0x4070 0xD = targetPeriod s now ∧
      t.dget 0x4070 0xB = (s.dget 0x4070 0xB + 1) % 2 ^ 32 ∧ CellsKept s t [(0x4070, 0xB), (0x4070, 0xC), (0x4070, 0xD)] :=
  have ⟨beat, period, seq⟩ := pendSchedule_dget (tellTime s now) (issuedBeat s now) (targetPeriod s now)
    ((s.dget 0x4070 0xB + 1) % 2 ^ 32) (s.dget 0x4070 1)
  ⟨beat, period, seq, pendSchedule_cellsKept (tellTime s now) (issuedBeat s now) (targetPeriod s now)
    ((s.dget 0x4070 0xB + 1) % 2 ^ 32) (s.dget 0x4070 1)⟩

/-- The issue changes nothing that the forwarded request depends on, and tells the time. -/
theorem scheduleIssued_clusterRequest (s : State) (now : Nat) : clusterRequest (scheduleIssued s now) = forwarded s now := by
  obtain ⟨-, -, -, kept⟩ := scheduleIssued_writes s now
  exact forwarded_congr (s := s) (t := scheduleIssued s now) rfl rfl rfl (beatChildren_congr kept (by simp)) (kept 0x4070 7 (by decide) (by decide)) now

section

variable {s : State} (held : s.hasSchedule = true) (master : isMaster s = true) (notFree : beatSource s ≠ 3) {now : Nat} {low : Bool}
include held master notFree

/-- A target above the last period, or one below it that has stayed so, is issued. -/
theorem execScheduleIssue_issues
    (due : lastPeriod s < targetPeriod s now ∨ (targetPeriod s now < lastPeriod s ∧ low = true)) :
    exec (.scheduleIssue now low) s = .next (scheduleIssued s now) := by
  change execScheduleIssue now low s = _
  unfold execScheduleIssue
  dsimp only
  rw [if_neg notFree, ← targetPeriod, if_neg (by simp [held, master]), if_pos due]
  unfold scheduleIssued issuedAnnounce issuedBeat
  cases pendingBeat s with
  | none => simp only [Option.getD_none, Nat.max_zero]
  | some m => rfl

/-- With the last period at the target nothing is issued. -/
theorem execScheduleIssue_stays
    (same : lastPeriod s = targetPeriod s now ∨ (targetPeriod s now < lastPeriod s ∧ low = false)) :
    exec (.scheduleIssue now low) s = .next (tellTime s now) := by
  change execScheduleIssue now low s = _
  have notDue : ¬(lastPeriod s < targetPeriod s now ∨ (targetPeriod s now < lastPeriod s ∧ low = true)) := by
    rintro (above | ⟨below, stayed⟩)
    · omega
    · rw [stayed] at same
      simp only [Bool.true_eq_false, and_false, or_false] at same
      omega
  unfold execScheduleIssue
  dsimp only
  rw [if_neg notFree, ← targetPeriod, if_neg (by simp [held, master]), if_neg notDue]

end

/-! ## Announces forwarded (R327) -/

theorem foldl_emit {β : Type} (f : β → Out) (l : List β) (s : State) :
    l.foldl (fun t e => t.emit (f e)) s = { s with out := (l.map f).reverse ++ s.out } := by
  induction l generalizing s with
  | nil => rfl
  | cons e r ih =>
    rw [List.foldl_cons, ih, List.map_cons, List.reverse_cons, List.append_assoc]
    rfl

theorem execAnnounceForward_copies {s : State} {a : Announce} (up : s.squareUp = true)
    (serves : isMaster s = true ∨ beatSource s ≠ 3) (announced : s.quartz.announce = some a) :
    exec .announceForward s =
      .next { s with out := ((beatChildren s).map fun c => Out.beatFrame c 2 (announceBody a)).reverse ++ s.out } := by
  change execAnnounceForward s = _
  have notFree : ¬(beatSource s = 3 ∧ isMaster s = false) := fun ⟨free, other⟩ =>
    serves.elim (fun master => absurd (master.symm.trans other) (by decide)) fun source => source free
  rw [← foldl_emit]
  unfold execAnnounceForward
  rw [announced]
  exact if_neg (by simpa [up] using notFree)

end Sys2Proof.Machine

end

section
/-! PROOF. Announces at a master and at a follower (R312, R313, R328). -/

namespace Sys2Proof.Machine
open Sys2Proof

/-! ## Who takes an announce (R312, R313, R324) -/

section

variable {s : State} {p body : Nat} (up : s.squareUp = true) (port : portCarriesBeat s p = true)
include up port

theorem execScheduleAnnounce_invalid (notFree : beatSource s ≠ 3) (invalid : announceValid body = false) (src now : Nat) :
    exec (.scheduleAnnounce ⟨p, src, body⟩ now) s = .next (beatFrameInvalid s) := by
  change execScheduleAnnounce ⟨p, src, body⟩ now s = _
  simp [execScheduleAnnounce, up, notFree, port, invalid]

theorem execScheduleAnnounce_master (master : isMaster s = true) (valid : announceValid body = true) (src now : Nat) :
    exec (.scheduleAnnounce ⟨p, src, body⟩ now) s = .next (scheduleRejected s) := by
  change execScheduleAnnounce ⟨p, src, body⟩ now s = _
  simp [execScheduleAnnounce, up, port, master, valid]

theorem execScheduleAnnounce_follower {src : Nat} (other : isMaster s = false) (source : beatSource s = 0)
    (valid : announceValid body = true) (fromParent : src = beatParent s) (now : Nat) :
    exec (.scheduleAnnounce ⟨p, src, body⟩ now) s = .next (followAnnounce s (readAnnounce body) now) := by
  change execScheduleAnnounce ⟨p, src, body⟩ now s = _
  simp [execScheduleAnnounce, up, port, other, source, valid, fromParent]

end

/-- A follower ignores what comes from another than its beat parent. -/
theorem execScheduleAnnounce_stranger {s : State} {body src : Nat} (other : isMaster s = false) (valid : announceValid body = true)
    (stranger : src ≠ beatParent s) (p now : Nat) : exec (.scheduleAnnounce ⟨p, src, body⟩ now) s = .next s := by
  change execScheduleAnnounce ⟨p, src, body⟩ now s = _
  simp [execScheduleAnnounce, other, valid, stranger]

/-! ## What a follower does with it (R313, R328) -/

section

variable {s : State} (source : beatSource s = 0) (a : Announce) (now : Nat)
include source

/-- A PTP follower takes no whole seconds from announces (R318). -/
theorem takeSeconds_ptp : takeSeconds s a now = s := if_neg (by simp [source])

/-- Without a schedule the announced one is adopted, and its master with it. -/
theorem followAnnounce_first (unscheduled : s.hasSchedule = false) :
    let t := followAnnounce s a now
    periodNow t = a.period ∧ t.dget 0x4070 0xB = a.seq ∧ t.quartz.master = a.master ∧ t.quartz.basePeriod = a.basePeriod ∧
      pendingBeat t = none ∧ t.mem = s.mem := by
  obtain ⟨period, seq, pending⟩ :=
    adoptSchedule_dget s a.beat a.time a.period a.basePeriod a.seq a.master (localTime s now)
  have mem := adoptSchedule_mem s a.beat a.time a.period a.basePeriod a.seq a.master (localTime s now)
  unfold followAnnounce
  dsimp only
  rw [takeSeconds_ptp source, if_pos (by simp [unscheduled])]
  exact ⟨period, seq, rfl, rfl, pending, mem⟩

/-- A newer announce of the same master is applied to the held schedule. -/
theorem followAnnounce_newer (held : s.hasSchedule = true) (same : a.master = s.quartz.master)
    (newer : seqNewer a.seq (s.dget 0x4070 0xB) = true) : followAnnounce s a now = applyAnnounce s a (localTime s now) := by
  unfold followAnnounce
  dsimp only
  rw [takeSeconds_ptp source, if_neg (by simp [held]), if_neg (by simp [newer]), if_neg (by simp [same])]

end

/-- The state that names the announce's master, and forwards the announce. -/
def announceHeld (s : State) (a : Announce) : State := { s with quartz := { s.quartz with master := a.master, announce := some a } }

/-- An announce of a beat that has not begun, whose edge agrees within 1 µs, gives the pending schedule. -/
theorem applyAnnounce_near {s : State} {a : Announce} (near : (heldEdge s a.beat - 1000 * (a.time : Int)).natAbs ≤ 1000000)
    (ahead : nextBeat s ≤ a.beat) (now : Nat) :
    applyAnnounce s a now = pendSchedule (announceHeld s a) a.beat a.period a.seq a.basePeriod := by
  unfold applyAnnounce
  dsimp only
  rw [if_neg (by omega), if_pos ahead]
  rfl

/-- An announce more than 1 µs off is rejected, and the follower is no longer aligned. -/
theorem applyAnnounce_far {s : State} {a : Announce} (far : 1000000 < (heldEdge s a.beat - 1000 * (a.time : Int)).natAbs) (now : Nat) :
    applyAnnounce s a now = enterUnaligned (scheduleRejected s) := if_pos far

theorem scheduleRejected_records (s : State) :
    RecordOnly s (scheduleRejected s) ∧ bit ((scheduleRejected s).dget 0x5070 1) 3 = true :=
  ⟨record_recordOnly s 0x5070 3 [] none, record_flag s [] none (by decide)⟩

theorem scheduleRejected_indexKept (s : State) : IndexKept s (scheduleRejected s) [0x5070, 0x50D0] := record_indexKept _ _ _ _ (by simp)

end Sys2Proof.Machine

end

section
/-! PROOF. The thermal step (R330). -/

namespace Sys2Proof.Machine
open Sys2Proof

/-- The state after an evaluation that ends no run at the limit: the step, the calm evaluations in a row and the thermal request. -/
def thermalStep (s : State) (step calm : Nat) : State :=
  State.dset { s with quartz := { s.quartz with step := step, calm := calm, limitRun := 0 } } 0x4070 7
    (if s.hasSchedule = true then thermalRequest s step else 0)

theorem thermalStep_request (s : State) (step calm : Nat) :
    (thermalStep s step calm).dget 0x4070 7 = if s.hasSchedule = true then thermalRequest s step else 0 := State.dset_dget_same ..

theorem thermalStep_cellsKept (s : State) (step calm : Nat) : CellsKept s (thermalStep s step calm) [(0x4070, 7)] :=
  dset_cellsKept s 0x4070 _ (by decide)

/-- The raise condition takes the step up. -/
theorem execThermalEvaluation_raises {s : State} (raise : thermalRaise s = true) (below : s.quartz.step < 16) :
    exec .thermalEvaluation s =
      .next (thermalStep s (s.quartz.step + 1) (if thermalCalm s = true then s.quartz.calm + 1 else 0)) := by
  change execThermalEvaluation s = _
  have inRange : min 16 (s.quartz.step + 1) = s.quartz.step + 1 := by omega
  simp [execThermalEvaluation, raise, below.ne, inRange, thermalStep]

/-- The tenth calm evaluation in a row takes the step down. -/
theorem execThermalEvaluation_lowers {s : State} (cool : thermalRaise s = false) (calm : thermalCalm s = true)
    (run : 9 ≤ s.quartz.calm) (above : 0 < s.quartz.step) :
    exec .thermalEvaluation s = .next (thermalStep s (s.quartz.step - 1) (s.quartz.calm + 1)) := by
  change execThermalEvaluation s = _
  simp [execThermalEvaluation, cool, calm, above, run, thermalStep]

end Sys2Proof.Machine

open Sys2Proof Sys2Proof.Machine

/-- Settles O46: a child's request is kept and the largest forwarded, a master issues the target where it differs, a follower applies
what its beat parent announces, and the thermal step follows its two conditions. -/
theorem stretchAndAnnounce : Obligations.StretchAndAnnounce := by
  intro s p src body now low
  refine ⟨fun up notFree port => ⟨fun valid child => ?_, fun invalid => ?_⟩, fun up follower parent => ?_,
    fun held master notFree => ⟨fun due => ?_, fun same => ?_⟩, fun up notFree port invalid => ?_, fun up master port valid => ?_,
    fun up other source port valid fromParent => ⟨fun unscheduled => ?_, fun held same newer => ⟨fun near ahead => ?_, fun far => ?_⟩⟩,
    fun other valid stranger => execScheduleAnnounce_stranger other valid stranger p now,
    fun a up serves announced => execAnnounceForward_copies up serves announced, fun raise below => ?_, fun cool calm run above => ?_⟩
  · exact ⟨_, execStretchRequestFrame_valid up notFree port valid child src now, rfl, rfl,
      le_forwarded (requestKept_live child ⟨bits body 160 32, bits body 256 128, now⟩ rfl)⟩
  · exact ⟨_, execStretchRequestFrame_invalid up notFree port invalid src now, beatFrameInvalid_records s⟩
  · exact ⟨_, execStretchRequestSend_sends up follower parent now, rfl, rfl, forwarded_congr (s := s) rfl rfl rfl rfl rfl now⟩
  · obtain ⟨beat, period, seq, kept⟩ := scheduleIssued_writes s now
    refine ⟨_, execScheduleIssue_issues held master notFree due, period, seq, scheduleIssued_clusterRequest s now, beat, ?_, rfl, rfl, kept⟩
    rw [beat, seq]
    rfl
  · exact execScheduleIssue_stays held master notFree same
  · obtain ⟨only, flag, -⟩ := beatFrameInvalid_records s
    exact ⟨_, execScheduleAnnounce_invalid up port notFree invalid src now, only, flag⟩
  · exact ⟨_, execScheduleAnnounce_master up port master valid src now, scheduleRejected_records s⟩
  · exact ⟨_, execScheduleAnnounce_follower up port other source valid fromParent now,
      followAnnounce_first source (readAnnounce body) now unscheduled⟩
  · have next := execScheduleAnnounce_follower up port other source valid fromParent now
    have applied := followAnnounce_newer source (readAnnounce body) now held same newer
    have pending := applyAnnounce_near (a := readAnnounce body) near ahead (localTime s now)
    obtain ⟨beat, period, seq⟩ := pendSchedule_dget (announceHeld s (readAnnounce body)) (bits body 320 64) (bits body 160 32)
      (bits body 96 32) (bits body 128 32)
    exact ⟨_, next.trans (congrArg Host.Outcome.next (applied.trans pending)), rfl, beat, period, seq, rfl,
      pendSchedule_cellsKept (announceHeld s (readAnnounce body)) _ _ _ _⟩
  · have next := execScheduleAnnounce_follower up port other source valid fromParent now
    have applied := followAnnounce_newer source (readAnnounce body) now held same newer
    have rejected := applyAnnounce_far (a := readAnnounce body) far (localTime s now)
    obtain ⟨only, flag⟩ := scheduleRejected_records s
    exact ⟨_, next.trans (congrArg Host.Outcome.next (applied.trans rejected)), only.trans (enterUnaligned_recordOnly _),
      enterUnaligned_status _, enterUnaligned_flag_stays flag,
      ((scheduleRejected_indexKept s).mono (by simp)).trans (enterUnaligned_indexKept _)⟩
  · exact ⟨_, execThermalEvaluation_raises raise below, rfl, thermalStep_request .., thermalStep_cellsKept s _ _⟩
  · exact ⟨_, execThermalEvaluation_lowers cool calm run above, rfl, thermalStep_request .., thermalStep_cellsKept s _ _⟩

end

section
/-! PROOF. What sending on flows leaves as it was: the flows' own terms, and the machine beside them (R370, R373). -/

namespace Sys2Proof.Machine
open Sys2Proof

/-! ## A flow whose stored units are sent (R370) -/

/-- Only the stored units, each with its index, and the count of retransmissions may have changed. -/
def SameUnits (x y : Flow) : Prop :=
  y = { x with store := y.store, retx := y.retx } ∧ y.store.map (·.seq) = x.store.map (·.seq)

namespace SameUnits

variable {x y z : Flow}

theorem refl (x : Flow) : SameUnits x x := ⟨rfl, rfl⟩

theorem trans (h : SameUnits x y) (k : SameUnits y z) : SameUnits x z := by
  refine ⟨?_, k.2.trans h.2⟩
  rw [k.1, h.1]

theorem state (h : SameUnits x y) : y.state = x.state := by rw [h.1]
theorem kind (h : SameUnits x y) : y.kind = x.kind := by rw [h.1]
theorem done (h : SameUnits x y) : y.done = x.done := by rw [h.1]
theorem credit (h : SameUnits x y) : y.credit = x.credit := by rw [h.1]

end SameUnits

/-- A unit's entry takes the place of the one with its index. -/
theorem putUnit_sameUnits (x : Flow) (y : StoreUnit) : SameUnits x (x.putUnit y) := by
  refine ⟨rfl, ?_⟩
  unfold Flow.putUnit
  rw [List.map_map]
  refine List.map_congr_left fun z _ => ?_
  by_cases same : z.seq = y.seq
  · exact (congrArg _ (if_pos same)).trans same.symm
  · exact congrArg _ (if_neg same)

/-! ## What sending may change -/

/-- Beside flows, only what leaves the module, the records of sending flows and the log have changed. -/
structure FlowsSend (s t : State) : Prop where
  parts : t = { s with
    net := { s.net with flows := t.net.flows }, dict := t.dict, garnet := t.garnet, freeCount := t.freeCount, out := t.out }
  index : IndexKept s t flowAreas

namespace FlowsSend

variable {s t u : State}

theorem refl (s : State) : FlowsSend s s := ⟨rfl, .refl s _⟩

theorem trans (h : FlowsSend s t) (k : FlowsSend t u) : FlowsSend s u where
  parts := by rw [k.parts, h.parts]
  index := h.index.trans k.index

theorem mem (h : FlowsSend s t) : t.mem = s.mem := by rw [h.parts]
theorem power (h : FlowsSend s t) : t.power = s.power := by rw [h.parts]
theorem barred (h : FlowsSend s t) : t.net.barred = s.net.barred := by rw [h.parts]

theorem port (h : FlowsSend s t) (p : Nat) : t.port p = s.port p := by
  rw [State.port, h.parts]
  rfl

/-- The records of sending flows lie apart from the entries of ports. -/
theorem dget_port (h : FlowsSend s t) (p : Nat) (near : p < 8) {sub : Nat} (small : sub < 256) :
    t.dget (0x3040 + p) sub = s.dget (0x3040 + p) sub :=
  h.index _ _ small fun inside => by
    simp only [flowAreas, List.mem_cons, List.not_mem_nil, or_false] at inside
    omega

theorem setFlow (s : State) (f : Nat) (x : Flow) : FlowsSend s (s.setFlow f x) := ⟨rfl, setFlow_indexKept s f x _⟩
theorem emit (s : State) (o : Out) : FlowsSend s (s.emit o) := ⟨rfl, emit_indexKept s o _⟩

theorem of_recordOnly (h : RecordOnly s t) (k : IndexKept s t flowAreas) : FlowsSend s t where
  parts := by rw [h.1]
  index := k

theorem foldl {β : Type} (f : State → β → State) (h : ∀ t e, FlowsSend t (f t e)) (l : List β) (s : State) :
    FlowsSend s (l.foldl f s) := foldl_related FlowsSend .refl .trans f h l s

end FlowsSend

/-- Of the flows, only flow `f` has changed, and it has the same units. -/
structure FlowSends (s t : State) (f : Nat) : Prop extends FlowsSend s t where
  others : ∀ g, g ≠ f → t.flow g = s.flow g
  units : SameUnits (s.flow f) (t.flow f)

namespace FlowSends

variable {s t u : State} {f : Nat}

theorem refl (s : State) (f : Nat) : FlowSends s s f := ⟨.refl s, fun _ _ => rfl, .refl _⟩

theorem trans (h : FlowSends s t f) (k : FlowSends t u f) : FlowSends s u f where
  toFlowsSend := h.toFlowsSend.trans k.toFlowsSend
  others g n := (k.others g n).trans (h.others g n)
  units := h.units.trans k.units

theorem setFlow {x : Flow} (same : SameUnits (s.flow f) x) : FlowSends s (s.setFlow f x) f where
  toFlowsSend := .setFlow s f x
  others _ n := setFlow_flow_other s n x
  units := by rw [setFlow_flow_same]; exact same

theorem emit (s : State) (o : Out) (f : Nat) : FlowSends s (s.emit o) f := ⟨.emit s o, fun _ _ => rfl, .refl _⟩

theorem of_recordOnly (h : RecordOnly s t) (k : IndexKept s t flowAreas) : FlowSends s t f where
  toFlowsSend := .of_recordOnly h k
  others g _ := h.flow g
  units := by rw [h.flow]; exact .refl _

/-- A case of the network's records, or of consumed poison. -/
theorem record (s : State) {idx : Nat} (flag : Nat) {counts : List (Nat × Nat)} (first : Option Nat) (small : ∀ e ∈ counts, e.1 < 256)
    (area : [idx, 0x50D0] ⊆ flowAreas) : FlowSends s (s.record idx flag counts first) f :=
  .of_recordOnly (record_recordOnly ..) ((record_indexKept _ _ _ _ small).mono area)

theorem foldl {β : Type} (g : State → β → State) (h : ∀ t e, FlowSends t (g t e) f) (l : List β) (s : State) :
    FlowSends s (l.foldl g s) f := foldl_related (FlowSends · · f) (.refl · f) .trans g h l s

end FlowSends

/-! ## Transmissions (R354, R370, R373) -/

/-- A stored unit takes its path and leaves, as its kind directs, or waits for a path. -/
theorem transmit_sends (s : State) (f u : Nat) : FlowSends s (transmit s f u) f := by
  unfold transmit
  dsimp only
  split
  · exact .refl s f
  next y _ =>
    split
    · exact .setFlow (putUnit_sameUnits _ _)
    · have placed := FlowSends.setFlow (s := s) (f := f)
        (putUnit_sameUnits (s.flow f) { y with path := (pathFor s f u y.attempt).1, port := (pathFor s f u y.attempt).2 })
      refine placed.trans ?_
      generalize s.setFlow f _ = t
      split
      · split
        · exact .emit t _ f
        · exact (FlowSends.emit t _ f).trans (.record _ _ _ (by simp) (by simp [flowAreas]))
      · split
        · exact .emit t _ f
        · split
          · exact .emit t _ f
          · exact (FlowSends.emit t _ f).trans (.record _ _ _ (by simp) (by simp [flowAreas]))

/-- A stored unit on its next attempt (R370). -/
def StoreUnit.again (y : StoreUnit) : StoreUnit := { y with attempt := min 255 (y.attempt + 1), resent := true }

/-- A retransmission of a unit is counted, of its flow and in all, before the unit leaves (R370). -/
def resending (s : State) (f : Nat) (y : StoreUnit) : State :=
  (s.setFlow f { (s.flow f).putUnit y.again with retx := min 0xFFFF ((s.flow f).retx + 1) }).dcount 0x5080 4 1

theorem resending_sends (s : State) (f : Nat) (y : StoreUnit) : FlowSends s (resending s f y) f := by
  have counted : SameUnits (s.flow f) { (s.flow f).putUnit y.again with retx := min 0xFFFF ((s.flow f).retx + 1) } :=
    ⟨rfl, (putUnit_sameUnits (s.flow f) y.again).2⟩
  exact .trans (.setFlow counted)
    (.of_recordOnly (dcount_recordOnly ..) ((dcount_indexKept _ _ _ (by decide)).mono (by simp [flowAreas])))

theorem retransmit_found {s : State} {f u : Nat} {y : StoreUnit} (found : (s.flow f).unit? u = some y) :
    retransmit s f u = if (pathFor s f u (min 255 (y.attempt + 1))).2 = 9 then s.setFlow f ((s.flow f).putUnit { y with port := 9 })
      else transmit (resending s f y) f u := by
  unfold retransmit
  dsimp only
  rw [found]
  rfl

theorem retransmit_sends (s : State) (f u : Nat) : FlowSends s (retransmit s f u) f := by
  cases found : (s.flow f).unit? u with
  | none =>
    have idle : retransmit s f u = s := by
      unfold retransmit
      dsimp only
      rw [found]
    rw [idle]
    exact .refl s f
  | some y =>
    rw [retransmit_found found]
    split
    · exact .setFlow (putUnit_sameUnits _ _)
    · exact (resending_sends s f y).trans (transmit_sends _ f u)

theorem sendWaiting_sends (s : State) (f : Nat) : FlowSends s (sendWaiting s f) f := by
  unfold sendWaiting
  dsimp only
  split
  · exact .refl s f
  · refine .foldl _ (fun t y => ?_) _ s
    split
    · exact transmit_sends t f y.seq
    · exact retransmit_sends t f y.seq

theorem sendAllWaiting_sends (s : State) : FlowsSend s (sendAllWaiting s) :=
  .foldl _ (fun t (e : Nat × Flow) => (sendWaiting_sends t e.1).toFlowsSend) _ s

theorem moveFrames_sends (s : State) (p : Nat) : FlowsSend s (moveFrames s p) := by
  refine .foldl _ (fun t e => ?_) _ s
  split
  · exact .foldl _ (fun u (y : StoreUnit) => (retransmit_sends u e.1 y.seq).toFlowsSend) _ t
  · exact .refl t

end Sys2Proof.Machine

end

section
/-! PROOF. Ports that go down, and their cages (O10). -/

namespace Sys2Proof.Machine
open Sys2Proof

theorem setPort_port_same (s : State) (p : Nat) (x : Port) : (s.setPort p x).port p = x := by
  rw [State.setPort_port, if_pos rfl]

/-! ## A port goes down (R348, R383) -/

/-- A port of which nothing of its partner is known. -/
def Port.alone (x : Port) : Port := { x with digest := 0, mac := 0, phase := 0, reason := 0, bundles := 0, maxFlows := 0 }

/-- What a port that goes down forgets of its partner, before its frames move to other ports. -/
def portForgotten (s : State) (p v : Nat) : State :=
  let i := 0x3040 + p
  let t := (s.dsets [(i, 1, v), (i, 8, 0), (i, 9, 0), (i, 0xA, 0), (i, 0xB, 0), (i, 0xC, 0)]).setPort p (s.port p).alone
  { t with quartz := { t.quartz with ptp := t.quartz.ptp.filter (·.port != p) } }

theorem portDown_eq (s : State) (p v : Nat) : portDown s p v = moveFrames (portForgotten s p v) p := rfl

/-- A port is down in state `v`: its cage's entries stand. -/
structure IsDown (s t : State) (p v : Nat) : Prop where
  mem : t.mem = s.mem
  state : portState t p = v
  port : t.port p = (s.port p).alone
  cage : ∀ sub, sub < 256 → sub ∉ [1, 8, 9, 0xA, 0xB, 0xC] → t.dget (0x3040 + p) sub = s.dget (0x3040 + p) sub

theorem portForgotten_isDown (s : State) (p v : Nat) : IsDown s (portForgotten s p v) p v where
  mem := (dsets_recordOnly s _).mem
  state := dsets_dget s (by simp) (by simp) (0x3040 + p, 1, v) (by simp)
  port := setPort_port_same _ p _
  cage sub small other := dsets_cellsKept s (by simp) (0x3040 + p) sub small (by simpa using other)

theorem portDown_isDown (s : State) {p : Nat} (near : p < 8) (v : Nat) : IsDown s (portDown s p v) p v := by
  have down := portForgotten_isDown s p v
  have moved := moveFrames_sends (portForgotten s p v) p
  rw [portDown_eq]
  exact ⟨moved.mem.trans down.mem, (moved.dget_port p near (by decide)).trans down.state, (moved.port p).trans down.port,
    fun sub small other => (moved.dget_port p near small).trans (down.cage sub small other)⟩

/-! ## Cages over their budget (R345) -/

/-- A port has lost the power of its cage, and this is recorded. -/
structure IsOverBudget (s t : State) (p : Nat) : Prop where
  mem : t.mem = s.mem
  state : portState t p = 2
  port : t.port p = { (s.port p).alone with powered := false, overBudget := true }
  declared : t.dget (0x3040 + p) 6 = s.dget (0x3040 + p) 6
  flag : bit (t.dget 0x5080 1) 6 = true

theorem overBudget_isOverBudget (s : State) {p : Nat} (near : p < 8) : IsOverBudget s (overBudget s p) p := by
  have down := portDown_isDown (s.setPort p { s.port p with powered := false, overBudget := true }) near portOverBudget
  unfold overBudget
  dsimp only
  generalize portDown _ p portOverBudget = t at down
  have recorded := record_recordOnly t 0x5080 6 [(0xC, 1)] (some (netCase 6 (some p) none none none 0))
  have kept : ∀ sub, sub < 256 → (t.record 0x5080 6 [(0xC, 1)] (some (netCase 6 (some p) none none none 0))).dget (0x3040 + p) sub =
      t.dget (0x3040 + p) sub := fun sub small => record_indexKept _ _ _ _ (by simp) _ sub small (by simp; omega)
  refine ⟨recorded.mem.trans down.mem, (kept 1 (by decide)).trans down.state, ?_,
    (kept 6 (by decide)).trans (down.cage 6 (by decide) (by decide)), record_flag _ _ _ (by decide)⟩
  rw [State.port, recorded.net, ← State.port, down.port, setPort_port_same]
  rfl

/-! ## Cages (R343, R345) -/

/-- What a cage reports when a module is inserted, before it has power. -/
def inserted (media phy declared : Nat) (usable : Bool) : Port :=
  { Port.empty with present := true, usable := usable && phy == phyOf media, media := media, phy := phyOf media, declared := declared }

theorem execCageInsert_eq {s : State} {p : Nat} (near : p < 8) (on : s.power.state ≠ .off) (media phy declared : Nat) (usable : Bool) :
    let t := s.setPort p (inserted media phy declared usable)
    exec (.cageInsert p media phy declared usable) s = .next (if linksRun t then startPort t p else declareCage t p) := by
  change execCageInsert p media phy declared usable s = _
  unfold execCageInsert
  rw [if_neg (by omega)]
  dsimp only
  rw [if_neg on]
  rfl

theorem powered_of_linksRun {s : State} (run : linksRun s = true) : s.power.state ≠ .off := fun off => by
  simp [linksRun, State.squareUp, off] at run

theorem declareCage_present {s : State} {p : Nat} (present : (s.port p).present = true) :
    declareCage s p = s.dset (0x3040 + p) 6 (s.port p).declared := by
  rw [declareCage, if_pos present]

theorem declareCage_dget_budget (s : State) {p : Nat} (near : p < 8) {sub : Nat} (small : sub < 256) :
    (declareCage s p).dget 0x2040 sub = s.dget 0x2040 sub :=
  State.dset_dget_other _ _ _ _ _ _ (by decide) small (.inl (by omega))

/-- A module in an enabled cage gets power and its port trains, or it is over its budget (R345, R348). -/
theorem startPort_eq {s : State} {p : Nat} (near : p < 8) (present : (s.port p).present = true)
    (enabled : bit (s.dget 0x2040 4) p = true) (spared : (s.port p).overBudget = false) :
    startPort s p = if s.dget 0x2040 5 < (s.port p).declared then overBudget (declareCage s p) p
      else portDown ((declareCage s p).setPort p { s.port p with powered := true, timedOut := false }) p portNoLink := by
  have same : (declareCage s p).port p = s.port p := rfl
  unfold startPort
  dsimp only
  rw [same, declareCage_dget_budget s near (by decide), declareCage_dget_budget s near (by decide), enabled, present, spared]
  rfl

section

variable {s : State} {p : Nat} (near : p < 8) (media phy declared : Nat) (usable : Bool)
include near

/-- While no link runs, the cage's power is declared alone (R343). -/
theorem execCageInsert_idle (on : s.power.state ≠ .off) (idle : linksRun s = false) :
    exec (.cageInsert p media phy declared usable) s =
      .next ((s.setPort p (inserted media phy declared usable)).dset (0x3040 + p) 6 declared) := by
  have still : linksRun (s.setPort p (inserted media phy declared usable)) = false := idle
  rw [execCageInsert_eq near on, still, if_neg Bool.noConfusion, declareCage_present (by rw [setPort_port_same]; rfl), setPort_port_same]
  rfl

variable (run : linksRun s = true) (enabled : bit (s.dget 0x2040 4) p = true)
include run enabled

/-- While links run, the port of an enabled cage starts (R348). -/
theorem execCageInsert_starts : exec (.cageInsert p media phy declared usable) s = .next
    (let t := s.setPort p (inserted media phy declared usable)
     let d := t.dset (0x3040 + p) 6 declared
     if s.dget 0x2040 5 < declared then overBudget d p
     else portDown (d.setPort p { inserted media phy declared usable with powered := true }) p portNoLink) := by
  have port := setPort_port_same s p (inserted media phy declared usable)
  have runs : linksRun (s.setPort p (inserted media phy declared usable)) = true := run
  have starts := startPort_eq (s := s.setPort p (inserted media phy declared usable)) near (by rw [port]; rfl) enabled
    (by rw [port]; rfl)
  rw [declareCage_present (by rw [port]; rfl), port] at starts
  rw [execCageInsert_eq near (powered_of_linksRun run), runs, if_pos rfl, starts]
  rfl

theorem execCageInsert_within (within : declared ≤ s.dget 0x2040 5) :
    ∃ t, exec (.cageInsert p media phy declared usable) s = .next t ∧ t.mem = s.mem ∧ t.dget (0x3040 + p) 6 = declared ∧
      portState t p = 3 ∧ t.port p = { inserted media phy declared usable with powered := true } := by
  rw [execCageInsert_starts near media phy declared usable run enabled]
  dsimp only
  rw [if_neg (by omega)]
  have down := portDown_isDown (((s.setPort p (inserted media phy declared usable)).dset (0x3040 + p) 6 declared).setPort p
    { inserted media phy declared usable with powered := true }) near portNoLink
  exact ⟨_, rfl, down.mem, (down.cage 6 (by decide) (by decide)).trans (State.dset_dget_same ..), down.state,
    by rw [down.port, setPort_port_same]; rfl⟩

theorem execCageInsert_over (excess : s.dget 0x2040 5 < declared) :
    ∃ t, exec (.cageInsert p media phy declared usable) s = .next t ∧ t.mem = s.mem ∧ t.dget (0x3040 + p) 6 = declared ∧
      portState t p = 2 ∧ t.port p = { inserted media phy declared usable with overBudget := true } := by
  rw [execCageInsert_starts near media phy declared usable run enabled]
  dsimp only
  rw [if_pos excess]
  have off := overBudget_isOverBudget ((s.setPort p (inserted media phy declared usable)).dset (0x3040 + p) 6 declared) near
  have port : ((s.setPort p (inserted media phy declared usable)).dset (0x3040 + p) 6 declared).port p =
    inserted media phy declared usable := setPort_port_same ..
  exact ⟨_, rfl, off.mem, off.declared.trans (State.dset_dget_same ..), off.state, by rw [off.port, port]; rfl⟩

end

/-- An empty cage leaves its port alone, without a link (R345). -/
theorem execCageRemove_empties (s : State) {p : Nat} (near : p < 8) : ∃ t, exec (.cageRemove p) s = .next t ∧
    t.port p = Port.empty ∧ t.dget (0x3040 + p) 6 = 0 ∧ t.mem = s.mem ∧
    portState t p = if linksRun s && !bit (s.dget 0x2040 4) p then 1 else 0 := by
  have removed : exec (.cageRemove p) s = .next (((portDown s p
      (if linksRun s && !bit (s.dget 0x2040 4) p then portDisabled else portNoModule)).setPort p Port.empty).dsets
        [(0x3040 + p, 2, 0), (0x3040 + p, 3, 0), (0x3040 + p, 4, 0xFFFF), (0x3040 + p, 5, 0), (0x3040 + p, 6, 0),
          (0x3040 + p, 7, 0xFFFF)]) := if_neg (by omega)
  have down := portDown_isDown s near (if linksRun s && !bit (s.dget 0x2040 4) p then portDisabled else portNoModule)
  generalize portDown s p _ = t at down removed
  have written := dsets_recordOnly (t.setPort p Port.empty) [(0x3040 + p, 2, 0), (0x3040 + p, 3, 0), (0x3040 + p, 4, 0xFFFF),
    (0x3040 + p, 5, 0), (0x3040 + p, 6, 0), (0x3040 + p, 7, 0xFFFF)]
  refine ⟨_, removed, ?_, dsets_dget _ (by simp) (by simp) (0x3040 + p, 6, 0) (by simp), written.mem.trans down.mem, ?_⟩
  · rw [State.port, written.net, ← State.port, setPort_port_same]
  · exact (dsets_cellsKept _ (by simp) (0x3040 + p) 1 (by decide) (by simp)).trans down.state

section

variable {s : State} {p : Nat} (near : p < 8) (powered : (s.port p).powered = true)
include near powered

theorem execCagePowerSample_eq (average : Nat) : exec (.cagePowerSample p average) s = .next
    (if s.dget 0x2040 5 < average then overBudget (s.dset (0x3040 + p) 5 (min average 0xFFFF)) p
     else s.dset (0x3040 + p) 5 (min average 0xFFFF)) := by
  change execCagePowerSample p average s = _
  simp [execCagePowerSample, near, powered]

theorem execCageOvercurrent_eq : exec (.cageOvercurrent p) s = .next (overBudget s p) := by
  change execCageOvercurrent p s = _
  simp [execCageOvercurrent, near, powered]

end

/-- A cage that has lost its power, as the statements say it. -/
theorem IsOverBudget.summary {s t : State} {p : Nat} (h : IsOverBudget s t p) : portState t p = 2 ∧ (t.port p).powered = false ∧
    (t.port p).overBudget = true ∧ bit (t.dget 0x5080 1) 6 = true ∧ t.mem = s.mem :=
  ⟨h.state, by rw [h.port], by rw [h.port], h.flag, h.mem⟩

/-! ## Settled ports and answered addresses (R348, R357, R556) -/

theorem execLinkTrainingLimit_settles {s : State} {p : Nat} (near : p < 8) (state : portState s p = 3) :
    exec (.linkTrainingLimit p) s = .next (s.setPort p { s.port p with timedOut := true }) := by
  change execLinkTrainingLimit p s = _
  simp [execLinkTrainingLimit, near, state, portNoLink]

theorem execAddressResolution_answers {s : State} {p address : Nat} (carrying : portState s p = 7 ∨ portState s p = 8)
    (own : address = ownAddress s) : exec (.addressResolution p address) s = .next { s with out := .resolved p address :: s.out } := by
  have isOpen : portOpen s p = true := by simpa [portOpen] using carrying
  change execAddressResolution p address s = _
  simp [execAddressResolution, isOpen, own, State.emit]

end Sys2Proof.Machine

open Sys2Proof Sys2Proof.Machine

/-- Settles O10: a port that goes down keeps its cage's entries, so each command's own writes stand after it. -/
theorem cageCommands : Obligations.CageCommands := by
  intro s p media phy declared average address usable near
  dsimp only
  refine ⟨execCageInsert_idle near media phy declared usable, fun run enabled => ?_, execCageRemove_empties s near,
    fun powered within => ?_, fun powered excess => ?_, fun powered => ?_, execLinkTrainingLimit_settles near,
    execAddressResolution_answers⟩
  · by_cases excess : s.dget 0x2040 5 < declared
    · obtain ⟨t, run, mem, cell, state, port⟩ := execCageInsert_over near media phy declared usable run enabled excess
      exact ⟨t, run, mem, cell, fun within => by omega, fun _ => ⟨state, port⟩⟩
    · obtain ⟨t, run, mem, cell, state, port⟩ := execCageInsert_within near media phy declared usable run enabled (by omega)
      exact ⟨t, run, mem, cell, fun _ => ⟨state, port⟩, fun excess' => absurd excess' excess⟩
  · rw [execCagePowerSample_eq near powered, if_neg (by omega)]
  · rw [execCagePowerSample_eq near powered, if_pos excess]
    exact ⟨_, rfl, (overBudget_isOverBudget _ near).summary⟩
  · exact ⟨_, execCageOvercurrent_eq near powered, (overBudget_isOverBudget s near).summary⟩

end

section
/-! PROOF. Links that come up, exchange capabilities, time out and drop (O11). -/

namespace Sys2Proof.Machine
open Sys2Proof

/-! ## A link comes up (R319, R346, R348) -/

/-- A module's input power, which copper has none of (R383). -/
def inputPower (media rx : Nat) : Nat := if media = 1 ∨ media = 2 then 0xFFFF else rx

/-- The entries of a port whose link has just come up: it measures. -/
def measuring (s : State) (p rx : Nat) : State :=
  let x := s.port p
  let i := 0x3040 + p
  (s.dsets [(i, 2, x.phy), (i, 3, x.media), (i, 7, inputPower x.media rx), (i, 1, portMeasuring)]).dcount i 0xD 1

/-- A port's one-way delay is known, or recorded as missing. -/
def linkMeasured (s : State) (p d : Nat) : State :=
  let t := s.dsets [(0x3040 + p, 4, cableLength (s.port p).media d), (0x3030, p + 1, d), (0x3040 + p, 1, portExchanging)]
  if d = ones 32 then t.record 0x5070 5 [(7, 1)] none else t

/-- The peer-delay exchanges of a port are done, and its capability frame leaves. -/
def exchanging (s : State) (p : Nat) (exchanges : List Nat) : State := sendCapability (linkMeasured s p (linkDelay exchanges)) p 1

section

variable {s : State} {p : Nat} (near : p < 8) (run : linksRun s = true)
include near run

section

variable (state : portState s p = 3) (fits : (s.port p).usable = true) (rx : Nat)
include state fits

theorem execLinkUp_measures : exec (.linkUp p none rx) s = .next (measuring s p rx) := by
  change execLinkUp p none rx s = _
  simp [execLinkUp, near, run, state, fits, portNoLink, measuring, inputPower]

theorem execLinkUp_comesUp (exchanges : List Nat) :
    exec (.linkUp p (some exchanges) rx) s = .next (exchanging (measuring s p rx) p exchanges) := by
  have port : (measuring s p rx).port p = s.port p := rfl
  change execLinkUp p (some exchanges) rx s = _
  unfold exchanging linkMeasured
  rw [port]
  simp [execLinkUp, near, run, state, fits, portNoLink, measuring, inputPower]

end

theorem execLinkUp_measured (state : portState s p = 4) (exchanges : List Nat) (rx : Nat) :
    exec (.linkUp p (some exchanges) rx) s = .next (exchanging s p exchanges) := by
  change execLinkUp p (some exchanges) rx s = _
  simp [execLinkUp, near, run, state, portNoLink, portMeasuring, exchanging, linkMeasured]

end

/-- What the entries of a port read once its link has come up. -/
structure IsMeasuring (s t : State) (p rx : Nat) : Prop where
  parts : t = { s with dict := t.dict }
  state : portState t p = 4
  phy : t.dget (0x3040 + p) 2 = (s.port p).phy
  media : t.dget (0x3040 + p) 3 = (s.port p).media
  power : t.dget (0x3040 + p) 7 = inputPower (s.port p).media rx
  cells : CellsKept s t [(0x3040 + p, 1), (0x3040 + p, 2), (0x3040 + p, 3), (0x3040 + p, 7), (0x3040 + p, 0xD)]

theorem measuring_isMeasuring (s : State) (p rx : Nat) : IsMeasuring s (measuring s p rx) p rx := by
  unfold measuring
  dsimp only
  generalize list : [(0x3040 + p, 2, (s.port p).phy), (0x3040 + p, 3, (s.port p).media), (0x3040 + p, 7, inputPower (s.port p).media rx),
    (0x3040 + p, 1, portMeasuring)] = l
  have small : ∀ e ∈ l, e.2.1 < 256 := by simp [← list]
  have read := dsets_dget s small (by simp [← list])
  have counted (sub : Nat) (low : sub < 0xD) : ((s.dsets l).dcount (0x3040 + p) 0xD 1).dget (0x3040 + p) sub =
      (s.dsets l).dget (0x3040 + p) sub := State.dcount_dget_other _ _ _ _ _ _ (by decide) (by omega) (.inr (by omega))
  refine ⟨by rw [← list]; rfl, (counted 1 (by decide)).trans (read (_, 1, portMeasuring) (by simp [← list])),
    (counted 2 (by decide)).trans (read (_, 2, _) (by simp [← list])), (counted 3 (by decide)).trans (read (_, 3, _) (by simp [← list])),
    (counted 7 (by decide)).trans (read (_, 7, inputPower (s.port p).media rx) (by simp [← list])), ?_⟩
  exact ((dsets_cellsKept s small).mono (by simp [← list])).trans ((dset_cellsKept _ _ _ (by decide)).mono (by simp))

/-! ## Capability frames (R349) -/

/-- `n` frames of a content. -/
def capabilities (s : State) (target n : Nat) : List Out :=
  List.replicate n (.capability target (ownCapability s (if target < 8 then target else 0xFF)))

theorem sendCapability_eq (s : State) (target n : Nat) : sendCapability s target n =
    { s with out := capabilities s target n ++ s.out, net := (sendCapability s target n).net } := by
  unfold sendCapability capabilities
  dsimp only
  rw [foldl_emit (fun _ => .capability target _), List.map_const', List.length_range, List.reverse_replicate]

theorem sendCapability_port (s : State) (target n p : Nat) : (sendCapability s target n).port p = s.port p := by
  unfold sendCapability
  dsimp only
  rw [foldl_emit (fun _ => .capability target _)]
  rfl

/-- The content rests on the module's own address, its node and its features (R349). -/
theorem ownCapability_congr {s t : State} (power : t.power = s.power) (address : t.dget 0x2040 1 = s.dget 0x2040 1)
    (ipv4 : t.dget 0x2040 2 = s.dget 0x2040 2) (index : Nat) : ownCapability t index = ownCapability s index := by
  unfold ownCapability ownAddress strapNode ownFeatures
  rw [power, address, ipv4]

/-! ## The delay of a link is known (R319, R346) -/

/-- Beside the three entries written, only a missing delay is recorded. -/
theorem linkMeasured_records (s : State) (p d : Nat) :
    let t := s.dsets [(0x3040 + p, 4, cableLength (s.port p).media d), (0x3030, p + 1, d), (0x3040 + p, 1, portExchanging)]
    RecordOnly t (linkMeasured s p d) ∧ IndexKept t (linkMeasured s p d) [0x5070, 0x50D0] := by
  unfold linkMeasured
  dsimp only
  split
  · exact ⟨record_recordOnly .., record_indexKept _ _ _ _ (by simp)⟩
  · exact ⟨.refl _, .refl _ _⟩

theorem linkMeasured_missing (s : State) (p : Nat) : bit ((linkMeasured s p (ones 32)).dget 0x5070 1) 5 = true := by
  unfold linkMeasured
  rw [if_pos rfl]
  exact record_flag _ _ _ (by decide)

/-- What a port's entries read once its delay is known. -/
structure IsMeasured (s t : State) (p d : Nat) : Prop where
  records : RecordOnly s t
  state : portState t p = 5
  delay : t.dget 0x3030 (p + 1) = d
  length : t.dget (0x3040 + p) 4 = cableLength (s.port p).media d
  others : ∀ idx sub, sub < 256 → idx ∉ [0x3030, 0x5070, 0x50D0] → idx ≠ 0x3040 + p ∨ sub ∉ [1, 4] → t.dget idx sub = s.dget idx sub

theorem linkMeasured_isMeasured (s : State) {p : Nat} (near : p < 8) (d : Nat) : IsMeasured s (linkMeasured s p d) p d := by
  obtain ⟨only, kept⟩ := linkMeasured_records s p d
  generalize list : [(0x3040 + p, 4, cableLength (s.port p).media d), (0x3030, p + 1, d), (0x3040 + p, 1, portExchanging)] = l
    at only kept
  have small : ∀ e ∈ l, e.2.1 < 256 := by
    simp only [← list, List.forall_mem_cons]
    exact ⟨by decide, by omega, by decide, nofun⟩
  have read := dsets_dget s small (by simp [← list]; omega)
  have port (sub : Nat) (low : sub < 256) : (linkMeasured s p d).dget (0x3040 + p) sub = (s.dsets l).dget (0x3040 + p) sub :=
    kept _ _ low (by simp; omega)
  refine ⟨(dsets_recordOnly s l).trans only, (port 1 (by decide)).trans (read (_, 1, portExchanging) (by simp [← list])),
    (kept _ _ (by omega) (by decide)).trans (read (_, _, d) (by simp [← list])),
    (port 4 (by decide)).trans (read (_, 4, cableLength (s.port p).media d) (by simp [← list])), fun idx sub low far apart => ?_⟩
  simp only [List.mem_cons, List.not_mem_nil, or_false, not_or] at far apart
  refine (kept _ _ low (by simp; omega)).trans (dsets_cellsKept s small idx sub low ?_)
  simp [← list]
  omega

/-- What a port reads, and what leaves it, once its peer-delay exchanges are done. -/
structure IsExchanging (s t : State) (p : Nat) (exchanges : List Nat) : Prop where
  state : portState t p = 5
  delay : t.dget 0x3030 (p + 1) = linkDelay exchanges
  length : t.dget (0x3040 + p) 4 = cableLength (s.port p).media (linkDelay exchanges)
  port : ∀ sub, sub < 256 → sub ∉ [1, 4] → t.dget (0x3040 + p) sub = s.dget (0x3040 + p) sub
  missing : linkDelay exchanges = ones 32 → bit (t.dget 0x5070 1) 5 = true
  mem : t.mem = s.mem
  out : t.out = .capability p (ownCapability s p) :: s.out

theorem exchanging_isExchanging (s : State) {p : Nat} (near : p < 8) (exchanges : List Nat) :
    IsExchanging s (exchanging s p exchanges) p exchanges := by
  have known := linkMeasured_isMeasured s near (linkDelay exchanges)
  have frame := ownCapability_congr known.records.power (known.others _ 1 (by decide) (by decide) (.inl (by omega)))
    (known.others _ 2 (by decide) (by decide) (.inl (by omega))) p
  have missing : linkDelay exchanges = ones 32 → bit ((linkMeasured s p (linkDelay exchanges)).dget 0x5070 1) 5 = true :=
    fun none => none ▸ linkMeasured_missing s p
  unfold exchanging
  rw [sendCapability_eq]
  refine ⟨known.state, known.delay, known.length,
    fun sub small other => known.others _ sub small (by simp; omega) (.inr other), missing, known.records.mem, ?_⟩
  simp only [capabilities, if_pos near, frame, known.records.out]
  rfl

/-! ## A link goes down, or is not answered (R348, R351, R373) -/

theorem execLinkDown_drops {s : State} {p : Nat} (near : p < 8) (linked : 4 ≤ portState s p) : ∃ t, exec (.linkDown p) s = .next t ∧
    portState t p = 3 ∧ (t.port p).phase = 0 ∧ (t.port p).digest = 0 ∧ t.mem = s.mem := by
  have dropped : exec (.linkDown p) s = .next (portDown s p portNoLink) := by
    change execLinkDown p s = _
    simp [execLinkDown, near, linked]
  have down := portDown_isDown s near portNoLink
  exact ⟨_, dropped, down.state, by rw [down.port]; rfl, by rw [down.port]; rfl, down.mem⟩

theorem execCapabilityTimeout_switches {s : State} {p : Nat} (near : p < 8) (state : portState s p = 5) :
    ∃ t, exec (.capabilityTimeout p) s = .next t ∧ portState t p = 8 ∧ t.mem = s.mem := by
  have timed : exec (.capabilityTimeout p) s = .next (sendAllWaiting (setPortState s p portSwitched)) := by
    change execCapabilityTimeout p s = _
    simp [execCapabilityTimeout, near, state, portExchanging]
  have sent := sendAllWaiting_sends (setPortState s p portSwitched)
  exact ⟨_, timed, (sent.dget_port p near (by decide)).trans (State.dset_dget_same ..), sent.mem⟩

theorem execPeerExchangeTimeout_ends {s : State} {i : Nat} (state : (s.peer i).state = 1) (phase : (s.peer i).phase = 4) :
    exec (.peerExchangeTimeout i) s = .next (s.setPeer i { s.peer i with state := 5, phase := 0 }) := by
  change execPeerExchangeTimeout i s = _
  simp [execPeerExchangeTimeout, state, phase]

/-! ## The identity check begins (R591) -/

/-- Step 1 of a port's check: the digests are asked for. -/
theorem beginCheck_port (s : State) {p : Nat} (near : p < 8) :
    beginCheck s p = (s.setPort p { s.port p with phase := 1 }).emit (.spdm p 4 0) := by
  simp [beginCheck, setCheck, checkChain, checkDevice, askDigests, near]

theorem execIdentityRecheck_checks {s : State} {p : Nat} (near : p < 8) (run : linksRun s = true) (state : portState s p = 9)
    (reason : (s.port p).reason = 5) (phase : (s.port p).phase = 0) :
    exec (.identityRecheck p) s = .next ((s.setPort p { s.port p with phase := 1 }).emit (.spdm p 4 0)) := by
  rw [← beginCheck_port s near]
  change execIdentityRecheck p s = _
  simp [execIdentityRecheck, near, run, state, reason, phase, portQuarantined]

/-! ## A partner announces itself (R349, R350) -/

/-- Type 1 and version 1 in the low byte make a valid frame. -/
theorem capabilityValid_of {b : Nat} (head : bits b 0 8 = 0x11) : capabilityValid b = true := by
  simp only [bits] at head
  simp only [capabilityValid, bits, Bool.and_eq_true, beq_iff_eq]
  omega

/-- Bit 0 of the partner's versions makes version 1 common. -/
theorem agreedSet_common (s : State) {b : Nat} (common : bit b 384 = true) : (agreedSet s b).1 = 1 := by
  have version : bit (bits b 384 16) 0 = true := by
    unfold bit bits at *
    rw [Nat.testBit_mod_two_pow, Nat.testBit_div_two_pow]
    simpa using common
  rw [agreedSet, version]
  rfl

/-- A port's partner is agreed with: our frame has left three times more, and its identity is to be checked. -/
def partnerAgreed (s : State) (p body : Nat) : State := setPortState (sendCapability (agreePort s p body) p 3) p portIdentity

theorem execCapabilityFrame_agrees {s : State} {p body : Nat} (near : p < 8) (run : linksRun s = true) (state : portState s p = 5)
    (head : bits body 0 8 = 0x11) (direct : bits body 344 8 ≠ 0xFF) (common : bit body 384 = true) :
    exec (.capabilityFrame p body) s = .next (((partnerAgreed s p body).setPort p
      { (partnerAgreed s p body).port p with phase := 1 }).emit (.spdm p 4 0)) := by
  rw [← beginCheck_port _ near]
  change execCapabilityFrame p body s = _
  simp [execCapabilityFrame, portCapability, partnerAgreed, near, run, state, direct, capabilityValid_of head, agreedSet_common s common,
    portExchanging]

/-- What is known of a partner that has announced itself. -/
structure IsAgreed (s t : State) (p body : Nat) : Prop where
  state : portState t p = 6
  digest : (t.port p).digest = bits body 640 384
  mac : (t.port p).mac = bits body 464 48
  version : t.dget (0x3040 + p) 9 = (agreedSet s body).1
  address : t.dget (0x3040 + p) 0xC = bits body 512 128
  mem : t.mem = s.mem

theorem partnerAgreed_isAgreed (s : State) (p body : Nat) : IsAgreed s (partnerAgreed s p body) p body := by
  have port : (partnerAgreed s p body).port p = (agreePort s p body).port p := sendCapability_port ..
  have cell (sub : Nat) (small : sub < 256) (other : 1 ≠ sub) :
      (partnerAgreed s p body).dget (0x3040 + p) sub = (agreePort s p body).dget (0x3040 + p) sub := by
    unfold partnerAgreed setPortState
    rw [State.dset_dget_other _ _ _ _ _ _ (by decide) small (.inr other), sendCapability_eq]
    rfl
  have read := dsets_dget s (l := [(0x3040 + p, 8, bits body 360 8), (0x3040 + p, 9, (agreedSet s body).1),
    (0x3040 + p, 0xA, (agreedSet s body).2.1), (0x3040 + p, 0xB, (agreedSet s body).2.2), (0x3040 + p, 0xC, bits body 512 128)])
    (by simp) (by simp)
  refine ⟨State.dset_dget_same .., ?_, ?_, (cell 9 (by decide) (by decide)).trans (read (_, 9, (agreedSet s body).1) (by simp)),
    (cell 0xC (by decide) (by decide)).trans (read (_, 0xC, bits body 512 128) (by simp)), ?_⟩
  · rw [port]
    unfold agreePort
    dsimp only
    rw [setPort_port_same]
  · rw [port]
    unfold agreePort
    dsimp only
    rw [setPort_port_same]
  · unfold partnerAgreed setPortState
    rw [State.dset_mem, sendCapability_eq]
    exact (dsets_recordOnly s _).mem

end Sys2Proof.Machine

open Sys2Proof Sys2Proof.Machine

/-- Settles O11: a link that comes up writes its entries, then its delay, and its frame leaves; a port that goes down forgets its
partner. -/
theorem linkAndExchange : Obligations.LinkAndExchange := by
  intro s p rx body i exchanges near
  dsimp only
  refine ⟨fun run state fits => ⟨?_, ?_⟩, fun run state => ?_, execLinkDown_drops near, fun run state head direct common => ?_,
    execCapabilityTimeout_switches near, fun run state reason phase => ?_, execPeerExchangeTimeout_ends⟩
  · have up := measuring_isMeasuring s p rx
    exact ⟨_, execLinkUp_measures near run state fits rx, up.parts, up.state, up.phy, up.media, up.power, up.cells⟩
  · have up := measuring_isMeasuring s p rx
    have done := exchanging_isExchanging (measuring s p rx) near exchanges
    have own := ownCapability_congr (s := s) (t := measuring s p rx) rfl (up.cells _ _ (by decide) (by simp; omega))
      (up.cells _ _ (by decide) (by simp; omega)) p
    exact ⟨_, execLinkUp_comesUp near run state fits rx exchanges, done.state, (done.port 2 (by decide) (by decide)).trans up.phy,
      (done.port 3 (by decide) (by decide)).trans up.media, (done.port 7 (by decide) (by decide)).trans up.power, done.delay, done.length,
      done.mem, by rw [done.out, own]; rfl⟩
  · have done := exchanging_isExchanging s near exchanges
    exact ⟨_, execLinkUp_measured near run state exchanges rx, done.state, done.delay, done.length, done.missing, done.mem, done.out⟩
  · have agreed := partnerAgreed_isAgreed s p body
    have checked := setPort_port_same (partnerAgreed s p body) p { (partnerAgreed s p body).port p with phase := 1 }
    refine ⟨_, execCapabilityFrame_agrees near run state head direct common, agreed.state, congrArg Port.phase checked,
      (congrArg Port.digest checked).trans agreed.digest, (congrArg Port.mac checked).trans agreed.mac,
      agreed.version.trans (agreedSet_common s common), agreed.address, rfl, agreed.mem⟩
  · exact ⟨_, execIdentityRecheck_checks near run state reason phase, rfl, setPort_port_same ..⟩

end

section
/-! PROOF. The flow and peer windows of a function (O40). -/

namespace Sys2Proof.Machine
open Sys2Proof

/-! ## A function's window (R361) -/

theorem setNetWindow_netWindow_same (s : State) (fn : Nat) (w : NetWindow) : (s.setNetWindow fn w).netWindow fn = w := by
  rw [State.setNetWindow_netWindow, if_pos rfl]

theorem setNetWindow_windowOnly (s : State) (fn : Nat) (w : NetWindow) : WindowOnly s (s.setNetWindow fn w) fn w :=
  ⟨rfl, setNetWindow_netWindow_same s fn w, fun g other => by rw [State.setNetWindow_netWindow, if_neg other.symm]⟩

theorem windowOnly_trans {s t u : State} {fn : Nat} {v w : NetWindow} (h : WindowOnly s t fn v) (k : WindowOnly t u fn w) :
    WindowOnly s u fn w := by
  refine ⟨?_, k.2.1, fun g other => (k.2.2 g other).trans (h.2.2 g other)⟩
  rw [k.1, h.1]

theorem flowResult_windowOnly (s : State) (fn code : Nat) :
    WindowOnly s (flowResult s fn code) fn { s.netWindow fn with flowResult := code } := setNetWindow_windowOnly ..

theorem peerResult_windowOnly (s : State) (fn code : Nat) :
    WindowOnly s (peerResult s fn code) fn { s.netWindow fn with peerResult := code } := setNetWindow_windowOnly ..

section

variable {s u : State} {fn code : Nat} {run : Nat → State → Nat × State} (up : s.squareUp = true) (function : fn < 4)
include up function

section

variable {f : Nat} (selected : (s.netWindow fn).flowSelect = f) (small : f < 2 ^ 18)
include selected small

/-- A command on a flow of the caller's has its effect, and its result stands in the window. -/
theorem flowCommand_done (mine : flowInRange s fn f = true) (did : run f s = (code, u)) :
    flowCommand fn s run = flowResult u fn code := by
  unfold flowCommand
  dsimp only
  rw [selected, Nat.mod_eq_of_lt small, up, mine, did]
  simp [function]

/-- A command that is refused leaves its result code alone. -/
theorem flowCommand_refused (mine : flowInRange s fn f = true) (refused : run f s = (code, s)) :
    WindowOnly s (flowCommand fn s run) fn { s.netWindow fn with flowResult := code } := by
  rw [flowCommand_done up function selected small mine refused]
  exact flowResult_windowOnly s fn code

theorem flowCommand_outside (foreign : flowInRange s fn f = false) :
    WindowOnly s (flowCommand fn s run) fn { s.netWindow fn with flowResult := 6 } := by
  have outside : flowCommand fn s run = flowResult s fn 6 := by
    unfold flowCommand
    dsimp only
    rw [selected, Nat.mod_eq_of_lt small, up, foreign]
    simp [function, netOutOfRange]
  rw [outside]
  exact flowResult_windowOnly s fn 6

end

section

variable {i : Nat} (selected : (s.netWindow fn).peerSelect = i) (small : i < 2 ^ 12) (mine : peerInRange s fn i = true)
include selected small mine

theorem peerCommand_done (did : run i s = (code, u)) : peerCommand fn s run = peerResult u fn code := by
  unfold peerCommand
  dsimp only
  rw [selected, Nat.mod_eq_of_lt small, up, mine, did]
  simp [function]

theorem peerCommand_refused (refused : run i s = (code, s)) :
    WindowOnly s (peerCommand fn s run) fn { s.netWindow fn with peerResult := code } := by
  rw [peerCommand_done up function selected small mine refused]
  exact peerResult_windowOnly s fn code

end

end

/-! ## Opening a receive flow (R363, R364) -/

/-- A known peer stays known, and only peer entries change. -/
theorem knowPeer_known {s : State} {i : Nat} (known : (s.peer i).state = 2) :
    knowPeer s i = { s with net := { s.net with peers := (knowPeer s i).net.peers } } ∧ ((knowPeer s i).peer i).state = 2 := by
  have set (x : Peer) : ((s.setPeer i x).peer i).state = x.state := by rw [State.setPeer_peer, if_pos rfl]
  unfold knowPeer
  dsimp only
  split
  · exact ⟨rfl, known⟩
  · split
    · exact ⟨rfl, set _⟩
    · split
      · exact ⟨rfl, set _⟩
      · exact ⟨rfl, known⟩

/-- Such a peer needs no exchange. -/
theorem reachPeer_known {s : State} {i : Nat} (known : (s.peer i).state = 2) : reachPeer s i = s := by
  unfold reachPeer
  dsimp only
  rw [known, if_neg (by omega)]

/-- A flow that has just opened with a limit granted (R359). -/
def Flow.opened (x : Flow) (credit : Nat) : Flow :=
  { x with state := 2, credit := credit, retx := 0, issued := 0, done := 0, landed := [], freed := 0, covered := 0, store := [],
           polled := 0, rate := fullRate, wanted := 0, unacked := 0, ackPort := 8 }

/-- A receive flow opens at once, and grants its window (R367). -/
theorem startFlow_receives {s : State} {f : Nat} (kind : (s.flow f).kind = 2) :
    startFlow s f = (s.setFlow f ((s.flow f).opened 0)).setFlow f ((s.flow f).opened (s.flow f).window) := by
  have opened : startFlow s f = firstCredit (s.setFlow f ((s.flow f).opened 0)) f := by
    simp [startFlow, Flow.sends, Flow.opened, kind, flowOpen]
  rw [opened, firstCredit]
  dsimp only
  rw [setFlow_flow_same, if_pos (.inl kind)]
  rfl

/-- A receive flow that meets no check of R364 opens. -/
theorem openFlow_opens {s : State} {f : Nat} (closed : (s.flow f).state = 0)
    (good : openBad s (s.flow f) = false) (window : 0 < (s.flow f).window) (loaded : (flowCtx s f).loaded = true)
    (buffer : windowBufferOk (flowCtx s f) (s.flow f) = true) (known : (s.peer (s.flow f).peer).state = 2)
    (reach : peerUnusable (knowPeer s (s.flow f).peer) (s.flow f) = false) :
    openFlow s f = (0, startFlow (knowPeer s (s.flow f).peer) f) := by
  obtain ⟨-, known'⟩ := knowPeer_known known
  unfold openFlow
  dsimp only
  rw [if_neg (by simp [closed, flowClosed]), good, if_neg Bool.noConfusion, if_neg (by omega), loaded, if_neg (by simp), buffer,
    if_neg (by simp), reach, if_neg Bool.noConfusion, reachPeer_known known']
  rfl

/-- A flow has opened towards a known peer: entries of peers may have changed beside its own. -/
structure IsOpened (s t : State) (f : Nat) : Prop where
  net : t = { s with net := { s.net with peers := t.net.peers, flows := t.net.flows } }
  flow : t.flow f = (s.flow f).opened (s.flow f).window
  others : ∀ g, g ≠ f → t.flow g = s.flow g

theorem IsOpened.netWindow {s t : State} {f : Nat} (h : IsOpened s t f) (fn : Nat) : t.netWindow fn = s.netWindow fn := by
  rw [State.netWindow, h.net]
  rfl

theorem startFlow_known {s : State} {f i : Nat} (known : (s.peer i).state = 2) (kind : (s.flow f).kind = 2) :
    IsOpened s (startFlow (knowPeer s i) f) f := by
  obtain ⟨parts, -⟩ := knowPeer_known known
  generalize knowPeer s i = k at parts
  have same (g : Nat) : k.flow g = s.flow g := by
    rw [State.flow, parts]
    rfl
  rw [startFlow_receives (by rw [same]; exact kind), same]
  refine ⟨?_, setFlow_flow_same .., fun g other => ?_⟩
  · rw [parts]
    rfl
  · rw [setFlow_flow_other _ other, setFlow_flow_other _ other, same]

/-! ## Closing a flow (R365) -/

/-- What tells a partner of the end of a flow does not rest on what the flow held. -/
theorem sendControl_closed (s : State) (f kind reason seq : Nat) : sendControl (s.setFlow f (s.flow f).closed) f kind reason seq =
    (s.setFlow f (s.flow f).closed).emit (controlOut s f (pathFor s f 0 0).2 kind reason seq) := by
  have same : ((s.setFlow f (s.flow f).closed).flow f) = (s.flow f).closed := setFlow_flow_same ..
  have path : pathFor (s.setFlow f (s.flow f).closed) f 0 0 = pathFor s f 0 0 := by
    unfold pathFor
    rw [same]
    rfl
  unfold sendControl
  rw [path]
  unfold controlOut
  rw [same]
  rfl

theorem closeByHost_receives {s : State} {f : Nat} (isOpen : (s.flow f).state = 2) (kind : (s.flow f).kind = 2) :
    closeByHost s f = (s.setFlow f (s.flow f).closed).emit (controlOut s f (pathFor s f 0 0).2 2 0 0) := by
  have closes : closeFlow s f 0 = (s.setFlow f (s.flow f).closed).emit (controlOut s f (pathFor s f 0 0).2 2 0 0) := by
    rw [← sendControl_closed]
    simp [closeFlow, Flow.live, Flow.rdma, isOpen, kind, flowOpen, flowClosed, flowOpening]
  have after : ((s.setFlow f (s.flow f).closed).emit (controlOut s f (pathFor s f 0 0).2 2 0 0)).flow f = (s.flow f).closed :=
    setFlow_flow_same ..
  unfold closeByHost
  dsimp only
  rw [if_neg (by simp [Flow.sends, kind]), closes, regrant, after, if_neg (by simp [Flow.closed, kind])]

theorem closeByHost_drains {s : State} {f : Nat} (isOpen : (s.flow f).state = 2) (kind : (s.flow f).kind = 1)
    (held : (s.flow f).store ≠ []) : closeByHost s f = s.setFlow f { s.flow f with state := 3 } := by
  have waits : (s.flow f).store.isEmpty = false := by simpa using held
  simp [closeByHost, Flow.sends, Flow.live, isOpen, kind, waits, flowOpen, flowClosing, flowOpening]

/-! ## What the commands answer -/

theorem flowResult_netWindow (s : State) (fn code : Nat) :
    (flowResult s fn code).netWindow fn = { s.netWindow fn with flowResult := code } := setNetWindow_netWindow_same ..
theorem peerResult_netWindow (s : State) (fn code : Nat) :
    (peerResult s fn code).netWindow fn = { s.netWindow fn with peerResult := code } := setNetWindow_netWindow_same ..
theorem flowResult_flow (s : State) (fn code f : Nat) : (flowResult s fn code).flow f = s.flow f := rfl
theorem peerResult_peer (s : State) (fn code i : Nat) : (peerResult s fn code).peer i = s.peer i := rfl

section

variable {s : State} {fn f : Nat}

/-- A read fills the data registers. -/
theorem readFlow_windowOnly (s : State) (fn f : Nat) :
    WindowOnly s (flowResult (readFlow fn f s).2 fn 0) fn { s.netWindow fn with flowData := (s.flow f).image, flowResult := 0 } := by
  have done := flowResult_windowOnly (readFlow fn f s).2 fn 0
  rw [show (readFlow fn f s).2.netWindow fn = _ from setNetWindow_netWindow_same ..] at done
  exact windowOnly_trans (setNetWindow_windowOnly s fn _) done

theorem readPeer_windowOnly (s : State) (fn i : Nat) :
    WindowOnly s (peerResult (readPeer fn i s).2 fn 0) fn { s.netWindow fn with peerData := (s.peer i).image, peerResult := 0 } := by
  have done := peerResult_windowOnly (readPeer fn i s).2 fn 0
  rw [show (readPeer fn i s).2.netWindow fn = _ from setNetWindow_netWindow_same ..] at done
  exact windowOnly_trans (setNetWindow_windowOnly s fn _) done

section

variable (closed : (s.flow f).state = 0)
include closed

theorem writeFlow_good (good : imageBad (s.netWindow fn).flowData = false) :
    writeFlow fn f s = (0, s.setFlow f ((s.flow f).written (s.netWindow fn).flowData)) := by
  simp [writeFlow, closed, good, flowClosed, netDone]

theorem writeFlow_bad (bad : imageBad (s.netWindow fn).flowData = true) : writeFlow fn f s = (3, s) := by
  simp [writeFlow, closed, bad, flowClosed, netBadField]

theorem closeCommand_closed : closeCommand f s = (2, s) := by simp [closeCommand, closed, flowClosed, netBadState]

end

theorem openCommand_opens (inside : peerInRange s fn (s.flow f).peer = true) (closed : (s.flow f).state = 0)
    (good : openBad s (s.flow f) = false) (window : 0 < (s.flow f).window) (loaded : (flowCtx s f).loaded = true)
    (buffer : windowBufferOk (flowCtx s f) (s.flow f) = true) (known : (s.peer (s.flow f).peer).state = 2)
    (reach : peerUnusable (knowPeer s (s.flow f).peer) (s.flow f) = false) :
    openCommand fn f s = (0, startFlow (knowPeer s (s.flow f).peer) f) := by
  rw [openCommand, if_pos inside, openFlow_opens closed good window loaded buffer known reach]

section

variable (used : (s.flow f).state ≠ 0)
include used

theorem writeFlow_used : writeFlow fn f s = (2, s) := by simp [writeFlow, used, flowClosed, netBadState]

theorem openCommand_used (mine : peerInRange s fn (s.flow f).peer = true) : openCommand fn f s = (2, s) := by
  simp [openCommand, mine, openFlow, used, flowClosed, netBadState]

theorem closeCommand_used : closeCommand f s = (0, closeByHost s f) := by simp [closeCommand, used, flowClosed, netDone]

end

/-- No open flow names a peer, as the check of a write reads it. -/
theorem noOpenFlow_iff (s : State) (i : Nat) : (s.net.flows.any fun e => e.2.peer == i && e.2.state != flowClosed) = false ↔
    ∀ e ∈ s.net.flows, e.2.peer = i → e.2.state = 0 := by
  simp [flowClosed]

/-- A written peer entry: one with a new address has no digest seen (R593). -/
def peerWritten (s : State) (i v : Nat) : State :=
  let t := s.setPeer i ((s.peer i).written v)
  if bits v 128 128 = (s.peer i).address then t else setSeenPeer t i 0

theorem writePeer_unused {i : Nat} (unused : ∀ e ∈ s.net.flows, e.2.peer = i → e.2.state = 0) :
    writePeer fn i s = (0, peerWritten s i (s.netWindow fn).peerData) := by
  unfold writePeer
  dsimp only
  rw [(noOpenFlow_iff s i).2 unused]
  rfl

theorem writePeer_used {i : Nat} (used : ∃ e ∈ s.net.flows, e.2.peer = i ∧ e.2.state ≠ 0) : writePeer fn i s = (2, s) := by
  have named : (s.net.flows.any fun e => e.2.peer == i && e.2.state != flowClosed) = true := by simpa [flowClosed] using used
  unfold writePeer
  dsimp only
  rw [named]
  rfl

/-- What is written of a peer entry. -/
structure IsWritten (s t : State) (i v : Nat) : Prop where
  parts : t = { s with net := { s.net with peers := t.net.peers }, garnet := t.garnet }
  peer : t.peer i = (s.peer i).written v
  seen : bits v 128 128 ≠ (s.peer i).address → seenPeer t i = 0
  others : ∀ j, j ≠ i → t.peer j = s.peer j

theorem peerWritten_isWritten (s : State) (i v : Nat) : IsWritten s (peerWritten s i v) i v := by
  have set (j : Nat) : (s.setPeer i ((s.peer i).written v)).peer j = if i = j then (s.peer i).written v else s.peer j :=
    State.setPeer_peer ..
  unfold peerWritten
  dsimp only
  split
  next same => exact ⟨rfl, (set i).trans (if_pos rfl), fun new => absurd same new, fun j other => (set j).trans (if_neg other.symm)⟩
  next new => exact ⟨rfl, (set i).trans (if_pos rfl), fun _ => kget_kput_same 0 _ i 0, fun j other => (set j).trans (if_neg other.symm)⟩

end

end Sys2Proof.Machine

open Sys2Proof Sys2Proof.Machine

/-- Settles O40: a command that meets no check does its part before its result stands in the window, and another leaves its code alone. -/
theorem flowWindows : Obligations.FlowWindows := by
  intro s fn up function
  dsimp only
  refine ⟨fun small mine => ⟨?_, fun closed good => ?_, fun used => ?_, fun closed bad => ?_,
    fun inside closed kind good window loaded buffer known reach => ?_, fun used inside => ?_, fun isOpen kind => ?_,
    fun isOpen kind held => ?_, fun closed => ?_⟩, fun small foreign command member => ?_, fun small mine => ⟨?_, fun unused => ?_,
    fun used => ?_⟩⟩
  · have done := flowCommand_done up function rfl small mine (run := readFlow fn) (code := 0) (u := (readFlow fn _ s).2) rfl
    exact ⟨_, rfl, done ▸ readFlow_windowOnly s fn _⟩
  · have done := flowCommand_done up function rfl small mine (writeFlow_good closed good)
    refine ⟨_, congrArg Host.Outcome.next done, rfl, ?_, setNetWindow_netWindow_same .., fun g other => ?_⟩
    · rw [flowResult_flow, setFlow_flow_same]
    · rw [flowResult_flow, setFlow_flow_other _ other]
  · exact ⟨_, rfl, flowCommand_refused up function rfl small mine (writeFlow_used used)⟩
  · exact ⟨_, rfl, flowCommand_refused up function rfl small mine (writeFlow_bad closed bad)⟩
  · have opens := openCommand_opens inside closed good window loaded buffer known reach
    have opened := startFlow_known known kind
    have done := flowCommand_done up function rfl small mine opens
    refine ⟨_, congrArg Host.Outcome.next done, ?_, opened.flow, ?_, opened.others⟩
    · rw [opened.net]
      rfl
    · rw [flowResult_netWindow, opened.netWindow]
  · exact ⟨_, rfl, flowCommand_refused up function rfl small mine (openCommand_used used inside)⟩
  · have done := flowCommand_done up function rfl small mine (closeCommand_used (f := (s.netWindow fn).flowSelect) (by omega))
    rw [closeByHost_receives isOpen kind] at done
    refine ⟨_, congrArg Host.Outcome.next done, rfl, rfl, ?_, setNetWindow_netWindow_same .., fun g other => ?_⟩
    · rw [flowResult_flow]
      exact setFlow_flow_same ..
    · rw [flowResult_flow]
      exact setFlow_flow_other _ other _
  · have done := flowCommand_done up function rfl small mine (closeCommand_used (f := (s.netWindow fn).flowSelect) (by omega))
    rw [closeByHost_drains isOpen kind held] at done
    refine ⟨_, congrArg Host.Outcome.next done, rfl, ?_, setNetWindow_netWindow_same .., fun g other => ?_⟩
    · rw [flowResult_flow, setFlow_flow_same]
    · rw [flowResult_flow, setFlow_flow_other _ other]
  · exact ⟨_, rfl, flowCommand_refused up function rfl small mine (closeCommand_closed closed)⟩
  · simp only [List.mem_cons, List.not_mem_nil, or_false] at member
    obtain rfl | rfl | rfl | rfl := member <;> exact ⟨_, rfl, flowCommand_outside up function rfl small foreign⟩
  · have done := peerCommand_done up function rfl small mine (run := readPeer fn) (code := 0) (u := (readPeer fn _ s).2) rfl
    exact ⟨_, rfl, done ▸ readPeer_windowOnly s fn _⟩
  · have done := peerCommand_done up function rfl small mine (writePeer_unused (fn := fn) unused)
    have written := peerWritten_isWritten s (s.netWindow fn).peerSelect (s.netWindow fn).peerData
    refine ⟨_, congrArg Host.Outcome.next done, ?_, written.peer, ?_, written.seen, written.others⟩
    · rw [written.parts]
      rfl
    · rw [peerResult_netWindow, State.netWindow, written.parts]
      rfl
  · exact ⟨_, rfl, peerCommand_refused up function rfl small mine (writePeer_used used)⟩

end

section
/-! PROOF. Received frames, acknowledgements and lost flows: what O41 and O42 share (R355, R369, R371, R409). -/

namespace Sys2Proof.Machine
open Sys2Proof

/-! ## Frames that pass the checks (R352 to R357) -/

/-- A frame that passes the checks of every frame has the meaning of its kind. -/
theorem receive_comes {s : State} {r : FrameIn} {k : Nat} (comes : Comes s r k) (kinds : 1 ≤ k ∧ k ≤ 5) (run : State → State) :
    receive s r k run = run s := by
  obtain ⟨links, port, dport, apart, ce, crc, kind, -, -⟩ := comes
  simp only [List.mem_cons, List.not_mem_nil, or_false] at apart
  unfold receive
  rw [links, if_neg (by simp; omega), if_neg apart, if_neg (by simp [dport]), ce, crc, if_neg (by simp), if_neg (by omega),
    if_neg (by simp [kind])]
  rfl

/-- Its port carries flow frames, and its header is valid. -/
theorem comes_passes {s : State} {r : FrameIn} {k : Nat} (comes : Comes s r k) : carries s r = true ∧ headerValid s r = true := by
  obtain ⟨-, -, -, -, -, -, -, carry, header⟩ := comes
  exact ⟨carry, header⟩

theorem controlFrame_controls {s : State} {r : FrameIn} {k : Nat} (controls : Controls s r k) (run : State → State) :
    controlFrame s r k run = run s := by
  obtain ⟨comes, valid, kind⟩ := controls
  obtain ⟨carry, header⟩ := comes_passes comes
  unfold controlFrame
  rw [receive_comes comes (by decide), carry, header, valid, if_neg (by simp), if_neg (by simp), if_neg (by simp [kind])]

/-! ## Records of the network (R384, R385) -/

/-- The second parameter of a log entry is none of the dictionary's. -/
theorem log_dict (s : State) (source event severity a b c : Nat) :
    (s.log source event severity a b).dict = (s.log source event severity a c).dict := by
  unfold State.log
  split
  · rfl
  · rfl

theorem recordWith_dget (s : State) (idx flag : Nat) (counts : List (Nat × Nat)) (first : Option Nat) (b i sub : Nat) :
    (s.recordWith idx flag counts first b).dget i sub = (s.record idx flag counts first).dget i sub := by
  have power : (s.recordWith idx flag counts first b).power = (s.record idx flag counts first).power :=
    (recordWith_recordOnly ..).power.trans (record_recordOnly ..).power.symm
  exact State.dget_congr (log_dict ..) (congrArg Power.straps power) i sub

/-- A case of the network's records is flagged and counted, in a counter that is no first case. -/
theorem netRecord_counts (s : State) (flag : Nat) {sub : Nat} (first : Option Nat) (small : sub < 256) (apart : sub ∉ [1, 0xE]) :
    RecordOnly s (s.record 0x5080 flag [(sub, 1)] first) ∧ bit ((s.record 0x5080 flag [(sub, 1)] first).dget 0x5080 1) flag = true ∧
    (s.record 0x5080 flag [(sub, 1)] first).dget 0x5080 sub = countUp (entryBytes 0x5080 sub) (s.dget 0x5080 sub) 1 := by
  simp only [List.mem_cons, List.not_mem_nil, or_false, not_or] at apart
  refine ⟨record_recordOnly .., record_flag _ _ _ (by decide), record_count s first (by decide) small apart.1 fun is => ?_⟩
  exact apart.2 (Option.some.inj is).symm

/-! ## Acknowledgements (R369) -/

/-- What an ACK says rests on its flow's terms, and not on the port of the frame that it answers. -/
theorem ackOut_setFlow (s : State) (f p q n : Nat) :
    ackOut (s.setFlow f { s.flow f with ackPort := p, unacked := n }) f q = ackOut s f q := by
  unfold ackOut
  rw [setFlow_flow_same]
  rfl

theorem sendAck_eq (s : State) (f port : Nat) :
    sendAck s f port = { s with net := (sendAck s f port).net, out := ackOut s f port :: s.out } := rfl

theorem sendAck_flow (s : State) (f port : Nat) : (sendAck s f port).flow f = { s.flow f with unacked := 0 } := setFlow_flow_same ..

theorem sendAck_others (s : State) (f port : Nat) {g : Nat} (other : g ≠ f) : (sendAck s f port).flow g = s.flow g :=
  setFlow_flow_other s other _

/-- What an acknowledgement frees leaves the store, and `UNITS_DONE` does not move back (R366, R369). -/
def Flow.acked (x : Flow) (seq map : Nat) : Flow :=
  { x with store := x.store.filter fun y => !ackCovers seq map y.seq, done := if unitAfter seq x.done then seq else x.done }

theorem ackUnits_flow (s : State) (f seq map : Nat) : (ackUnits s f seq map).flow f = (s.flow f).acked seq map :=
  setFlow_flow_same ..

/-! ## Lost flows (R371, R409, R489) -/

/-- Neither the network nor its records have changed. -/
structure NetKept (s t : State) : Prop where
  net : t.net = s.net
  records : ∀ sub, sub < 256 → t.dget 0x5080 sub = s.dget 0x5080 sub

namespace NetKept

variable {s t u : State}

theorem refl (s : State) : NetKept s s := ⟨rfl, fun _ _ => rfl⟩

theorem trans (h : NetKept s t) (k : NetKept t u) : NetKept s u where
  net := k.net.trans h.net
  records sub small := (k.records sub small).trans (h.records sub small)

theorem flow (h : NetKept s t) (f : Nat) : t.flow f = s.flow f := by rw [State.flow, h.net, State.flow]

theorem of_quiet (h : Notice.Quiet s t) : NetKept s t := ⟨h.1.net, fun sub small => h.2 _ sub small (by decide)⟩

theorem foldl {β : Type} (f : State → β → State) (h : ∀ t e, NetKept t (f t e)) (l : List β) (s : State) :
    NetKept s (l.foldl f s) := foldl_related NetKept .refl .trans f h l s

end NetKept

theorem flowNotice_quiet (s : State) (f : Nat) : Notice.Quiet s (flowNotice s f) := by
  unfold flowNotice
  split
  · exact .refl s
  · exact postNotice_quiet ..

theorem setCairn_netKept (s : State) (c : Nat) (f : Cairn → Cairn) : NetKept s (s.setCairn c f) :=
  ⟨rfl, fun sub small => setCairn_indexKept s c f _ sub small (by simp; omega)⟩

theorem failDrain_netKept (s : State) (c : Nat) : NetKept s (failDrain s c) := by
  unfold failDrain
  split
  · exact .refl s
  · refine (setCairn_netKept s c _).trans ⟨(record_recordOnly ..).net, fun sub small => ?_⟩
    exact record_indexKept _ _ _ _ (by simp) _ sub small (by decide)

/-- Whether a flow is a partner flow of a set rests on the sets' entries alone (R388). -/
theorem setOfFlow_none {s t : State} {f : Nat} (sets : ∀ n sub, n < 8 → sub < 256 → t.red n sub = s.red n sub)
    (free : setOfFlow s f = none) : setOfFlow t f = none := by
  unfold setOfFlow at *
  rw [List.find?_eq_none] at *
  intro n inside
  have near := List.mem_range.1 inside
  simpa only [partners, ownIndex, recvFlow, sendFlow, sets n 0xD near (by decide), sets n 2 near (by decide), sets n 3 near (by decide),
    sets n 7 near (by decide)] using free n inside

/-- What the loss of a flow ends in the engines is none of the network's, where the flow is of no set (R409, R435). -/
theorem engineLost_netKept {s : State} {f : Nat} (free : setOfFlow s f = none) : NetKept s (engineLost s f) := by
  have alone : flowLost s f = s := by
    unfold flowLost
    rw [free]
  unfold engineLost
  dsimp only
  rw [alone]
  refine NetKept.trans ?_ (.foldl _ (fun t c => ?_) _ _)
  · refine .foldl _ (fun t c => ?_) _ s
    split
    · split
      · exact failDrain_netKept t c
      · exact .refl t
    · exact .refl t
  · split
    · exact setCairn_netKept t c _
    · exact .refl t

/-- The loss of a flow of no set stays recorded whatever else it ends. -/
theorem engineLost_recorded {s t u : State} {f flag sub : Nat} {first : Option Nat} (small : sub < 256) (apart : sub ∉ [1, 0xE])
    (cells : ∀ i j, t.dget i j = s.dget i j) (kept : IndexKept (t.record 0x5080 flag [(sub, 1)] first) u [0x50C0, 0x50D0])
    (free : setOfFlow s f = none) :
    (engineLost u f).flow f = u.flow f ∧ bit ((engineLost u f).dget 0x5080 1) flag = true ∧
    (engineLost u f).dget 0x5080 sub = countUp (entryBytes 0x5080 sub) (s.dget 0x5080 sub) 1 := by
  obtain ⟨-, flagged, counted⟩ := netRecord_counts t flag first small apart
  have recorded := record_indexKept t 0x5080 flag (counts := [(sub, 1)]) first (by simpa using small)
  have sets (n sub : Nat) (near : n < 8) (small : sub < 256) : u.red n sub = s.red n sub :=
    (kept _ sub small (by simp; omega)).trans ((recorded _ sub small (by simp; omega)).trans (cells ..))
  have lost := engineLost_netKept (setOfFlow_none sets free)
  rw [lost.records 1 (by decide), lost.records sub small, kept _ 1 (by decide) (by decide), kept _ sub small (by decide), counted, cells]
  exact ⟨lost.flow f, flagged, rfl⟩

end Sys2Proof.Machine

end

section
/-! PROOF. Flow control frames (O41). -/

namespace Sys2Proof.Machine
open Sys2Proof

/-! ## The map of an ACK (R369) -/

/-- The bits of a map made from a test on the first `n` numbers. -/
theorem mapBits (p : Nat → Bool) (n : Nat) : ((List.range n).filter p).foldl (fun m i => m + 2 ^ i) 0 < 2 ^ n ∧
    ∀ j, bit (((List.range n).filter p).foldl (fun m i => m + 2 ^ i) 0) j = (decide (j < n) && p j) := by
  induction n with
  | zero => exact ⟨by simp, fun j => by simp [bit]⟩
  | succ n ih =>
    obtain ⟨below, bits⟩ := ih
    rw [List.range_succ, List.filter_append, List.foldl_append]
    generalize ((List.range n).filter p).foldl (fun m i => m + 2 ^ i) 0 = m at below bits
    have double : 2 ^ (n + 1) = 2 ^ n + 2 ^ n := by omega
    have high : m.testBit n = false := Nat.testBit_lt_two_pow below
    cases set : p n with
    | false =>
      rw [List.filter_cons_of_neg (by simp [set]), List.filter_nil, List.foldl_nil]
      refine ⟨by omega, fun j => ?_⟩
      rw [bits]
      by_cases at_n : j = n
      · simp [at_n, set]
      · simp [show j < n + 1 ↔ j < n by omega]
    | true =>
      rw [List.filter_cons_of_pos set, List.filter_nil, List.foldl_cons, List.foldl_nil, Nat.add_comm]
      refine ⟨by omega, fun j => ?_⟩
      unfold bit at *
      rcases Nat.lt_trichotomy j n with low | rfl | above
      · rw [Nat.testBit_two_pow_add_gt low, bits]
        simp [low, show j < n + 1 by omega]
      · rw [Nat.testBit_two_pow_add_eq, high]
        simp [set]
      · rw [Nat.testBit_lt_two_pow (Nat.lt_of_lt_of_le (by omega) (Nat.pow_le_pow_right (by decide) above))]
        simp [show ¬j < n + 1 by omega]

theorem bit_ackMap (x : Flow) {i : Nat} (small : i < 64) : bit x.ackMap i = x.landed.contains (unitNext x.done (1 + i)) := by
  rw [Flow.ackMap, (mapBits _ 64).2]
  simp [small]

/-! ## `OPEN` (R363) -/

section

variable {s : State} {r : FrameIn} (controls : Controls s r 1)
include controls

theorem execOpenFrame_eq : exec (.openFrame r) s = .next (openFrame s r) :=
  congrArg Host.Outcome.next (controlFrame_controls controls _)

variable (admitted : ∀ i ∈ peersAt s (controlSender r), (s.peer i).state ≠ 3)
include admitted

omit controls in
/-- No peer at the sender's address is held. -/
theorem openFrame_admitted : ((peersAt s (controlSender r)).any fun i => (s.peer i).state == 3) = false := by
  simpa using admitted

theorem execOpenFrame_closed (closed : (s.flow r.dest).state = 0) :
    exec (.openFrame r) s = .next { s with out := rejectOut s r 1 :: s.out } := by
  rw [execOpenFrame_eq controls, openFrame, openFrame_admitted admitted, if_neg Bool.noConfusion]
  exact congrArg Host.Outcome.next (if_pos closed)

/-- An `OPEN` of the flow's own partner is acknowledged again. -/
theorem execOpenFrame_again (isOpen : (s.flow r.dest).state = 2) (kind : (s.flow r.dest).kind = 2)
    (sender : (s.peer (s.flow r.dest).peer).address = controlSender r) (partner : (s.flow r.dest).peerFlow = r.src)
    (compatible : (s.peer (s.flow r.dest).peer).state ≠ 4) :
    exec (.openFrame r) s = .next (sendAck (s.setFlow r.dest { s.flow r.dest with ackPort := r.port }) r.dest r.port) := by
  rw [execOpenFrame_eq controls, openFrame, openFrame_admitted admitted, if_neg Bool.noConfusion, if_neg (by simp [isOpen, flowClosed]),
    if_neg (by simp [Flow.receives, Flow.rdma, kind]), if_neg (by simp [sender, partner]), if_neg compatible,
    if_neg (by simp [isOpen, flowOpen])]

end

theorem execOpenRetry_sends {s : State} {f : Nat} (opening : (s.flow f).state = 1) (known : (s.peer (s.flow f).peer).state = 2)
    (path : (pathFor s f 0 0).2 ≠ 9) :
    exec (.openRetry f) s = .next { s with out := controlOut s f (pathFor s f 0 0).2 1 0 0 :: s.out } := by
  change execOpenRetry f s = _
  simp [execOpenRetry, sendOpen, sendControl, State.emit, opening, known, path, flowOpening]

/-! ## Frames for a flow that is not closed (R357, R365, R372) -/

section

variable {s : State} {r : FrameIn}

theorem forFlow_used (used : (s.flow r.dest).state ≠ 0) (run : State → State) : forFlow r s run = run s := if_neg used

theorem execRejectFrame_opening (controls : Controls s r 3) (opening : (s.flow r.dest).state = 1) :
    exec (.rejectFrame r) s = .next (s.recordWith 0x5080 0xA [(0xB, 1)] (some (flowCase s 10 r.at? r.dest)) (controlReason r)) := by
  refine congrArg Host.Outcome.next ((controlFrame_controls controls _).trans ?_)
  rw [forFlow_used (by omega)]
  exact if_pos opening

theorem execParkFrame_parks (controls : Controls s r 4) (isOpen : (s.flow r.dest).state = 2) (direct : (s.flow r.dest).rdma = false) :
    exec (.parkFrame r) s = .next (flowNotice (s.setFlow r.dest { s.flow r.dest with
      state := 6, credit := if (s.flow r.dest).sends then (s.flow r.dest).done else (s.flow r.dest).credit }) r.dest) := by
  refine congrArg Host.Outcome.next ((controlFrame_controls controls _).trans ?_)
  rw [forFlow_used (by omega)]
  dsimp only
  rw [if_pos ⟨isOpen, by simp [direct]⟩]
  rfl

theorem execResumeFrame_parked (controls : Controls s r 5) (parked : (s.flow r.dest).state = 6) :
    exec (.resumeFrame r) s = .next (resumeFlow s r.dest (controlSeq r)) := by
  refine congrArg Host.Outcome.next ((controlFrame_controls controls _).trans ?_)
  rw [forFlow_used (by omega)]
  exact if_pos parked

/-- A flow whose partner has closed it, or that has broken, holds nothing (R365, R371). -/
def Flow.ended (x : Flow) (state : Nat) : Flow := { x with state := state, store := [], landed := [] }

/-- A receive window is neither the loader's, nor does its end grant entries to others. -/
theorem regrant_loaderClosed {u : State} {f : Nat} (kind : (u.flow f).kind = 2) : regrant (loaderClosed u f) f = u := by
  have loader : loaderClosed u f = u := by simp [loaderClosed, isLoader, kind]
  rw [loader, regrant, kind, if_neg (by omega)]

/-- What the partner's close of a receive window leaves is recorded, and the host is told (R365, R489). -/
theorem execCloseFrame_window (controls : Controls s r 2) (isOpen : (s.flow r.dest).state = 2) (kind : (s.flow r.dest).kind = 2) :
    ∃ u first, exec (.closeFrame r) s = .next (engineLost u r.dest) ∧
      Notice.Quiet ((s.setFlow r.dest ((s.flow r.dest).ended 4)).record 0x5080 3 [(6, 1)] first) u := by
  generalize closed : s.setFlow r.dest ((s.flow r.dest).ended 4) = t
  have told := flowNotice_quiet (t.record 0x5080 3 [(6, 1)] (some (flowCase t 3 r.at? r.dest))) r.dest
  have flow : (flowNotice (t.record 0x5080 3 [(6, 1)] (some (flowCase t 3 r.at? r.dest))) r.dest).flow r.dest =
      (s.flow r.dest).ended 4 := by
    rw [(NetKept.of_quiet told).flow, (record_recordOnly ..).flow, ← closed, setFlow_flow_same]
  have ends : peerClosed s r = flowNotice (t.record 0x5080 3 [(6, 1)] (some (flowCase t 3 r.at? r.dest))) r.dest := by
    rw [← regrant_loaderClosed (u := flowNotice _ _) (by rw [flow]; exact kind), ← closed]
    rfl
  refine ⟨_, _, congrArg Host.Outcome.next ((controlFrame_controls controls _).trans ?_), told⟩
  rw [forFlow_used (by omega), if_pos (by simp [Flow.live, isOpen, flowOpen]), ends]

/-- A parked receiver opens again, and nothing else happens (R372). -/
theorem resumeFlow_receives {f : Nat} (receives : (s.flow f).sends = false) (u : Nat) :
    resumeFlow s f u = s.setFlow f { s.flow f with state := 2 } := by
  unfold resumeFlow
  dsimp only
  rw [receives, if_neg Bool.noConfusion]
  rfl

/-- A parked sender without units has none to send again (R372). -/
theorem resumeFlow_empty {f : Nat} (kind : (s.flow f).kind = 1) (empty : (s.flow f).store = []) (u : Nat) :
    resumeFlow s f u = ackUnits (s.setFlow f { s.flow f with state := 2 }) f
      (if unitAfter u (s.flow f).done then u else (s.flow f).done) 0 := by
  have none : ((ackUnits (s.setFlow f { s.flow f with state := 2 }) f
      (if unitAfter u (s.flow f).done then u else (s.flow f).done) 0).flow f).store = [] := by
    rw [ackUnits_flow, setFlow_flow_same, Flow.acked, empty]
    rfl
  unfold resumeFlow
  dsimp only
  rw [if_pos (by simp [Flow.sends, kind])]
  unfold goBack
  rw [show flowOpen = 2 from rfl, none]
  rfl

/-- It goes on from its partner's unit, or from its own where that lies before it. -/
theorem resumeFlow_empty_flow {f : Nat} (kind : (s.flow f).kind = 1) (empty : (s.flow f).store = []) (u : Nat) :
    (resumeFlow s f u).flow f = { s.flow f with state := 2, done := if unitAfter u (s.flow f).done then u else (s.flow f).done } := by
  rw [resumeFlow_empty kind empty, ackUnits_flow, setFlow_flow_same, Flow.acked, empty]
  by_cases later : unitAfter u (s.flow f).done = true
  · simp [later, empty]
  · simp [later, empty]

end

end Sys2Proof.Machine

open Sys2Proof Sys2Proof.Machine

/-- Settles O41: each frame that passes the checks has its type's meaning on its flow, and no more. -/
theorem flowControlFrames : Obligations.FlowControlFrames := by
  intro s r
  dsimp only
  refine ⟨fun controls admitted => ⟨execOpenFrame_closed controls admitted, fun isOpen kind sender partner compatible => ?_⟩,
    execOpenRetry_sends, fun controls opening => ?_, fun controls isOpen kind free => ?_, fun controls isOpen direct => ?_,
    fun controls parked receives => ?_, fun controls parked kind empty => ?_⟩
  · refine ⟨_, execOpenFrame_again controls admitted isOpen kind sender partner compatible, ?_, ?_, fun g other => ?_,
      fun i small => bit_ackMap _ small⟩
    · rw [sendAck_eq, ackOut_setFlow]
      rfl
    · rw [sendAck_flow, setFlow_flow_same]
    · rw [sendAck_others _ _ _ other, setFlow_flow_other _ other]
  · obtain ⟨-, flag, count⟩ := netRecord_counts s 0xA (sub := 0xB) (some (flowCase s 10 r.at? r.dest)) (by decide) (by decide)
    exact ⟨_, execRejectFrame_opening controls opening, recordWith_recordOnly .., by rw [recordWith_dget]; exact flag,
      by rw [recordWith_dget]; exact count⟩
  · obtain ⟨u, first, closes, told⟩ := execCloseFrame_window controls isOpen kind
    have lost := engineLost_recorded (sub := 6) (by decide) (by decide) (fun _ _ => rfl) told.2 free
    rw [(NetKept.of_quiet told).flow, (record_recordOnly ..).flow, setFlow_flow_same] at lost
    exact ⟨_, closes, lost⟩
  · refine ⟨_, execParkFrame_parks controls isOpen direct, ?_⟩
    rw [(NetKept.of_quiet (flowNotice_quiet _ _)).flow, setFlow_flow_same]
  · rw [execResumeFrame_parked controls parked, resumeFlow_receives receives]
  · refine ⟨_, execResumeFrame_parked controls parked, resumeFlow_empty_flow kind empty _, ?_, ?_⟩
    · rw [resumeFlow_empty kind empty]
      rfl
    · rw [resumeFlow_empty kind empty]
      rfl

end

section
/-! PROOF. Units that land, acknowledgements, and units that time out (O42). -/

namespace Sys2Proof.Machine
open Sys2Proof

/-! ## A unit in a receive window (R354, R367) -/

theorem whenGranulesFree_idle {s : State} (idle : ∀ c, c < 4 → (s.cairnOf c).copying = none) (gs : List Nat) (run : State → State) :
    whenGranulesFree s gs run = run s := by
  unfold whenGranulesFree
  rw [copyHolds_none idle]

/-- The bytes of a unit, with 0 past the end of the frame's body. -/
theorem unitBytes_bytes (bs : List Byte) (map : Nat) :
    ((unitBytes bs map).map (·.1)) = (rangeFrom 0 4096).map fun i => bs.getD i 0 := by
  rw [unitBytes, List.map_map]
  rfl

theorem map_rangeFrom_length (n : Nat) (g : Nat → Byte) : ((rangeFrom 0 n).map g).length = n := by
  rw [rangeFrom, List.length_map, List.length_map, List.length_range]

theorem map_rangeFrom_getD {n i : Nat} (g : Nat → Byte) (inside : i < n) : ((rangeFrom 0 n).map g).getD i 0 = g i := by
  simp [rangeFrom, inside]

/-- A table of `n` bytes that is written reads back, and no other byte changes. -/
theorem memWrite_table (m : List Host.Cell) (a n : Nat) (g : Nat → Byte) :
    (∀ i, i < n → memByte (memWrite m a ((rangeFrom 0 n).map g)) (a + i) = g i) ∧
    ∀ x, x < a ∨ a + n ≤ x → memByte (memWrite m a ((rangeFrom 0 n).map g)) x = memByte m x := by
  refine ⟨fun i inside => ?_, fun x outside => ?_⟩
  · rw [memByte_memWrite, map_rangeFrom_length, if_pos (by omega), Nat.add_sub_cancel_left, map_rangeFrom_getD g inside]
  · rw [memByte_memWrite, map_rangeFrom_length, if_neg (by omega)]

theorem writeTagged_mem (s : State) (a : Nat) (bs : List TByte) : (writeTagged s a bs).mem = memWrite s.mem a (bs.map (·.1)) := rfl

theorem writeTagged_eq (s : State) (a : Nat) (bs : List TByte) :
    writeTagged s a bs = { s with mem := (writeTagged s a bs).mem, poison := (writeTagged s a bs).poison } := rfl

/-- A unit that is written reads back, and no other byte changes. -/
theorem unit_lands (s : State) (a : Nat) (bs : List Byte) (map : Nat) :
    (∀ i, i < 4096 → memByte (writeTagged s a (unitBytes bs map)).mem (a + i) = bs.getD i 0) ∧
    MemoryKeptBut s (writeTagged s a (unitBytes bs map)) a 4096 := by
  have table := memWrite_table s.mem a 4096 fun i => bs.getD i 0
  have mem : (writeTagged s a (unitBytes bs map)).mem = memWrite s.mem a ((unitBytes bs map).map (·.1)) := writeTagged_mem ..
  rw [unitBytes_bytes] at mem
  unfold MemoryKeptBut
  rw [mem]
  exact table

/-! ## A unit is marked and acknowledged (R354, R369) -/

/-- The flow of a unit that has been marked: acknowledged at once, or later (R369). -/
def Flow.noted (z : Flow) (port u : Nat) : Flow :=
  { z with ackPort := port, unacked := if unitAfter u z.done = true ∨ 8 ≤ z.unacked + 1 then 0 else z.unacked + 1 }

/-- What the acknowledgement of a landed unit may change. -/
structure IsNoted (s t : State) (r : FrameIn) (f u : Nat) : Prop where
  parts : t = { s with net := t.net, out := t.out }
  flow : t.flow f = (s.flow f).noted r.port u
  others : ∀ g, g ≠ f → t.flow g = s.flow g

theorem ackEarly_isNoted (s : State) (r : FrameIn) (f u : Nat) : IsNoted s (ackEarly s r f u) r f u := by
  unfold ackEarly
  dsimp only
  by_cases early : unitAfter u (s.flow f).done = true ∨ 8 ≤ (s.flow f).unacked + 1
  · rw [if_pos (by simpa using early)]
    refine ⟨rfl, ?_, fun g other => ?_⟩
    · rw [sendAck_flow, setFlow_flow_same, Flow.noted, if_pos early]
    · rw [sendAck_others _ _ _ other, setFlow_flow_other _ other]
  · rw [if_neg (by simpa using early)]
    refine ⟨rfl, ?_, fun g other => setFlow_flow_other s other _⟩
    rw [setFlow_flow_same, Flow.noted, if_neg early]

/-- A unit that has landed is marked, counted where it is poisoned, and acknowledged. -/
structure IsMarked (s t : State) (r : FrameIn) (f u : Nat) : Prop where
  mem : t.mem = s.mem
  flow : t.flow f = ((s.flow f).mark u).noted r.port u
  others : ∀ g, g ≠ f → t.flow g = s.flow g
  clean : r.map = 0 → t.dict = s.dict
  poisoned : r.map ≠ 0 → t.dget 0x5080 8 = countUp (entryBytes 0x5080 8) (s.dget 0x5080 8) 1

theorem markUnit_isMarked (s : State) (r : FrameIn) (f u : Nat) : IsMarked s (markUnit s r f u) r f u := by
  unfold markUnit countPoison
  have marked := setFlow_flow_same s f ((s.flow f).mark u)
  have apart (g : Nat) (other : g ≠ f) := setFlow_flow_other s other ((s.flow f).mark u)
  have cell : (s.setFlow f ((s.flow f).mark u)).dget 0x5080 8 = s.dget 0x5080 8 := rfl
  have frame : (s.setFlow f ((s.flow f).mark u)).mem = s.mem ∧ (s.setFlow f ((s.flow f).mark u)).dict = s.dict := ⟨rfl, rfl⟩
  generalize s.setFlow f ((s.flow f).mark u) = t at marked apart cell frame
  by_cases clean : r.map = 0
  · rw [if_pos clean]
    have noted := ackEarly_isNoted t r f u
    exact ⟨by rw [noted.parts, frame.1], by rw [noted.flow, marked], fun g other => (noted.others g other).trans (apart g other),
      fun _ => by rw [noted.parts, frame.2], fun poisoned => absurd clean poisoned⟩
  · rw [if_neg clean]
    obtain ⟨only, -, count⟩ := netRecord_counts t 8 (sub := 8) (some (flowCase t 8 r.at? f)) (by decide) (by decide)
    generalize t.record 0x5080 8 [(8, 1)] (some (flowCase t 8 r.at? f)) = v at only count
    have noted := ackEarly_isNoted v r f u
    have kept := State.dget_congr (s := v) (t := ackEarly v r f u) (by rw [noted.parts]) (by rw [noted.parts]) 0x5080 8
    exact ⟨by rw [noted.parts, only.mem, frame.1], by rw [noted.flow, only.flow, marked],
      fun g other => (noted.others g other).trans ((only.flow g).trans (apart g other)), fun clean' => absurd clean' clean,
      fun _ => by rw [kept, count, cell]⟩

/-- A unit that lands and is marked lies at its place, and its flow knows of it (R354, R369). -/
theorem landed_marked (s : State) (r : FrameIn) (f a : Nat) :
    (markUnit (writeTagged s a (unitBytes r.body r.map)) r f r.seq).flow f = ((s.flow f).mark r.seq).noted r.port r.seq ∧
    (∀ i, i < 4096 → memByte (markUnit (writeTagged s a (unitBytes r.body r.map)) r f r.seq).mem (a + i) = r.body.getD i 0) ∧
    MemoryKeptBut s (markUnit (writeTagged s a (unitBytes r.body r.map)) r f r.seq) a 4096 ∧
    (∀ g, g ≠ f → (markUnit (writeTagged s a (unitBytes r.body r.map)) r f r.seq).flow g = s.flow g) ∧
    (r.map = 0 → (markUnit (writeTagged s a (unitBytes r.body r.map)) r f r.seq).dict = s.dict) ∧
    (r.map ≠ 0 → (markUnit (writeTagged s a (unitBytes r.body r.map)) r f r.seq).dget 0x5080 8 =
      countUp (entryBytes 0x5080 8) (s.dget 0x5080 8) 1) := by
  obtain ⟨reads, kept⟩ := unit_lands s a r.body r.map
  have only := writeTagged_eq s a (unitBytes r.body r.map)
  generalize writeTagged s a (unitBytes r.body r.map) = v at reads kept only ⊢
  have flow (g : Nat) : v.flow g = s.flow g := by rw [State.flow, only, State.flow]
  have cells := State.dget_congr (s := s) (t := v) (by rw [only]) (by rw [only])
  obtain ⟨mem, marked, others, clean, poisoned⟩ := markUnit_isMarked v r f r.seq
  rw [flow] at marked
  refine ⟨marked, fun i inside => ?_, fun x outside => ?_, fun g other => (others g other).trans (flow g), fun none => ?_, fun some => ?_⟩
  · rw [mem, reads i inside]
  · rw [mem, kept x outside]
  · rw [clean none, only]
  · rw [poisoned some, cells]

/-- A frame for a unit that has landed before is counted and acknowledged (R369). -/
theorem sendAgain_counts (s : State) (f port : Nat) :
    sendAck (s.dcount 0x5080 0xA 1) f port = { s with
      dict := (sendAck (s.dcount 0x5080 0xA 1) f port).dict, net := (sendAck (s.dcount 0x5080 0xA 1) f port).net,
      out := (sendAck (s.dcount 0x5080 0xA 1) f port).out } ∧
    CellsKept s (sendAck (s.dcount 0x5080 0xA 1) f port) [(0x5080, 0xA)] ∧
    (sendAck (s.dcount 0x5080 0xA 1) f port).flow f = { s.flow f with unacked := 0 } ∧
    (∀ g, g ≠ f → (sendAck (s.dcount 0x5080 0xA 1) f port).flow g = s.flow g) ∧
    (sendAck (s.dcount 0x5080 0xA 1) f port).dget 0x5080 0xA = countUp (entryBytes 0x5080 0xA) (s.dget 0x5080 0xA) 1 := by
  have cells := dset_cellsKept s 0x5080 (countUp (entryBytes 0x5080 0xA) (s.dget 0x5080 0xA) 1) (sub := 0xA) (by decide)
  have count := State.dcount_dget_same s 0x5080 0xA 1
  have flow (g : Nat) : (s.dcount 0x5080 0xA 1).flow g = s.flow g := rfl
  have only : s.dcount 0x5080 0xA 1 = { s with dict := (s.dcount 0x5080 0xA 1).dict } := rfl
  rw [← State.dcount] at cells
  generalize s.dcount 0x5080 0xA 1 = v at cells count flow only ⊢
  have sent := sendAck_eq v f port
  have kept := State.dget_congr (s := v) (t := sendAck v f port) (by rw [sent]) (by rw [sent])
  refine ⟨?_, fun i sub small outside => ?_, ?_, fun g other => ?_, ?_⟩
  · rw [sent, only]
  · rw [kept, cells i sub small outside]
  · rw [sendAck_flow, flow]
  · rw [sendAck_others _ _ _ other, flow]
  · rw [kept, count]

/-! ## `DATA` (R355, R357, R367, R369) -/

section

variable {s : State} {r : FrameIn} (comes : Comes s r 1)
include comes

theorem execDataFrame_comes : exec (.dataFrame r) s = .next (dataFrame s r) :=
  congrArg Host.Outcome.next (receive_comes comes (by decide) _)

/-- A unit of an open receive window is acknowledged again, refused beyond the credit, or lands. -/
theorem execDataFrame_window (isOpen : (s.flow r.dest).state = 2) (kind : (s.flow r.dest).kind = 2) :
    exec (.dataFrame r) s = .next (if (s.flow r.dest).hasLanded r.seq then sendAck (s.dcount 0x5080 0xA 1) r.dest r.port
      else if !unitAfter (s.flow r.dest).credit r.seq then s.record 0x5080 1 [(3, 1)] (some (flowCase s 1 r.at? r.dest))
      else landWindow s r r.dest r.seq) := by
  obtain ⟨carry, header⟩ := comes_passes comes
  rw [execDataFrame_comes comes, dataFrame, carry, header, if_neg (by simp), if_neg (by simp), if_neg (by simp [isOpen, flowClosed]),
    if_neg (by simp [isOpen, flowOpen, Flow.receives, Flow.rdma, kind]), landUnit]
  dsimp only
  rw [if_pos kind]

/-- A unit that has landed before is counted and acknowledged again (R369). -/
theorem execDataFrame_again (isOpen : (s.flow r.dest).state = 2) (kind : (s.flow r.dest).kind = 2)
    (landed : (s.flow r.dest).hasLanded r.seq = true) : exec (.dataFrame r) s = .next (sendAck (s.dcount 0x5080 0xA 1) r.dest r.port) := by
  rw [execDataFrame_window comes isOpen kind, if_pos landed]

/-- A unit beyond the credit is recorded, and does not land (R367). -/
theorem execDataFrame_beyond (isOpen : (s.flow r.dest).state = 2) (kind : (s.flow r.dest).kind = 2)
    (fresh : (s.flow r.dest).hasLanded r.seq = false) (beyond : unitAfter (s.flow r.dest).credit r.seq = false) :
    exec (.dataFrame r) s = .next (s.record 0x5080 1 [(3, 1)] (some (flowCase s 1 r.at? r.dest))) := by
  rw [execDataFrame_window comes isOpen kind, if_neg (by simp [fresh]), if_pos (by simp [beyond])]

/-- A new unit within the credit lands at its place and is marked (R354, R367). -/
theorem execDataFrame_lands (isOpen : (s.flow r.dest).state = 2) (kind : (s.flow r.dest).kind = 2)
    (fresh : (s.flow r.dest).hasLanded r.seq = false) (within : unitAfter (s.flow r.dest).credit r.seq = true)
    (idle : ∀ c, c < 4 → (s.cairnOf c).copying = none) :
    exec (.dataFrame r) s = .next (markUnit (writeTagged s
      (((flowCtx s r.dest).buffer (s.flow r.dest).buffer).address + 4096 * (r.seq % (s.flow r.dest).window)) (unitBytes r.body r.map))
      r r.dest r.seq) := by
  rw [execDataFrame_window comes isOpen kind, if_neg (by simp [fresh]), if_neg (by simp [within]), landWindow, whenGranulesFree_idle idle]

/-- A unit for a closed flow is counted, and not answered within the millisecond (R357). -/
theorem execDataFrame_closed (closed : (s.flow r.dest).state = 0) (answered : r.rejected = true) :
    exec (.dataFrame r) s = .next (s.record 0x5080 0 [(2, 1)] (some (flowCase s 0 r.at? r.dest))) := by
  obtain ⟨carry, header⟩ := comes_passes comes
  rw [execDataFrame_comes comes, dataFrame, carry, header, if_neg (by simp), if_neg (by simp)]
  refine congrArg Host.Outcome.next ((if_pos closed).trans ?_)
  unfold unknownFlow
  rw [answered]
  rfl

end


/-! ## `ACK` (R366, R369, R370) -/

theorem ackGaps_sends (s : State) (f seq map : Nat) : FlowSends s (ackGaps s f seq map) f :=
  .foldl _ (fun t (y : StoreUnit) => retransmit_sends t f y.seq) _ s

theorem ackUnits_mem (s : State) (f g seq map : Nat) (x : Flow) : (ackUnits (s.setFlow f x) g seq map).mem = s.mem := rfl

/-- A grant changes neither what a flow is nor what it holds. -/
theorem grant_keeps (x : Flow) (limit : Nat) : (x.grant limit).state = x.state ∧ (x.grant limit).kind = x.kind ∧
    (x.grant limit).store = x.store ∧ (x.grant limit).done = x.done := by
  unfold Flow.grant
  split
  · exact ⟨rfl, rfl, rfl, rfl⟩
  · exact ⟨rfl, rfl, rfl, rfl⟩

/-- What an ACK leaves of a flow whose next count is then `n`. -/
theorem acked_next (x : Flow) (seq map n : Nat) (next : (if unitAfter seq x.done then seq else x.done) = n) :
    x.acked seq map = { x with store := x.store.filter fun y => !ackCovers seq map y.seq, done := n } := by
  rw [Flow.acked, next]

theorem acked_fields (x : Flow) (seq map n : Nat) (next : (if unitAfter seq x.done then seq else x.done) = n) :
    (x.acked seq map).state = x.state ∧ (x.acked seq map).kind = x.kind ∧
    (x.acked seq map).store = (x.store.filter fun y => !ackCovers seq map y.seq) ∧ (x.acked seq map).done = n ∧
    (x.acked seq map).credit = x.credit := by
  rw [acked_next _ _ _ _ next]
  exact ⟨rfl, rfl, rfl, rfl, rfl⟩

/-- The flow once an ACK's credit and units are taken (R366, R369). -/
theorem granted_acked (x : Flow) (limit seq map : Nat) :
    ((x.grant limit).acked seq map).state = x.state ∧ ((x.grant limit).acked seq map).kind = x.kind ∧
    ((x.grant limit).acked seq map).store = (x.store.filter fun y => !ackCovers seq map y.seq) ∧
    ((x.grant limit).acked seq map).done = (if unitAfter seq x.done = true then seq else x.done) ∧
    ((x.grant limit).acked seq map).credit = (if unitAfter limit x.credit = true then limit % 2 ^ 32 else x.credit) := by
  obtain ⟨state, kind, store, done⟩ := grant_keeps x limit
  have fields := acked_fields (x.grant limit) seq map _ rfl
  rw [state, kind, store, done, grant_credit] at fields
  exact fields

/-- An open flow of a program neither closes with an acknowledgement, nor serves an image, nor moves an engine. -/
theorem acked_idle {s : State} {f : Nat} (isOpen : (s.flow f).state = 2) (kind : (s.flow f).kind = 1) :
    closeWhenDone s f = s ∧ serves s f = false ∧ sendFetch s f = s ∧ engineCredited s f = s := by
  refine ⟨if_neg ?_, ?_, if_neg ?_, (if_neg ?_).trans (if_neg ?_)⟩
  · simp [isOpen, flowClosing]
  · simp [serves, kind]
  · simp [isLoaderRequest, kind]
  · simp [kind]
  · simp [kind]

/-- The ACK grants credit and frees what it covers; then the gaps it shows are sent again. -/
theorem execAckFrame_open {s : State} {r : FrameIn} (comes : Comes s r 2) (isOpen : (s.flow r.dest).state = 2)
    (kind : (s.flow r.dest).kind = 1) : ∃ t, exec (.ackFrame r) s = .next t ∧
      FlowSends (ackUnits (s.setFlow r.dest ((s.flow r.dest).grant r.credit)) r.dest r.seq r.map) t r.dest := by
  obtain ⟨carry, header⟩ := comes_passes comes
  have stays : { s.flow r.dest with state := if (s.flow r.dest).state = flowOpening then flowOpen else (s.flow r.dest).state } = s.flow r.dest := by
    rw [if_neg (by simp [isOpen, flowOpening])]
  have after : (ackUnits (s.setFlow r.dest ((s.flow r.dest).grant r.credit)) r.dest r.seq r.map).flow r.dest =
      ((s.flow r.dest).grant r.credit).acked r.seq r.map := by rw [ackUnits_flow, setFlow_flow_same]
  obtain ⟨stateKept, kindKept, -⟩ := granted_acked (s.flow r.dest) r.credit r.seq r.map
  have sends := ackGaps_sends (ackUnits (s.setFlow r.dest ((s.flow r.dest).grant r.credit)) r.dest r.seq r.map) r.dest r.seq r.map
  refine ⟨_, congrArg Host.Outcome.next (receive_comes comes (by decide) _), ?_⟩
  rw [ackFrame, carry, header, if_neg (by simp), if_neg (by simp), if_neg (by simp [isOpen, flowClosed]),
    if_neg (by simp [isOpen, flowOpen, Flow.sends, Flow.rdma, kind])]
  dsimp only
  rw [stays]
  generalize ackGaps _ r.dest r.seq r.map = t at sends ⊢
  obtain ⟨closes, serve, fetch, engine⟩ := acked_idle (s := t) (f := r.dest) (sends.units.state.trans (by rw [after, stateKept, isOpen]))
    (sends.units.kind.trans (by rw [after, kindKept, kind]))
  rw [closes, serve, if_neg Bool.noConfusion, fetch, engine]
  exact sends

/-! ## Timers (R370, R371) -/

/-- A flow whose unit is replaced by one of the same number finds that one. -/
theorem unit?_putUnit {x : Flow} {u : Nat} {y z : StoreUnit} (found : x.unit? u = some y) (number : z.seq = y.seq) :
    (x.putUnit z).unit? u = some z := by
  have same : ((fun w : StoreUnit => w.seq == u) ∘ fun w => if w.seq = z.seq then z else w) = fun w => w.seq == u := by
    funext w
    by_cases h : w.seq = z.seq
    · simp [h]
    · simp [h]
  unfold Flow.unit? at *
  rw [Flow.putUnit, List.find?_map, same, found, Option.map_some, if_pos number.symm]

/-- A unit of a program's flow that times out counts for its path, and is sent again on its next attempt (R370, R373). -/
theorem execRetransmitTimeout_program {s : State} {f u : Nat} {y : StoreUnit} (isOpen : (s.flow f).state = 2) (kind : (s.flow f).kind = 1)
    (small : u < 2 ^ 32) (found : (s.flow f).unit? u = some y) (placed : y.port ≠ 9)
    (path : (pathFor (pathTimeout s f y.path) f u (min 255 (y.attempt + 1))).2 ≠ 9) :
    exec (.retransmitTimeout f u) s = .next (transmit (resending (pathTimeout s f y.path) f y) f u) := by
  have number : y.seq = u := by simpa using List.find?_some found
  have sends := retransmit_found (s := pathTimeout s f y.path) found
  rw [if_neg path] at sends
  rw [← sends]
  show execRetransmitTimeout f u s = _
  unfold execRetransmitTimeout
  dsimp only
  rw [Nat.mod_eq_of_lt small, found]
  dsimp only
  rw [if_neg (by simp [isOpen, flowOpen, Flow.sends, kind]), if_neg placed, if_neg (by simp [Flow.rdma, kind]), number,
    if_neg (by simp [Flow.rdma, kind])]

/-- A unit that its timer sends again is on its next attempt, with the bytes it had. -/
theorem execRetransmitTimeout_resends {s : State} {f u : Nat} {y : StoreUnit} (isOpen : (s.flow f).state = 2) (kind : (s.flow f).kind = 1)
    (small : u < 2 ^ 32) (found : (s.flow f).unit? u = some y) (placed : y.port ≠ 9)
    (path : (pathFor (pathTimeout s f y.path) f u (min 255 (y.attempt + 1))).2 ≠ 9) :
    ∃ t way port, exec (.retransmitTimeout f u) s = .next t ∧ (t.flow f).unit? u = some { y.again with path := way, port := port } ∧
      (t.flow f).retx = min 0xFFFF ((s.flow f).retx + 1) ∧
      t.dget 0x5080 4 = countUp (entryBytes 0x5080 4) (s.dget 0x5080 4) 1 ∧ t.mem = s.mem := by
  have again : (resending (pathTimeout s f y.path) f y).flow f =
      { (s.flow f).putUnit y.again with retx := min 0xFFFF ((s.flow f).retx + 1) } := setFlow_flow_same ..
  have counted : (resending (pathTimeout s f y.path) f y).dget 0x5080 4 = countUp (entryBytes 0x5080 4) (s.dget 0x5080 4) 1 :=
    State.dcount_dget_same ..
  have mem : (resending (pathTimeout s f y.path) f y).mem = s.mem := rfl
  have sends := execRetransmitTimeout_program isOpen kind small found placed path
  generalize resending (pathTimeout s f y.path) f y = v at again counted mem sends
  have held : (v.flow f).unit? u = some y.again := by
    rw [again]
    exact unit?_putUnit found rfl
  obtain ⟨way, port, only⟩ := transmit_sendOnly (by rw [again]; exact kind) held
  refine ⟨_, way, port, sends, ?_, ?_, ?_, only.mem.trans mem⟩
  · rw [only.flow, setFlow_flow_same]
    exact unit?_putUnit held rfl
  · rw [only.flow, setFlow_flow_same, again]
    rfl
  · exact (only.index _ _ (by decide) (by decide)).trans counted

/-! ## Flows that break (R365, R371) -/

/-- What the break of a flow leaves: its case recorded, and the flow without its units. -/
theorem breakFlow_recorded (s : State) (f : Nat) : ∃ (w : State) (first : _),
    w.flow f = (s.flow f).ended 5 ∧ (∀ i j, w.dget i j = s.dget i j) ∧
    IndexKept (w.record 0x5080 2 [(5, 1)] first) (breakFlow s f) [0x50C0, 0x50D0] ∧ (breakFlow s f).flow f = w.flow f := by
  have leaves (b : Bool) : ∃ w, (if b then sendControl (s.setFlow f ((s.flow f).ended 5)) f 2 8 0 else s.setFlow f ((s.flow f).ended 5)) = w ∧
      w.flow f = (s.flow f).ended 5 ∧ ∀ i j, w.dget i j = s.dget i j := by
    cases b
    · exact ⟨_, rfl, setFlow_flow_same .., fun _ _ => rfl⟩
    · exact ⟨_, rfl, setFlow_flow_same .., fun _ _ => rfl⟩
  obtain ⟨w, sent, flow, cells⟩ := leaves ((insidePeer s (s.flow f) || !(usablePaths s f (s.flow f)).isEmpty) && !(s.flow f).rdma)
  have told := flowNotice_quiet (w.record 0x5080 2 [(5, 1)] (some (flowCase w 2 none f))) f
  refine ⟨w, some (flowCase w 2 none f), flow, cells, ?_⟩
  unfold breakFlow
  dsimp only
  rw [show ({ s.flow f with state := flowBroken, store := [], landed := [] } : Flow) = (s.flow f).ended 5 from rfl, sent]
  have same := ((NetKept.of_quiet told).flow f).trans ((record_recordOnly ..).flow f)
  generalize flowNotice _ f = v at told same ⊢
  exact ⟨told.2, same⟩

/-- The flow that breaks loses its units, and the case is recorded. -/
theorem execFlowBreak_open {s : State} {f : Nat} (isOpen : (s.flow f).state = 2) (kind : (s.flow f).kind = 1)
    (held : (s.flow f).store ≠ []) (free : setOfFlow s f = none) :
    ∃ t, exec (.flowBreak f) s = .next t ∧ t.flow f = (s.flow f).ended 5 ∧
      bit (t.dget 0x5080 1) 2 = true ∧ t.dget 0x5080 5 = countUp (entryBytes 0x5080 5) (s.dget 0x5080 5) 1 := by
  obtain ⟨w, first, ended, cells, kept, same⟩ := breakFlow_recorded s f
  have lost := engineLost_recorded (sub := 5) (by decide) (by decide) cells kept free
  rw [same, ended] at lost
  refine ⟨_, congrArg Host.Outcome.next (if_pos ⟨isOpen, ?_, ?_⟩), lost⟩
  · simp [Flow.sends, kind]
  · simpa using held

/-- A closing flow whose time is up is closed and says so. -/
theorem execFlowBreak_closing {s : State} {f : Nat} (closing : (s.flow f).state = 3) (kind : (s.flow f).kind = 1) :
    exec (.flowBreak f) s = .next ((s.setFlow f (s.flow f).closed).emit (controlOut s f (pathFor s f 0 0).2 2 0 0)) := by
  rw [← sendControl_closed]
  refine congrArg Host.Outcome.next ((if_neg ?_).trans ((if_pos closing).trans (if_neg ?_)))
  · simp [closing, flowOpen]
  · simp [Flow.rdma, kind]

end Sys2Proof.Machine

open Sys2Proof Sys2Proof.Machine

/-- Settles O42: a received frame that passes the checks of every frame has the meaning of its kind; what a landing, an acknowledgement, a
retransmission and a break write is said once each, and sending on a flow keeps its terms and the numbers of its units. -/
theorem unitsLandAndAreAcknowledged : Obligations.UnitsLandAndAreAcknowledged := by
  intro s r f u
  refine ⟨?_, fun comes closed answered => ?_, ?_, fun isOpen kind => ?_, fun y isOpen kind small found placed path => ?_,
    execFlowBreak_open, fun closing kind => ?_⟩
  · rintro rfl comes isOpen kind
    refine ⟨fun landed => ⟨_, execDataFrame_again comes isOpen kind landed, ?_⟩, fun fresh beyond => ?_, fun fresh within idle => ?_⟩
    · exact sendAgain_counts s r.dest r.port
    · exact ⟨_, execDataFrame_beyond comes isOpen kind fresh beyond, netRecord_counts s 1 (sub := 3) _ (by decide) (by decide)⟩
    · exact ⟨_, execDataFrame_lands comes isOpen kind fresh within idle, landed_marked s r r.dest _⟩
  · obtain ⟨only, flag, count⟩ := netRecord_counts s 0 (sub := 2) (some (flowCase s 0 r.at? r.dest)) (by decide) (by decide)
    exact ⟨_, execDataFrame_closed comes closed answered, only, flag, count⟩
  · rintro rfl comes isOpen kind
    obtain ⟨t, runs, sends⟩ := execAckFrame_open comes isOpen kind
    have units := sends.units
    have mem := sends.mem
    rw [ackUnits_mem] at mem
    rw [ackUnits_flow, setFlow_flow_same] at units
    obtain ⟨-, -, store, done, credit⟩ := granted_acked (s.flow r.dest) r.credit r.seq r.map
    exact ⟨t, runs, by rw [units.2, store], units.done.trans done, units.credit.trans credit, mem⟩
  · refine ⟨_, congrArg Host.Outcome.next (if_pos ⟨isOpen, ?_, ?_⟩), rfl, sendAck_flow .., fun g other => sendAck_others _ _ _ other⟩
    · simp [Flow.receives, kind]
    · simp [Flow.rdma, kind]
  · obtain ⟨t, way, port, runs, held, counted, count, mem⟩ := execRetransmitTimeout_resends isOpen kind small found placed path
    exact ⟨t, _, runs, held, rfl, rfl, rfl, counted, count, mem⟩
  · exact ⟨_, execFlowBreak_closing closing kind, rfl, setFlow_flow_same .., fun g other => setFlow_flow_other s other _⟩

end

section
/-! PROOF. Queue pairs to a host (O43). -/

namespace Sys2Proof.Machine
open Sys2Proof

section

variable {s : State} {f : Nat} (isOpen : (s.flow f).state = 2)
include isOpen

/-! ## The host's counts (R376, R377) -/

theorem execRdmaCreditPoll_reads (due : (s.flow f).kind = 8 ∨ ((s.flow f).kind = 7 ∧ shortOfCredit (s.flow f) = true)) :
    exec (.rdmaCreditPoll f) s = .next (s.emit (rdmaOut s f (pathFor s f 0 0).2 (pathFor s f 0 0).1 2 0 [])) :=
  congrArg Host.Outcome.next (if_pos ⟨isOpen, due⟩)

/-- The host's count grants the window beyond it. -/
theorem execRdmaResponse_count (kind : (s.flow f).kind = 7) (seq value : Nat) (bs : List Byte) :
    exec (.rdmaResponse f 2 seq value bs) s = .next (s.setFlow f ((s.flow f).grant (value + (s.flow f).window))) := by
  refine congrArg Host.Outcome.next ((if_neg ?_).trans ((if_neg ?_).trans ((if_neg ?_).trans (if_pos ⟨rfl, kind⟩))))
  · simp [Flow.rdma, kind, isOpen, flowOpen]
  · simp
  · simp

/-- A READ response lands. -/
theorem execRdmaResponse_read (kind : (s.flow f).kind = 8) {seq : Nat} (small : seq < 2 ^ 32) (value : Nat) (bs : List Byte) :
    exec (.rdmaResponse f 1 seq value bs) s = .next (landRead s f seq bs) := by
  have lands : exec (.rdmaResponse f 1 seq value bs) s = .next (landRead s f (seq % 2 ^ 32) bs) := by
    refine congrArg Host.Outcome.next ((if_neg ?_).trans ((if_neg ?_).trans (if_pos ⟨rfl, kind⟩)))
    · simp [Flow.rdma, kind, isOpen, flowOpen]
    · simp
  rw [lands, Nat.mod_eq_of_lt small]

/-! ## The rate (R376) -/

variable (rdma : (s.flow f).rdma = true)
include rdma

theorem execCongestionNotification_live :
    exec (.congestionNotification f) s = .next (s.setFlow f { s.flow f with rate := (s.flow f).rate / 2 }) :=
  congrArg Host.Outcome.next (if_pos ⟨rdma, by simp [Flow.live, isOpen, flowOpen]⟩)

theorem execQpRateRecovery_live : exec (.qpRateRecovery f) s =
    .next (s.setFlow f { s.flow f with rate := min fullRate ((s.flow f).rate + fullRate / 16) }) :=
  congrArg Host.Outcome.next (if_pos ⟨rdma, by simp [Flow.live, isOpen, flowOpen]⟩)

end

/-! ## A `READ` response (R378) -/

/-- A unit that a READ brings lies at its place, and its flow waits for it no longer. -/
theorem landRead_lands {s : State} {f u : Nat} (asked : ((s.flow f).unit? u).isSome = true)
    (idle : ∀ c, c < 4 → (s.cairnOf c).copying = none) (bs : List Byte) :
    landRead s f u bs = (writeTagged s (((flowCtx s f).buffer (s.flow f).buffer).address + 4096 * (u % (s.flow f).window)) (unitBytes bs 0)).setFlow f
      (({ s.flow f with store := (s.flow f).store.filter (·.seq != u) } : Flow).mark u) := by
  obtain ⟨y, found⟩ := Option.isSome_iff_exists.1 asked
  unfold landRead
  dsimp only
  rw [found]
  exact whenGranulesFree_idle idle ..

/-- A grant changes the credit alone, and never moves it back (R367). -/
theorem grant_eq (x : Flow) (limit : Nat) :
    x.grant limit = { x with credit := if unitAfter limit x.credit = true then limit % 2 ^ 32 else x.credit } := by
  by_cases later : unitAfter limit x.credit = true
  · rw [Flow.grant, if_pos later, if_pos later]
  · rw [Flow.grant, if_neg later, if_neg later]

end Sys2Proof.Machine

open Sys2Proof Sys2Proof.Machine

/-- Settles O43: an open queue pair takes the arm of its kind; a READ response writes its unit and marks it, and a path that is usable again
leaves the flow's waiting units to be sent, which changes no other flow. -/
theorem queuePairs : Obligations.QueuePairs := by
  intro s f path seq value bs isOpen
  refine ⟨fun kind => execRdmaCreditPoll_reads isOpen (.inl kind), fun kind short => ?_, fun kind => ?_, fun kind small asked idle => ?_,
    fun rdma => ?_, fun rdma => ?_, ?_⟩
  · exact execRdmaCreditPoll_reads isOpen (.inr ⟨kind, by simpa [shortOfCredit] using short⟩)
  · refine ⟨_, execRdmaResponse_count isOpen kind seq value bs, rfl, ?_, fun g other => setFlow_flow_other s other _⟩
    rw [setFlow_flow_same, grant_eq]
  · obtain ⟨reads, kept⟩ := unit_lands s (((flowCtx s f).buffer (s.flow f).buffer).address + 4096 * (seq % (s.flow f).window)) bs 0
    have only := writeTagged_eq s (((flowCtx s f).buffer (s.flow f).buffer).address + 4096 * (seq % (s.flow f).window)) (unitBytes bs 0)
    refine ⟨_, execRdmaResponse_read isOpen kind small value bs, ?_⟩
    rw [landRead_lands asked idle bs]
    generalize writeTagged s _ (unitBytes bs 0) = v at reads kept only ⊢
    refine ⟨?_, fun i inside => ?_, fun x outside => ?_, setFlow_flow_same ..⟩
    · rw [only]
      rfl
    · rw [State.setFlow_mem, reads i inside]
    · rw [State.setFlow_mem, kept x outside]
  · exact ⟨_, execCongestionNotification_live isOpen rdma, rfl, setFlow_flow_same .., fun g other => setFlow_flow_other s other _⟩
  · exact ⟨_, execQpRateRecovery_live isOpen rdma, rfl, setFlow_flow_same .., fun g other => setFlow_flow_other s other _⟩
  · have sends := sendWaiting_sends { s with net := { s.net with barred := serase s.net.barred (f * 64 + path) } } f
    exact ⟨_, rfl, sends.barred, sends.others, sends.mem⟩

end

section
/-! PROOF. A formed set answers a partner's record where the engines' store has room for it, and a table of flows out of order counts the
units of the receive flow twice once that flow has been granted credit (O51). -/

namespace Sys2Proof.Machine
open Sys2Proof

/-! ## The answer to a partner's record (R389) -/

/-- The receive flow of a partner takes one more unit. -/
def recordTaken (s : State) (n m : Nat) : State :=
  s.setFlow (recvFlow s n m) ((s.flow (recvFlow s n m)).grant ((s.flow (recvFlow s n m)).done + 1))

/-- A formed set sends its own record to the partner whose record has arrived. -/
theorem execFormationRecord_formed {s : State} {n m : Nat} (partner : m ∈ partners s n) (formed : s.red n 0xD = 2)
    (generation digest members algorithm group policy veto headroom : Nat) :
    exec (.formationRecord n m generation digest members algorithm group policy veto headroom) s =
      .next (sendFormation n (recordTaken s n m) m) := by
  show execFormationRecord n m generation digest members algorithm group policy veto headroom s = _
  unfold execFormationRecord
  rw [if_neg (by simpa using partner)]
  exact if_pos formed

/-- Without credit or room in the store no record leaves. -/
theorem sendFormation_short {s : State} {n m : Nat} (short : holdsCredit s (sendFlow s n m) 1 = false) : sendFormation n s m = s := by
  rw [sendFormation, short]
  rfl

theorem recordTaken_flow_send (s : State) (n m : Nat) : (recordTaken s n m).flow (sendFlow s n m) = s.flow (sendFlow s n m) :=
  setFlow_flow_other s (by unfold sendFlow recvFlow; omega) _

/-! ## A table of flows out of order -/

/-- Set 0 is formed of two members; its flow 2 to member 1 holds credit, and flow 3 from it holds 600 units as a sending flow of an engine.
Flow 9 stands before both in the table, so a change of flow 3 lists it anew before flow 9, and the old entry stays. -/
def disorderedFlows : State :=
  let busy : Flow := { Flow.empty with kind := 5, engine := 1, store := List.replicate 600 ⟨0, [], 0, false, 0, 9, 255, false⟩ }
  let reset := State.reset.dsets [(0x6010, 2, 2), (0x6010, 3, 0), (0x6010, 7, 0), (0x6010, 0xD, 2)]
  { reset with net := { reset.net with
      flows := [(9, { Flow.empty with kind := 6 }), (2, { Flow.empty with state := 2, kind := 5, credit := 1 }), (3, busy)] } }

theorem disorderedFlows_formed : 1 ∈ partners disorderedFlows 0 ∧ disorderedFlows.red 0 0xD = 2 ∧
    holdsCredit disorderedFlows (sendFlow disorderedFlows 0 1) 1 = true := by decide +kernel

theorem disorderedFlows_full :
    holdsCredit (recordTaken disorderedFlows 0 1) (sendFlow (recordTaken disorderedFlows 0 1) 0 1) 1 = false := by decide +kernel

end Sys2Proof.Machine

open Sys2Proof Sys2Proof.Machine

/-- Refutes O51 in its clause of a formed set that answers a record, for a table of flows that is out of order: the statement asks for room in
the store before the receive flow is granted its credit, the engine asks after it, and in such a table the grant counts 600 units twice. -/
theorem not_setsFormAndDeliver : ¬ Obligations.SetsFormAndDeliver := by
  intro holds
  obtain ⟨partner, formed, credit⟩ := disorderedFlows_formed
  obtain ⟨-, records, -⟩ := holds disorderedFlows ⟨1, 5, 0, 0⟩ 0 1 1 0 2 0 0 0 0 0 (by decide)
  obtain ⟨-, -, -, answers⟩ := records partner
  obtain ⟨t, next, -, -, issued⟩ := answers formed credit
  rw [execFormationRecord_formed partner formed, sendFormation_short disorderedFlows_full] at next
  obtain rfl := Host.Outcome.next.inj next
  rw [recordTaken_flow_send, unitNext] at issued
  omega

end

section
/-! PROOF. What the work of a reduction set leaves as it was, and what it sends (R403). -/

namespace Sys2Proof.Machine
open Sys2Proof

/-! ## The frame of a set's work -/

theorem setRed_redSet_same (s : State) (n : Nat) (f : RedSet → RedSet) : (s.setRed n f).redSet n = f (s.redSet n) := by
  rw [State.setRed_redSet, if_pos rfl]

theorem redSet_congr {s t : State} (h : t.sets = s.sets) (n : Nat) : t.redSet n = s.redSet n := by
  rw [State.redSet, h, State.redSet]

theorem RecordOnly.redSet {s t : State} (h : RecordOnly s t) (n : Nat) : t.redSet n = s.redSet n := by
  rw [State.redSet, h.1, State.redSet]

/-- The areas of arithmetic, network and poison records and of the log, and those of the checkpoints that a write may copy first. -/
def setAreas : List Nat := [0x5010, 0x5080, 0x50E0, 0x50D0, 0x6040, 0x6041, 0x6042, 0x6043]

/-- Of set `n`, the step in progress and what waits to be sent may have changed; beside them flows, memory, records and what leaves the
module. -/
structure SetOnly (n : Nat) (s t : State) : Prop where
  power : t.power = s.power
  contexts : t.contexts = s.contexts
  parked : t.parked = s.parked
  index : IndexKept s t (0x5090 :: setAreas)
  set : ∀ sub, sub < 256 → t.red n sub = s.red n sub
  members : (t.redSet n).members = (s.redSet n).members
  lastStep : (t.redSet n).lastStep = (s.redSet n).lastStep
  waiting : (t.redSet n).waiting = (s.redSet n).waiting
  summaries : (t.redSet n).summaries = (s.redSet n).summaries

namespace SetOnly

variable {n : Nat} {s t u : State}

theorem refl (n : Nat) (s : State) : SetOnly n s s :=
  ⟨rfl, rfl, rfl, .refl s _, fun _ _ => rfl, rfl, rfl, rfl, rfl⟩

theorem trans (h : SetOnly n s t) (k : SetOnly n t u) : SetOnly n s u where
  power := k.power.trans h.power
  contexts := k.contexts.trans h.contexts
  parked := k.parked.trans h.parked
  index := h.index.trans k.index
  set sub small := (k.set sub small).trans (h.set sub small)
  members := k.members.trans h.members
  lastStep := k.lastStep.trans h.lastStep
  waiting := k.waiting.trans h.waiting
  summaries := k.summaries.trans h.summaries

theorem setFlow (n : Nat) (s : State) (f : Nat) (x : Flow) : SetOnly n s (s.setFlow f x) :=
  ⟨rfl, rfl, rfl, setFlow_indexKept s f x _, fun _ _ => rfl, rfl, rfl, rfl, rfl⟩

/-- Records change no set and no entry of one. -/
theorem of_recordOnly (h : RecordOnly s t) (k : IndexKept s t [0x5010, 0x5080, 0x5090, 0x50E0, 0x50D0]) : SetOnly n s t := by
  have sets := h.redSet n
  refine ⟨h.power, h.contexts, by rw [h.1], k.mono (by simp [setAreas]), fun sub small => ?_, ?_, ?_, ?_, ?_⟩
  · exact k _ _ small (by simp; omega)
  all_goals rw [sets]

theorem sendFlow (h : SetOnly n s t) (m : Nat) : sendFlow t n m = sendFlow s n m := by
  simp only [Machine.sendFlow, h.set 7 (by decide)]

theorem recvFlow (h : SetOnly n s t) (m : Nat) : recvFlow t n m = recvFlow s n m := by
  simp only [Machine.recvFlow, h.set 7 (by decide)]

theorem ownIndex (h : SetOnly n s t) : ownIndex t n = ownIndex s n := h.set 3 (by decide)
theorem shapeOf (h : SetOnly n s t) : shapeOf t n = shapeOf s n := by
  simp only [Machine.shapeOf, h.set 5 (by decide), h.set 2 (by decide), h.set 6 (by decide)]
theorem partners (h : SetOnly n s t) : partners t n = partners s n := by
  simp only [Machine.partners, h.set 2 (by decide), h.ownIndex]
theorem memberOf (h : SetOnly n s t) (m : Nat) : memberOf t n m = memberOf s n m := by
  simp only [Machine.memberOf, h.members]
theorem backedUp (h : SetOnly n s t) : backedUp t n = backedUp s n := by
  simp only [Machine.backedUp, h.partners, h.memberOf, h.ownIndex]

theorem tenantContext (h : SetOnly n s t) (c i : Nat) : tenantContext t c i = tenantContext s c i := by
  have resident : t.resident c = s.resident c := by
    rw [State.resident, State.resident, h.index _ 5 (by decide) (by simp [setAreas]; omega)]
  simp only [Machine.tenantContext, resident, State.ctx, h.contexts, h.parked]

theorem stepCtx (h : SetOnly n s t) (st : RedStep) : stepCtx t n st = stepCtx s n st := by
  rw [Machine.stepCtx, Machine.stepCtx, h.set 4 (by decide), h.tenantContext]

theorem ownRoles (h : SetOnly n s t) (st : RedStep) : ownRoles t n st = ownRoles s n st := by
  simp only [Machine.ownRoles, h.ownIndex]

theorem shardRange (h : SetOnly n s t) (st : RedStep) (r : Nat) : shardRange t n st r = shardRange s n st r := by
  simp only [Machine.shardRange, h.set 2 (by decide)]

theorem emptySummary (h : SetOnly n s t) (r status : Nat) (late : Bool) (vacant : Nat) :
    emptySummary t n r status late vacant = emptySummary s n r status late vacant := by
  simp only [Machine.emptySummary, summaryOf, h.set 2 (by decide), h.ownIndex, h.set 0xB (by decide)]

theorem requestTenant (h : SetOnly n s t) : requestTenant t n = requestTenant s n := by
  have range (i sub : Nat) (small : sub < 256) : t.dget (0x6070 + i) sub = s.dget (0x6070 + i) sub :=
    h.index _ sub small (by simp [setAreas]; omega)
  simp only [Machine.requestTenant, h.set 8 (by decide), flowTenant, tenantFlow, State.configured, range _ 1 (by decide),
    range _ 7 (by decide), range _ 8 (by decide)]

theorem beat (h : SetOnly n s t) : t.beat = s.beat := h.index 0x4070 5 (by decide) (by decide)

/-- A change of the set that is one of its step and of what waits to be sent alone. -/
theorem setRed {f : RedSet → RedSet}
    (keeps : f (s.redSet n) = { s.redSet n with step := (f (s.redSet n)).step, outbox := (f (s.redSet n)).outbox }) :
    SetOnly n s (s.setRed n f) := by
  have held := setRed_redSet_same s n f
  refine ⟨rfl, rfl, rfl, indexKept_of_dict rfl rfl _, fun _ _ => rfl, ?_, ?_, ?_, ?_⟩
  all_goals rw [held, keeps]

end SetOnly

/-- Work of set `n` in its step: no case of a reduction is recorded, and of the flows only those towards its members have changed. -/
structure SetFrame (n : Nat) (s t : State) : Prop extends SetOnly n s t where
  cases : ∀ sub, sub < 256 → t.dget 0x5090 sub = s.dget 0x5090 sub
  flows : ∀ g, (∀ m, g ≠ sendFlow s n m) → t.flow g = s.flow g

namespace SetFrame

variable {n : Nat} {s t u : State}

theorem refl (n : Nat) (s : State) : SetFrame n s s := ⟨.refl n s, fun _ _ => rfl, fun _ _ => rfl⟩

theorem trans (h : SetFrame n s t) (k : SetFrame n t u) : SetFrame n s u where
  toSetOnly := h.toSetOnly.trans k.toSetOnly
  cases sub small := (k.cases sub small).trans (h.cases sub small)
  flows g other := (k.flows g fun m => by rw [h.sendFlow]; exact other m).trans (h.flows g other)

theorem setRed {f : RedSet → RedSet}
    (keeps : f (s.redSet n) = { s.redSet n with step := (f (s.redSet n)).step, outbox := (f (s.redSet n)).outbox }) :
    SetFrame n s (s.setRed n f) := ⟨.setRed keeps, fun _ _ => rfl, fun _ _ => rfl⟩

end SetFrame

/-- Work that leaves the step in progress alone. -/
structure SetQuiet (n : Nat) (s t : State) : Prop extends SetFrame n s t where
  step : (t.redSet n).step = (s.redSet n).step

namespace SetQuiet

variable {n : Nat} {s t u : State}

theorem refl (n : Nat) (s : State) : SetQuiet n s s := ⟨.refl n s, rfl⟩

theorem trans (h : SetQuiet n s t) (k : SetQuiet n t u) : SetQuiet n s u :=
  ⟨h.toSetFrame.trans k.toSetFrame, k.step.trans h.step⟩

theorem foldl {β : Type} (f : State → β → State) (h : ∀ t e, SetQuiet n t (f t e)) (l : List β) (s : State) :
    SetQuiet n s (l.foldl f s) := foldl_related (SetQuiet n) (.refl n) .trans f h l s

theorem of_recordOnly (h : RecordOnly s t) (k : IndexKept s t [0x5010, 0x5080, 0x50E0, 0x50D0]) : SetQuiet n s t :=
  ⟨⟨.of_recordOnly h (k.mono (by simp)), fun sub small => k 0x5090 sub small (by decide), fun g _ => h.flow g⟩,
    by rw [h.redSet]⟩

theorem record (s : State) {idx : Nat} (flag : Nat) {counts : List (Nat × Nat)} (first : Option Nat) (small : ∀ e ∈ counts, e.1 < 256)
    (area : [idx, 0x50D0] ⊆ [0x5010, 0x5080, 0x50E0, 0x50D0]) : SetQuiet n s (s.record idx flag counts first) :=
  .of_recordOnly (record_recordOnly ..) ((record_indexKept _ _ _ _ small).mono area)

theorem writeTagged (n : Nat) (s : State) (a : Nat) (bs : List TByte) : SetQuiet n s (writeTagged s a bs) :=
  ⟨⟨⟨rfl, rfl, rfl, .refl s _, fun _ _ => rfl, rfl, rfl, rfl, rfl⟩, fun _ _ => rfl, fun _ _ => rfl⟩, rfl⟩

theorem writeShard (n : Nat) (s : State) (a : Nat) (bs : List MxBlock) : SetQuiet n s (writeShard s a bs) :=
  (SetQuiet.writeTagged n s _ _).trans (.writeTagged n _ _ _)

/-- Units sent to a member change the flow towards it, and records. -/
theorem of_sends {f m : Nat} (toMember : f = Machine.sendFlow s n m) (h : FlowsSend s t) (others : ∀ g, g ≠ f → t.flow g = s.flow g) :
    SetQuiet n s t := by
  have sets : t.redSet n = s.redSet n := redSet_congr (by rw [h.parts]) n
  have areas : flowAreas ⊆ 0x5090 :: setAreas := by simp [flowAreas, setAreas]
  refine ⟨⟨⟨h.power, by rw [h.parts], by rw [h.parts], h.index.mono areas, fun sub small => ?_, ?_, ?_, ?_, ?_⟩, fun sub small => ?_,
    fun g apart => ?_⟩, ?_⟩
  · exact h.index _ _ small (by simp [flowAreas]; omega)
  · rw [sets]
  · rw [sets]
  · rw [sets]
  · rw [sets]
  · exact h.index _ _ small (by decide)
  · exact others g (toMember ▸ apart m)
  · rw [sets]

end SetQuiet

/-! ## Arithmetic of the Square's engine (R402, R617) -/

theorem arith_engine (s : State) (ev : Events) : RecordOnly s (s.arith 0x440 ev) ∧ IndexKept s (s.arith 0x440 ev) [0x5010, 0x50D0] := by
  unfold State.arith
  rw [if_pos rfl]
  have counted : IndexKept s (s.dcount 0x5010 3 ev.sats) [0x5010, 0x50D0] := (dcount_indexKept s 0x5010 ev.sats (by decide)).mono (by simp)
  refine ⟨(dcount_recordOnly s 0x5010 3 ev.sats).trans (foldl_recordOnly _ (fun u i => ?_) _ _),
    counted.trans (foldl_indexKept _ (fun u i => ?_) _ _)⟩
  · split
    · exact record_recordOnly ..
    · exact .refl u
  · split
    · exact record_indexKept _ _ _ _ (by simp)
    · exact .refl u _

theorem nonfinite_engine (s : State) (k : Nat) :
    RecordOnly s (s.nonfinite 0x440 k) ∧ IndexKept s (s.nonfinite 0x440 k) [0x5010, 0x50D0] := by
  unfold State.nonfinite
  split
  · exact ⟨.refl s, .refl s _⟩
  · obtain ⟨only, kept⟩ := arith_engine (s.dcount 0x5010 4 k) (.of flagNonfiniteStored)
    exact ⟨(dcount_recordOnly s ..).trans only, ((dcount_indexKept s 0x5010 k (by decide)).mono (by simp)).trans kept⟩

theorem arith_quiet (n : Nat) (s : State) (ev : Events) : SetQuiet n s (s.arith 0x440 ev) :=
  .of_recordOnly (arith_engine s ev).1 ((arith_engine s ev).2.mono (by simp))

theorem writeResult_quiet (n : Nat) (s : State) (f : Format) (a : Nat) (bs : List MxBlock) : SetQuiet n s (writeResult s f a bs) :=
  (SetQuiet.writeShard n s a bs).trans
    (.of_recordOnly (nonfinite_engine _ _).1 ((nonfinite_engine _ _).2.mono (by simp)))

/-- The values that are judged do not change with the judgement. -/
theorem writeResult_mem (s : State) (f : Format) (a : Nat) (bs : List MxBlock) : (writeResult s f a bs).mem = (writeShard s a bs).mem :=
  (nonfinite_engine _ _).1.mem

/-! ## Sending what waits (R403) -/

theorem joinUnit_flowsSend (s : State) (f : Nat) (bs : List TByte) (last : Bool) :
    FlowsSend s (joinUnit f bs last s) ∧ ∀ g, g ≠ f → (joinUnit f bs last s).flow g = s.flow g := by
  unfold joinUnit
  dsimp only
  generalize ({ s.flow f with issued := _, store := _ } : Flow) = x
  have sent := transmit_sends (s.setFlow f x) f (s.flow f).issued
  exact ⟨(FlowsSend.setFlow s f x).trans sent.toFlowsSend, fun g other => (sent.others g other).trans (setFlow_flow_other s other x)⟩

theorem sendUnits_flowsSend (s : State) (f : Nat) (last : Bool) (us : List (List TByte)) :
    FlowsSend s (sendUnits s f last us) ∧ ∀ g, g ≠ f → (sendUnits s f last us).flow g = s.flow g := by
  rw [sendUnits_eq]
  refine foldl_related (fun a b => FlowsSend a b ∧ ∀ g, g ≠ f → b.flow g = a.flow g) (fun a => ⟨.refl a, fun _ _ => rfl⟩) ?_ _ ?_ _ s
  · rintro a b c ⟨h, h'⟩ ⟨k, k'⟩
    exact ⟨h.trans k, fun g other => (k' g other).trans (h' g other)⟩
  · exact fun t e => joinUnit_flowsSend t f _ _

/-- What waits in a set is sent: memory stands as it was. -/
structure SetSent (n : Nat) (s t : State) : Prop extends SetQuiet n s t where
  mem : t.mem = s.mem
  poison : t.poison = s.poison

namespace SetSent

variable {n : Nat} {s t u : State}

theorem refl (n : Nat) (s : State) : SetSent n s s := ⟨.refl n s, rfl, rfl⟩
theorem trans (h : SetSent n s t) (k : SetSent n t u) : SetSent n s u :=
  ⟨h.toSetQuiet.trans k.toSetQuiet, k.mem.trans h.mem, k.poison.trans h.poison⟩

/-- The list of what waits has changed alone. -/
theorem setOutbox (s : State) (n : Nat) (g : List RedMsg → List RedMsg) :
    SetSent n s (s.setRed n fun x => { x with outbox := g x.outbox }) :=
  ⟨⟨.setRed rfl, by rw [setRed_redSet_same]⟩, rfl, rfl⟩

end SetSent

theorem flushSet_sent (n k : Nat) (s : State) : SetSent n s (flushSet n k s) := by
  induction k generalizing s with
  | zero => exact .refl n s
  | succ k ih =>
    rw [flushSet]
    split
    · exact .refl n s
    next m _ =>
      have taken := SetSent.setOutbox s n fun l => l.filter fun y => !(unitRun m ((s.redSet n).outbox.dropWhile (· != m))).contains y
      dsimp only at taken ⊢
      generalize s.setRed n _ = t at taken ⊢
      have sent := sendUnits_flowsSend t (sendFlow s n m.member) false [unitOf m (unitRun m ((s.redSet n).outbox.dropWhile (· != m)))]
      refine (taken.trans ⟨.of_sends (m := m.member) (taken.sendFlow _).symm sent.1 sent.2, sent.1.mem, by rw [sent.1.parts]⟩).trans (ih _)

theorem flush_sent (n : Nat) (s : State) : SetSent n s (flush s n) := flushSet_sent n _ s

end Sys2Proof.Machine

end

section
/-! PROOF. What an item leaves in the step that takes it, and what is made and passed on from it (R401, R404, R407, R408, R411, R413, R414). -/

namespace Sys2Proof.Machine
open Sys2Proof

/-! ## First copies -/

section
variable {α : Type} (l : List (Nat × α)) (k j : Nat) (v : α)

/-- An entry that takes a value only while it has none. -/
theorem kfind_firstCopy : kfind (kset l k (kget v l k)) j = if j = k then some ((kfind l j).getD v) else kfind l j := by
  rw [kfind_kset]
  by_cases same : k = j
  · subst same
    rw [if_pos rfl, if_pos rfl, kget]
  · rw [if_neg same, if_neg (Ne.symm same)]

theorem kfind_firstCopy_of_isSome : kfind (if (kfind l k).isSome then l else kset l k v) j =
    if j = k then some ((kfind l j).getD v) else kfind l j := by
  by_cases held : (kfind l k).isSome = true
  · obtain ⟨w, found⟩ := Option.isSome_iff_exists.1 held
    rw [if_pos held]
    by_cases same : j = k
    · subst same
      rw [if_pos rfl, found, Option.getD_some]
    · rw [if_neg same]
  · have none : kget v l k = v := by rw [kget, Option.not_isSome_iff_eq_none.1 held, Option.getD_none]
    rw [if_neg held, ← kfind_firstCopy l k j v, none]

end

/-! ## How a step grows -/

/-- A step has gone on: its request and its roles stand, and what it held it holds still. -/
structure StepGrown (own : Nat) (x y : RedStep) : Prop where
  request : y.request = x.request
  beat : y.beat = x.beat
  tenant : y.tenant = x.tenant
  stopped : y.stopped = x.stopped
  taken : y.taken = x.taken
  pieces : ∀ k v, kfind x.pieces k = some v → kfind y.pieces k = some v
  records : ∀ k v, kfind x.records k = some v → kfind y.records k = some v
  scales : ∀ k v, kfind x.scales k = some v → kfind y.scales k = some v
  gathered : ∀ i ∈ x.gathered, i ∈ y.gathered
  finals : x.stopped = true → ∀ i v, i < 2 ^ 40 → kfind x.finals (itemKey 0 own i) = some v → kfind y.finals (itemKey 0 own i) = some v

namespace StepGrown

variable {own : Nat} {x y z : RedStep}

theorem refl (own : Nat) (x : RedStep) : StepGrown own x x :=
  ⟨rfl, rfl, rfl, rfl, rfl, fun _ _ h => h, fun _ _ h => h, fun _ _ h => h, fun _ h => h, fun _ _ _ _ h => h⟩

theorem trans (h : StepGrown own x y) (k : StepGrown own y z) : StepGrown own x z where
  request := k.request.trans h.request
  beat := k.beat.trans h.beat
  tenant := k.tenant.trans h.tenant
  stopped := k.stopped.trans h.stopped
  taken := k.taken.trans h.taken
  pieces j v found := k.pieces j v (h.pieces j v found)
  records j v found := k.records j v (h.records j v found)
  scales j v found := k.scales j v (h.scales j v found)
  gathered i inside := k.gathered i (h.gathered i inside)
  finals stopped i v small found := k.finals (h.stopped.trans stopped) i v small (h.finals stopped i v small found)

theorem itemHeld {m : RedMsg} (k : StepGrown own y z) (stopped : y.stopped = x.stopped) (h : ItemHeld own x y m) : ItemHeld own x z m := by
  obtain ⟨piece, record, scale, gathered, final⟩ := h
  exact ⟨fun p => k.pieces _ _ (piece p), fun p => k.records _ _ (record p), fun p => k.scales _ _ (scale p),
    fun p => k.gathered _ (gathered p), fun p late small => k.finals (stopped.trans late) _ _ small (final p late small)⟩

end StepGrown

/-- A step has taken one item: the entry of the item holds its first copy, and the others hold what they held. -/
structure ItemTaken (own : Nat) (x y : RedStep) (m : RedMsg) : Prop where
  request : y.request = x.request
  beat : y.beat = x.beat
  tenant : y.tenant = x.tenant
  stopped : y.stopped = x.stopped
  taken : y.taken = x.taken
  pieces : ∀ j, kfind y.pieces j =
    if m.phase = 2 ∧ j = pieceKey m.role m.sender m.index then some ((kfind x.pieces j).getD m.item) else kfind x.pieces j
  recorded : y.records =
    if m.phase = 3 ∧ (kfind x.records m.index).isSome = false then kset x.records m.index m.value else x.records
  scales : ∀ j, kfind y.scales j = if m.phase = 4 ∧ j = m.index then some ((kfind x.scales j).getD m.value) else kfind x.scales j
  gathered : y.gathered = if m.phase = 7 then sinsert x.gathered m.index else x.gathered
  finals : ∀ j, kfind y.finals j =
    if m.phase = 8 ∧ j = itemKey 0 own m.index then some ((kfind x.finals j).getD m.item) else kfind x.finals j

namespace ItemTaken

variable {own : Nat} {x y z : RedStep} {m q : RedMsg}

theorem records (h : ItemTaken own x y m) (j : Nat) : kfind y.records j =
    if m.phase = 3 ∧ j = m.index then some ((kfind x.records j).getD m.value) else kfind x.records j := by
  rw [h.recorded]
  by_cases p : m.phase = 3
  · have first := kfind_firstCopy_of_isSome x.records m.index j m.value
    cases held : (kfind x.records m.index).isSome
    · rw [held] at first
      simpa [p] using first
    · rw [held] at first
      simpa [p] using first
  · rw [if_neg fun e => p e.1, if_neg fun e => p e.1]

/-- A first copy keeps what stood there. -/
theorem kept {α : Type} {o p : Option α} {v w : α} {c : Prop} [Decidable c] (e : p = if c then some (o.getD v) else o) (h : o = some w) :
    p = some w := by
  subst h
  rw [e, Option.getD_some, ite_self]

theorem grown (h : ItemTaken own x y m) : StepGrown own x y where
  request := h.request
  beat := h.beat
  tenant := h.tenant
  stopped := h.stopped
  taken := h.taken
  pieces j _ found := kept (h.pieces j) found
  records j _ found := kept (h.records j) found
  scales j _ found := kept (h.scales j) found
  gathered i inside := by
    rw [h.gathered]
    split
    · exact mem_sinsert.2 (.inr inside)
    · exact inside
  finals _ i _ _ found := kept (h.finals _) found

theorem itemHeld (h : ItemTaken own x y m) : ItemHeld own x y m :=
  ⟨fun p => (h.pieces _).trans (if_pos ⟨p, rfl⟩), fun p => (h.records _).trans (if_pos ⟨p, rfl⟩),
    fun p => (h.scales _).trans (if_pos ⟨p, rfl⟩), fun p => by rw [h.gathered, if_pos p]; exact mem_sinsert.2 (.inl rfl),
    fun p _ _ => (h.finals _).trans (if_pos ⟨p, rfl⟩)⟩

theorem pieceKey_index_inj {role sender i j : Nat} (h : pieceKey role sender i = pieceKey role sender j) : i = j :=
  Nat.add_left_cancel h

theorem itemKey_index_inj {phase role i j : Nat} (h : itemKey phase role i = itemKey phase role j) : i = j := Nat.add_left_cancel h

/-- An item of the same role and sender at another index finds what stood before the first one. -/
theorem before (h : ItemTaken own x y m) (role : q.role = m.role) (sender : q.sender = m.sender) (apart : q.index ≠ m.index)
    (held : ItemHeld own y z q) : ItemHeld own x z q := by
  obtain ⟨piece, record, scale, gathered, final⟩ := held
  refine ⟨fun p => ?_, fun p => ?_, fun p => ?_, gathered, fun p late small => ?_⟩
  · rw [piece p, h.pieces, if_neg]
    rw [role, sender]
    exact fun e => apart (pieceKey_index_inj e.2)
  · rw [record p, h.records, if_neg]
    exact fun e => apart e.2
  · rw [scale p, h.scales, if_neg]
    exact fun e => apart e.2
  · rw [final p (h.stopped.trans late) small, h.finals, if_neg]
    exact fun e => apart (itemKey_index_inj e.2)

/-- Nothing is taken of a phase that brings no item. -/
theorem none (own : Nat) (x : RedStep) (other : m.phase ∉ [2, 3, 4, 7, 8]) : ItemTaken own x x m := by
  simp only [List.mem_cons, List.not_mem_nil, or_false, not_or] at other
  obtain ⟨h2, h3, h4, h7, h8⟩ := other
  constructor <;> simp [h2, h3, h4, h7, h8]

/-- What is passed on is no part of what is held. -/
theorem passed (h : ItemTaken own x y m) (l : List Nat) : ItemTaken own x { y with passed := l } m :=
  ⟨h.request, h.beat, h.tenant, h.stopped, h.taken, h.pieces, h.recorded, h.scales, h.gathered, h.finals⟩

/-- Nor is the list of the shards that are final. -/
theorem finished (h : ItemTaken own x y m) (l : List Nat) : ItemTaken own x { y with done := l } m :=
  ⟨h.request, h.beat, h.tenant, h.stopped, h.taken, h.pieces, h.recorded, h.scales, h.gathered, h.finals⟩

end ItemTaken

/-! ## The step of a set after an operation -/

/-- Work of set `n` that leaves `y` as its step. -/
structure SetPut (n : Nat) (s t : State) (y : RedStep) : Prop extends SetFrame n s t where
  step : (t.redSet n).step = some y

namespace SetPut

variable {n : Nat} {s t u : State} {y z : RedStep}

theorem setStep (s : State) (n : Nat) (y : RedStep) : SetPut n s (setStep s n y) y :=
  ⟨.setRed rfl, by rw [Machine.setStep, setRed_redSet_same]⟩

theorem quiet (h : SetPut n s t y) (k : SetQuiet n t u) : SetPut n s u y := ⟨h.toSetFrame.trans k.toSetFrame, k.step.trans h.step⟩

theorem refl (h : (s.redSet n).step = some y) : SetPut n s s y := ⟨.refl n s, h⟩

end SetPut

/-! ## One item (R404, R407, R408, R411, R413, R414) -/

theorem passOn_step (s : State) (n : Nat) (st : RedStep) (m : RedMsg) (origin : Nat) :
    (passOn s n st m origin).1 = { st with passed := (passOn s n st m origin).1.passed } := by
  unfold passOn
  dsimp only
  split <;> rfl

/-- What is passed on is the same item. -/
theorem passOn_msgs {s : State} {n : Nat} {st : RedStep} {m q : RedMsg} {origin : Nat} (passed : q ∈ (passOn s n st m origin).2) :
    q.phase = m.phase ∧ q.index = m.index := by
  unfold passOn at passed
  dsimp only at passed
  split at passed
  · exact absurd passed List.not_mem_nil
  · obtain ⟨c, -, rfl⟩ := List.mem_map.1 passed
    exact ⟨rfl, rfl⟩

/-- The shard that comes to a member whose role has been taken over: the first copies, and the roles that are final. -/
def lateKept (s : State) (n : Nat) (st : RedStep) (m : RedMsg) : RedStep :=
  { st with finals := kset st.finals (itemKey 0 (ownIndex s n) m.index) (kget m.item st.finals (itemKey 0 (ownIndex s n) m.index)) }

section
variable {s : State} {n : Nat} {st : RedStep} {m : RedMsg} (held : (s.redSet n).step = some st)
include held

theorem acceptItem_piece (p : m.phase = 2) : acceptItem s n m =
    let k := pieceKey m.role m.sender m.index
    (setStep s n { st with pieces := if (kfind st.pieces k).isSome then st.pieces else kset st.pieces k m.item }, []) := by
  unfold acceptItem
  rw [held]
  dsimp only
  rw [if_pos p]
  split <;> rfl

theorem acceptItem_record (p : m.phase = 3) : acceptItem s n m =
    let y := passOn s n { st with records := if (kfind st.records m.index).isSome then st.records else kset st.records m.index m.value }
      m m.index
    (setStep s n y.1, y.2) := by
  unfold acceptItem
  rw [held]
  dsimp only
  rw [if_neg (by omega), if_pos p, if_pos p]
  split <;> rfl

theorem acceptItem_scale (p : m.phase = 4) : acceptItem s n m =
    let y := passOn s n { st with scales := kset st.scales m.index (kget m.value st.scales m.index) } m
      (shardOf (stepBlocks st) (s.red n 2) m.index)
    (if (kfind st.scales m.index).isSome then setStep s n y.1
      else writeBytes (setStep s n y.1) (redAddress (stepCtx s n st) (reqScale st.request) m.index) [BitVec.ofNat 8 m.value], y.2) := by
  unfold acceptItem
  rw [held]
  dsimp only
  simp only [p, Nat.reduceEqDiff, if_true, if_false]

/-- A gathered block and its scale take their places in the result (R414). -/
def gatherWritten (t : State) (a blocks : Nat) (m : RedMsg) : State :=
  writeTagged (writeTagged t (a + 32 * m.index) ((leBytes 32 m.item.elems).map fun x => (x, m.item.poison)))
    (a + ceilDiv (32 * blocks) 4096 * 4096 + m.index) [(BitVec.ofNat 8 m.item.scale, m.item.scalePoison)]

theorem acceptItem_gather (p : m.phase = 7) : acceptItem s n m =
    let y := passOn s n { st with gathered := sinsert st.gathered m.index } m (shardOf (stepBlocks st) (s.red n 2) m.index)
    (if st.gathered.contains m.index then setStep s n y.1
      else gatherWritten (setStep s n y.1) (redAddress (stepCtx s n st) (reqResult st.request) 0) (stepBlocks st) m, y.2) := by
  unfold acceptItem
  rw [held]
  dsimp only
  simp only [p, Nat.reduceEqDiff, if_true, if_false]
  split <;> rfl

theorem acceptItem_late (p : m.phase = 8) : ∃ all : List (Option MxBlock), acceptItem s n m =
    (if st.stopped && !st.done.contains (ownIndex s n) && all.all (·.isSome) then
      writeResult (setStep s n { lateKept s n st m with done := sinsert st.done (ownIndex s n) }) (mxFormat (reqFormat st.request))
        (slotAddress s n st (ownIndex s n)) (all.filterMap id)
     else setStep s n (lateKept s n st m), []) := by
  refine ⟨(shardRange s n st (ownIndex s n)).map fun b => kfind (lateKept s n st m).finals (itemKey 0 (ownIndex s n) b), ?_⟩
  unfold acceptItem
  rw [held]
  dsimp only
  simp only [p, Nat.reduceEqDiff, if_true, if_false]
  unfold lateKept
  split <;> rfl

theorem acceptItem_other (other : m.phase ∉ [2, 3, 4, 7, 8]) : acceptItem s n m = (s, []) := by
  simp only [List.mem_cons, List.not_mem_nil, or_false, not_or] at other
  obtain ⟨h2, h3, h4, h7, h8⟩ := other
  unfold acceptItem
  rw [held]
  dsimp only
  rw [if_neg h2, if_neg h3, if_neg h4, if_neg h7, if_neg h8]

end

section
variable {s : State} {n : Nat} {st : RedStep} {m : RedMsg}

theorem gatherWritten_quiet (n : Nat) (t : State) (a blocks : Nat) (m : RedMsg) : SetQuiet n t (gatherWritten t a blocks m) :=
  (SetQuiet.writeTagged n t _ _).trans (.writeTagged n _ _ _)

/-- The step takes the item, as the first copy of its kind. -/
theorem acceptItem_takes (held : (s.redSet n).step = some st) :
    ∃ y, ItemTaken (ownIndex s n) st y m ∧ SetPut n s (acceptItem s n m).1 y := by
  by_cases other : m.phase ∉ [2, 3, 4, 7, 8]
  · exact ⟨st, .none _ st other, by rw [acceptItem_other held other]; exact .refl held⟩
  · rw [not_not] at other
    simp only [List.mem_cons, List.not_mem_nil, or_false] at other
    obtain p | p | p | p | p := other
    · rw [acceptItem_piece held p]
      refine ⟨_, ?_, .setStep s n _⟩
      constructor <;> simp [p, kfind_firstCopy_of_isSome]
    · rw [acceptItem_record held p]
      dsimp only
      refine ⟨_, ?_, .setStep s n _⟩
      rw [passOn_step]
      refine ItemTaken.passed ?_ _
      constructor <;> simp [p]
      cases kfind st.records m.index <;> rfl
    · rw [acceptItem_scale held p]
      have took (origin : Nat) : ItemTaken (ownIndex s n) st
          (passOn s n { st with scales := kset st.scales m.index (kget m.value st.scales m.index) } m origin).1 m := by
        rw [passOn_step]
        refine ItemTaken.passed ?_ _
        constructor <;> simp [p, kfind_firstCopy]
      dsimp only
      split
      · exact ⟨_, took _, .setStep s n _⟩
      · exact ⟨_, took _, (SetPut.setStep s n _).quiet (.writeTagged n _ _ _)⟩
    · rw [acceptItem_gather held p]
      have took (origin : Nat) : ItemTaken (ownIndex s n) st
          (passOn s n { st with gathered := sinsert st.gathered m.index } m origin).1 m := by
        rw [passOn_step]
        refine ItemTaken.passed ?_ _
        constructor <;> simp [p]
      dsimp only
      split
      · exact ⟨_, took _, .setStep s n _⟩
      · exact ⟨_, took _, (SetPut.setStep s n _).quiet (gatherWritten_quiet n _ _ _ m)⟩
    · obtain ⟨all, e⟩ := acceptItem_late held p
      rw [e]
      have took : ItemTaken (ownIndex s n) st (lateKept s n st m) m := by
        constructor <;> simp [p, lateKept, kfind_firstCopy]
      dsimp only
      split
      · exact ⟨_, took.finished _, (SetPut.setStep s n _).quiet (writeResult_quiet n _ _ _ _)⟩
      · exact ⟨_, took, .setStep s n _⟩

/-- An item that is accepted brings only copies of itself. -/
theorem acceptItem_msgs (held : (s.redSet n).step = some st) {q : RedMsg} (brought : q ∈ (acceptItem s n m).2) :
    q.phase = m.phase ∧ q.index = m.index := by
  by_cases other : m.phase ∉ [2, 3, 4, 7, 8]
  · rw [acceptItem_other held other] at brought
    exact absurd brought List.not_mem_nil
  · rw [not_not] at other
    simp only [List.mem_cons, List.not_mem_nil, or_false] at other
    obtain p | p | p | p | p := other
    · rw [acceptItem_piece held p] at brought
      exact absurd brought List.not_mem_nil
    · rw [acceptItem_record held p] at brought
      exact passOn_msgs brought
    · rw [acceptItem_scale held p] at brought
      exact passOn_msgs brought
    · rw [acceptItem_gather held p] at brought
      exact passOn_msgs brought
    · obtain ⟨all, e⟩ := acceptItem_late held p
      rw [e] at brought
      exact absurd brought List.not_mem_nil

end

end Sys2Proof.Machine

end

section
/-! PROOF. Items pass between the roles of a member, and values are made of them, until nothing more happens there (R398, R401). -/

namespace Sys2Proof.Machine
open Sys2Proof

/-! ## What every round keeps -/

section
variable {n : Nat} {P : State → Prop} {Q : RedMsg → Prop}
  (accept : ∀ s m, P s → Q m → P (acceptItem s n m).1 ∧ ∀ q ∈ (acceptItem s n m).2, Q q)
  (keep : ∀ s m, P s → P (s.setRed n fun x => { x with outbox := x.outbox ++ [m] }))
include accept keep

theorem routeAll_induct {s : State} {ms : List RedMsg} (h : P s) (items : ∀ m ∈ ms, Q m) :
    P (routeAll s n ms).1 ∧ ∀ q ∈ (routeAll s n ms).2, Q q := by
  unfold routeAll
  refine List.foldlRecOn (motive := fun a : State × List RedMsg => P a.1 ∧ ∀ q ∈ a.2, Q q) ms _ ⟨h, by simp⟩ ?_
  rintro a ⟨now, brought⟩ m inside
  split
  · obtain ⟨next, more⟩ := accept a.1 m now (items m inside)
    refine ⟨next, fun q from_ => ?_⟩
    exact (List.mem_append.1 from_).elim (brought q) (more q)
  · exact ⟨keep a.1 m now, brought⟩

/-- What routing and making keep, whole rounds of them keep. -/
theorem pump_induct (made : ∀ s, P s → P (produce s n).1 ∧ ∀ q ∈ (produce s n).2, Q q) (k : Nat) {s : State} {ms : List RedMsg} (h : P s)
    (items : ∀ m ∈ ms, Q m) : P (pump n k s ms) := by
  induction k generalizing s ms with
  | zero => exact h
  | succ k ih =>
    obtain ⟨routed, brought⟩ := routeAll_induct accept keep h items
    obtain ⟨next, more⟩ := made _ routed
    rw [pump]
    split
    · exact next
    · exact ih next fun q from_ => (List.mem_append.1 from_).elim (brought q) (more q)

end

/-- The values that a member's roles can make, and then their shards. -/
theorem produce_induct {n : Nat} {s : State} {st : RedStep} {R : State × List RedMsg → Prop} (held : (s.redSet n).step = some st) (h : R (s, []))
    (make : ∀ a r sh b out, r ∈ ownRoles s n st → b < stepBlocks st → R a → R (makeValue n r sh b out a))
    (finish : ∀ a r, r ∈ ownRoles s n st → R a → R (finishRole n r a)) : R (produce s n) := by
  have inside {sh b : Nat} (shard : sh < s.red n 2) (block : b ∈ shardRange s n st sh) : b < stepBlocks st := by
    obtain ⟨above, below⟩ := mem_rangeFrom.1 block
    have top : shardFirst (stepBlocks st) (s.red n 2) (sh + 1) ≤ stepBlocks st := by
      rw [shardFirst]
      exact Nat.div_le_of_le_mul (Nat.mul_le_mul_right _ shard)
    unfold shardCount at below
    omega
  unfold produce
  rw [held]
  dsimp only
  split
  · exact h
  · refine List.foldlRecOn (motive := R) _ _ ?_ fun a now r own => finish a r own now
    refine List.foldlRecOn (motive := R) _ _ h fun a now r own => ?_
    refine List.foldlRecOn (motive := R) _ _ now fun a now sh shard => ?_
    refine List.foldlRecOn (motive := R) _ _ now fun a now out _ => ?_
    exact List.foldlRecOn (motive := R) _ _ now fun a now b block => make a r sh b out own (inside (List.mem_range.1 shard) block) now

theorem produce_noStep {n : Nat} {s : State} (none : (s.redSet n).step = none) : produce s n = (s, []) := by
  unfold produce
  rw [none]

/-- Only a `REDUCE` step combines. -/
theorem produce_gather {n : Nat} {s : State} {st : RedStep} (held : (s.redSet n).step = some st) (kind : reqKind st.request ≠ 1) :
    produce s n = (s, []) := by
  unfold produce
  rw [held]
  exact if_pos kind

theorem acceptItem_noStep {n : Nat} {s : State} (none : (s.redSet n).step = none) (m : RedMsg) : acceptItem s n m = (s, []) := by
  unfold acceptItem
  rw [none]

/-! ## What a value and a final shard change -/

section
variable {n : Nat} {a : State × List RedMsg} {x : RedStep} (held : (a.1.redSet n).step = some x)
include held

/-- A value that can be made is used once: it is sent on, or is the final block. -/
theorem makeValue_cases (r sh b : Nat) (out : Option Nat × Nat) : makeValue n r sh b out a = a ∨ ∃ (v : MxValue) (u : List Nat),
    (∃ d, makeValue n r sh b out a =
      (setStep (a.1.arith 0x440 (.of v.2)) n { x with used := u }, a.2 ++ [toRole x 2 d r b v.1 0])) ∨
    makeValue n r sh b out a =
      (setStep (a.1.arith 0x440 (.of v.2)) n { x with used := u, finals := kset x.finals (itemKey 0 r b) v.1 }, a.2) := by
  unfold makeValue
  rw [held]
  dsimp only
  split
  · exact .inl rfl
  · split
    · exact .inl rfl
    next v _ =>
      refine .inr ⟨v, sinsert x.used (itemKey out.2 r b), ?_⟩
      split
      next d _ => exact .inl ⟨d, rfl⟩
      · exact .inr rfl

/-- A final shard is written, and its record and next scales go to every member. -/
theorem finishRole_cases (r : Nat) : finishRole n r a = a ∨ ∃ (l : List Nat) (blocks : List MxBlock) (kept scales : List RedMsg) (v : Nat),
    (∀ q ∈ scales, q.phase = 4) ∧ finishRole n r a =
      ((writeResult (setStep a.1 n { x with done := l }) (mxFormat (reqFormat x.request)) (slotAddress a.1 n x r) blocks).setRed n
        fun y => { y with outbox := y.outbox ++ kept }, a.2 ++ toRole x 3 r r r noBlock v :: scales) := by
  unfold finishRole
  rw [held]
  dsimp only
  split
  · exact .inl rfl
  · refine .inr ⟨_, _, _, _, _, fun q from_ => ?_, rfl⟩
    split at from_
    · obtain ⟨e, -, rfl⟩ := List.mem_map.1 from_
      rfl
    · exact absurd from_ List.not_mem_nil

end

/-! ## The step goes on -/

/-- Work of set `n` in which its step, if it has one, goes on. -/
structure SetWorked (n : Nat) (s t : State) : Prop extends SetFrame n s t where
  grown : ∀ x, (s.redSet n).step = some x → ∃ y, (t.redSet n).step = some y ∧ StepGrown (Machine.ownIndex s n) x y

namespace SetWorked

variable {n : Nat} {s t u : State} {x y : RedStep}

theorem refl (n : Nat) (s : State) : SetWorked n s s := ⟨.refl n s, fun x held => ⟨x, held, .refl _ x⟩⟩

theorem trans (h : SetWorked n s t) (k : SetWorked n t u) : SetWorked n s u where
  toSetFrame := h.toSetFrame.trans k.toSetFrame
  grown x held := by
    obtain ⟨y, held', grown⟩ := h.grown x held
    obtain ⟨z, held'', grown'⟩ := k.grown y held'
    rw [h.ownIndex] at grown'
    exact ⟨z, held'', grown.trans grown'⟩

theorem of_put (held : (s.redSet n).step = some x) (put : SetPut n s t y) (grown : StepGrown (Machine.ownIndex s n) x y) : SetWorked n s t :=
  ⟨put.toSetFrame, fun z held' => by
    obtain rfl := Option.some.inj (held.symm.trans held')
    exact ⟨y, put.step, grown⟩⟩

theorem of_quiet (h : SetQuiet n s t) : SetWorked n s t := ⟨h.toSetFrame, fun x held => ⟨x, h.step.trans held, .refl _ x⟩⟩

end SetWorked

theorem itemKey_inj {phase r q b i : Nat} (hb : b < 2 ^ 40) (hi : i < 2 ^ 40) (h : itemKey phase r b = itemKey phase q i) : r = q := by
  unfold itemKey at h
  omega

theorem stepBlocks_lt (st : RedStep) : stepBlocks st < 2 ^ 40 := by
  have small : reqElements st.request < 2 ^ 40 := Nat.mod_lt _ (by decide)
  unfold stepBlocks reqBlocks mxBlocks ceilDiv
  omega

theorem makeValue_worked {n : Nat} {a : State × List RedMsg} {x : RedStep} (held : (a.1.redSet n).step = some x) (r sh : Nat) {b : Nat}
    (out : Option Nat × Nat) (other : x.stopped = true → r ≠ ownIndex a.1 n) (small : b < 2 ^ 40) :
    SetWorked n a.1 (makeValue n r sh b out a).1 := by
  obtain same | ⟨v, u, ⟨d, sent⟩ | final⟩ := makeValue_cases held r sh b out
  · rw [same]
    exact .refl n _
  · rw [sent]
    have quiet := arith_quiet n a.1 (.of v.2)
    refine (SetWorked.of_quiet quiet).trans (.of_put (quiet.step.trans held) (.setStep _ n _) ?_)
    exact ⟨rfl, rfl, rfl, rfl, rfl, fun _ _ h => h, fun _ _ h => h, fun _ _ h => h, fun _ h => h, fun _ _ _ _ h => h⟩
  · rw [final]
    have quiet := arith_quiet n a.1 (.of v.2)
    refine (SetWorked.of_quiet quiet).trans (.of_put (quiet.step.trans held) (.setStep _ n _) ?_)
    rw [quiet.ownIndex]
    refine ⟨rfl, rfl, rfl, rfl, rfl, fun _ _ h => h, fun _ _ h => h, fun _ _ h => h, fun _ h => h, fun late i w low found => ?_⟩
    dsimp only
    rw [kfind_kset, if_neg fun e => other late (itemKey_inj small low e)]
    exact found

theorem finishRole_worked {n : Nat} {a : State × List RedMsg} {x : RedStep} (held : (a.1.redSet n).step = some x) (r : Nat) :
    SetWorked n a.1 (finishRole n r a).1 := by
  obtain same | ⟨l, blocks, kept, scales, v, -, e⟩ := finishRole_cases held r
  · rw [same]
    exact .refl n _
  · rw [e]
    have finished : SetWorked n a.1 (setStep a.1 n { x with done := l }) := .of_put held (.setStep _ n _)
      ⟨rfl, rfl, rfl, rfl, rfl, fun _ _ h => h, fun _ _ h => h, fun _ _ h => h, fun _ h => h, fun _ _ _ _ h => h⟩
    exact (finished.trans (.of_quiet (writeResult_quiet n _ _ _ _))).trans (.of_quiet (SetSent.setOutbox _ n (· ++ kept)).toSetQuiet)

theorem acceptItem_worked (n : Nat) (s : State) (m : RedMsg) : SetWorked n s (acceptItem s n m).1 := by
  cases none : (s.redSet n).step with
  | none =>
    rw [acceptItem_noStep none]
    exact .refl n s
  | some x =>
    obtain ⟨y, taken, put⟩ := acceptItem_takes (m := m) none
    exact .of_put none put taken.grown

/-- A role that this member performs is its own only while the role has not been taken over. -/
theorem ownRoles_stopped {s : State} {n r : Nat} {st : RedStep} (own : r ∈ ownRoles s n st) (late : st.stopped = true) : r ≠ ownIndex s n := by
  unfold ownRoles at own
  dsimp only at own
  rw [late, if_pos rfl, List.nil_append] at own
  obtain ⟨e, inside, rfl⟩ := List.mem_map.1 own
  simpa using (Bool.and_eq_true_iff.1 (List.mem_filter.1 inside).2).2

theorem produce_worked (n : Nat) (s : State) : SetWorked n s (produce s n).1 := by
  cases held : (s.redSet n).step with
  | none =>
    rw [produce_noStep held]
    exact .refl n s
  | some st =>
    refine produce_induct (R := fun a => SetWorked n s a.1) held (.refl n s) (fun a r sh b out own inside now => ?_) fun a r own now => ?_
    · obtain ⟨x, held', grown⟩ := now.grown st held
      refine now.trans (makeValue_worked held' r sh out (fun late => ?_) (inside.trans (stepBlocks_lt st)))
      rw [now.ownIndex]
      exact ownRoles_stopped own (grown.stopped.symm.trans late)
    · obtain ⟨x, held', -⟩ := now.grown st held
      exact now.trans (finishRole_worked held' r)

theorem pump_worked (n k : Nat) (s : State) (ms : List RedMsg) : SetWorked n s (pump n k s ms) :=
  pump_induct (P := SetWorked n s) (Q := fun _ => True) (fun t m now _ => ⟨now.trans (acceptItem_worked n t m), fun _ _ => trivial⟩)
    (fun t m now => now.trans (.of_quiet (SetSent.setOutbox t n (· ++ [m])).toSetQuiet))
    (fun t now => ⟨now.trans (produce_worked n t), fun _ _ => trivial⟩) k (.refl n s) fun _ _ => trivial

/-! ## The items of a unit (R403, R404) -/

/-- The items of one list have one role and one sender, and no two have one index. -/
def OneUnit (own : Nat) (ms : List RedMsg) : Prop :=
  (∀ m ∈ ms, m.member = own) ∧ ms.Pairwise fun m q => q.role = m.role ∧ q.sender = m.sender ∧ q.index ≠ m.index

theorem OneUnit.tail {own : Nat} {m : RedMsg} {ms : List RedMsg} (h : OneUnit own (m :: ms)) : OneUnit own ms :=
  ⟨fun q inside => h.1 q (List.mem_cons_of_mem _ inside), (List.pairwise_cons.1 h.2).2⟩

theorem unitMsgs_oneUnit (n own : Nat) (u : EngineUnit) : OneUnit own (unitMsgs n own u) := by
  unfold unitMsgs
  refine ⟨fun m inside => ?_, ?_⟩
  · obtain ⟨i, -, rfl⟩ := List.mem_map.1 inside
    rfl
  · refine List.pairwise_map.2 (List.nodup_range.imp fun {i j} apart => ⟨rfl, rfl, ?_⟩)
    exact fun e => apart (Nat.add_left_cancel e).symm

/-- One item after the other, to the member itself. -/
def acceptAllItems (n : Nat) (a : State × List RedMsg) (ms : List RedMsg) : State × List RedMsg :=
  ms.foldl (fun a m => ((acceptItem a.1 n m).1, a.2 ++ (acceptItem a.1 n m).2)) a

theorem routeAll_own {s : State} {n : Nat} {ms : List RedMsg} (own : ∀ m ∈ ms, m.member = ownIndex s n) :
    routeAll s n ms = acceptAllItems n (s, []) ms := by
  unfold routeAll acceptAllItems
  exact List.foldl_ext _ _ _ fun a m inside => if_pos (own m inside)

/-- Every item of a unit is held by the step that takes it. -/
theorem acceptAllItems_held {n own : Nat} {ms : List RedMsg} {a : State × List RedMsg} {x : RedStep} (held : (a.1.redSet n).step = some x)
    (mine : ownIndex a.1 n = own) (one : OneUnit own ms) :
    ∃ y, SetPut n a.1 (acceptAllItems n a ms).1 y ∧ StepGrown own x y ∧ ∀ m ∈ ms, ItemHeld own x y m := by
  induction ms generalizing a x with
  | nil => exact ⟨x, .refl held, .refl own x, nofun⟩
  | cons m ms ih =>
    obtain ⟨x', taken, put⟩ := acceptItem_takes (m := m) held
    rw [mine] at taken
    obtain ⟨y, put', grown, items⟩ := ih (a := ((acceptItem a.1 n m).1, a.2 ++ (acceptItem a.1 n m).2)) put.step (put.ownIndex.trans mine)
      one.tail
    refine ⟨y, ⟨put.toSetFrame.trans put'.toSetFrame, put'.step⟩, taken.grown.trans grown, fun q inside => ?_⟩
    obtain rfl | inside := List.mem_cons.1 inside
    · exact grown.itemHeld taken.stopped taken.itemHeld
    · obtain ⟨role, sender, apart⟩ := (List.pairwise_cons.1 one.2).1 q inside
      exact taken.before role sender apart (items q inside)

/-- A unit's items are held by the step when nothing more happens in the member. -/
theorem pump_held {n k : Nat} {s : State} {x : RedStep} {ms : List RedMsg} (held : (s.redSet n).step = some x) (one : OneUnit (ownIndex s n) ms) :
    ∃ y, SetPut n s (pump n (k + 1) s ms) y ∧ StepGrown (ownIndex s n) x y ∧ ∀ m ∈ ms, ItemHeld (ownIndex s n) x y m := by
  obtain ⟨y, put, grown, items⟩ := acceptAllItems_held (a := (s, [])) held rfl one
  rw [← routeAll_own one.1] at put
  have rest : SetWorked n (routeAll s n ms).1 (pump n (k + 1) s ms) := by
    rw [pump]
    split
    · exact produce_worked n _
    · exact (produce_worked n _).trans (pump_worked n k _ _)
  obtain ⟨z, held', grown'⟩ := rest.grown y put.step
  rw [put.ownIndex] at grown'
  exact ⟨z, ⟨put.toSetFrame.trans rest.toSetFrame, held'⟩, grown.trans grown', fun m inside => grown'.itemHeld grown.stopped (items m inside)⟩

end Sys2Proof.Machine

end

section
/-! PROOF. How a step ends: complete, missed, aborted, or in FAULTED (R396, R408, R409). -/

namespace Sys2Proof.Machine
open Sys2Proof

/-! ## A case of a reduction (R417, R583) -/

/-- Entries of a record area but its first case: the flag is set, and what is not counted reads as before. -/
theorem record_dget_other (s : State) {idx flag sub : Nat} {counts : List (Nat × Nat)} (first : Option Nat) (h : idx ≠ 0x50D0)
    (small : sub < 256) (notCount : ∀ c ∈ counts, c.1 < 256 ∧ c.1 ≠ sub) (notFirst : firstSub idx ≠ some sub) :
    (s.record idx flag counts first).dget idx sub = if sub = 1 then setBit (s.dget idx 1) flag else s.dget idx sub := by
  have counted : (counts.foldl (fun t c => t.dcount idx c.1 c.2) s).dget idx sub = s.dget idx sub := by
    refine List.foldlRecOn (motive := fun t : State => t.dget idx sub = s.dget idx sub) counts _ rfl fun t now c inside => ?_
    rw [State.dcount_dget_other _ _ _ _ _ _ (notCount c inside).1 small (.inr (notCount c inside).2), now]
  have firstCase (t : State) (v : Nat) : (t.recordFirst idx v).dget idx sub = t.dget idx sub := by
    unfold State.recordFirst
    split
    · rfl
    next sub' e =>
      split
      · exact State.dset_dget_other _ _ _ _ _ _ (firstSub_lt e) small (.inr fun k => notFirst (by rw [e, k]))
      · rfl
  unfold State.record State.recordWith
  dsimp only
  rw [log_indexKept _ _ _ _ _ _ idx sub small (by simp [h]), State.dset_dget _ _ _ _ _ _ (by decide) small]
  by_cases flags : sub = 1
  · subst flags
    rw [if_pos ⟨rfl, rfl⟩, if_pos rfl]
    cases first with
    | none => rw [counted]
    | some v => rw [firstCase, counted]
  · rw [if_neg (fun e => flags e.2.symm), if_neg flags]
    cases first with
    | none => rw [counted]
    | some v => rw [firstCase, counted]

theorem bit_setBit (v i k : Nat) : bit (setBit v i) k = (bit v k || decide (i = k)) := by
  simp [bit, setBit, Nat.testBit_two_pow]

/-- What a case of a reduction leaves in its record area: its flag is set, and no other is cleared. -/
structure CaseNoted (s t : State) (flag : Nat) : Prop where
  only : RecordOnly s t
  index : IndexKept s t [0x5090, 0x50D0]
  flag : bit (t.dget 0x5090 1) flag = true
  flags : ∀ k, bit (s.dget 0x5090 1) k = true → bit (t.dget 0x5090 1) k = true

theorem record_noted (s : State) (flag : Nat) {counts : List (Nat × Nat)} (v : Nat) (small : ∀ c ∈ counts, c.1 < 256 ∧ c.1 ≠ 1) :
    CaseNoted s (s.record 0x5090 flag counts (some v)) flag where
  only := record_recordOnly ..
  index := record_indexKept _ _ _ _ fun c inside => (small c inside).1
  flag := record_flag _ _ _ (by decide)
  flags k set := by
    rw [record_dget_other s _ (by decide) (by decide) small (by decide), if_pos rfl, bit_setBit, set, Bool.true_or]

/-- A counter of another case stands. -/
theorem record_counter (s : State) (flag c v : Nat) {sub : Nat} (small : sub < 256) (low : c < 256) (apart : sub ∉ [1, 8, c]) :
    (s.record 0x5090 flag [(c, 1)] (some v)).dget 0x5090 sub = s.dget 0x5090 sub := by
  simp only [List.mem_cons, List.not_mem_nil, or_false, not_or] at apart
  obtain ⟨notFlags, notFirst, other⟩ := apart
  rw [record_dget_other s _ (by decide) small (by simp [low, Ne.symm other]) (by simpa [firstSub] using Ne.symm notFirst),
    if_neg notFlags]

namespace CaseNoted

variable {s t : State} {flag : Nat}

theorem setOnly (h : CaseNoted s t flag) (n : Nat) : SetOnly n s t := .of_recordOnly h.only (h.index.mono (by simp))

end CaseNoted

/-! ## A step that has ended -/

/-- What even the end of a step leaves of its set: the table and the requests that wait, and the cases that were recorded. -/
structure SetHeld (n : Nat) (s t : State) : Prop where
  power : t.power = s.power
  members : (t.redSet n).members = (s.redSet n).members
  waiting : (t.redSet n).waiting = (s.redSet n).waiting
  cases : ∀ sub, sub < 256 → t.dget 0x5090 sub = s.dget 0x5090 sub

namespace SetHeld

variable {n : Nat} {s t u : State}

theorem trans (h : SetHeld n s t) (k : SetHeld n t u) : SetHeld n s u :=
  ⟨k.power.trans h.power, k.members.trans h.members, k.waiting.trans h.waiting, fun sub small => (k.cases sub small).trans (h.cases sub small)⟩

theorem memberOf (h : SetHeld n s t) (m : Nat) : memberOf t n m = memberOf s n m := by
  simp only [Machine.memberOf, h.members]

end SetHeld

theorem SetFrame.setHeld {n : Nat} {s t : State} (h : SetFrame n s t) : SetHeld n s t := ⟨h.power, h.members, h.waiting, h.cases⟩

/-- The end of a step changes its set, and the flow that brings requests. -/
theorem concludeStep_eq (s : State) (n r v : Nat) : ∃ f x, concludeStep s n r v = (s.setRed n fun x =>
    { x with step := none, lastStep := some (reqStep r), summaries := x.summaries ++ [v] }).setFlow f x := ⟨_, _, rfl⟩

theorem concludeStep_redSet (s : State) (n r v : Nat) : (concludeStep s n r v).redSet n =
    { s.redSet n with step := none, lastStep := some (reqStep r), summaries := (s.redSet n).summaries ++ [v] } := by
  obtain ⟨f, x, e⟩ := concludeStep_eq s n r v
  rw [e, redSet_congr (State.setFlow_sets ..), setRed_redSet_same]

theorem concludeStep_mem (s : State) (n r v : Nat) : (concludeStep s n r v).mem = s.mem := by
  obtain ⟨f, x, e⟩ := concludeStep_eq s n r v
  rw [e, State.setFlow_mem, State.setRed_mem]

theorem concludeStep_power (s : State) (n r v : Nat) : (concludeStep s n r v).power = s.power := by
  obtain ⟨f, x, e⟩ := concludeStep_eq s n r v
  rw [e, State.setFlow_power, State.setRed_power]

theorem concludeStep_dget (s : State) (n r v idx sub : Nat) : (concludeStep s n r v).dget idx sub = s.dget idx sub := by
  refine State.dget_congr ?_ (by rw [concludeStep_power]) idx sub
  obtain ⟨f, x, e⟩ := concludeStep_eq s n r v
  rw [e, State.setFlow_dict, State.setRed_dict]

theorem concludeStep_held (s : State) (n r v : Nat) : SetHeld n s (concludeStep s n r v) :=
  ⟨concludeStep_power .., by rw [concludeStep_redSet], by rw [concludeStep_redSet], fun _ _ => concludeStep_dget ..⟩

theorem concludeStep_concluded {s t : State} {n : Nat} (only : SetOnly n s t) (r v : Nat) : Concluded s (concludeStep t n r v) n r v := by
  unfold Concluded
  rw [concludeStep_redSet, only.summaries]
  exact ⟨rfl, rfl, rfl⟩

section
variable {n r v : Nat} {s t u : State}

/-- Once a step has ended, what is sent does not change how. -/
theorem Concluded.quiet (h : Concluded s t n r v) (k : SetQuiet n t u) : Concluded s u n r v := by
  obtain ⟨step, last, summaries⟩ := h
  exact ⟨k.step.trans step, k.lastStep.trans last, k.summaries.trans summaries⟩

/-- Nor does it matter what happened of the set before but its summaries. -/
theorem Concluded.of_only (h : Concluded t u n r v) (k : SetOnly n s t) : Concluded s u n r v := by
  obtain ⟨step, last, summaries⟩ := h
  exact ⟨step, last, by rw [summaries, k.summaries]⟩

end

/-! ## What follows a change of a set -/

theorem acceptNext_idle {s : State} {n : Nat} (idle : (s.redSet n).waiting = []) : acceptNext s n = s := by
  unfold acceptNext
  rw [idle]
  split
  next h => cases h
  · rfl

theorem acceptNext_busy {s : State} {n : Nat} (busy : (s.redSet n).step ≠ none) : acceptNext s n = s := by
  unfold acceptNext
  split
  next none _ => exact absurd none busy
  · rfl

/-- Where no request waits, only what waits to be sent is sent. -/
theorem settleSet_sent {s : State} {n : Nat} (idle : (s.redSet n).waiting = []) : SetSent n s (settleSet s n) := by
  have sent := flush_sent n s
  have still : ((flush s n).redSet n).waiting = [] := sent.waiting.trans idle
  rw [settleSet, acceptAll, acceptNext_idle still, acceptNext_idle still]
  exact sent

/-! ## The end of a complete step (R396, R410) -/

theorem sumStatus_summaryOf (s : State) (n r : Nat) {status : Nat} (small : status < 16) (late : Bool)
    (total first bumps substituted vacant : Nat) :
    sumStatus (summaryOf s n r status late total first bumps substituted vacant) = status := by
  have one (b : Bool) : b2n b ≤ 1 := by cases b <;> decide
  unfold sumStatus summaryOf bits
  dsimp only
  generalize veto : (status == 1 || status == 3 || (s.red n 0xB == 1 && total != 0)) = w
  have late1 := one late
  have veto1 := one w
  omega

theorem keepForLate_sent (s : State) (n : Nat) (st : RedStep) : SetSent n s (keepForLate s n st) := SetSent.setOutbox s n (· ++ _)

section
variable {s : State} {n : Nat} {st : RedStep} (held : (s.redSet n).step = some st)
include held

theorem completeStep_not (more : stepComplete s n st = false) : completeStep s n = s := by
  unfold completeStep
  rw [held]
  dsimp only
  rw [more]
  rfl

/-- A complete step ends with status 0. -/
theorem completeStep_done (done : stepComplete s n st = true) : ∃ v, sumStatus v = 0 ∧
    (reqKind st.request = 2 → v = emptySummary s n st.request 0 false 0) ∧
    completeStep s n = concludeStep (keepForLate s n st) n st.request v := by
  unfold completeStep
  rw [held]
  dsimp only
  rw [if_pos done]
  refine ⟨_, ?_, fun kind => if_pos kind, rfl⟩
  split
  · exact sumStatus_summaryOf s n _ (by decide) ..
  · exact sumStatus_summaryOf s n _ (by decide) ..

end

theorem completeStep_mem (s : State) (n : Nat) : (completeStep s n).mem = s.mem := by
  unfold completeStep
  split
  · rfl
  · dsimp only
    split
    · rw [concludeStep_mem, (keepForLate_sent s n _).mem]
    · rfl

theorem advance_mem (s : State) (n : Nat) (ms : List RedMsg) : (advance s n ms).mem = (pump n 64 s ms).mem :=
  (completeStep_mem _ n).trans (flush_sent n _).mem

/-- Values are made and sent as far as they go: the step goes on with the items, or has ended with status 0. -/
theorem advance_cases {s : State} {n : Nat} {x : RedStep} (held : (s.redSet n).step = some x) (ms : List RedMsg) :
    SetHeld n s (advance s n ms) ∧ ∃ y, StepGrown (ownIndex s n) x y ∧
      (OneUnit (ownIndex s n) ms → ∀ m ∈ ms, ItemHeld (ownIndex s n) x y m) ∧
      (((advance s n ms).redSet n).step = some y ∨ ∃ v, Concluded s (advance s n ms) n x.request v ∧ sumStatus v = 0) := by
  have worked := pump_worked n 64 s ms
  obtain ⟨y, held', grown⟩ := worked.grown x held
  have items : OneUnit (ownIndex s n) ms → ∀ m ∈ ms, ItemHeld (ownIndex s n) x y m := fun one => by
    obtain ⟨z, put, -, items⟩ := pump_held (k := 63) held one
    obtain rfl := Option.some.inj (held'.symm.trans put.step)
    exact items
  have sent := flush_sent n (pump n 64 s ms)
  have only := worked.toSetFrame.trans sent.toSetFrame
  rw [advance]
  generalize flush (pump n 64 s ms) n = t at sent only ⊢
  have held'' : (t.redSet n).step = some y := sent.step.trans held'
  cases done : stepComplete t n y with
  | false =>
    rw [completeStep_not held'' done]
    exact ⟨only.setHeld, y, grown, items, .inl held''⟩
  | true =>
    obtain ⟨v, status, -, e⟩ := completeStep_done held'' done
    have late := only.trans (keepForLate_sent t n y).toSetFrame
    rw [e, grown.request]
    exact ⟨late.setHeld.trans (concludeStep_held _ n _ v), y, grown, items, .inr ⟨v, concludeStep_concluded late.toSetOnly _ v, status⟩⟩

/-! ## A step that is missed (R408) -/

theorem missStep_concluded {s : State} {n : Nat} {st : RedStep} (held : (s.redSet n).step = some st) :
    Concluded s (missStep s n) n st.request (emptySummary s n st.request 3 false 0) ∧ bit ((missStep s n).dget 0x5090 1) 5 = true ∧
      (missStep s n).mem = s.mem ∧ ((missStep s n).redSet n).waiting = (s.redSet n).waiting := by
  unfold missStep
  rw [held]
  dsimp only
  have noted := record_noted s 5 (counts := []) (redCase 5 n (reqStep st.request) (ownIndex s n)) (by simp)
  generalize s.record 0x5090 5 [] (some (redCase 5 n (reqStep st.request) (ownIndex s n))) = t at noted ⊢
  have dropped := SetSent.setOutbox t n fun l => l.filter (·.late)
  generalize t.setRed n _ = d at dropped ⊢
  have held := concludeStep_held d n st.request (emptySummary s n st.request 3 false 0)
  refine ⟨concludeStep_concluded ((noted.setOnly n).trans dropped.toSetOnly) _ _, ?_, ?_, ?_⟩
  · rw [concludeStep_dget, dropped.cases 1 (by decide)]
    exact noted.flag
  · rw [concludeStep_mem, dropped.mem, noted.only.mem]
  · exact held.waiting.trans (dropped.waiting.trans (noted.setOnly n).waiting)

/-! ## A step that is aborted (R409) -/

theorem takeGranule_quiet {n c : Nat} (near : n < 8) (low : c < 4) (s : State) (k : Nat) (p : Capture) (g : Nat) :
    SetQuiet n s (takeGranule s c k p g) := by
  have kept : SetQuiet n s (s.setCairn c fun y => { y with slots := kset y.slots k (p.take g (granuleBytes s c g)) }) := by
    have index := setCairn_indexKept s c fun y => { y with slots := kset y.slots k (p.take g (granuleBytes s c g)) }
    refine ⟨⟨⟨rfl, rfl, rfl, index.mono ?_, fun sub small => index _ _ small (by simp; omega), rfl, rfl, rfl, rfl⟩,
      fun sub small => index _ _ small (by simp; omega), fun _ _ => rfl⟩, rfl⟩
    have one : c = 0 ∨ c = 1 ∨ c = 2 ∨ c = 3 := by omega
    obtain rfl | rfl | rfl | rfl := one <;> simp [setAreas]
  unfold takeGranule
  dsimp only
  split
  · exact kept.trans (.record _ _ _ (by simp) (by simp))
  · exact kept

theorem copyFirst_quiet {n : Nat} (near : n < 8) (s : State) (gs : List Nat) : SetQuiet n s (copyFirst s gs) := by
  unfold copyFirst
  refine List.foldlRecOn (motive := SetQuiet n s) _ _ (.refl n s) fun t now c inside => ?_
  refine now.trans (.foldl _ (fun u g => ?_) gs t)
  split
  · split
    · exact .refl n u
    · split
      · exact .refl n u
      · exact takeGranule_quiet near (List.mem_range.1 inside) u _ _ _
  · exact .refl n u

theorem copyFirst_idle {s : State} (idle : ∀ c, c < 4 → (s.cairnOf c).copying = none) (gs : List Nat) : copyFirst s gs = s := by
  unfold copyFirst
  refine List.foldlRecOn (motive := fun t => t = s) _ _ rfl fun t now c inside => ?_
  subst now
  refine List.foldl_fixed' (fun g => if_neg ?_) gs
  have none : pendingGranules t c = [] := by rw [pendingGranules, idle c (List.mem_range.1 inside)]
  rw [none]
  exact Bool.false_ne_true

/-- The notices of an aborting member wait to be sent, and its step is over. -/
def stopNotified (s : State) (n r : Nat) : State :=
  let notices := (partners s n).map fun m => (⟨m, reqStep r * 2 ^ 480 + 2 ^ 12, 6, m, ownIndex s n, 0, noBlock, 0, false⟩ : RedMsg)
  s.setRed n fun y => { y with step := none, outbox := y.outbox.filter (·.late) ++ notices }

/-- Slot 0 of its result reads zeros, where the request names one. -/
def stopZeroed (s : State) (n r : Nat) (x : Option Ctx) : State :=
  let k := shardCount (reqBlocks r) (s.red n 2) (ownIndex s n)
  match x with
  | some x => if reqKind r = 1 then
      let at_ := redAddress x (reqResult r) 0
      writeShard (copyFirst (stopNotified s n r) (byteGranules at_ (shardBytes k))) at_ (List.replicate k ⟨0, 0x7F, false, false⟩)
    else stopNotified s n r
  | none => stopNotified s n r

/-- The notices have been sent as far as they go, and the case is recorded. -/
def stopNoted (s : State) (n r member : Nat) (x : Option Ctx) : State :=
  (flush (stopZeroed s n r x) n).record 0x5090 1 [(2, 1)] (some (redCase 1 n (reqStep r) member))

theorem stopStep_eq (s : State) (n r member vacant : Nat) (x : Option Ctx) : stopStep s n r member vacant x =
    if s.red n 0xA = 0 then concludeStep (stopNoted s n r member x) n r (emptySummary s n r 1 false vacant)
    else enterFaulted (stopNoted s n r member x) 8 (redCase 1 n (reqStep r) member) := rfl

theorem stopNotified_frame (s : State) (n r : Nat) : SetFrame n s (stopNotified s n r) := by
  unfold stopNotified
  exact .setRed rfl

theorem stopZeroed_quiet {n : Nat} (near : n < 8) (s : State) (r : Nat) (x : Option Ctx) :
    SetQuiet n (stopNotified s n r) (stopZeroed s n r x) := by
  unfold stopZeroed
  split
  · dsimp only
    split
    · exact (copyFirst_quiet near _ _).trans (.writeShard n _ _ _)
    · exact .refl n _
  · exact .refl n _

/-- What an abort leaves before its policy is applied (R409). -/
theorem stopNoted_frame {n : Nat} (near : n < 8) (s : State) (r member : Nat) (x : Option Ctx) :
    ∃ b, SetFrame n s b ∧ b.mem = (stopZeroed s n r x).mem ∧
      stopNoted s n r member x = b.record 0x5090 1 [(2, 1)] (some (redCase 1 n (reqStep r) member)) := by
  have sent := flush_sent n (stopZeroed s n r x)
  exact ⟨_, (stopNotified_frame s n r).trans ((stopZeroed_quiet near s r x).toSetFrame.trans sent.toSetFrame), sent.mem, rfl⟩

/-- The step of request `r` has been aborted, and its set stands (R409). -/
structure Aborted (n : Nat) (s t : State) (r vacant : Nat) : Prop where
  concluded : Concluded s t n r (emptySummary s n r 1 false vacant)
  flags : bit (t.dget 0x5090 1) 1 = true ∧ ∀ k, bit (s.dget 0x5090 1) k = true → bit (t.dget 0x5090 1) k = true
  count : t.dget 0x5090 2 = countUp (entryBytes 0x5090 2) (s.dget 0x5090 2) 1
  rejected : t.dget 0x5090 6 = s.dget 0x5090 6
  members : (t.redSet n).members = (s.redSet n).members
  waiting : (t.redSet n).waiting = (s.redSet n).waiting

theorem Aborted.sent {n r vacant : Nat} {s t u : State} (h : Aborted n s t r vacant) (k : SetQuiet n t u) : Aborted n s u r vacant where
  concluded := Concluded.quiet h.concluded k
  flags := by rw [k.cases 1 (by decide)]; exact h.flags
  count := (k.cases 2 (by decide)).trans h.count
  rejected := (k.cases 6 (by decide)).trans h.rejected
  members := k.members.trans h.members
  waiting := k.waiting.trans h.waiting

theorem stopStep_aborted {n : Nat} (near : n < 8) {s : State} (policy : s.red n 0xA = 0) (r member vacant : Nat) (x : Option Ctx) :
    Aborted n s (stopStep s n r member vacant x) r vacant ∧ (stopStep s n r member vacant x).mem = (stopZeroed s n r x).mem := by
  obtain ⟨b, frame, mem, e⟩ := stopNoted_frame near s r member x
  rw [stopStep_eq, if_pos policy, e]
  have noted := record_noted b 1 (counts := [(2, 1)]) (redCase 1 n (reqStep r) member) (by simp)
  have count := record_count b (flag := 1) (n := 1) (sub := 2) (some (redCase 1 n (reqStep r) member)) (idx := 0x5090) (by decide) (by decide)
    (by decide) (by decide)
  have other := record_counter b 1 2 (redCase 1 n (reqStep r) member) (sub := 6) (by decide) (by decide) (by decide)
  generalize b.record 0x5090 1 [(2, 1)] (some (redCase 1 n (reqStep r) member)) = t at noted count other ⊢
  have only := frame.toSetOnly.trans (noted.setOnly n)
  have held := concludeStep_held t n r (emptySummary s n r 1 false vacant)
  have concluded := concludeStep_concluded only r (emptySummary s n r 1 false vacant)
  have same := concludeStep_mem t n r (emptySummary s n r 1 false vacant)
  generalize concludeStep t n r (emptySummary s n r 1 false vacant) = d at held concluded same ⊢
  refine ⟨⟨concluded, ?_, ?_, ?_, held.members.trans only.members, held.waiting.trans only.waiting⟩, same.trans (noted.only.mem.trans mem)⟩
  · rw [held.cases 1 (by decide), ← frame.cases 1 (by decide)]
    exact ⟨noted.flag, noted.flags⟩
  · rw [held.cases 2 (by decide), count, frame.cases 2 (by decide)]
  · rw [held.cases 6 (by decide), other, frame.cases 6 (by decide)]

/-- A shard of zeros is written where no copy has still to read its granules. -/
theorem stopZeroed_zeroes {s : State} (idle : ∀ c, c < 4 → (s.cairnOf c).copying = none) (n : Nat) {r i : Nat} {x : Ctx}
    (kind : reqKind r = 1) (inside : i < 32 * shardCount (reqBlocks r) (s.red n 2) (ownIndex s n)) :
    memByte (stopZeroed s n r (some x)).mem (redAddress x (reqResult r) 0 + i) = 0 := by
  have still : ∀ c, c < 4 → ((stopNotified s n r).cairnOf c).copying = none := idle
  unfold stopZeroed
  dsimp only
  rw [if_pos kind, copyFirst_idle still, writeShard]
  generalize shardCount (reqBlocks r) (s.red n 2) (ownIndex s n) = k at inside ⊢
  have elems : ((List.replicate k (⟨0, 0x7F, false, false⟩ : MxBlock)).flatMap fun b =>
      (leBytes 32 b.elems).map fun x => (x, b.poison)) = List.replicate (k * 32) ((0 : Byte), false) := by
    rw [List.flatMap_replicate, show ((leBytes 32 0).map fun x => (x, false)) = List.replicate 32 ((0 : Byte), false) from by decide]
    exact List.flatten_replicate_replicate
  have above : 32 * k ≤ ceilDiv (32 * k) 4096 * 4096 := by
    unfold ceilDiv
    omega
  rw [writeTagged_mem, memByte_memWrite_other, writeTagged_mem, memByte_memWrite, elems]
  · rw [if_pos (by simp; omega)]
    simp only [List.map_replicate, List.getD_eq_getElem?_getD, List.getElem?_replicate]
    split <;> rfl
  · left
    rw [List.length_replicate]
    omega

/-! ## A step that is aborted under the fault policy (R409, R567) -/

/-- No set has a step, a request or anything to send. -/
def SetsBare (s : State) : Prop := ∀ n, ((s.redSet n).step = none ∧ (s.redSet n).outbox = []) ∧ (s.redSet n).waiting = []

theorem setsBare_of_sets {s t : State} (h : t.sets = s.sets) (bare : SetsBare s) : SetsBare t := fun n => by
  rw [redSet_congr h]
  exact bare n

/-- A table of sets that keep their members alone. -/
theorem setsBare_of_map {s : State} {l : List (Nat × RedSet)}
    (h : s.sets = l.map fun e => (e.1, { RedSet.empty with members := e.2.members })) : SetsBare s := by
  intro n
  have found : ∀ m : List (Nat × RedSet), ∃ ms,
      kget RedSet.empty (m.map fun e => (e.1, { RedSet.empty with members := e.2.members })) n = { RedSet.empty with members := ms } := by
    intro m
    induction m with
    | nil => exact ⟨[], rfl⟩
    | cons e m ih =>
      rw [List.map_cons, kget, kfind_cons]
      split
      · exact ⟨e.2.members, rfl⟩
      · exact ih
  obtain ⟨ms, e⟩ := found l
  rw [State.redSet, h, e]
  exact ⟨⟨rfl, rfl⟩, rfl⟩

/-- A fold of operations that leave the table of sets alone. -/
theorem foldl_sets {β : Type} (f : State → β → State) (same : ∀ t e, (f t e).sets = t.sets) (l : List β) (u : State) :
    (l.foldl f u).sets = u.sets :=
  foldl_related (fun a b : State => b.sets = a.sets) (fun _ => rfl) (fun h k => k.trans h) f same l u

theorem slabsLost_bare (s : State) : SetsBare (slabsLost s) := by
  unfold slabsLost
  dsimp only
  generalize loseBlocks _ _ = d
  exact setsBare_of_sets (foldl_sets _ (fun t c => State.setCairn_sets t c _) _ _) (setsBare_of_map (l := d.sets) rfl)

theorem closeFlow_sets (s : State) (f reason : Nat) : (closeFlow s f reason).sets = s.sets := by
  unfold closeFlow
  dsimp only
  split
  · rfl
  · split <;> rfl

theorem emptyTenants_sets (s : State) : (emptyTenants s).sets = s.sets := by
  unfold emptyTenants
  dsimp only
  rw [foldl_sets _ (fun t p => State.dclear_sets t (0x6060 + p) 5),
    foldl_sets _ (fun t i => (setTenantState_noticeFrame t i 0).sets)]

theorem identityReset_sets (s : State) (ident : Nat) : (identityReset s ident).sets = s.sets := by
  unfold identityReset
  exact foldl_sets _ (fun t cd => (resetDir_quiet t ident cd).1.sets) allDirs s

theorem enterFaulted_bare {s : State} (h : s.power.state ≠ .faulted) (cause detail : Nat) : SetsBare (enterFaulted s cause detail) := by
  rw [enterFaulted_eq h]
  dsimp only
  generalize writeFault { s with power := { s.power with
      followUp := s.power.followUp || resetsAfter cause, state := .faulted } } cause detail = a
  have closed : SetsBare (closeFlows (slabsLost a) 7 fun _ x => x.state != flowClosed) :=
    setsBare_of_sets (foldl_sets _ (fun t (e : Nat × Flow) => closeFlow_sets t e.1 7) _ _) (slabsLost_bare a)
  generalize closeFlows (slabsLost a) 7 (fun _ x => x.state != flowClosed) = b at closed ⊢
  have ended : SetsBare (if b.power.request.isSome then endRequest b 5 else b) := by
    split
    · exact setsBare_of_sets rfl closed
    · exact closed
  generalize (if b.power.request.isSome then endRequest b 5 else b) = d at ended ⊢
  refine setsBare_of_sets (faultNotices_quiet _ _ cause detail).1.sets ?_
  exact setsBare_of_sets (foldl_sets _ (fun t i => identityReset_sets t (6 + i)) _ _) (setsBare_of_sets (emptyTenants_sets d) ended)

theorem enterFaulted_cause {s : State} (h : s.power.state ≠ .faulted) (cause detail : Nat) :
    (enterFaulted s cause detail).power.state = .faulted ∧ (enterFaulted s cause detail).dget 0x5000 1 = cause := by
  have reset := enterFaulted_slabsReset h cause detail
  exact ⟨reset.state, (reset.cells 1 (by simp)).trans (writeFault_dget _ cause detail).1⟩

/-- The module is in FAULTED for its reduction policy, and none of its sets has anything left to do. -/
structure RedFaulted (t : State) : Prop where
  state : t.power.state = .faulted
  cause : t.dget 0x5000 1 = 8
  bare : SetsBare t

theorem stopStep_faults {n : Nat} (near : n < 8) {s : State} (policy : s.red n 0xA ≠ 0) (up : s.power.state ≠ .faulted) (r member vacant : Nat)
    (x : Option Ctx) : RedFaulted (stopStep s n r member vacant x) := by
  obtain ⟨b, frame, -, e⟩ := stopNoted_frame near s r member x
  rw [stopStep_eq, if_neg policy, e]
  have noted := record_noted b 1 (counts := [(2, 1)]) (redCase 1 n (reqStep r) member) (by simp)
  generalize b.record 0x5090 1 [(2, 1)] (some (redCase 1 n (reqStep r) member)) = t at noted ⊢
  have still : t.power.state ≠ .faulted := by
    rw [noted.only.power, frame.power]
    exact up
  obtain ⟨state, cause⟩ := enterFaulted_cause still 8 (redCase 1 n (reqStep r) member)
  exact ⟨state, cause, enterFaulted_bare still 8 _⟩

theorem RedFaulted.settled {t : State} (h : RedFaulted t) (n : Nat) : (settleSet t n).power.state = .faulted ∧
    (settleSet t n).dget 0x5000 1 = 8 := by
  have sent := settleSet_sent (h.bare n).2
  exact ⟨by rw [sent.power]; exact h.state, (sent.index 0x5000 1 (by decide) (by decide)).trans h.cause⟩

end Sys2Proof.Machine

end

section
/-! PROOF. Where the blocks of a gather go (R392, R414). -/

namespace Sys2Proof.Machine
open Sys2Proof

/-! ## Rising lists of indices -/

theorem sinsert_rising {l : List Nat} (rising : l.Pairwise (· < ·)) (k : Nat) : (sinsert l k).Pairwise (· < ·) := by
  induction l with
  | nil => exact List.pairwise_singleton ..
  | cons j r ih =>
    obtain ⟨above, rest⟩ := List.pairwise_cons.1 rising
    rw [sinsert]
    split
    next lt =>
      refine List.pairwise_cons.2 ⟨fun i inside => ?_, rising⟩
      obtain rfl | inside := List.mem_cons.1 inside
      · exact lt
      · exact lt.trans (above i inside)
    · split
      · exact rising
      next notLess notSame =>
        refine List.pairwise_cons.2 ⟨fun i inside => ?_, ih rest⟩
        obtain rfl | inside := mem_sinsert.1 inside
        · omega
        · exact above i inside

/-- A list of indices has the members of another one, and rises where that one rises. -/
def SameIndices (g h : List Nat) : Prop := (∀ i, i ∈ h ↔ i ∈ g) ∧ (g.Pairwise (· < ·) → h.Pairwise (· < ·))

theorem SameIndices.sinsert {g h : List Nat} (same : SameIndices g h) {k : Nat} (old : k ∈ g) : SameIndices g (sinsert h k) := by
  refine ⟨fun i => ?_, fun rising => sinsert_rising (same.2 rising) k⟩
  rw [mem_sinsert, same.1]
  exact ⟨fun e => e.elim (fun e => e ▸ old) id, .inr⟩

theorem SameIndices.length {g h : List Nat} (same : SameIndices g h) (rising : g.Pairwise (· < ·)) : h.length = g.length :=
  ((List.perm_ext_iff_of_nodup (List.Pairwise.imp Nat.ne_of_lt (same.2 rising)) (List.Pairwise.imp Nat.ne_of_lt rising)).2 same.1).length_eq

/-! ## The places of a gathered block -/

/-- Memory once an item of a gather stands in the result of `blocks` blocks at `a`. -/
def gatherMem (w : List Host.Cell) (a blocks : Nat) (m : RedMsg) : List Host.Cell :=
  memWrite (memWrite w (a + 32 * m.index) (leBytes 32 m.item.elems)) (a + ceilDiv (32 * blocks) 4096 * 4096 + m.index)
    [BitVec.ofNat 8 m.item.scale]

theorem gatherWritten_mem (t : State) (a blocks : Nat) (m : RedMsg) : (gatherWritten t a blocks m).mem = gatherMem t.mem a blocks m := by
  have plain : ((leBytes 32 m.item.elems).map fun x => (x, m.item.poison)).map (·.1) = leBytes 32 m.item.elems := by
    rw [List.map_map]
    exact List.map_id _
  rw [gatherWritten, writeTagged_mem, writeTagged_mem, plain]
  rfl

/-- The scales begin above the elements of all blocks. -/
theorem elements_le_scales (blocks : Nat) : 32 * blocks ≤ ceilDiv (32 * blocks) 4096 * 4096 := by
  unfold ceilDiv
  omega

section
variable (w : List Host.Cell) (a : Nat) {blocks : Nat} {m : RedMsg}

theorem gatherMem_elements (low : m.index < blocks) : memRead (gatherMem w a blocks m) (a + 32 * m.index) 32 = leBytes 32 m.item.elems := by
  have above := elements_le_scales blocks
  have written := memRead_memWrite w (a + 32 * m.index) (leBytes 32 m.item.elems)
  rw [leBytes_length] at written
  refine (memRead_congr fun i inside => ?_).trans written
  rw [gatherMem, memByte_memWrite_other]
  omega

theorem gatherMem_elements_other {i : Nat} (low : i < blocks) (other : i ≠ m.index) :
    memRead (gatherMem w a blocks m) (a + 32 * i) 32 = memRead w (a + 32 * i) 32 := by
  have above := elements_le_scales blocks
  refine memRead_congr fun j inside => ?_
  rw [gatherMem, memByte_memWrite_other _ _ (by omega), memByte_memWrite_other]
  rw [leBytes_length]
  omega

theorem gatherMem_scale : memByte (gatherMem w a blocks m) (a + ceilDiv (32 * blocks) 4096 * 4096 + m.index) = BitVec.ofNat 8 m.item.scale := by
  rw [gatherMem, memByte_memWrite, if_pos (by simp), Nat.sub_self]
  rfl

theorem gatherMem_scale_other {i : Nat} (low : m.index < blocks) (other : i ≠ m.index) :
    memByte (gatherMem w a blocks m) (a + ceilDiv (32 * blocks) 4096 * 4096 + i) =
      memByte w (a + ceilDiv (32 * blocks) 4096 * 4096 + i) := by
  have above := elements_le_scales blocks
  rw [gatherMem, memByte_memWrite_other _ _ (by rw [List.length_singleton]; omega), memByte_memWrite_other]
  rw [leBytes_length]
  omega

theorem gatherMem_outside {x : Nat} (low : m.index < blocks) (outside : x < a ∨ a + shardBytes blocks ≤ x) :
    memByte (gatherMem w a blocks m) x = memByte w x := by
  have above := elements_le_scales blocks
  unfold shardBytes at outside
  rw [gatherMem, memByte_memWrite_other _ _ (by rw [List.length_singleton]; omega), memByte_memWrite_other]
  rw [leBytes_length]
  omega

end

/-! ## The items of a gather, one after the other -/

/-- What the items of a gather have made of the indices gathered and of memory: each that was not held stands at its place. -/
structure ItemsGathered (a blocks : Nat) (ms : List RedMsg) (g g' : List Nat) (w w' : List Host.Cell) : Prop where
  mem_gathered : ∀ i, i ∈ g' ↔ i ∈ g ∨ i ∈ ms.map (·.index)
  rising : g.Pairwise (· < ·) → g'.Pairwise (· < ·)
  elements : ∀ m ∈ ms, m.index ∉ g → m.index < blocks → memRead w' (a + 32 * m.index) 32 = leBytes 32 m.item.elems
  elements_other : ∀ i, i < blocks → i ∉ ms.map (·.index) → memRead w' (a + 32 * i) 32 = memRead w (a + 32 * i) 32
  scales : (∀ m ∈ ms, m.index < blocks) → ∀ m ∈ ms, m.index ∉ g →
    memByte w' (a + ceilDiv (32 * blocks) 4096 * 4096 + m.index) = BitVec.ofNat 8 m.item.scale
  scales_other : (∀ m ∈ ms, m.index < blocks) → ∀ i, i ∉ ms.map (·.index) →
    memByte w' (a + ceilDiv (32 * blocks) 4096 * 4096 + i) = memByte w (a + ceilDiv (32 * blocks) 4096 * 4096 + i)
  outside : (∀ m ∈ ms, m.index < blocks) → ∀ x, x < a ∨ a + shardBytes blocks ≤ x → memByte w' x = memByte w x

theorem ItemsGathered.nil (a blocks : Nat) (g : List Nat) (w : List Host.Cell) : ItemsGathered a blocks [] g g w w :=
  ⟨fun i => by simp, id, nofun, fun _ _ _ => rfl, nofun, fun _ _ _ => rfl, fun _ _ _ => rfl⟩

/-- One item more, at an index that no later one has. -/
theorem ItemsGathered.cons {a blocks : Nat} {m : RedMsg} {ms : List RedMsg} {g g' : List Nat} {w w₁ w' : List Host.Cell}
    (first : w₁ = if m.index ∈ g then w else gatherMem w a blocks m) (apart : ∀ q ∈ ms, q.index ≠ m.index)
    (rest : ItemsGathered a blocks ms (sinsert g m.index) g' w₁ w') : ItemsGathered a blocks (m :: ms) g g' w w' := by
  have later : m.index ∉ ms.map (·.index) := fun inside => by
    obtain ⟨q, inside, same⟩ := List.mem_map.1 inside
    exact apart q inside same
  have fresh {q : RedMsg} (inside : q ∈ ms) (new : q.index ∉ g) : q.index ∉ sinsert g m.index := fun held =>
    (mem_sinsert.1 held).elim (apart q inside) new
  have tail (all : ∀ q ∈ m :: ms, q.index < blocks) : ∀ q ∈ ms, q.index < blocks := fun q inside => all q (List.mem_cons_of_mem _ inside)
  refine ⟨fun i => ?_, fun rising => rest.rising (sinsert_rising rising _), fun q inside new low => ?_, fun i low other => ?_,
    fun all q inside new => ?_, fun all i other => ?_, fun all x out => ?_⟩
  · rw [rest.mem_gathered, mem_sinsert, List.map_cons, List.mem_cons]
    tauto
  · obtain rfl | inside := List.mem_cons.1 inside
    · rw [rest.elements_other _ low later, first, if_neg new, gatherMem_elements w a low]
    · exact rest.elements q inside (fresh inside new) low
  · rw [List.map_cons, List.mem_cons, not_or] at other
    rw [rest.elements_other i low other.2, first]
    split
    · rfl
    · exact gatherMem_elements_other w a low other.1
  · obtain rfl | inside := List.mem_cons.1 inside
    · rw [rest.scales_other (tail all) _ later, first, if_neg new, gatherMem_scale]
    · exact rest.scales (tail all) q inside (fresh inside new)
  · rw [List.map_cons, List.mem_cons, not_or] at other
    rw [rest.scales_other (tail all) i other.2, first]
    split
    · rfl
    · exact gatherMem_scale_other w a (all m List.mem_cons_self) other.1
  · rw [rest.outside (tail all) x out, first]
    split
    · rfl
    · exact gatherMem_outside w a (all m List.mem_cons_self) out

theorem acceptItem_gather_mem {s : State} {n : Nat} {x : RedStep} {m : RedMsg} (held : (s.redSet n).step = some x) (p : m.phase = 7) :
    (acceptItem s n m).1.mem = if m.index ∈ x.gathered then s.mem
      else gatherMem s.mem (redAddress (stepCtx s n x) (reqResult x.request) 0) (stepBlocks x) m := by
  rw [acceptItem_gather held p]
  dsimp only
  by_cases old : m.index ∈ x.gathered
  · rw [if_pos old, if_pos (by simpa using old)]
    rfl
  · rw [if_neg old, if_neg (by simpa using old), gatherWritten_mem]
    rfl

/-- The items of one unit of a gather, where the result lies at `base`. -/
theorem acceptAllItems_gathered {n base : Nat} {own : Nat} {ms : List RedMsg} {a : State × List RedMsg} {x : RedStep}
    (held : (a.1.redSet n).step = some x) (one : OneUnit own ms) (phase : ∀ m ∈ ms, m.phase = 7)
    (at_ : redAddress (stepCtx a.1 n x) (reqResult x.request) 0 = base) :
    ∃ y, SetPut n a.1 (acceptAllItems n a ms).1 y ∧ y.request = x.request ∧
      ItemsGathered base (stepBlocks x) ms x.gathered y.gathered a.1.mem (acceptAllItems n a ms).1.mem ∧
      ∀ q ∈ (acceptAllItems n a ms).2, q ∈ a.2 ∨ q.phase = 7 ∧ q.index ∈ ms.map (·.index) := by
  induction ms generalizing a x with
  | nil => exact ⟨x, .refl held, rfl, .nil .., fun q from_ => .inl from_⟩
  | cons m ms ih =>
    have p := phase m List.mem_cons_self
    obtain ⟨x', taken, put⟩ := acceptItem_takes (m := m) held
    have mem := acceptItem_gather_mem held p
    rw [at_] at mem
    obtain ⟨y, put', request, gathered, msgs⟩ := ih (a := ((acceptItem a.1 n m).1, a.2 ++ (acceptItem a.1 n m).2)) put.step one.tail
      (fun q inside => phase q (List.mem_cons_of_mem _ inside)) (by rw [put.stepCtx, taken.request, stepCtx, taken.tenant]; exact at_)
    have list : x'.gathered = sinsert x.gathered m.index := by rw [taken.gathered, if_pos p]
    have blocks : stepBlocks x' = stepBlocks x := by rw [stepBlocks, taken.request, stepBlocks]
    rw [list, blocks] at gathered
    refine ⟨y, ⟨put.toSetFrame.trans put'.toSetFrame, put'.step⟩, request.trans taken.request,
      .cons mem (fun q inside => ((List.pairwise_cons.1 one.2).1 q inside).2.2) gathered, fun q from_ => ?_⟩
    obtain from_ | ⟨seven, inside⟩ := msgs q from_
    · obtain from_ | from_ := List.mem_append.1 from_
      · exact .inl from_
      · obtain ⟨seven, same⟩ := acceptItem_msgs held from_
        exact .inr ⟨seven.trans p, by rw [same]; exact List.mem_cons_self⟩
    · exact .inr ⟨seven, List.mem_cons_of_mem _ inside⟩

/-! ## What is passed on of a gather -/

/-- A gather whose items are all held: memory stands, and so do the indices gathered. -/
structure GatherStands (n : Nat) (g : List Nat) (w : List Host.Cell) (request : Nat) (t : State) : Prop where
  mem : t.mem = w
  step : ∃ y, (t.redSet n).step = some y ∧ y.request = request ∧ SameIndices g y.gathered

theorem GatherStands.accept {n : Nat} {g : List Nat} {w : List Host.Cell} {r : Nat} {t : State} (now : GatherStands n g w r t) {m : RedMsg}
    (p : m.phase = 7) (old : m.index ∈ g) : GatherStands n g w r (acceptItem t n m).1 := by
  obtain ⟨mem, y, held, request, same⟩ := now
  obtain ⟨z, taken, put⟩ := acceptItem_takes (m := m) held
  refine ⟨?_, z, put.step, taken.request.trans request, ?_⟩
  · rw [acceptItem_gather_mem held p, if_pos ((same.1 _).2 old), mem]
  · rw [taken.gathered, if_pos p]
    exact same.sinsert old

/-- The rounds after the first one change neither memory nor what is gathered. -/
theorem pump_gathered {n k : Nat} {s : State} {x : RedStep} {ms : List RedMsg} (held : (s.redSet n).step = some x)
    (kind : reqKind x.request = 2) (one : OneUnit (ownIndex s n) ms) (phase : ∀ m ∈ ms, m.phase = 7) :
    ∃ y g, ((pump n (k + 1) s ms).redSet n).step = some y ∧ y.request = x.request ∧ SameIndices g y.gathered ∧
      ItemsGathered (redAddress (stepCtx s n x) (reqResult x.request) 0) (stepBlocks x) ms x.gathered g s.mem (pump n (k + 1) s ms).mem := by
  obtain ⟨y, put, request, gathered, msgs⟩ := acceptAllItems_gathered (a := (s, [])) held one phase rfl
  rw [← routeAll_own one.1] at put gathered msgs
  have same : SameIndices y.gathered y.gathered := ⟨fun _ => .rfl, id⟩
  have first : GatherStands n y.gathered (routeAll s n ms).1.mem x.request (routeAll s n ms).1 := ⟨rfl, y, put.step, request, same⟩
  have old : ∀ q ∈ (routeAll s n ms).2, q.phase = 7 ∧ q.index ∈ y.gathered := fun q from_ => by
    obtain ⟨seven, inside⟩ := (msgs q from_).resolve_left List.not_mem_nil
    exact ⟨seven, (gathered.mem_gathered _).2 (.inr inside)⟩
  have quiet {t : State} {z : RedStep} (held' : (t.redSet n).step = some z) (request' : z.request = x.request) : produce t n = (t, []) :=
    produce_gather held' (by rw [request', kind]; decide)
  have rest : GatherStands n y.gathered (routeAll s n ms).1.mem x.request (pump n (k + 1) s ms) := by
    rw [pump, quiet put.step request]
    dsimp only
    split
    · exact first
    · refine pump_induct (P := GatherStands n y.gathered (routeAll s n ms).1.mem x.request) (Q := fun q => q.phase = 7 ∧ q.index ∈ y.gathered)
        (fun t m now item => ⟨now.accept item.1 item.2, fun q from_ => ?_⟩) (fun t m now => ?_) (fun t now => ?_) k first fun q from_ => ?_
      · obtain ⟨-, z, held', -⟩ := now
        obtain ⟨seven, same⟩ := acceptItem_msgs held' from_
        exact ⟨seven.trans item.1, same ▸ item.2⟩
      · obtain ⟨mem, z, held', facts⟩ := now
        exact ⟨mem, z, by rw [setRed_redSet_same]; exact held', facts⟩
      · obtain ⟨-, z, held', request', -⟩ := id now
        rw [quiet held' request']
        exact ⟨now, nofun⟩
      · rw [List.append_nil] at from_
        exact old q from_
  obtain ⟨mem, z, held', request', indices⟩ := rest
  exact ⟨z, y.gathered, held', request', indices, by rw [mem]; exact gathered⟩

end Sys2Proof.Machine

end

section
/-! PROOF. The units that members send each other in a step (R403 to R409, R414). -/

namespace Sys2Proof.Machine
open Sys2Proof

/-! ## Which part of a unit's meaning is taken (R403, R404) -/

theorem unitAfter_self (a : Nat) : unitAfter a a = false := by
  have none : unitAhead a a = 0 := by
    unfold unitAhead
    omega
  rw [unitAfter, none]
  rfl

/-- The sender of a unit is granted more. -/
def unitGranted (s : State) (u : EngineUnit) : State := s.setFlow u.flow ((s.flow u.flow).grant ((s.flow u.flow).done + 64))

section
variable {s : State} {n : Nat} {u : EngineUnit} {st : RedStep} {run : Nat → RedStep → State → State} (from_ : setOfRecv s u.flow = some n)
include from_

theorem stepUnit_invalid (bad : unitValid u = false) (phase : Nat) : stepUnit s u phase run = s.dcount 0x5080 2 1 := by
  unfold stepUnit
  rw [from_]
  dsimp only
  rw [bad]
  rfl

variable (good : unitValid u = true) (held : (s.redSet n).step = some st)
include good held

/-- A unit of a later step shows that this one is missed (R408). -/
theorem stepUnit_later (later : unitAfter (unitStep u) (reqStep st.request) = true) :
    stepUnit s u (unitPhase u) run = settleSet (missStep s n) n := by
  unfold stepUnit
  rw [from_]
  dsimp only
  rw [good, held, if_neg (by decide), if_neg (by simp)]
  exact if_pos later

variable (step : unitStep u = reqStep st.request)
include step

/-- Step fields that differ abort the step (R404). -/
theorem stepUnit_differs (phase : unitPhase u ≠ 6) (differs : sameStep st.request u = false) : stepUnit s u (unitPhase u) run =
    settleSet (abortStep (requestInvalid s n (unitStep u) (unitSender u)) n (unitSender u) 0) n := by
  have now : ¬unitAfter (unitStep u) (reqStep st.request) = true := by
    rw [step, unitAfter_self]
    decide
  unfold stepUnit
  rw [from_]
  dsimp only
  rw [good, held, if_neg (by decide), if_neg (by simp)]
  dsimp only
  rw [if_neg now, if_neg (by simp [step]), if_pos ⟨phase, by rw [differs]; rfl⟩]

theorem stepUnit_taken (same : unitPhase u = 6 ∨ sameStep st.request u = true) :
    stepUnit s u (unitPhase u) run = settleSet (run n st (unitGranted s u)) n := by
  have now : ¬unitAfter (unitStep u) (reqStep st.request) = true := by
    rw [step, unitAfter_self]
    decide
  unfold stepUnit
  rw [from_]
  dsimp only
  rw [good, held, if_neg (by decide), if_neg (by simp)]
  dsimp only
  rw [if_neg now, if_neg (by simp [step]), if_neg (by rintro ⟨other, differs⟩; simp [other] at same; simp [same] at differs)]
  rfl

end

/-- The commands that bring items to a step, each with the phase of its units. -/
def itemCommands (u : EngineUnit) : List (Nat × Instr) :=
  [(2, .partialUnit u), (3, .recordsUnit u), (4, .scalesUnit u), (7, .gatherUnit u), (8, .lateShardUnit u)]

theorem exec_itemCommand {u : EngineUnit} {e : Nat × Instr} (inside : e ∈ itemCommands u) (s : State) :
    exec e.2 s = .next (stepUnit s u e.1 (takeItems u)) := by
  simp only [itemCommands, List.mem_cons, List.not_mem_nil, or_false] at inside
  obtain rfl | rfl | rfl | rfl | rfl := inside <;> rfl

theorem itemCommand_phase {u : EngineUnit} {e : Nat × Instr} (inside : e ∈ itemCommands u) : e.1 ≠ 6 := by
  simp only [itemCommands, List.mem_cons, List.not_mem_nil, or_false] at inside
  obtain rfl | rfl | rfl | rfl | rfl := inside <;> simp

/-- What a takeover notice does to the step. -/
def takeNotice (u : EngineUnit) (n : Nat) (st : RedStep) (t : State) (limit : Nat) : State :=
  let k := unitRole u
  let j := (memberOf t n k).backup
  if (kfind st.taken k).isSome || decide (limit ≤ j) then t
  else
    let a := countSubstitution (takeOver t n k j) n (unitStep u) k
    adopt (if k = ownIndex t n then a.setRed n fun x => { x with step := x.step.map fun y => { y with stopped := true } } else a) n

theorem exec_takeoverNotice (u : EngineUnit) (s : State) :
    exec (.takeoverNotice u) s = .next (stepUnit s u 5 fun n st t => takeNotice u n st t (s.red n 2)) := rfl

theorem exec_abortNotice (u : EngineUnit) (s : State) :
    exec (.abortNotice u) s = .next (stepUnit s u 6 fun n _ t => abortStep t n (unitSender u) 0) := rfl

/-- Every unit on a partner's flow with a reserved value is counted (R403). -/
theorem exec_unit_invalid {s : State} {n : Nat} {u : EngineUnit} (from_ : setOfRecv s u.flow = some n) (bad : unitValid u = false)
    {e : Nat × Instr} (inside : e ∈ (5, Instr.takeoverNotice u) :: (6, .abortNotice u) :: itemCommands u) :
    exec e.2 s = .next (s.dcount 0x5080 2 1) := by
  obtain rfl | inside := List.mem_cons.1 inside
  · rw [exec_takeoverNotice, stepUnit_invalid from_ bad]
  · obtain rfl | inside := List.mem_cons.1 inside
    · rw [exec_abortNotice, stepUnit_invalid from_ bad]
    · rw [exec_itemCommand inside, stepUnit_invalid from_ bad]

/-! ## Aborts -/

theorem abortStep_held {s : State} {n : Nat} {st : RedStep} (held : (s.redSet n).step = some st) (member vacant : Nat) :
    abortStep s n member vacant = stopStep s n st.request member vacant (some (stepCtx s n st)) := by
  unfold abortStep
  rw [held]

/-- A rejected request, or a unit that differs from it, is recorded (R394, R404). -/
theorem requestInvalid_noted (s : State) (n step member : Nat) : CaseNoted s (requestInvalid s n step member) 4 ∧
    (requestInvalid s n step member).dget 0x5090 6 = countUp (entryBytes 0x5090 6) (s.dget 0x5090 6) 1 ∧
    (requestInvalid s n step member).dget 0x5090 2 = s.dget 0x5090 2 :=
  ⟨record_noted s 4 (counts := [(6, 1)]) _ (by simp),
    record_count s _ (by decide) (by decide) (by decide) (by decide),
    record_counter s 4 6 _ (by decide) (by decide) (by decide)⟩

/-- A request or unit has been rejected, and the step aborted for it. -/
theorem rejected_aborted {s q t : State} {n r : Nat} (noted : CaseNoted s q 4)
    (count : q.dget 0x5090 6 = countUp (entryBytes 0x5090 6) (s.dget 0x5090 6) 1) (aborted : Aborted n q t r 0) :
    Concluded s t n r (emptySummary s n r 1 false 0) ∧ bit (t.dget 0x5090 1) 4 = true ∧
      t.dget 0x5090 6 = countUp (entryBytes 0x5090 6) (s.dget 0x5090 6) 1 := by
  have only := noted.setOnly n
  refine ⟨?_, aborted.flags.2 4 noted.flag, aborted.rejected.trans count⟩
  have concluded := Concluded.of_only aborted.concluded only
  rw [only.emptySummary] at concluded
  exact concluded

section
variable {s : State} {n : Nat} {u : EngineUnit} {st : RedStep} (near : n < 8) (held : (s.redSet n).step = some st)
  (idle : (s.redSet n).waiting = [])
include held idle

theorem missStep_settled : Concluded s (settleSet (missStep s n) n) n st.request (emptySummary s n st.request 3 false 0) ∧
    bit ((settleSet (missStep s n) n).dget 0x5090 1) 5 = true ∧ (settleSet (missStep s n) n).mem = s.mem := by
  obtain ⟨concluded, flag, mem, waiting⟩ := missStep_concluded held
  have sent := settleSet_sent (waiting.trans idle)
  exact ⟨Concluded.quiet concluded sent.toSetQuiet, by rw [sent.cases 1 (by decide)]; exact flag, sent.mem.trans mem⟩

include near

/-- A step that is aborted for itself (R409). -/
theorem abortStep_settled (policy : s.red n 0xA = 0) (member vacant : Nat) :
    Aborted n s (settleSet (abortStep s n member vacant) n) st.request vacant ∧
    (settleSet (abortStep s n member vacant) n).mem = (stopZeroed s n st.request (some (stepCtx s n st))).mem := by
  rw [abortStep_held held]
  obtain ⟨aborted, mem⟩ := stopStep_aborted near policy st.request member vacant (some (stepCtx s n st))
  have sent := settleSet_sent (aborted.waiting.trans idle)
  exact ⟨aborted.sent sent.toSetQuiet, sent.mem.trans mem⟩

omit idle in
theorem abortStep_faults (policy : s.red n 0xA ≠ 0) (up : s.power.state ≠ .faulted) (member vacant : Nat) :
    (settleSet (abortStep s n member vacant) n).power.state = .faulted ∧ (settleSet (abortStep s n member vacant) n).dget 0x5000 1 = 8 := by
  rw [abortStep_held held]
  exact (stopStep_faults near policy up ..).settled n

end

/-! ## Items of a unit -/

theorem countUnitPoison_quiet (s : State) (n : Nat) (st : RedStep) (u : EngineUnit) : SetQuiet n s (countUnitPoison s n st u) := by
  unfold countUnitPoison
  split
  · exact .record _ _ _ (by simp) (by simp)
  · exact .refl n s

theorem countUnitPoison_mem (s : State) (n : Nat) (st : RedStep) (u : EngineUnit) : (countUnitPoison s n st u).mem = s.mem := by
  unfold countUnitPoison
  split
  · exact (record_recordOnly ..).mem
  · rfl

theorem unitMsgs_phase {n own : Nat} {u : EngineUnit} {m : RedMsg} (inside : m ∈ unitMsgs n own u) : m.phase = unitPhase u := by
  unfold unitMsgs at inside
  obtain ⟨i, -, rfl⟩ := List.mem_map.1 inside
  rfl

theorem unitGranted_only (n : Nat) (s : State) (u : EngineUnit) : SetOnly n s (unitGranted s u) := .setFlow n s _ _

theorem unitGranted_redSet (s : State) (u : EngineUnit) (n : Nat) : (unitGranted s u).redSet n = s.redSet n :=
  redSet_congr (State.setFlow_sets ..) n

theorem unitGranted_mem (s : State) (u : EngineUnit) : (unitGranted s u).mem = s.mem := State.setFlow_mem ..

theorem unitGranted_cairnOf (s : State) (u : EngineUnit) (c : Nat) : (unitGranted s u).cairnOf c = s.cairnOf c := by
  rw [State.cairnOf, unitGranted, State.setFlow_cairn, State.cairnOf]

section
variable {s : State} {n : Nat} {u : EngineUnit} {st : RedStep} (held : (s.redSet n).step = some st) (idle : (s.redSet n).waiting = [])
  (free : ∀ c, c < 4 → (s.cairnOf c).copying = none)
include held idle free

/-- The step goes on with the items of a unit, or ends with them complete (R404, R407, R408, R410, R411, R413, R414). -/
theorem takeItems_settled : let t := settleSet (takeItems u n st (unitGranted s u)) n
    ((∃ v, Concluded s t n st.request v ∧ sumStatus v = 0) ∨
      ∃ y, (t.redSet n).step = some y ∧ y.request = st.request ∧ ∀ m ∈ unitMsgs n (ownIndex s n) u, ItemHeld (ownIndex s n) st y m) ∧
    (unitPhase u = 7 → reqKind st.request = 2 → ∀ m ∈ unitMsgs n (ownIndex s n) u, m.index ∉ st.gathered → m.index < stepBlocks st →
      memRead t.mem (redAddress (stepCtx s n st) (reqResult st.request) 0 + 32 * m.index) 32 = leBytes 32 m.item.elems) := by
  have granted := unitGranted_only n s u
  have free' : ∀ c, c < 4 → ((unitGranted s u).cairnOf c).copying = none := fun c low => by rw [unitGranted_cairnOf, free c low]
  have sets := unitGranted_redSet s u n
  have mem := unitGranted_mem s u
  rw [takeItems, whenGranulesFree_idle free', granted.ownIndex]
  generalize unitGranted s u = g at granted sets mem
  have poison := countUnitPoison_quiet g n st u
  have mem' := (countUnitPoison_mem g n st u).trans mem
  generalize countUnitPoison g n st u = q at poison mem'
  have only := granted.trans poison.toSetOnly
  have held' : (q.redSet n).step = some st := by rw [poison.step, sets, held]
  have one : OneUnit (ownIndex q n) (unitMsgs n (ownIndex s n) u) := by
    rw [only.ownIndex]
    exact unitMsgs_oneUnit n _ u
  obtain ⟨after, y, grown, items, ended⟩ := advance_cases held' (unitMsgs n (ownIndex s n) u)
  have sent := settleSet_sent (after.waiting.trans (only.waiting.trans idle))
  rw [only.ownIndex] at grown items
  dsimp only
  refine ⟨?_, fun seven kind m inside new low => ?_⟩
  · obtain going | ⟨v, concluded, status⟩ := ended
    · exact .inr ⟨y, sent.step.trans going, grown.request, items (unitMsgs_oneUnit n _ u)⟩
    · exact .inl ⟨v, Concluded.of_only (Concluded.quiet concluded sent.toSetQuiet) only, status⟩
  · obtain ⟨_, _, -, -, -, gathered⟩ := pump_gathered (k := 63) held' kind one fun m inside => (unitMsgs_phase inside).trans seven
    rw [only.stepCtx] at gathered
    rw [sent.mem, advance_mem]
    exact gathered.elements m inside new low

end

/-! ## Roles that change hands (R406, R407) -/

theorem countSubstitution_noted (s : State) (n step k : Nat) : CaseNoted s (countSubstitution s n step k) 2 ∧
    (countSubstitution s n step k).dget 0x5090 3 = countUp (entryBytes 0x5090 3) (s.dget 0x5090 3) 1 :=
  ⟨record_noted s 2 (counts := [(3, 1)]) _ (by simp), record_count s _ (by decide) (by decide) (by decide) (by decide)⟩

/-- A substitution is recorded, the role's member marked, and the step goes on with the role at its backup, or has ended. -/
structure HandedOn (n k : Nat) (s t : State) : Prop where
  flag : bit (t.dget 0x5090 1) 2 = true
  count : t.dget 0x5090 3 = countUp (entryBytes 0x5090 3) (s.dget 0x5090 3) 1
  lastRole : (memberOf t n k).lastRole = 1
  waiting : (t.redSet n).waiting = (s.redSet n).waiting

theorem HandedOn.held {n k : Nat} {s t u : State} (h : HandedOn n k s t) (held : SetHeld n t u) : HandedOn n k s u where
  flag := by rw [held.cases 1 (by decide)]; exact h.flag
  count := (held.cases 3 (by decide)).trans h.count
  lastRole := by rw [held.memberOf]; exact h.lastRole
  waiting := held.waiting.trans h.waiting

theorem takeOver_redSet (s : State) (n k j : Nat) : (takeOver s n k j).redSet n = { s.redSet n with
    step := (s.redSet n).step.map fun st => { st with taken := kset st.taken k j }
    outbox := (s.redSet n).outbox.map fun m => if m.role = k ∧ m.late = false then { m with member := j } else m
    members := kset (s.redSet n).members k { kget Member.none (s.redSet n).members k with lastRole := 1 } } :=
  setRed_redSet_same ..

theorem takeOver_dget (s : State) (n k j idx sub : Nat) : (takeOver s n k j).dget idx sub = s.dget idx sub :=
  State.dget_congr (State.setRed_dict ..) (congrArg Power.straps (State.setRed_power ..)) idx sub

/-- After the substitution, and before what waits for the role reaches it. -/
theorem substituted {s : State} {n k j : Nat} {st : RedStep} (held : (s.redSet n).step = some st) (step : Nat) :
    HandedOn n k s (countSubstitution (takeOver s n k j) n step k) ∧
    ((countSubstitution (takeOver s n k j) n step k).redSet n).step = some { st with taken := kset st.taken k j } ∧
    ownIndex (countSubstitution (takeOver s n k j) n step k) n = ownIndex s n := by
  obtain ⟨noted, count⟩ := countSubstitution_noted (takeOver s n k j) n step k
  have taken := takeOver_redSet s n k j
  have cell (sub : Nat) := takeOver_dget s n k j 0x5090 sub
  have own : ownIndex (takeOver s n k j) n = ownIndex s n := takeOver_dget s n k j (0x6010 + n) 3
  generalize takeOver s n k j = t at noted count taken cell own ⊢
  have sets := noted.only.redSet n
  refine ⟨⟨noted.flag, by rw [count, cell], ?_, by rw [sets, taken]⟩, by rw [sets, taken, held]; rfl, (noted.setOnly n).ownIndex.trans own⟩
  rw [memberOf, sets, taken, kget_kset, if_pos rfl]

/-- What waits for the role is taken, and the step goes on or ends. -/
theorem adopt_cases {s : State} {n : Nat} {x : RedStep} (held : (s.redSet n).step = some x) : SetHeld n s (adopt s n) ∧
    (((adopt s n).redSet n).step = none ∨ ∃ y, ((adopt s n).redSet n).step = some y ∧ y.taken = x.taken ∧ y.stopped = x.stopped) := by
  have left := SetSent.setOutbox s n fun l => l.filter fun m => m.member != ownIndex s n
  unfold adopt
  dsimp only at left ⊢
  generalize s.setRed n _ = t at left ⊢
  obtain ⟨after, y, grown, -, ended⟩ := advance_cases (left.step.trans held) ((s.redSet n).outbox.filter fun m => m.member == ownIndex s n)
  refine ⟨left.toSetFrame.setHeld.trans after, ?_⟩
  obtain going | ⟨v, ⟨none, -⟩, -⟩ := ended
  · exact .inr ⟨y, going, grown.taken, grown.stopped⟩
  · exact .inl none

/-- The set after a role has changed hands, whatever else the step then does. -/
theorem adopt_settled {s a : State} {n k : Nat} {x : RedStep} (handed : HandedOn n k s a) (held : (a.redSet n).step = some x)
    (idle : (s.redSet n).waiting = []) : HandedOn n k s (settleSet (adopt a n) n) ∧
    (((settleSet (adopt a n) n).redSet n).step = none ∨
      ∃ y, ((settleSet (adopt a n) n).redSet n).step = some y ∧ y.taken = x.taken ∧ y.stopped = x.stopped) := by
  obtain ⟨after, ended⟩ := adopt_cases held
  have now := handed.held after
  have sent := settleSet_sent (now.waiting.trans idle)
  exact ⟨now.held sent.toSetFrame.setHeld, by rw [sent.step]; exact ended⟩

section
variable {s : State} {n : Nat} {u : EngineUnit} {st : RedStep} (held : (s.redSet n).step = some st) (idle : (s.redSet n).waiting = [])
include held idle

/-- A takeover notice: the late member stops its role, and its backup begins to perform it (R406, R407). -/
theorem takeNotice_settled (fresh : kfind st.taken (unitRole u) = none) (backup : (memberOf s n (unitRole u)).backup < s.red n 2) :
    let t := settleSet (takeNotice u n st (unitGranted s u) (s.red n 2)) n
    HandedOn n (unitRole u) s t ∧ ((t.redSet n).step = none ∨ ∃ y, (t.redSet n).step = some y ∧
      kfind y.taken (unitRole u) = some (memberOf s n (unitRole u)).backup ∧ (unitRole u = ownIndex s n → y.stopped = true)) := by
  have granted := unitGranted_only n s u
  have sets := unitGranted_redSet s u n
  have cell (sub : Nat) : (unitGranted s u).dget 0x5090 sub = s.dget 0x5090 sub := State.setFlow_dget ..
  unfold takeNotice
  dsimp only
  rw [fresh, granted.memberOf, if_neg (by simpa using backup)]
  generalize unitGranted s u = g at granted sets cell ⊢
  obtain ⟨handed, step, own⟩ := substituted (k := unitRole u) (j := (memberOf s n (unitRole u)).backup) (s := g) (n := n)
    (by rw [sets]; exact held) (unitStep u)
  generalize countSubstitution (takeOver g n (unitRole u) (memberOf s n (unitRole u)).backup) n (unitStep u) (unitRole u) = a at handed step own ⊢
  have handed : HandedOn n (unitRole u) s a :=
    ⟨handed.flag, by rw [handed.count, cell], handed.lastRole, by rw [handed.waiting, sets]⟩
  rw [granted.ownIndex]
  split
  next mine =>
    have stop := setRed_redSet_same a n fun x => { x with step := x.step.map fun y => { y with stopped := true } }
    have still : SetHeld n a (a.setRed n fun x => { x with step := x.step.map fun y => { y with stopped := true } }) :=
      ⟨rfl, by rw [stop], by rw [stop], fun _ _ => rfl⟩
    generalize a.setRed n _ = b at stop still ⊢
    obtain ⟨now, ended⟩ := adopt_settled (handed.held still) (x := { st with taken := kset st.taken (unitRole u) _, stopped := true })
      (by rw [stop, step]; rfl) idle
    refine ⟨now, ended.imp id fun ⟨y, going, taken, stopped⟩ => ⟨y, going, ?_, fun _ => stopped⟩⟩
    rw [taken, kfind_kset_same]
  next other =>
    obtain ⟨now, ended⟩ := adopt_settled handed step idle
    refine ⟨now, ended.imp id fun ⟨y, going, taken, stopped⟩ => ⟨y, going, ?_, fun mine => absurd mine other⟩⟩
    rw [taken, kfind_kset_same]

end

/-! ## The deadline (R406) -/

section
variable {s : State} {n k : Nat} {granted : List Nat} {st : RedStep} (held : (s.redSet n).step = some st)
include held

theorem reductionDeadline_early (early : s.beat < st.beat + reqDelta st.request) : exec (.reductionDeadline n k granted) s = .next s := by
  show execReductionDeadline n k granted s = _
  unfold execReductionDeadline
  rw [held]
  exact if_pos (.inr (.inl early))

variable (due : reqDelta st.request ≠ 0) (now : st.beat + reqDelta st.request ≤ s.beat) (silent : k ∉ granted) (other : k ≠ ownIndex s n)
  (waits : ∃ m ∈ (s.redSet n).outbox, m.role = k ∧ m.member = k ∧ m.late = false)
include due now silent other waits

/-- The deadline has come for data that waits for a role: its backup performs it, or its place is vacant. -/
theorem reductionDeadline_due : exec (.reductionDeadline n k granted) s = .next (settleSet
    (if (memberOf s n k).backup = ownIndex s n ∨ granted.contains (memberOf s n k).backup = true then
      let note := fun m => (⟨m, stepHeader st.request, 5, k, ownIndex s n, 0, noBlock, 0, m == k⟩ : RedMsg)
      adopt ((countSubstitution (takeOver s n k (memberOf s n k).backup) n (reqStep st.request) k).setRed n fun x => { x with
        outbox := ((if (memberOf s n k).backup = ownIndex s n then [] else [note (memberOf s n k).backup]) ++ [note k]) ++ x.outbox }) n
    else abortStep (s.setRed n fun x =>
      { x with members := kset x.members k { kget Member.none x.members k with lastRole := 2 } }) n k 1) n) := by
  have data : ((s.redSet n).outbox.any fun m => m.role == k && m.member == k && !m.late) = true := by
    obtain ⟨m, inside, role, member, late⟩ := waits
    exact List.any_eq_true.2 ⟨m, inside, by simp [role, member, late]⟩
  show execReductionDeadline n k granted s = _
  unfold execReductionDeadline
  rw [held]
  dsimp only
  rw [data, if_neg (by simp [due, other, silent]; omega)]
  split <;> rfl

variable (idle : (s.redSet n).waiting = [])
include idle

theorem reductionDeadline_own (backup : (memberOf s n k).backup = ownIndex s n) : ∃ t, exec (.reductionDeadline n k granted) s = .next t ∧
    HandedOn n k s t ∧
    ((t.redSet n).step = none ∨ ∃ y, (t.redSet n).step = some y ∧ kfind y.taken k = some (ownIndex s n)) := by
  rw [reductionDeadline_due held due now silent other waits, if_pos (.inl backup), backup]
  obtain ⟨handed, step, -⟩ := substituted (k := k) (j := ownIndex s n) held (reqStep st.request)
  refine ⟨_, rfl, ?_⟩
  dsimp only
  generalize countSubstitution (takeOver s n k (ownIndex s n)) n (reqStep st.request) k = a at handed step ⊢
  generalize notes : a.setRed n _ = b
  have told : SetSent n a b := by
    rw [← notes]
    exact .setOutbox a n (_ ++ ·)
  obtain ⟨done, ended⟩ := adopt_settled (handed.held told.toSetFrame.setHeld) (told.step.trans step) idle
  refine ⟨done, ended.imp id fun ⟨y, going, taken, _⟩ => ⟨y, going, ?_⟩⟩
  rw [taken, kfind_kset_same]

/-- No backup can be had: the place is vacant, and the step is aborted (R409). -/
theorem reductionDeadline_vacant (near : n < 8) (policy : s.red n 0xA = 0) (notOwn : (memberOf s n k).backup ≠ ownIndex s n)
    (notGranted : (memberOf s n k).backup ∉ granted) : ∃ t, exec (.reductionDeadline n k granted) s = .next t ∧
    Concluded s t n st.request (emptySummary s n st.request 1 false 1) ∧ (memberOf t n k).lastRole = 2 := by
  rw [reductionDeadline_due held due now silent other waits, if_neg (by simp [notOwn, notGranted])]
  refine ⟨_, rfl, ?_⟩
  have set := setRed_redSet_same s n fun x => { x with members := kset x.members k { kget Member.none x.members k with lastRole := 2 } }
  have cells (sub : Nat) : (s.setRed n fun x =>
    { x with members := kset x.members k { kget Member.none x.members k with lastRole := 2 } }).red n sub = s.red n sub := rfl
  generalize s.setRed n _ = a at set cells ⊢
  have held' : (a.redSet n).step = some st := by rw [set]; exact held
  obtain ⟨aborted, -⟩ := abortStep_settled near held' (by rw [set]; exact idle) ((cells _).trans policy) k 1
  obtain ⟨step, last, summaries⟩ := aborted.concluded
  have summary : emptySummary a n st.request 1 false 1 = emptySummary s n st.request 1 false 1 := by
    simp only [emptySummary, summaryOf, ownIndex, cells]
  refine ⟨⟨step, last, ?_⟩, ?_⟩
  · rw [summaries, summary, set]
  · rw [memberOf, aborted.members, set, kget_kset, if_pos rfl]

end

end Sys2Proof.Machine

end

section
/-! PROOF. What a request unit begins (R391, R393, R394, R405). -/

namespace Sys2Proof.Machine
open Sys2Proof

/-! ## The request is taken up -/

/-- A change of the tables of sets and of flows alone. -/
def SetsAndNet (s t : State) : Prop := t = { s with sets := t.sets, net := t.net }

namespace SetsAndNet

variable {s t u : State}

theorem refl (s : State) : SetsAndNet s s := rfl
theorem setRed (s : State) (n : Nat) (f : RedSet → RedSet) : SetsAndNet s (s.setRed n f) := rfl
theorem setFlow (s : State) (f : Nat) (x : Flow) : SetsAndNet s (s.setFlow f x) := rfl

theorem trans (h : SetsAndNet s t) (k : SetsAndNet t u) : SetsAndNet s u := by
  unfold SetsAndNet at h k ⊢
  rw [k, h]

theorem power (h : SetsAndNet s t) : t.power = s.power := by rw [h]
theorem mem (h : SetsAndNet s t) : t.mem = s.mem := by rw [h]
theorem poison (h : SetsAndNet s t) : t.poison = s.poison := by rw [h]

theorem dget (h : SetsAndNet s t) (idx sub : Nat) : t.dget idx sub = s.dget idx sub := by
  rw [h]
  rfl

theorem tenantContext (h : SetsAndNet s t) (c i : Nat) : tenantContext t c i = tenantContext s c i := by
  rw [h]
  rfl

theorem recvFlow (h : SetsAndNet s t) (n m : Nat) : recvFlow t n m = recvFlow s n m := by
  simp only [Machine.recvFlow, State.red, h.dget]

theorem partners (h : SetsAndNet s t) (n : Nat) : partners t n = partners s n := by
  simp only [Machine.partners, ownIndex, State.red, h.dget]

theorem emptySummary (h : SetsAndNet s t) (n r status : Nat) (late : Bool) (vacant : Nat) :
    emptySummary t n r status late vacant = emptySummary s n r status late vacant := by
  rw [h]
  rfl

/-- The set's own entries, members, numbers and summaries too stand as they were. -/
theorem setOnly (h : SetsAndNet s t) {n : Nat} (set : t.redSet n =
    { s.redSet n with step := (t.redSet n).step, outbox := (t.redSet n).outbox }) : SetOnly n s t where
  power := h.power
  contexts := by rw [h]
  parked := by rw [h]
  index idx sub _ _ := h.dget idx sub
  set sub _ := h.dget _ sub
  members := by rw [set]
  lastStep := by rw [set]
  waiting := by rw [set]
  summaries := by rw [set]

end SetsAndNet

theorem SetOnly.requestOk {n : Nat} {s t : State} (h : SetOnly n s t) (r : Nat) (x : Ctx) : requestOk t n r x = requestOk s n r x := by
  simp only [Machine.requestOk, h.set 2 (by decide), h.lastStep, h.ownIndex, h.backedUp]

/-- The state in which a request that waited alone is judged. -/
def requestTaken (s : State) (n r : Nat) : State :=
  (s.setRed n fun x => { x with waiting := x.waiting ++ [r] }).setRed n fun x => { x with waiting := [] }

/-- The context whose slot 0 a rejected request zeroes, where its result buffer holds the slot (R394). -/
def rejectedResult (s : State) (n r : Nat) : Option Ctx :=
  let x := tenantContext s (s.red n 4) (requestTenant s n)
  if redBufferOk x (reqResult r) (slotBytes (reqBlocks r) (s.red n 2)) then some x else none

/-- The command that a request unit on a flow is. -/
theorem exec_request (s : State) (f : Nat) {r : Nat} (small : r < 2 ^ 512) :
    exec (if reqKind r = 2 then .gather f r else .reduce f r) s = .next (requestArrives s f r) := by
  have whole : r % 2 ^ 512 = r := Nat.mod_eq_of_lt small
  split
  next gather =>
    show execGather f r s = _
    rw [execGather, if_pos gather, whole]
  next reduce =>
    show execReduce f r s = _
    rw [execReduce, if_neg reduce, whole]

/-- A request that names another set or flow is rejected alone (R394). -/
theorem requestArrives_mismatch {s : State} {n f r : Nat} (up : s.squareUp = true) (set : reqSet r = n)
    (bad : s.red n 0xD ≠ 2 ∨ s.red n 8 ≠ f ∨ s.red n 4 ≠ (s.flow f).ctx) :
    requestArrives s f r = requestInvalid s n (reqStep r) 0x7FF := by
  subst set
  unfold requestArrives
  dsimp only
  exact (if_neg (by simp [up])).trans (if_pos bad)

theorem requestTaken_net (s : State) (n r : Nat) : SetsAndNet s (requestTaken s n r) := (SetsAndNet.setRed ..).trans (.setRed ..)

section
variable {s : State} {n f r : Nat} (asked : Requested s n f r)
include asked

theorem requestTaken_redSet : (requestTaken s n r).redSet n = s.redSet n := by
  obtain ⟨-, -, -, -, -, -, waiting, -⟩ := asked
  rw [requestTaken, setRed_redSet_same, setRed_redSet_same, ← waiting]

theorem requestTaken_only : SetOnly n s (requestTaken s n r) :=
  (requestTaken_net s n r).setOnly (by rw [requestTaken_redSet asked])

/-- The request is accepted, or rejected and its step aborted; what waits behind it is none (R393, R394). -/
theorem requestArrives_taken : requestArrives s f r =
    acceptNext (if requestOk s n r (tenantContext s (s.red n 4) (requestTenant s n)) = true
      then startStep (requestTaken s n r) n r (requestTenant s n)
      else stopStep (requestInvalid (requestTaken s n r) n (reqStep r) 0x7FF) n r 0x7FF 0 (rejectedResult s n r)) n := by
  have same := (requestTaken_only asked).requestOk r (tenantContext s (s.red n 4) (requestTenant s n))
  obtain ⟨up, -, formed, flow, ctx, step, waiting, outbox, rfl, -, -⟩ := asked
  have held := setRed_redSet_same s (reqSet r) fun x => { x with waiting := x.waiting ++ [r] }
  have still : flush (s.setRed (reqSet r) fun x => { x with waiting := x.waiting ++ [r] }) (reqSet r) =
      s.setRed (reqSet r) fun x => { x with waiting := x.waiting ++ [r] } := by
    rw [flush, held, outbox]
    rfl
  have first : (s.redSet (reqSet r)).waiting ++ [r] = [r] := by rw [waiting, List.nil_append]
  unfold requestArrives
  dsimp only
  rw [up, if_neg (by decide), if_neg (by simp [formed, flow, ctx, setFormed]), settleSet, still, acceptAll]
  congr 1
  rw [acceptNext, held]
  dsimp only
  rw [step, first]
  dsimp only
  rw [← same]
  rfl

/-- A request that cannot be accepted aborts its step for the whole set (R394, R409). -/
theorem requestArrives_rejected (bad : requestOk s n r (tenantContext s (s.red n 4) (requestTenant s n)) = false) (policy : s.red n 0xA = 0) :
    Concluded s (requestArrives s f r) n r (emptySummary s n r 1 false 0) ∧ bit ((requestArrives s f r).dget 0x5090 1) 4 = true ∧
    bit ((requestArrives s f r).dget 0x5090 1) 1 = true ∧
    (requestArrives s f r).dget 0x5090 6 = countUp (entryBytes 0x5090 6) (s.dget 0x5090 6) 1 ∧
    (requestArrives s f r).dget 0x5090 2 = countUp (entryBytes 0x5090 2) (s.dget 0x5090 2) 1 := by
  have only := requestTaken_only asked
  have cell (sub : Nat) := (requestTaken_net s n r).dget 0x5090 sub
  rw [requestArrives_taken asked, bad, if_neg Bool.false_ne_true]
  obtain ⟨-, -, -, -, -, -, waiting, -, -, -, near⟩ := asked
  generalize requestTaken s n r = a at only cell ⊢
  obtain ⟨noted, count, aborts⟩ := requestInvalid_noted a n (reqStep r) 0x7FF
  generalize requestInvalid a n (reqStep r) 0x7FF = q at noted count aborts ⊢
  have after := only.trans (noted.setOnly n)
  obtain ⟨aborted, -⟩ := stopStep_aborted near ((after.set 0xA (by decide)).trans policy) r 0x7FF 0 (rejectedResult s n r)
  rw [acceptNext_idle (aborted.waiting.trans (after.waiting.trans waiting))]
  obtain ⟨concluded, invalid, counted⟩ := rejected_aborted noted count aborted
  have ended := Concluded.of_only concluded only
  rw [only.emptySummary] at ended
  exact ⟨ended, invalid, aborted.flags.1, by rw [counted, cell], by rw [aborted.count, aborts, cell]⟩

/-- Or puts the module in FAULTED, by its policy (R409, R567). -/
theorem requestArrives_faults (bad : requestOk s n r (tenantContext s (s.red n 4) (requestTenant s n)) = false) (policy : s.red n 0xA ≠ 0) :
    (requestArrives s f r).power.state = .faulted ∧ (requestArrives s f r).dget 0x5000 1 = 8 := by
  have only := requestTaken_only asked
  rw [requestArrives_taken asked, bad, if_neg Bool.false_ne_true]
  obtain ⟨-, up, -, -, -, -, -, -, -, -, near⟩ := asked
  generalize requestTaken s n r = a at only ⊢
  obtain ⟨noted, -⟩ := requestInvalid_noted a n (reqStep r) 0x7FF
  generalize requestInvalid a n (reqStep r) 0x7FF = q at noted ⊢
  have after := only.trans (noted.setOnly n)
  obtain ⟨state, cause, bare⟩ := stopStep_faults near (by rw [after.set 0xA (by decide)]; exact policy) (by rw [after.power]; exact up) r 0x7FF 0
    (rejectedResult s n r)
  rw [acceptNext_idle (bare n).2]
  exact ⟨state, cause⟩

end

/-! ## The step begins -/

/-- What a step drops of the one before (R396, R408). -/
def stepCleared (s : State) (n : Nat) : State := s.setRed n fun x =>
  { x with outbox := x.outbox.filter fun m => !m.late, members := x.members.map fun e => (e.1, { e.2 with lastRole := 0 }) }

theorem stepCleared_net (s : State) (n : Nat) : SetsAndNet s (stepCleared s n) := .setRed ..

theorem stepCleared_redSet (s : State) (n : Nat) : ∃ l ms, (stepCleared s n).redSet n = { s.redSet n with outbox := l, members := ms } :=
  ⟨_, _, setRed_redSet_same ..⟩

/-- The step of an accepted request, before anything is made in it. -/
def openStep (s : State) (n r : Nat) : RedStep := ⟨r, s.beat, requestTenant s n, false, [], [], [], [], [], [], [], [], []⟩

theorem setStep_net (s : State) (n : Nat) (st : RedStep) : SetsAndNet s (setStep s n st) := .setRed ..

theorem setStep_redSet (s : State) (n : Nat) (st : RedStep) : (setStep s n st).redSet n = { s.redSet n with step := some st } :=
  setRed_redSet_same ..

/-- The step has begun. -/
def stepOpened (s : State) (n r : Nat) : State := setStep (stepCleared (requestTaken s n r) n) n (openStep s n r)

theorem startStep_eq (s : State) (n r t : Nat) : startStep s n r t =
    if reqElements r = 0 then concludeStep (stepCleared s n) n r (emptySummary (stepCleared s n) n r 2 false 0)
    else
      let b := grantPartners (setStep (stepCleared s n) n ⟨r, s.beat, t, false, [], [], [], [], [], [], [], [], []⟩) n 64
      flush (advance b n (openingItems b n ⟨r, s.beat, t, false, [], [], [], [], [], [], [], [], []⟩)) n := rfl

theorem stepOpened_net (s : State) (n r : Nat) : SetsAndNet s (stepOpened s n r) :=
  ((requestTaken_net s n r).trans (stepCleared_net _ n)).trans (setStep_net ..)

theorem stepOpened_flow (s : State) (n r g : Nat) : (stepOpened s n r).flow g = s.flow g := by
  simp only [State.flow, stepOpened, setStep, stepCleared, requestTaken, State.setRed_net]

/-- Credit is a matter of the flows alone (R405). -/
theorem grantPartners_net (s : State) (n ahead : Nat) : SetsAndNet s (grantPartners s n ahead) ∧
    (grantPartners s n ahead).sets = s.sets :=
  foldl_related (fun a b => SetsAndNet a b ∧ b.sets = a.sets) (fun _ => ⟨rfl, rfl⟩) (fun h k => ⟨h.1.trans k.1, k.2.trans h.2⟩) _
    (fun _ _ => ⟨.setFlow .., State.setFlow_sets ..⟩) _ s

/-- Every partner's flow is granted its credit once (R405). -/
theorem grantPartners_flow (s : State) {n m : Nat} (ahead : Nat) (partner : m ∈ partners s n) :
    (grantPartners s n ahead).flow (recvFlow s n m) = (s.flow (recvFlow s n m)).grant ((s.flow (recvFlow s n m)).done + ahead) := by
  have apart : (partners s n).Nodup := List.nodup_range.filter _
  have other (l : List Nat) (t : State) (away : m ∉ l) : (l.foldl (fun t m =>
      t.setFlow (recvFlow s n m) ((t.flow (recvFlow s n m)).grant ((t.flow (recvFlow s n m)).done + ahead))) t).flow (recvFlow s n m) =
        t.flow (recvFlow s n m) := by
    refine List.foldlRecOn (motive := fun u : State => u.flow (recvFlow s n m) = t.flow (recvFlow s n m)) l _ rfl fun u now k inside => ?_
    rw [setFlow_flow_other _ (fun e => away ?_), now]
    have same : m = k := by
      unfold recvFlow at e
      omega
    exact same ▸ inside
  unfold grantPartners
  obtain ⟨l, l', list⟩ := List.append_of_mem partner
  rw [list] at apart ⊢
  obtain ⟨-, ⟨late, -⟩, early⟩ := by simpa [List.nodup_append] using apart
  rw [List.foldl_append, List.foldl_cons, other l' _ late, setFlow_flow_same, other l _ (fun inside => (early m inside).1 rfl)]

section
variable {s : State} {n f r : Nat} (asked : Requested s n f r)
include asked

/-- A request with no elements ends at once, with status 2 (R391). -/
theorem requestArrives_empty (good : requestOk s n r (tenantContext s (s.red n 4) (requestTenant s n)) = true) (none : reqElements r = 0) :
    (requestArrives s f r).mem = s.mem ∧ Concluded s (requestArrives s f r) n r (emptySummary s n r 2 false 0) := by
  have net := (requestTaken_net s n r).trans (stepCleared_net _ n)
  obtain ⟨l, ms, set⟩ := stepCleared_redSet (requestTaken s n r) n
  rw [requestTaken_redSet asked] at set
  rw [requestArrives_taken asked, if_pos good, startStep_eq, if_pos none, net.emptySummary]
  obtain ⟨-, -, -, -, -, -, waiting, -⟩ := asked
  generalize stepCleared (requestTaken s n r) n = a at net set ⊢
  have ended := concludeStep_redSet a n r (emptySummary s n r 2 false 0)
  rw [set] at ended
  rw [acceptNext_idle (by rw [ended]; exact waiting), concludeStep_mem, net.mem]
  unfold Concluded
  rw [ended]
  exact ⟨rfl, rfl, rfl, rfl⟩

/-- The state in which a step begins its work: it stands in the set, and every partner has its credit. -/
structure Opened (n r : Nat) (s b : State) : Prop where
  net : SetsAndNet s b
  step : (b.redSet n).step = some (openStep s n r)
  lastStep : (b.redSet n).lastStep = (s.redSet n).lastStep
  waiting : (b.redSet n).waiting = []
  summaries : (b.redSet n).summaries = (s.redSet n).summaries
  granted : ∀ m ∈ partners s n, b.flow (recvFlow s n m) = (s.flow (recvFlow s n m)).grant ((s.flow (recvFlow s n m)).done + 64)

theorem stepOpened_opened : Opened n r s (grantPartners (stepOpened s n r) n 64) := by
  have net := stepOpened_net s n r
  obtain ⟨l, ms, set⟩ := stepCleared_redSet (requestTaken s n r) n
  have held : (stepOpened s n r).redSet n = _ := setStep_redSet ..
  rw [set, requestTaken_redSet asked] at held
  have flows := stepOpened_flow s n r
  obtain ⟨-, -, -, -, -, -, waiting, -⟩ := asked
  generalize stepOpened s n r = a at net held flows ⊢
  obtain ⟨granted, sets⟩ := grantPartners_net a n 64
  have credit := fun m => grantPartners_flow a (n := n) (m := m) 64
  have red := redSet_congr sets n
  rw [held] at red
  simp only [net.recvFlow, net.partners, flows] at credit
  generalize grantPartners a n 64 = b at granted credit red ⊢
  exact ⟨net.trans granted, by rw [red], by rw [red], by rw [red, ← waiting], by rw [red], credit⟩

/-- An accepted request with elements begins its step (R391, R405). -/
theorem requestArrives_opened (good : requestOk s n r (tenantContext s (s.red n 4) (requestTenant s n)) = true) (some_ : reqElements r ≠ 0) :
    ∃ b, Opened n r s b ∧ requestArrives s f r = acceptNext (flush (advance b n (openingItems b n (openStep s n r))) n) n := by
  have opened := stepOpened_opened asked
  rw [requestArrives_taken asked, if_pos good, startStep_eq, if_neg some_]
  exact ⟨_, opened, rfl⟩

end

end Sys2Proof.Machine

end

section
/-! PROOF. The first work of a step, and the step of a `REDUCE` that waits for the other members (R391, R396, R405). -/

namespace Sys2Proof.Machine
open Sys2Proof

/-! ## The step after its first work -/

theorem SetOnly.stepComplete {n : Nat} {s t : State} (h : SetOnly n s t) (st : RedStep) : stepComplete t n st = stepComplete s n st := by
  simp only [Machine.stepComplete, h.ownIndex, h.ownRoles, h.set 2 (by decide)]

/-- What follows the first work of a request that was taken up. -/
def firstWork (b : State) (n : Nat) (ms : List RedMsg) : State := acceptNext (flush (advance b n ms) n) n

section
variable {b : State} {n : Nat} {ms : List RedMsg} {y : RedStep} (held : ((pump n 64 b ms).redSet n).step = some y)
include held

/-- A step that is not complete goes on. -/
theorem firstWork_going (more : stepComplete (pump n 64 b ms) n y = false) : SetSent n (pump n 64 b ms) (firstWork b n ms) := by
  rw [firstWork, advance]
  generalize pump n 64 b ms = p at held more ⊢
  have sent := flush_sent n p
  rw [completeStep_not (sent.step.trans held) ((sent.stepComplete y).trans more)]
  have both := sent.trans (flush_sent n (flush p n))
  rw [acceptNext_busy (by rw [both.step, held]; exact Option.some_ne_none y)]
  exact both

/-- A complete one has ended with status 0. -/
theorem firstWork_ended (done : stepComplete (pump n 64 b ms) n y = true) (idle : ((pump n 64 b ms).redSet n).waiting = []) :
    ∃ v, sumStatus v = 0 ∧ (reqKind y.request = 2 → v = emptySummary (pump n 64 b ms) n y.request 0 false 0) ∧
      Concluded (pump n 64 b ms) (firstWork b n ms) n y.request v ∧ (firstWork b n ms).mem = (pump n 64 b ms).mem := by
  rw [firstWork, advance]
  generalize pump n 64 b ms = p at held done idle ⊢
  have sent := flush_sent n p
  obtain ⟨v, status, gather, e⟩ := completeStep_done (sent.step.trans held) ((sent.stepComplete y).trans done)
  rw [sent.emptySummary] at gather
  have late := sent.trans (keepForLate_sent (flush p n) n y)
  rw [e]
  generalize keepForLate (flush p n) n y = k at late ⊢
  have ended := concludeStep_concluded late.toSetOnly y.request v
  have waiting := (concludeStep_held k n y.request v).waiting
  have mem := concludeStep_mem k n y.request v
  generalize concludeStep k n y.request v = d at ended waiting mem ⊢
  have last := flush_sent n d
  rw [acceptNext_idle (last.waiting.trans (waiting.trans (late.waiting.trans idle)))]
  exact ⟨v, status, gather, Concluded.quiet ended last.toSetQuiet, last.mem.trans (mem.trans late.mem)⟩

end

/-! ## One record is not enough -/

/-- A step in which this member performs its own role alone, and which holds no record but its own. -/
structure OwnOnly (own : Nat) (y : RedStep) : Prop where
  stopped : y.stopped = false
  taken : y.taken = []
  records : y.records = [] ∨ ∃ v, y.records = [(own, v)]

/-- The records of such a step that is still at work. -/
def OwnAtWork (n own : Nat) (t : State) : Prop := ownIndex t n = own ∧ ∃ y, (t.redSet n).step = some y ∧ OwnOnly own y

/-- A message that could bring a record brings the member's own. -/
def OwnRecord (own : Nat) (m : RedMsg) : Prop := m.phase = 3 → m.index = own

section
variable {n own : Nat} {s t : State} {m : RedMsg}

theorem OwnOnly.ownRoles {y : RedStep} (h : OwnOnly (ownIndex s n) y) : ownRoles s n y = [ownIndex s n] := by
  unfold Machine.ownRoles
  dsimp only
  rw [h.stopped, h.taken]
  rfl

theorem OwnOnly.accept {x y : RedStep} (h : OwnOnly own x) (taken : ItemTaken own x y m) (item : OwnRecord own m) : OwnOnly own y := by
  refine ⟨taken.stopped.trans h.stopped, taken.taken.trans h.taken, ?_⟩
  rw [taken.recorded]
  split
  next first =>
    rw [item first.1] at first ⊢
    obtain none | ⟨v, one⟩ := h.records
    · rw [none]
      exact .inr ⟨_, rfl⟩
    · have old := first.2
      rw [one, kfind_cons, if_pos rfl] at old
      cases old
  · exact h.records

theorem OwnAtWork.quiet (h : OwnAtWork n own s) (k : SetQuiet n s t) : OwnAtWork n own t := by
  obtain ⟨mine, y, held, only⟩ := h
  exact ⟨k.ownIndex.trans mine, y, k.step.trans held, only⟩

theorem OwnAtWork.put {y : RedStep} (h : OwnAtWork n own s) (put : SetPut n s t y) (only : OwnOnly own y) : OwnAtWork n own t :=
  ⟨put.ownIndex.trans h.1, y, put.step, only⟩

theorem OwnAtWork.accept (h : OwnAtWork n own s) (item : OwnRecord own m) :
    OwnAtWork n own (acceptItem s n m).1 ∧ ∀ q ∈ (acceptItem s n m).2, OwnRecord own q := by
  obtain ⟨mine, y, held, only⟩ := id h
  obtain ⟨z, taken, put⟩ := acceptItem_takes (m := m) held
  rw [mine] at taken
  refine ⟨h.put put (only.accept taken item), fun q from_ three => ?_⟩
  obtain ⟨phase, index⟩ := acceptItem_msgs held from_
  exact index.trans (item (phase.symm.trans three))

/-- A value that is made brings no record. -/
theorem OwnAtWork.makeValue {a : State × List RedMsg} (h : OwnAtWork n own a.1) (msgs : ∀ q ∈ a.2, OwnRecord own q) (r sh b : Nat)
    (out : Option Nat × Nat) :
    OwnAtWork n own (makeValue n r sh b out a).1 ∧ ∀ q ∈ (makeValue n r sh b out a).2, OwnRecord own q := by
  obtain ⟨-, y, held, only⟩ := id h
  obtain same | ⟨v, u, ⟨d, sent⟩ | final⟩ := makeValue_cases held r sh b out
  · rw [same]
    exact ⟨h, msgs⟩
  · rw [sent]
    refine ⟨(h.quiet (arith_quiet n a.1 _)).put (.setStep _ n _) ⟨only.stopped, only.taken, only.records⟩, fun q from_ => ?_⟩
    obtain from_ | from_ := List.mem_append.1 from_
    · exact msgs q from_
    · obtain rfl := List.mem_singleton.1 from_
      exact nofun
  · rw [final]
    exact ⟨(h.quiet (arith_quiet n a.1 _)).put (.setStep _ n _) ⟨only.stopped, only.taken, only.records⟩, msgs⟩

/-- The member's own shard brings its own record. -/
theorem OwnAtWork.finishRole {a : State × List RedMsg} (h : OwnAtWork n own a.1) (msgs : ∀ q ∈ a.2, OwnRecord own q) :
    OwnAtWork n own (finishRole n own a).1 ∧ ∀ q ∈ (finishRole n own a).2, OwnRecord own q := by
  obtain ⟨-, y, held, only⟩ := id h
  obtain same | ⟨l, blocks, kept, scales, v, four, e⟩ := finishRole_cases held own
  · rw [same]
    exact ⟨h, msgs⟩
  · rw [e]
    have put := h.put (.setStep a.1 n { y with done := l }) ⟨only.stopped, only.taken, only.records⟩
    refine ⟨(put.quiet (writeResult_quiet n _ _ _ _)).quiet (SetSent.setOutbox _ n (· ++ kept)).toSetQuiet, fun q from_ => ?_⟩
    obtain from_ | from_ := List.mem_append.1 from_
    · exact msgs q from_
    · obtain rfl | from_ := List.mem_cons.1 from_
      · exact fun _ => rfl
      · intro three
        rw [four q from_] at three
        cases three

theorem OwnAtWork.produce (h : OwnAtWork n own s) :
    OwnAtWork n own (produce s n).1 ∧ ∀ q ∈ (produce s n).2, OwnRecord own q := by
  obtain ⟨mine, y, held, only⟩ := id h
  refine produce_induct (R := fun a => OwnAtWork n own a.1 ∧ ∀ q ∈ a.2, OwnRecord own q) held ⟨h, nofun⟩
    (fun a r sh b out _ _ now => now.1.makeValue now.2 r sh b out) fun a r role now => ?_
  subst mine
  rw [only.ownRoles, List.mem_singleton] at role
  rw [role]
  exact now.1.finishRole now.2

theorem OwnAtWork.pump (h : OwnAtWork n own s) (k : Nat) : OwnAtWork n own (pump n k s []) :=
  pump_induct (P := OwnAtWork n own) (Q := OwnRecord own) (fun _ _ now item => now.accept item)
    (fun t m now => now.quiet (SetSent.setOutbox t n (· ++ [m])).toSetQuiet) (fun _ now => now.produce) k h nofun

/-- Without another member's record a `REDUCE` of more than one member is not complete. -/
theorem OwnOnly.incomplete {y : RedStep} (h : OwnOnly own y) (kind : reqKind y.request = 1) (many : 2 ≤ s.red n 2) :
    stepComplete s n y = false := by
  have short : y.records.length ≤ 1 := by
    obtain none | ⟨v, one⟩ := h.records
    · rw [none]
      exact Nat.zero_le 1
    · rw [one]
      exact le_refl 1
  unfold stepComplete
  dsimp only
  rw [if_neg (by rw [kind]; decide)]
  have differs : (y.records.length == s.red n 2) = false := by
    rw [beq_eq_false_iff_ne]
    omega
  rw [differs, Bool.and_false, Bool.false_and]

end

/-- Openings of a `REDUCE` bring no items: every value is made of what the member holds. -/
theorem openingItems_reduce (b : State) (n : Nat) {st : RedStep} (kind : reqKind st.request = 1) : openingItems b n st = [] := by
  unfold openingItems
  dsimp only
  rw [if_neg (by rw [kind]; decide)]

section
variable {s : State} {n f r : Nat} (asked : Requested s n f r)
include asked

/-- A `REDUCE` of more than one member is in progress, and its partners have credit (R391, R405). -/
theorem requestArrives_waits (good : requestOk s n r (tenantContext s (s.red n 4) (requestTenant s n)) = true) (some_ : reqElements r ≠ 0)
    (kind : reqKind r = 1) (many : 2 ≤ s.red n 2) :
    ∃ y, ((requestArrives s f r).redSet n).step = some y ∧ y.request = r ∧ y.beat = s.beat ∧ y.tenant = requestTenant s n ∧
      ((requestArrives s f r).redSet n).lastStep = (s.redSet n).lastStep ∧
      ∀ m ∈ partners s n, (requestArrives s f r).flow (recvFlow s n m) =
        (s.flow (recvFlow s n m)).grant ((s.flow (recvFlow s n m)).done + 64) := by
  obtain ⟨b, opened, e⟩ := requestArrives_opened asked good some_
  rw [e, ← firstWork, openingItems_reduce b n kind]
  have worked := pump_worked n 64 b []
  obtain ⟨y, held, grown⟩ := worked.grown _ opened.step
  have start : OwnAtWork n (ownIndex b n) b := ⟨rfl, _, opened.step, rfl, rfl, .inl rfl⟩
  obtain ⟨-, z, held', only⟩ := start.pump 64
  obtain rfl := Option.some.inj (held.symm.trans held')
  have request : y.request = r := grown.request
  have sent := firstWork_going held (only.incomplete (by rw [request]; exact kind)
    (by rw [worked.set 2 (by decide), State.red, opened.net.dget]; exact many))
  have all := worked.toSetFrame.trans sent.toSetFrame
  refine ⟨y, sent.step.trans held, request, grown.beat, grown.tenant, all.lastStep.trans opened.lastStep, fun m partner => ?_⟩
  rw [all.flows _ fun k => ?_, opened.granted m partner]
  rw [← opened.net.recvFlow]
  unfold recvFlow sendFlow
  omega

end

end Sys2Proof.Machine

end

section
/-! PROOF. A shard in memory, and the step of a `GATHER` (R392, R414). -/

namespace Sys2Proof.Machine
open Sys2Proof

/-! ## A shard that is written (R392) -/

theorem leBytes_ofLe (bs : List Byte) : leBytes bs.length (ofLe bs) = bs := by
  induction bs with
  | nil => rfl
  | cons b r ih =>
    have low : BitVec.ofNat 8 (ofLe (b :: r)) = b := by
      apply BitVec.eq_of_toNat_eq
      rw [BitVec.toNat_ofNat, ofLe]
      omega
    have high : ofLe (b :: r) / 256 = ofLe r := by
      rw [ofLe]
      omega
    rw [List.length_cons, leBytes, low, high, ih]

/-- The parts of a list that is made of parts of one length. -/
theorem flatMap_part {α β : Type} (f : α → List β) (k : Nat) (len : ∀ x, (f x).length = k) {l : List α} {i : Nat} (inside : i < l.length) :
    ((l.flatMap f).drop (k * i)).take k = f l[i] := by
  induction l generalizing i with
  | nil => cases inside
  | cons x l ih =>
    rw [List.flatMap_cons]
    cases i with
    | zero => rw [Nat.mul_zero, List.drop_zero, List.getElem_cons_zero, ← len x, List.take_left]
    | succ i =>
      rw [Nat.mul_succ, Nat.add_comm, ← List.drop_drop, show (f x ++ l.flatMap f).drop k = l.flatMap f by rw [← len x, List.drop_left],
        List.getElem_cons_succ, ih]

section
variable (s : State) (a : Nat) (bs : List MxBlock)

theorem writeShard_mem : (writeShard s a bs).mem = memWrite (memWrite s.mem a (bs.flatMap fun b => leBytes 32 b.elems))
    (a + ceilDiv (32 * bs.length) 4096 * 4096) (bs.map fun b => BitVec.ofNat 8 b.scale) := by
  have plain (b : MxBlock) : ((leBytes 32 b.elems).map fun x => (x, b.poison)).map (·.1) = leBytes 32 b.elems := by
    rw [List.map_map]
    exact List.map_id _
  rw [writeShard, writeTagged_mem, writeTagged_mem, List.map_flatMap, List.map_map]
  simp only [plain]
  rfl

theorem shardElements_length : (bs.flatMap fun b => leBytes 32 b.elems).length = 32 * bs.length := by
  simp [List.length_flatMap, leBytes_length, Nat.mul_comm]

theorem writeShard_elements {i : Nat} (inside : i < bs.length) :
    memRead (writeShard s a bs).mem (a + 32 * i) 32 = leBytes 32 bs[i].elems := by
  have above := elements_le_scales bs.length
  have written := memRead_memWrite s.mem a (bs.flatMap fun b => leBytes 32 b.elems)
  have part := flatMap_part (fun b : MxBlock => leBytes 32 b.elems) 32 (fun b => leBytes_length 32 b.elems) inside
  rw [← written, memRead_slice _ _ (by rw [shardElements_length]; omega)] at part
  rw [← part, writeShard_mem]
  refine memRead_congr fun j low => ?_
  rw [memByte_memWrite_other]
  omega

theorem writeShard_scales {i : Nat} (inside : i < bs.length) :
    memByte (writeShard s a bs).mem (a + ceilDiv (32 * bs.length) 4096 * 4096 + i) = BitVec.ofNat 8 bs[i].scale := by
  rw [writeShard_mem, memByte_memWrite, if_pos (by rw [List.length_map]; omega), Nat.add_sub_cancel_left,
    List.getD_eq_getElem _ _ (by rw [List.length_map]; exact inside), List.getElem_map]

theorem writeShard_outside : MemoryKeptBut s (writeShard s a bs) a (shardBytes bs.length) := by
  intro x outside
  have above := elements_le_scales bs.length
  unfold shardBytes at outside
  rw [writeShard_mem, memByte_memWrite_other _ _ (by rw [List.length_map]; omega),
    memByte_memWrite_other _ _ (by rw [shardElements_length]; omega)]

end

/-! ## The step of a `GATHER` -/

/-- A block as it stands in a shard in memory. -/
theorem readShard_elems (s : State) (a n i : Nat) : leBytes 32 (readShard s a n i).elems = memRead s.mem (a + 32 * i) 32 := by
  have bytes := leBytes_ofLe (memRead s.mem (a + 32 * i) 32)
  rw [memRead_length] at bytes
  rw [readShard, readTagged_bytes, bytes]

theorem readShard_scale (s : State) (a n i : Nat) :
    BitVec.ofNat 8 (readShard s a n i).scale = memByte s.mem (a + ceilDiv (32 * n) 4096 * 4096 + i) := by
  rw [readShard, BitVec.ofNat_toNat, BitVec.setWidth_eq]

section
variable {b : State} {n : Nat} {st : RedStep} (gather : reqKind st.request = 2)
include gather

/-- A gather's opening items: the blocks of the member's own shard. -/
theorem openingItems_gather : openingItems b n st = (shardRange b n st (ownIndex b n)).map fun i => toRole st 7 (ownIndex b n) (ownIndex b n) i
    (readShard b (redAddress (stepCtx b n st) (reqContrib st.request) 0) (shardRange b n st (ownIndex b n)).length
      (i - shardFirst (stepBlocks st) (b.red n 2) (ownIndex b n))) 0 := by
  unfold openingItems
  exact if_pos gather

theorem openingItems_index : (openingItems b n st).map (·.index) = shardRange b n st (ownIndex b n) := by
  rw [openingItems_gather gather, List.map_map]
  exact List.map_id _

theorem openingItems_phase {m : RedMsg} (inside : m ∈ openingItems b n st) : m.phase = 7 := by
  rw [openingItems_gather gather] at inside
  obtain ⟨i, -, rfl⟩ := List.mem_map.1 inside
  rfl

theorem openingItems_oneUnit (taken : st.taken = []) : OneUnit (ownIndex b n) (openingItems b n st) := by
  rw [openingItems_gather gather]
  refine ⟨fun m inside => ?_, ?_⟩
  · obtain ⟨i, -, rfl⟩ := List.mem_map.1 inside
    show kget (ownIndex b n) st.taken (ownIndex b n) = _
    rw [taken]
    rfl
  · have apart : (shardRange b n st (ownIndex b n)).Nodup := List.nodup_range.map fun _ _ => Nat.add_left_cancel
    exact List.pairwise_map.2 (apart.imp fun differ => ⟨rfl, rfl, Ne.symm differ⟩)

end

theorem shardRange_rising (s : State) (n : Nat) (st : RedStep) (k : Nat) : (shardRange s n st k).Pairwise (· < ·) :=
  List.pairwise_map.2 (List.pairwise_lt_range.imp fun below => Nat.add_lt_add_left below _)

/-- The blocks of a member's shard are blocks of the tensor. -/
theorem shard_le {blocks members k : Nat} (member : k < members) :
    shardFirst blocks members k + shardCount blocks members k ≤ blocks := by
  have top : shardFirst blocks members (k + 1) ≤ blocks := by
    rw [shardFirst]
    exact Nat.div_le_of_le_mul (Nat.mul_le_mul_right _ member)
  have rise : shardFirst blocks members k ≤ shardFirst blocks members (k + 1) :=
    Nat.div_le_div_right (Nat.mul_le_mul_right _ (Nat.le_succ k))
  unfold shardCount
  omega

section
variable {s : State} {n f r : Nat} (asked : Requested s n f r)
include asked

/-- A `GATHER` places its member's own shard, and goes on while blocks of others are missing (R414). -/
theorem requestArrives_gathers (good : requestOk s n r (tenantContext s (s.red n 4) (requestTenant s n)) = true) (some_ : reqElements r ≠ 0)
    (kind : reqKind r = 2) (member : ownIndex s n < s.red n 2) :
    let x := tenantContext s (s.red n 4) (requestTenant s n)
    let place := redAddress x (reqResult r) 0
    let first := shardFirst (reqBlocks r) (s.red n 2) (ownIndex s n)
    let count := shardCount (reqBlocks r) (s.red n 2) (ownIndex s n)
    let source := redAddress x (reqContrib r) 0
    MemoryKeptBut s (requestArrives s f r) place (shardBytes (reqBlocks r)) ∧
      (count < reqBlocks r → ∃ y, ((requestArrives s f r).redSet n).step = some y ∧ y.request = r) ∧
      (count = reqBlocks r → Concluded s (requestArrives s f r) n r (emptySummary s n r 0 false 0)) ∧
      ∀ i, i < count → memRead (requestArrives s f r).mem (place + 32 * (first + i)) 32 = memRead s.mem (source + 32 * i) 32 ∧
        memByte (requestArrives s f r).mem (place + ceilDiv (32 * reqBlocks r) 4096 * 4096 + (first + i)) =
          memByte s.mem (source + ceilDiv (32 * count) 4096 * 4096 + i) := by
  obtain ⟨b, opened, e⟩ := requestArrives_opened asked good some_
  rw [e, ← firstWork]
  intro x place first count source
  have gather : reqKind (openStep s n r).request = 2 := kind
  have own : ownIndex b n = ownIndex s n := opened.net.dget _ 3
  have members : b.red n 2 = s.red n 2 := opened.net.dget _ 2
  have ctx : stepCtx b n (openStep s n r) = x := by
    rw [stepCtx, opened.net.tenantContext, State.red, opened.net.dget]
    rfl
  have range : shardRange b n (openStep s n r) (ownIndex b n) = rangeFrom first count := by
    rw [shardRange, members, own]
    rfl
  have length : (rangeFrom first count).length = count := by simp [rangeFrom]
  have indices := openingItems_index (b := b) (n := n) gather
  have items := openingItems_gather (b := b) (n := n) gather
  rw [range, length, ctx, own, members] at items
  rw [range] at indices
  obtain ⟨y, g, held, request, same, gathered⟩ := pump_gathered (k := 63) opened.step gather (openingItems_oneUnit gather rfl)
    fun m inside => openingItems_phase gather inside
  have worked := pump_worked n 64 b (openingItems b n (openStep s n r))
  rw [ctx, opened.net.mem] at gathered
  have top := shard_le (blocks := reqBlocks r) member
  have low : ∀ m ∈ openingItems b n (openStep s n r), m.index < stepBlocks (openStep s n r) := fun m inside => by
    have at_ : m.index ∈ rangeFrom first count := indices ▸ List.mem_map_of_mem inside
    exact (mem_rangeFrom.1 at_).2.trans_le top
  have total : y.gathered.length = count := by
    have rising := gathered.rising List.Pairwise.nil
    have both : (rangeFrom first count).length = g.length :=
      SameIndices.length ⟨fun i => by rw [gathered.mem_gathered i, indices]; simp [openStep], fun _ => by
        rw [← range]; exact shardRange_rising ..⟩ rising
    rw [same.length rising, ← both, length]
  have complete : stepComplete (pump n 64 b (openingItems b n (openStep s n r))) n y = (count == reqBlocks r) := by
    unfold stepComplete
    dsimp only
    rw [if_pos (by rw [request]; exact gather), total, stepBlocks, request]
    rfl
  have idle := worked.waiting.trans opened.waiting
  have mem : (firstWork b n (openingItems b n (openStep s n r))).mem = (pump n 64 b (openingItems b n (openStep s n r))).mem := by
    cases done : stepComplete (pump n 64 b (openingItems b n (openStep s n r))) n y with
    | false => exact (firstWork_going held done).mem
    | true =>
      obtain ⟨v, -, -, -, mem⟩ := firstWork_ended held done idle
      exact mem
  refine ⟨fun a outside => by rw [mem]; exact gathered.outside low a outside, fun more => ?_, fun whole => ?_, fun i inside => ?_⟩
  · have sent := firstWork_going held (complete.trans (beq_eq_false_iff_ne.2 more.ne))
    exact ⟨y, sent.step.trans held, request⟩
  · obtain ⟨v, -, summary, ended, -⟩ := firstWork_ended held (complete.trans (beq_iff_eq.2 whole)) idle
    have value := summary (by rw [request]; exact gather)
    rw [request, worked.emptySummary, opened.net.emptySummary] at value
    obtain ⟨step, last, summaries⟩ := ended
    rw [request] at last
    exact ⟨step, last, by rw [summaries, worked.summaries, opened.summaries, value]; rfl⟩
  · have found : toRole (openStep s n r) 7 (ownIndex s n) (ownIndex s n) (first + i) (readShard b source count i) 0 ∈
        openingItems b n (openStep s n r) := by
      rw [items]
      exact List.mem_map.2 ⟨first + i, mem_rangeFrom.2 (by omega), by
        rw [show first + i - shardFirst (stepBlocks (openStep s n r)) (s.red n 2) (ownIndex s n) = i from Nat.add_sub_cancel_left ..]; rfl⟩
    have fresh : (first + i) ∉ (openStep s n r).gathered := List.not_mem_nil
    have elements := gathered.elements _ found fresh (low _ found)
    have scale := gathered.scales low _ found fresh
    rw [mem]
    refine ⟨elements.trans ((readShard_elems ..).trans ?_), scale.trans ((readShard_scale ..).trans ?_)⟩
    · rw [opened.net.mem]
    · rw [opened.net.mem]

end

end Sys2Proof.Machine

end

section
/-! PROOF. The step of a `REDUCE` in a set of one member, whose result is its leaves (R391, R392, R396, R398, R401). -/

namespace Sys2Proof.Machine
open Sys2Proof

/-! ## The shape of a set of one member (R401) -/

namespace Shape

variable {x : Shape} (one : x.count = 1)
include one

theorem outputs_single (k sh : Nat) : x.outputs k sh = [(none, 2)] := if_pos one
theorem value_single (f : Format) (k sh stage : Nat) (leaf : MxValue) (piece : Nat → Option MxBlock) :
    x.value f k sh stage leaf piece = some leaf := if_pos one
theorem children_single (k sh : Nat) : x.children k sh = [] := if_pos one

end Shape

/-! ## Leaves (R398) -/

/-- A leaf is made of the tenant's buffers in memory. -/
theorem leafOf_congr {s t : State} {n : Nat} {st y : RedStep} (ctx : stepCtx t n y = stepCtx s n st) (mem : t.mem = s.mem)
    (poison : t.poison = s.poison) (request : y.request = st.request) (b : Nat) : leafOf t n y b = leafOf s n st b := by
  simp only [leafOf, agreedScale, readTagged, poisoned, ctx, mem, poison, request]

theorem bumpScale_le (f : Format) (vs : List FpVal) (k : Nat) {e : Nat} (low : e ≤ 0xFE) : bumpScale f vs k e ≤ 0xFE := by
  induction k generalizing e with
  | zero => exact low
  | succ k ih =>
    rw [bumpScale]
    split
    next more =>
      have below : e < 0xFE := by simpa using (Bool.and_eq_true_iff.1 more).1
      exact ih below
    · exact low

/-- No leaf has the scale of a NaN block. -/
theorem leafOf_scale (s : State) (n : Nat) (st : RedStep) (b : Nat) : (leafOf s n st b).1.scale ≤ 0xFE :=
  bumpScale_le _ _ _ (Nat.min_le_right _ _)

/-! ## Values that are made -/

section
variable {n : Nat} {a : State × List RedMsg} {x : RedStep} (held : (a.1.redSet n).step = some x)
include held

/-- A value is made once. -/
theorem makeValue_used {r sh b : Nat} {out : Option Nat × Nat} (used : itemKey out.2 r b ∈ x.used) : makeValue n r sh b out a = a := by
  unfold makeValue
  rw [held]
  exact if_pos (by simpa using used)

/-- The only value of a block in a set of one member is its leaf, and final. -/
theorem makeValue_single (single : a.1.red n 2 = 1) {b : Nat} (new : itemKey 2 0 b ∉ x.used) : makeValue n 0 0 b (none, 2) a =
    (setStep (a.1.arith 0x440 (.of (leafOf a.1 n x b).2)) n { x with
      used := sinsert x.used (itemKey 2 0 b), finals := kset x.finals (itemKey 0 0 b) (leafOf a.1 n x b).1 }, a.2) := by
  unfold makeValue
  rw [held]
  dsimp only
  rw [if_neg (by simpa using new), Shape.value_single (show (shapeOf a.1 n).count = 1 from single)]

/-- A shard is finished once. -/
theorem finishRole_done {r : Nat} (done : r ∈ x.done) : finishRole n r a = a := by
  unfold finishRole
  rw [held]
  exact if_pos (by simp [done])

/-- The member's own shard, all of whose blocks are final, where no next scales are asked for. -/
theorem finishRole_own {own : Nat} (mine : ownIndex a.1 n = own) (new : own ∉ x.done) (update : reqUpdate x.request = false)
    {g : Nat → MxBlock} (all : ∀ b ∈ shardRange a.1 n x own, kfind x.finals (itemKey 0 own b) = some (g b)) :
    ∃ v, finishRole n own a = ((writeResult (setStep a.1 n { x with done := sinsert x.done own }) (mxFormat (reqFormat x.request))
      (slotAddress a.1 n x own) ((shardRange a.1 n x own).map g)).setRed n fun y => { y with outbox := y.outbox ++ [] },
      a.2 ++ [toRole x 3 own own own noBlock v]) := by
  have finals : ((shardRange a.1 n x own).map fun b => kfind x.finals (itemKey 0 own b)) = (shardRange a.1 n x own).map fun b => some (g b) :=
    List.map_congr_left all
  have blocks : ((shardRange a.1 n x own).map fun b => some (g b)).filterMap id = (shardRange a.1 n x own).map g := by
    rw [List.filterMap_map]
    exact congrFun List.filterMap_eq_map' _
  unfold finishRole
  rw [held]
  dsimp only
  rw [finals, if_neg (by simp [new]), blocks, update, if_pos mine.symm]
  exact ⟨_, rfl⟩

end

/-- What one role makes where one member reduces alone. -/
theorem produce_single {s : State} {n : Nat} {x : RedStep} (held : (s.redSet n).step = some x) (kind : reqKind x.request = 1)
    (single : s.red n 2 = 1) (roles : ownRoles s n x = [0]) :
    produce s n = finishRole n 0 ((shardRange s n x 0).foldl (fun a b => makeValue n 0 0 b (none, 2) a) (s, [])) := by
  unfold produce
  rw [held]
  dsimp only
  rw [if_neg (by simp [kind]), roles, single]
  simp only [List.range_succ, List.range_zero, List.nil_append, List.foldl_cons, List.foldl_nil,
    Shape.outputs_single (show (shapeOf s n).count = 1 from single)]

/-! ## The leaves of a set of one member -/

/-- The values made so far are the leaves of their blocks. -/
structure LeavesMade (n : Nat) (s t : State) (st y : RedStep) : Prop extends SetPut n s t y where
  mem : t.mem = s.mem
  poison : t.poison = s.poison
  request : y.request = st.request
  tenant : y.tenant = st.tenant
  stopped : y.stopped = st.stopped
  taken : y.taken = st.taken
  records : y.records = st.records
  done : y.done = st.done
  leaves : ∀ b, itemKey 2 0 b ∈ y.used → kfind y.finals (itemKey 0 0 b) = some (leafOf s n st b).1

section
variable {n : Nat} {s : State} {st y : RedStep} {a : State × List RedMsg}

theorem LeavesMade.make (made : LeavesMade n s a.1 st y) (single : s.red n 2 = 1) (b : Nat) :
    ∃ z, LeavesMade n s (makeValue n 0 0 b (none, 2) a).1 st z ∧ (makeValue n 0 0 b (none, 2) a).2 = a.2 ∧ itemKey 2 0 b ∈ z.used ∧
      ∀ k ∈ y.used, k ∈ z.used := by
  by_cases used : itemKey 2 0 b ∈ y.used
  · rw [makeValue_used (sh := 0) (out := (none, 2)) made.step used]
    exact ⟨y, made, rfl, used, fun _ => id⟩
  · have leaf := leafOf_congr (t := a.1) (y := y) (st := st) (by rw [made.stepCtx, stepCtx, made.tenant, stepCtx]) made.mem made.poison
      made.request b
    rw [makeValue_single made.step ((made.set 2 (by decide)).trans single) used, leaf]
    obtain ⟨only, -⟩ := arith_engine a.1 (.of (leafOf s n st b).2)
    have quiet := arith_quiet n a.1 (.of (leafOf s n st b).2)
    generalize a.1.arith 0x440 (.of (leafOf s n st b).2) = t at only quiet ⊢
    have put := SetPut.setStep t n { y with
      used := sinsert y.used (itemKey 2 0 b), finals := kset y.finals (itemKey 0 0 b) (leafOf s n st b).1 }
    refine ⟨_, ⟨⟨(made.toSetFrame.trans quiet.toSetFrame).trans put.toSetFrame, put.step⟩, only.mem.trans made.mem,
      only.poison.trans made.poison, made.request, made.tenant, made.stopped, made.taken, made.records, made.done, fun i inside => ?_⟩, rfl,
      mem_sinsert.2 (.inl rfl), fun k old => mem_sinsert.2 (.inr old)⟩
    · dsimp only at inside ⊢
      rw [kfind_kset]
      split
      next same => rw [ItemTaken.itemKey_index_inj same]
      next apart =>
        refine made.leaves i ((mem_sinsert.1 inside).resolve_left fun same => apart ?_)
        rw [ItemTaken.itemKey_index_inj same]

theorem LeavesMade.makeAll (made : LeavesMade n s a.1 st y) (single : s.red n 2 = 1) (bs : List Nat) :
    ∃ z, LeavesMade n s (bs.foldl (fun a b => makeValue n 0 0 b (none, 2) a) a).1 st z ∧
      (bs.foldl (fun a b => makeValue n 0 0 b (none, 2) a) a).2 = a.2 ∧ (∀ b ∈ bs, itemKey 2 0 b ∈ z.used) ∧ ∀ k ∈ y.used, k ∈ z.used := by
  induction bs generalizing a y with
  | nil => exact ⟨y, made, rfl, nofun, fun _ => id⟩
  | cons b bs ih =>
    obtain ⟨z, made', msgs, new, old⟩ := made.make single b
    obtain ⟨w, made'', msgs', all, older⟩ := ih made'
    exact ⟨w, made'', msgs'.trans msgs, List.forall_mem_cons.2 ⟨older _ new, all⟩, fun k inside => older k (old k inside)⟩

end

theorem slotAddress_own (s : State) (n : Nat) (st : RedStep) :
    slotAddress s n st (ownIndex s n) = redAddress (stepCtx s n st) (reqResult st.request) 0 := by
  simp [slotAddress]

theorem makeValue_usedAll {n : Nat} {a : State × List RedMsg} {x : RedStep} (held : (a.1.redSet n).step = some x) {bs : List Nat}
    (used : ∀ b ∈ bs, itemKey 2 0 b ∈ x.used) : bs.foldl (fun a b => makeValue n 0 0 b (none, 2) a) a = a :=
  List.foldlRecOn (motive := fun c => c = a) bs _ rfl fun c now b inside => by
    subst now
    exact makeValue_used held (used b inside)

/-! ## The whole step of one member -/

/-- Nothing is passed on to other members where there are none. -/
theorem passOn_single {s : State} {n : Nat} (single : s.red n 2 = 1) (st : RedStep) (m : RedMsg) (origin : Nat) :
    (passOn s n st m origin).2 = [] := by
  unfold passOn
  dsimp only
  split
  · rfl
  · rw [Shape.children_single (show (shapeOf s n).count = 1 from single)]
    rfl

/-- A finished step of one member before it takes its own record: its leaves stand in the result. -/
structure LeavesWritten (n : Nat) (s t : State) (st y : RedStep) : Prop extends SetPut n s t y where
  request : y.request = st.request
  own : OwnOnly 0 y
  records : y.records = []
  done : y.done = [0]
  used : ∀ b ∈ shardRange s n st 0, itemKey 2 0 b ∈ y.used
  mem : ∃ q : State, q.mem = s.mem ∧ t.mem = (writeShard q (redAddress (stepCtx s n st) (reqResult st.request) 0)
    ((shardRange s n st 0).map fun b => (leafOf s n st b).1)).mem

section
variable {n : Nat} {s : State} {st : RedStep} (single : s.red n 2 = 1) (first : ownIndex s n = 0) (kind : reqKind st.request = 1)
include single first kind

/-- The first round makes every leaf, and writes the shard. -/
theorem produce_leaves (held : (s.redSet n).step = some st) (own : OwnOnly 0 st) (records : st.records = []) (done : st.done = [])
    (used : st.used = []) (update : reqUpdate st.request = false) :
    ∃ y v, LeavesWritten n s (produce s n).1 st y ∧ (produce s n).2 = [toRole y 3 0 0 0 noBlock v] := by
  have start : LeavesMade n s (s, ([] : List RedMsg)).1 st st :=
    ⟨.refl held, rfl, rfl, rfl, rfl, rfl, rfl, rfl, rfl, fun b inside => by rw [used] at inside; cases inside⟩
  obtain ⟨x, made, msgs, all, -⟩ := start.makeAll single (shardRange s n st 0)
  rw [produce_single held kind single (by rw [OwnOnly.ownRoles (s := s) (n := n) (first ▸ own), first])]
  generalize (shardRange s n st 0).foldl (fun a b => makeValue n 0 0 b (none, 2) a) (s, []) = a at made msgs ⊢
  have range : shardRange a.1 n x 0 = shardRange s n st 0 := by
    rw [made.shardRange, shardRange, stepBlocks, made.request]
    rfl
  have mine : ownIndex a.1 n = 0 := made.ownIndex.trans first
  have place : slotAddress a.1 n x 0 = redAddress (stepCtx s n st) (reqResult st.request) 0 := by
    have at_ := slotAddress_own a.1 n x
    rw [mine, made.stepCtx, stepCtx, made.tenant, made.request] at at_
    exact at_
  obtain ⟨v, e⟩ := finishRole_own made.step mine (by rw [made.done, done]; exact List.not_mem_nil) (by rw [made.request]; exact update)
    (g := fun b => (leafOf s n st b).1) fun b inside => made.leaves b (all b (range ▸ inside))
  rw [e, msgs, range, place]
  have put := SetPut.setStep a.1 n { x with done := sinsert x.done 0 }
  have same : (setStep a.1 n { x with done := sinsert x.done 0 }).mem = s.mem := made.mem
  generalize setStep a.1 n { x with done := sinsert x.done 0 } = q at put same ⊢
  have wrote := writeResult_quiet n q (mxFormat (reqFormat x.request)) (redAddress (stepCtx s n st) (reqResult st.request) 0)
    ((shardRange s n st 0).map fun b => (leafOf s n st b).1)
  have mem := writeResult_mem q (mxFormat (reqFormat x.request)) (redAddress (stepCtx s n st) (reqResult st.request) 0)
    ((shardRange s n st 0).map fun b => (leafOf s n st b).1)
  generalize writeResult q (mxFormat (reqFormat x.request)) (redAddress (stepCtx s n st) (reqResult st.request) 0)
    ((shardRange s n st 0).map fun b => (leafOf s n st b).1) = w at wrote mem ⊢
  have left := SetSent.setOutbox w n (· ++ [])
  refine ⟨{ x with done := sinsert x.done 0 }, v, ⟨?_, made.request, ⟨made.stopped.trans own.stopped, made.taken.trans own.taken,
    .inl (made.records.trans records)⟩, made.records.trans records, ?_, all, q, same, left.mem.trans mem⟩, rfl⟩
  · exact ⟨made.toSetFrame.trans ((put.quiet wrote).quiet left.toSetQuiet).toSetFrame, ((put.quiet wrote).quiet left.toSetQuiet).step⟩
  · show sinsert x.done 0 = [0]
    rw [made.done, done]
    rfl

/-- The second one takes the member's own record, and the step is complete. -/
theorem pump_single (k : Nat) (held : (s.redSet n).step = some st) (own : OwnOnly 0 st) (records : st.records = []) (done : st.done = [])
    (used : st.used = []) (update : reqUpdate st.request = false) :
    ∃ y, ((pump n (k + 2) s []).redSet n).step = some y ∧ y.request = st.request ∧ stepComplete (pump n (k + 2) s []) n y = true ∧
      ∃ q : State, q.mem = s.mem ∧ (pump n (k + 2) s []).mem = (writeShard q (redAddress (stepCtx s n st) (reqResult st.request) 0)
        ((shardRange s n st 0).map fun b => (leafOf s n st b).1)).mem := by
  obtain ⟨y, v, made, msgs⟩ := produce_leaves single first kind held own records done used update
  have one := (made.set 2 (by decide)).trans single
  have mine : ownIndex (produce s n).1 n = 0 := made.ownIndex.trans first
  have again : pump n (k + 2) s [] = pump n (k + 1) (produce s n).1 [toRole y 3 0 0 0 noBlock v] := by
    rw [pump, show routeAll s n [] = (s, []) from rfl]
    dsimp only
    rw [msgs]
    rfl
  rw [again]
  generalize (produce s n).1 = t at made one mine ⊢
  have toOwn : (toRole y 3 0 0 0 noBlock v).member = ownIndex t n := by
    show kget 0 y.taken 0 = _
    rw [made.own.taken, mine]
    rfl
  have routed : routeAll t n [toRole y 3 0 0 0 noBlock v] = acceptItem t n (toRole y 3 0 0 0 noBlock v) := by
    rw [routeAll_own (by simpa using toOwn)]
    rfl
  have taken := acceptItem_record (s := t) (m := toRole y 3 0 0 0 noBlock v) made.step rfl
  dsimp only at taken
  rw [passOn_single one, passOn_step, made.records] at taken
  generalize (passOn t n _ (toRole y 3 0 0 0 noBlock v) _).1.passed = passed at taken
  obtain ⟨z, ez⟩ : ∃ z : RedStep, z = { y with records := [(0, v)], passed := passed } := ⟨_, rfl⟩
  have record : acceptItem t n (toRole y 3 0 0 0 noBlock v) = (setStep t n z, []) := by
    rw [taken, ez]
    rfl
  have put := SetPut.setStep t n z
  have roles : ownRoles (setStep t n z) n z = [0] := by
    rw [put.ownRoles, OwnOnly.ownRoles (s := t) (n := n) (y := z), mine]
    rw [mine, ez]
    exact ⟨made.own.stopped, made.own.taken, .inr ⟨v, rfl⟩⟩
  have request : z.request = st.request := by rw [ez]; exact made.request
  have finished : z.done = [0] := by rw [ez]; exact made.done
  have range : shardRange (setStep t n z) n z 0 = shardRange s n st 0 := by
    rw [put.shardRange, made.shardRange, shardRange, stepBlocks, request]
    rfl
  have still : produce (setStep t n z) n = (setStep t n z, []) := by
    rw [produce_single put.step (by rw [request]; exact kind) ((put.set 2 (by decide)).trans one) roles,
      makeValue_usedAll put.step fun b inside => ?_, finishRole_done put.step (by rw [finished]; exact List.mem_singleton_self 0)]
    rw [ez]
    exact made.used b (range ▸ inside)
  have last : pump n (k + 1) t [toRole y 3 0 0 0 noBlock v] = setStep t n z := by
    rw [pump, routed, record]
    dsimp only
    rw [still]
    rfl
  rw [last]
  refine ⟨z, put.step, request, ?_, made.mem⟩
  unfold stepComplete
  dsimp only
  rw [if_neg (by rw [request, kind]; decide), roles, finished, put.ownIndex, mine, put.set 2 (by decide), one, request, update,
    show z.records = [(0, v)] by rw [ez]]
  rfl

end

section
variable {s : State} {n f r : Nat} (asked : Requested s n f r)
include asked

/-- A `REDUCE` in a set of one member ends at once: its result is the member's leaves (R391, R392, R396, R398). -/
theorem requestArrives_alone (good : requestOk s n r (tenantContext s (s.red n 4) (requestTenant s n)) = true) (some_ : reqElements r ≠ 0)
    (kind : reqKind r = 1) (single : s.red n 2 = 1) (first : ownIndex s n = 0) (update : reqUpdate r = false) :
    let place := redAddress (tenantContext s (s.red n 4) (requestTenant s n)) (reqResult r) 0
    ∃ v, Concluded s (requestArrives s f r) n r v ∧ sumStatus v = 0 ∧
      MemoryKeptBut s (requestArrives s f r) place (shardBytes (reqBlocks r)) ∧
      ∀ st : RedStep, st.request = r → st.tenant = requestTenant s n → ∀ b, b < reqBlocks r →
        memRead (requestArrives s f r).mem (place + 32 * b) 32 = leBytes 32 (leafOf s n st b).1.elems ∧
        (memByte (requestArrives s f r).mem (place + ceilDiv (32 * reqBlocks r) 4096 * 4096 + b)).toNat = (leafOf s n st b).1.scale := by
  obtain ⟨b, opened, e⟩ := requestArrives_opened asked good some_
  rw [e, ← firstWork, openingItems_reduce b n kind]
  intro place
  have cell (sub : Nat) : b.red n sub = s.red n sub := opened.net.dget _ sub
  have at_ : redAddress (stepCtx b n (openStep s n r)) (reqResult (openStep s n r).request) 0 = place := by
    rw [stepCtx, opened.net.tenantContext, cell]
    rfl
  have range : shardRange b n (openStep s n r) 0 = List.range (reqBlocks r) := by
    rw [shardRange, cell, single]
    simp [shardFirst, shardCount, rangeFrom, stepBlocks, openStep]
  obtain ⟨y, held, request, complete, q, same, mem⟩ := pump_single ((cell 2).trans single) ((cell 3).trans first) kind 62 opened.step
    ⟨rfl, rfl, .inl rfl⟩ rfl rfl rfl update
  rw [at_, range] at mem
  have length : ((List.range (reqBlocks r)).map fun i => (leafOf b n (openStep s n r) i).1).length = reqBlocks r := by simp
  have worked := pump_worked n 64 b []
  obtain ⟨v, status, -, ended, mem'⟩ := firstWork_ended held complete (worked.waiting.trans opened.waiting)
  rw [mem] at mem'
  obtain ⟨step, last, summaries⟩ := ended
  rw [request] at last
  refine ⟨v, ⟨step, last, by rw [summaries, worked.summaries, opened.summaries]⟩, status, fun a outside => ?_, fun st req tenant i inside => ?_⟩
  · have kept := writeShard_outside q place ((List.range (reqBlocks r)).map fun i => (leafOf b n (openStep s n r) i).1)
    rw [length] at kept
    rw [mem', kept a outside, same, opened.net.mem]
  · have only : leafOf b n (openStep s n r) i = leafOf s n st i := by
      refine leafOf_congr ?_ opened.net.mem opened.net.poison req.symm i
      rw [stepCtx, opened.net.tenantContext, cell, stepCtx, tenant]
      rfl
    have elements := writeShard_elements q place _ (length.symm ▸ inside)
    have scale := writeShard_scales q place _ (length.symm ▸ inside)
    simp only [List.length_map, List.length_range, List.getElem_map, List.getElem_range, only] at elements scale
    rw [mem', elements, scale, BitVec.toNat_ofNat]
    exact ⟨rfl, Nat.mod_eq_of_lt (lt_of_le_of_lt (leafOf_scale ..) (by decide))⟩

end

end Sys2Proof.Machine

end

section
/-! PROOF. The steps of a reduction set: what a request begins, what a unit brings, and how a step is missed, aborted or handed on
(R391 to R394, R396, R403 to R409, R414). -/

namespace Sys2Proof.Machine
open Sys2Proof

/-! ## Units of the step in progress -/

section
variable {s : State} {n : Nat} {u : EngineUnit} {st : RedStep} (held : (s.redSet n).step = some st)
  (idle : (s.redSet n).waiting = []) (from_ : setOfRecv s u.flow = some n) (good : unitValid u = true)
include held idle from_ good

/-- A unit of a later step ends this one with status 3, and memory stands (R408). -/
theorem exec_item_later {e : Nat × Instr} (inside : e ∈ itemCommands u) (phase : unitPhase u = e.1)
    (later : unitAfter (unitStep u) (reqStep st.request) = true) : ∃ t, exec e.2 s = .next t ∧ t.mem = s.mem ∧
      Concluded s t n st.request (emptySummary s n st.request 3 false 0) ∧ bit (t.dget 0x5090 1) 5 = true := by
  refine ⟨_, by rw [exec_itemCommand inside, ← phase, stepUnit_later from_ good held later], ?_⟩
  obtain ⟨concluded, flag, mem⟩ := missStep_settled held idle
  exact ⟨mem, concluded, flag⟩

variable (step : unitStep u = reqStep st.request)
include step

/-- One whose step fields differ aborts the step (R404). -/
theorem exec_item_differs (near : n < 8) {e : Nat × Instr} (inside : e ∈ itemCommands u) (phase : unitPhase u = e.1)
    (differs : sameStep st.request u = false) (policy : s.red n 0xA = 0) : ∃ t, exec e.2 s = .next t ∧
      Concluded s t n st.request (emptySummary s n st.request 1 false 0) ∧ bit (t.dget 0x5090 1) 4 = true ∧
      t.dget 0x5090 6 = countUp (entryBytes 0x5090 6) (s.dget 0x5090 6) 1 := by
  refine ⟨_, by
    rw [exec_itemCommand inside, ← phase, stepUnit_differs from_ good held step (by rw [phase]; exact itemCommand_phase inside) differs], ?_⟩
  obtain ⟨noted, count, -⟩ := requestInvalid_noted s n (unitStep u) (unitSender u)
  generalize requestInvalid s n (unitStep u) (unitSender u) = q at noted count ⊢
  have only := noted.setOnly n
  have sets := noted.only.redSet n
  obtain ⟨aborted, -⟩ := abortStep_settled near (sets ▸ held) (sets ▸ idle) ((only.set 0xA (by decide)).trans policy) (unitSender u) 0
  exact rejected_aborted noted count aborted

/-- The items of a unit are taken (R404, R407, R408, R410, R411, R413, R414). -/
theorem exec_item_taken (free : ∀ c, c < 4 → (s.cairnOf c).copying = none) {e : Nat × Instr} (inside : e ∈ itemCommands u)
    (phase : unitPhase u = e.1) (same : sameStep st.request u = true) : ∃ t, exec e.2 s = .next t ∧
      ((∃ v, Concluded s t n st.request v ∧ sumStatus v = 0) ∨ ∃ y, (t.redSet n).step = some y ∧ y.request = st.request ∧
        ∀ m ∈ unitMsgs n (ownIndex s n) u, ItemHeld (ownIndex s n) st y m) ∧
      (unitPhase u = 7 → reqKind st.request = 2 → ∀ m ∈ unitMsgs n (ownIndex s n) u, m.index ∉ st.gathered → m.index < stepBlocks st →
        memRead t.mem (redAddress (stepCtx s n st) (reqResult st.request) 0 + 32 * m.index) 32 = leBytes 32 m.item.elems) :=
  ⟨_, by rw [exec_itemCommand inside, ← phase, stepUnit_taken from_ good held step (.inr same)], takeItems_settled held idle free⟩

/-- A takeover notice moves a role to its backup (R406, R407). -/
theorem exec_takeover (phase : unitPhase u = 5) (same : sameStep st.request u = true) (fresh : kfind st.taken (unitRole u) = none)
    (backup : (memberOf s n (unitRole u)).backup < s.red n 2) : ∃ t, exec (.takeoverNotice u) s = .next t ∧
      bit (t.dget 0x5090 1) 2 = true ∧ t.dget 0x5090 3 = countUp (entryBytes 0x5090 3) (s.dget 0x5090 3) 1 ∧
      (memberOf t n (unitRole u)).lastRole = 1 ∧ ((t.redSet n).step = none ∨ ∃ y, (t.redSet n).step = some y ∧
        kfind y.taken (unitRole u) = some (memberOf s n (unitRole u)).backup ∧ (unitRole u = ownIndex s n → y.stopped = true)) := by
  refine ⟨_, by rw [exec_takeoverNotice, ← phase, stepUnit_taken from_ good held step (.inr same)], ?_⟩
  obtain ⟨handed, ended⟩ := takeNotice_settled held idle fresh backup
  exact ⟨handed.flag, handed.count, handed.lastRole, ended⟩

/-- An abort notice aborts the step, and slot 0 of a `REDUCE` reads zeros (R409). -/
theorem exec_abort (near : n < 8) (free : ∀ c, c < 4 → (s.cairnOf c).copying = none) (phase : unitPhase u = 6) (policy : s.red n 0xA = 0) :
    ∃ t, exec (.abortNotice u) s = .next t ∧ Concluded s t n st.request (emptySummary s n st.request 1 false 0) ∧
      bit (t.dget 0x5090 1) 1 = true ∧ t.dget 0x5090 2 = countUp (entryBytes 0x5090 2) (s.dget 0x5090 2) 1 ∧
      (reqKind st.request = 1 → ∀ i, i < 32 * shardCount (stepBlocks st) (s.red n 2) (ownIndex s n) →
        memByte t.mem (redAddress (stepCtx s n st) (reqResult st.request) 0 + i) = 0) := by
  refine ⟨_, by rw [exec_abortNotice, ← phase, stepUnit_taken from_ good held step (.inl phase)], ?_⟩
  have granted := unitGranted_only n s u
  have sets := unitGranted_redSet s u n
  have still : ∀ c, c < 4 → ((unitGranted s u).cairnOf c).copying = none := fun c low => by rw [unitGranted_cairnOf, free c low]
  have cell : (unitGranted s u).dget 0x5090 2 = s.dget 0x5090 2 := State.setFlow_dget ..
  generalize unitGranted s u = g at granted sets still cell ⊢
  obtain ⟨aborted, mem⟩ := abortStep_settled near (sets ▸ held) (sets ▸ idle) ((granted.set 0xA (by decide)).trans policy) (unitSender u) 0
  have concluded := Concluded.of_only aborted.concluded granted
  rw [granted.emptySummary] at concluded
  refine ⟨concluded, aborted.flags.1, by rw [aborted.count, cell], fun kind i inside => ?_⟩
  rw [mem, ← granted.stepCtx]
  exact stopZeroed_zeroes still n kind (by rw [granted.set 2 (by decide), granted.ownIndex]; exact inside)

omit idle in
/-- Under the fault policy it puts the module in FAULTED (R409, R567). -/
theorem exec_abort_faults (near : n < 8) (phase : unitPhase u = 6) (policy : s.red n 0xA ≠ 0) (up : s.power.state ≠ .faulted) :
    ∃ t, exec (.abortNotice u) s = .next t ∧ t.power.state = .faulted ∧ t.dget 0x5000 1 = 8 := by
  refine ⟨_, by rw [exec_abortNotice, ← phase, stepUnit_taken from_ good held step (.inl phase)], ?_⟩
  have granted := unitGranted_only n s u
  have sets := unitGranted_redSet s u n
  generalize unitGranted s u = g at granted sets ⊢
  exact abortStep_faults near (sets ▸ held) (by rw [granted.set 0xA (by decide)]; exact policy) (by rw [granted.power]; exact up) (unitSender u) 0

end

/-! ## Requests -/

/-- A request of another set, flow or context (R394). -/
theorem exec_request_mismatch {s : State} {n f r : Nat} (up : s.squareUp = true) (small : r < 2 ^ 512) (set : reqSet r = n)
    (bad : s.red n 0xD ≠ 2 ∨ s.red n 8 ≠ f ∨ s.red n 4 ≠ (s.flow f).ctx) :
    ∃ t, exec (if reqKind r = 2 then .gather f r else .reduce f r) s = .next t ∧ RecordOnly s t ∧ bit (t.dget 0x5090 1) 4 = true ∧
      t.dget 0x5090 6 = countUp (entryBytes 0x5090 6) (s.dget 0x5090 6) 1 := by
  refine ⟨_, by rw [exec_request s f small, requestArrives_mismatch up set bad], ?_⟩
  obtain ⟨noted, count, -⟩ := requestInvalid_noted s n (reqStep r) 0x7FF
  exact ⟨noted.only, noted.flag, count⟩

end Sys2Proof.Machine

open Sys2Proof Sys2Proof.Machine

/-- Settles O52: a request's first work by what each round of values and items keeps, a unit's by the items it brings, and the ends of a
step by what each of them leaves of its set. -/
theorem reductionSteps : Obligations.ReductionSteps := by
  unfold Obligations.ReductionSteps
  intro s n f r k granted u x request place scalesAt
  refine ⟨exec_request_mismatch, fun asked => ?_, ?_⟩
  · have small : r < 2 ^ 512 := by
      obtain ⟨-, -, -, -, -, -, -, -, -, small, -⟩ := asked
      exact small
    have arrives := exec_request s f small
    refine ⟨fun bad policy => ⟨_, arrives, requestArrives_rejected asked bad policy⟩,
      fun bad policy => ⟨_, arrives, requestArrives_faults asked bad policy⟩,
      fun good none => ⟨_, arrives, requestArrives_empty asked good none⟩,
      fun good some_ kind many _ => ?_, fun good some_ kind single first update => ?_,
      fun good some_ kind member => ⟨_, arrives, requestArrives_gathers asked good some_ kind member⟩⟩
    · obtain ⟨y, facts⟩ := requestArrives_waits asked good some_ kind many
      exact ⟨_, y, arrives, facts⟩
    · obtain ⟨v, facts⟩ := requestArrives_alone asked good some_ kind single first update
      exact ⟨_, v, arrives, facts⟩
  · intro st near held idle free up live own commands
    refine ⟨fun from_ bad e inside => exec_unit_invalid from_ bad inside, fun from_ good e inside phase => ⟨?_, ?_, ?_⟩,
      fun from_ good step => ⟨?_, ?_, ?_⟩, reductionDeadline_early held, fun due now silent other waits => ⟨fun backup => ?_, ?_⟩⟩
    · exact exec_item_later held idle from_ good inside phase
    · exact fun step differs policy => exec_item_differs held idle from_ good step near inside phase differs policy
    · exact fun step same => exec_item_taken held idle from_ good step free inside phase same
    · exact exec_takeover held idle from_ good step
    · exact fun phase policy => exec_abort held idle from_ good step near free phase policy
    · exact fun phase policy => exec_abort_faults held from_ good step near phase policy live
    · obtain ⟨t, run, handed, ended⟩ := reductionDeadline_own held due now silent other waits idle backup
      exact ⟨t, run, handed.flag, handed.count, handed.lastRole, ended⟩
    · exact fun notOwn notGranted policy => reductionDeadline_vacant held due now silent other waits idle near policy notOwn notGranted

end
